-- ==== Sys2Proof/Word.lean ====
section
/-! DEFINITION. The word types of the part and their plainest arithmetic (R8, R9, R367). -/

namespace Sys2Proof

/-- A register word: the native unit of the register space (R368). -/
abbrev Word := BitVec 32

/-- One byte of the fold window, of the locked fold, of the NVM or of a bus. -/
abbrev Byte := BitVec 8

/-- A sparse map: entries sorted by strictly rising key; an unlisted key reads as the map's default. -/
abbrev SMap (α : Type) := List (Nat × α)

/-- The three host ports (R39): HP0 and HP1 are QSPI, HP2 is I²C. -/
inductive Port where
  | hp0 | hp1 | hp2
  deriving DecidableEq, Repr

/-- The number n of host port HPn. -/
def Port.num : Port → Nat
  | .hp0 => 0
  | .hp1 => 1
  | .hp2 => 2

/-- The port of number n, for n below 3. -/
def Port.ofNum : Nat → Option Port
  | 0 => some .hp0
  | 1 => some .hp1
  | 2 => some .hp2
  | _ => none

/-- Who issues a register access: a host port (a partition), the Trekai core or the image loader (R379). -/
inductive Agent where
  | host (p : Port)
  | core
  | loader
  deriving DecidableEq, Repr

/-- The two liquid-crystal layers. -/
inductive Layer where
  | front | rear
  deriving DecidableEq, Repr

/-- What the SECDED check of a fold word finds when the word is read (R269, R270). -/
inductive Ecc where
  | good | single | double
  deriving DecidableEq, Repr

/-- What the check finds in the fold words that a command reads (R269, R270), by fold-window address / 8; a word that is not listed
is good. -/
abbrev EccMap := List (Nat × Ecc)

/-- The one-bit word of a condition. -/
def bit (b : Bool) : Nat := if b then 1 else 0

end Sys2Proof
end

