-- ==== Sys2Proof/Syntax.lean ====
section
/-! DEFINITION. The commands of the block: one constructor per row of spec/opcode_table.json, in the table's order.
The table gives its rows no fields, so the operands here are what the rule of each row needs from outside:
who writes, which unit, the bytes received, and what a sensor, a pin or a memory check shows at that moment. -/

namespace Sys2Proof

/-- A timestamp in a PTP message: seconds and nanoseconds. -/
structure PtpTime where
  sec : Nat
  ns : Nat
  deriving DecidableEq, Repr

/-- How a PTP message arrives (R320): the VLAN tag of its frame, its domain, and whether the IPv4 and UDP checksums are right. -/
structure PtpHeader where
  vlan : Option Nat
  domain : Nat
  sums : Bool
  deriving DecidableEq, Repr

/-- An instant that a PTP message carries, and its correction field. -/
structure PtpStamp where
  time : PtpTime
  corr : Int
  deriving DecidableEq, Repr

/-- An Announce message: how it arrives, and the fields that R322 uses. -/
structure AnnounceMsg where
  head : PtpHeader
  sender : Nat
  seqId : Nat
  gmId : BitVec 64
  priority1 : Byte
  clockClass : Byte
  accuracy : Byte
  variance : Nat
  priority2 : Byte
  stepsRemoved : Nat
  utcOffset : BitVec 16
  utcValid : Bool
  ptpTimescale : Bool
  logInterval : Int
  deriving DecidableEq, Repr

/-- What the checks of a copy, or of a packet's pixels, find: words in error, and the segments that the encoder finds wrong (R288). -/
structure CopyCheck where
  ecc : EccMap
  mismatch : List Nat
  deriving DecidableEq, Repr

/-- A packet as the input link brings it (R46, R49): per logical lane the bytes of its units between the start and the end
unit-time, lane markers removed; whether the end unit-time came; whether a lane lost lock during it; and what the checks find in the
words that its concealment reads (R71, R269) and in the block slots that are whole with it (R288). -/
structure LinkRx where
  lanes : List (List Byte)
  ended : Bool
  lockLost : Bool
  check : CopyCheck := ⟨[], []⟩
  deriving DecidableEq, Repr

/-- A word that an agent writes, and whether a flag that it clears is set in the same clock cycle (R15). -/
structure RegWord where
  value : Word
  same : Bool
  deriving DecidableEq, Repr

/-- How a write transaction ends: whether it is complete, and whether a flag that it clears is set in the same clock cycle (R15). -/
structure WriteEnd where
  complete : Bool
  same : Bool
  deriving DecidableEq, Repr

/-- The fetch of a step that writes: what the memory check finds in the step list, and whether a flag that the step clears is set in
the same clock cycle (R15). -/
structure StepFetch where
  ecc : EccMap
  same : Bool
  deriving DecidableEq, Repr

/-- A comma: its position, and the symbols since the last one. -/
structure CommaAt where
  pos : Nat
  gap : Nat
  deriving DecidableEq, Repr

/-- What an eye scan of one point finds: the point, and how many bits disagree (R309). -/
structure ScanPoint where
  phase : Nat
  volt : Nat
  disagree : Nat
  deriving DecidableEq, Repr

/-- A short at a transmitter (R312): its lane, whether the current limit acts, and whether it has acted for the time of the rule. -/
structure ShortReport where
  lane : Nat
  limiting : Bool
  elapsed : Bool
  deriving DecidableEq, Repr

/-- The level that a supply input reads: below −0.5 V, below 2.90 V, or good (R437, R439). -/
inductive SupplyLevel where
  | reversed | low | good
  deriving DecidableEq, Repr

/-- A supply input and the level that it reads now. -/
structure SupplyReport where
  inputB : Bool
  level : SupplyLevel
  deriving DecidableEq, Repr

/-- A rail and whether it has been below its good threshold for the time of R442, or is above it again. -/
structure RailReport where
  rail : Nat
  low : Bool
  deriving DecidableEq, Repr

/-- Who asks in an ARP request: hardware and protocol address. -/
structure ArpSender where
  mac : BitVec 48
  ip : Word
  deriving DecidableEq, Repr

/-- An operand place that carries nothing: the number of operands of a command is fixed by the host's record of its arm, and the bytes
of a packet, or the time of the part, say what stood there. -/
abbrev Blank : Type := Unit

/-- The commands. Agents and units are operands; addresses and values are words. -/
inductive Instr where
  -- host ports and the register fabric
  | registerWrite (ag : Agent) (addr : Word) (word : RegWord)
  | devCommit (ag : Agent)
  | qspiWrite (p : Port) (how : WriteEnd) (addr : Word) (data : List Byte)
  | qspiRead (ag : Agent) (complete : Bool) (addr : Word) (n : Nat) (notReady collide : Option Nat) (ecc : EccMap)
  | qspiStatus (p : Port) (n : Nat)
  | badCmd (p : Port) (cmd : Byte)
  | i2cWrite (dev : BitVec 7) (how : WriteEnd) (addr : Word) (data : List Byte)
  | i2cRead (dev : BitVec 7) (complete : Bool) (addr : Word) (n : Nat) (notReady collide : Option Nat) (ecc : EccMap)
  | i2cStatusRead (dev : BitVec 7) (n : Nat)
  | pairRegisterLatch (p : Port) (addr : Word)
  -- Paith input link
  | pilCfgWrite (ag : Agent) (value : Word)
  | laneStatus
  | creditPeriodic
  | laneMarker (flock lane : Nat) (id seq chk : Byte) (pos : Nat) (agree : Bool)
  | laneLost (lane : Nat) (b : Blank)
  | rotDupRepeat (flock : Nat)
  | rotNoCoop (flock : Nat)
  | rotReturn (flock : Nat)
  | degradedLinkLoss
  | frameStart (rx : LinkRx) (b1 b2 b3 b4 : Blank)
  | vidLine (rx : LinkRx) (overflow : List Nat) (b1 b2 b3 b4 b5 : Blank)
  | frameEnd (rx : LinkRx)
  | failedPacket (rx : LinkRx) (b : Blank)
  | regionBegin (rx : LinkRx) (b1 b2 b3 b4 b5 : Blank)
  | regionLine (rx : LinkRx) (b1 b2 b3 b4 b5 b6 : Blank)
  | regionCommit (rx : LinkRx) (b : Blank)
  | sleep (rx : LinkRx)
  | wake (rx : LinkRx)
  | metaPacket (rx : LinkRx)
  | auxPacket (rx : LinkRx)
  | auxPop (p : Port)
  | sourceFrameComplete
  -- pixel path
  | tableShadowWrite (ag : Agent) (addr : Word) (data : List Byte)
  | fePixel (x y : Nat)
  | storeModeRead (bx bY : Nat) (ecc eccBack : EccMap)
  | zoneRowDecided (zy : Nat)
  | splitPixel (x y : Nat)
  | syncReset (ag : Agent)
  | stageA (x y plane : Nat)
  | stageB (x y plane : Nat) (ecc : EccMap)
  | pcmListWrite (ag : Agent) (addr : Word) (data : List Byte)
  | overdrive (x y plane : Nat) (ecc : EccMap) (mismatch : Bool)
  | dither (x y plane : Nat)
  | thermistorConversion (k : Nat) (code : Nat)
  -- timing generators and panel
  | tgFrameBoundary (n : Nat)
  | lineStart (n : Nat)
  | jump (n : Nat)
  | followerRestart (n : Nat)
  | tgHoldover (n : Nat)
  | generatorStop (n : Nat)
  | gateShort (l : Layer) (sig : Nat)
  | panelOn (ag : Agent) (l : Layer)
  | panelOff (ag : Agent) (l : Layer)
  | onDelayElapsed (k : Nat)
  | gateDelayElapsed (l : Layer)
  | panelEnableRelease (l : Layer) (k : Option Nat)
  -- driver link
  | lineSlot (l : Layer) (badLanes : List Nat)
  | portUp (flock : Nat) (port : Option Nat)
  | locknLost (flock : Nat)
  | statusReply (flock : Nat) (reply : Option (BitVec 40))
  | laneOff (lane : Nat)
  -- backlight engine
  | blSyncIn
  | bleSyncInLost
  | zoneStoreWrite (ag : Agent) (addr value : Word)
  | swap (ag : Agent)
  | loopTest (ag : Agent)
  | clearDead (ag : Agent)
  | driveCounterWrite (ag : Agent) (y : Nat) (value : Word)
  | transfer (chain : Nat)
  | latch (chain : Nat) (status : List (List (BitVec 24))) (loopFound : Option Nat)
  | nopTransfer (chain : Nat)
  | loopTestRepeat (chain : Nat)
  | strobeWindowOpen (row : Nat)
  | strobeWindowClose (row : Nat)
  | sensorRead (k : Nat)
  | sensorReadDone (k : Nat) (counts : Option (List Byte))
  | bleSnsCmd (ag : Agent) (value : Word)
  | bleSnsDone (nack : Bool)
  | vledEvaluation (ack : Bool)
  -- self-refresh and regions
  | srfEnter (ag : Agent)
  | srfExit (ag : Agent)
  | stall
  | regionHostCommit (ag : Agent) (slot : Nat)
  | slotCfgWrite (ag : Agent) (slot : Nat) (value : Word)
  | fillComplete
  | updateCopyComplete (found : CopyCheck)
  | echoComplete
  | rollbackComplete
  | readStart
  | srfResultPop (p : Port) (n : Nat)
  -- frame store
  | foldOwnerWrite (ag : Agent) (fold : Nat) (value : Word)
  | fstHandover (fold : Nat)
  | grazeStep (ecc : Ecc)
  | foldInitComplete (fold : Nat)
  | tampern
  -- compression engine
  | tailWrite (ag : Agent) (ring : Nat) (value : Word)
  | jobStart (ecc : EccMap)
  | jobComplete (ecc : EccMap) (verifyFails : List Nat)
  | resume (ag : Agent) (ring : Nat)
  | skip (ag : Agent) (ring : Nat)
  | cprDonePop (ag : Agent) (ring : Nat)
  -- lane system
  | pllLock (pll : Nat)
  | pllUnlock (pll : Nat)
  | cdrLock (lane : Nat)
  | signalLoss (lane : Nat)
  | commaAligned (lane : Nat) (comma : CommaAt)
  | polarityInvert (lane : Nat)
  | slip (ag : Agent) (lane : Nat)
  | adaptStep (lane : Nat) (taps : List Int) (ctle : Int)
  | eyeMonitor (lane : Nat)
  | eyeMeasurementDone (lane : Nat) (phases volts : List Bool) (residual : Nat)
  | scanGo (ag : Agent) (lane : Nat) (value : Word)
  | scanDone (lane : Nat) (point : ScanPoint)
  | outputShort (short : ShortReport)
  -- house time
  | htmNowLatch (p : Port)
  | htmStep (ag : Agent) (value : Word)
  | sync (h : PtpHeader) (sender seqId : Nat) (twoStep : Bool) (t1 : PtpTime) (corr : Int) (logInterval : Int)
  | followUp (h : PtpHeader) (sender seqId : Nat) (t1 : PtpStamp)
  | delayResp (h : PtpHeader) (sender reqPort seqId : Nat) (t4 : PtpStamp) (logMinDelayReq : Int)
  | announce (msg : AnnounceMsg)
  | delayReq (b : Blank)
  | droppedFrame
  | arpRequest (vlan : Option Nat) (target : Word) (sender : ArpSender)
  | igmpQuery
  | phyPoll (linkBit : Bool)
  | announceTimeout
  | ppsEdge (b : Blank)
  | htmPpsLost
  | ppsTodArm (ag : Agent) (value : Word)
  | mdioGo (ag : Agent) (value : Word)
  | mdioDone (data : BitVec 16)
  -- calibration and rotation
  | calReq (ag : Agent) (value : Word)
  | calTemp (sensor : Nat) (reading : Int)
  | calInterval (unit : Nat)
  | calUnitStart
  | calSkipRetry (unit : Nat)
  | calRunComplete (unit : Nat) (values quality : List Int)
  | sliceLineCompare (line : Nat) (equal : Bool)
  | sliceBistComplete (slice : Nat) (pass : Bool)
  | tileFault (slice : Nat)
  -- management core
  | loadUpdate (load : Nat)
  | echo (p : Port)
  | version (p : Port)
  | logRead (p : Port)
  | logWrite (p : Port) (ok : Bool)
  | reviveUnit (p : Port) (pass : Bool)
  | thermal (p : Port)
  | mailboxReservedOp (p : Port)
  | mgtDonePop (p : Port) (n : Nat)
  | sheepdogService (value : BitVec 16)
  | sheepdogTimeout
  | mgtRestart (ag : Agent)
  | revive (ag : Agent)
  | reboot1
  | reboot2
  | mgtHeadless
  | avsLoop (margins : List Nat) (ack : Bool)
  | avsGuard (margins : List Nat) (ack : Bool)
  | recoveryStart
  -- ownership and sequences
  | ownershipWrite (ag : Agent) (addr value : Word)
  | ownLock (ag : Agent)
  | seqStart (ag : Agent) (slot startStep : Nat)
  | seqCancel (ag : Agent) (slot : Nat)
  | seqRelease (ag : Agent) (slot : Nat)
  | stepWrite (p : Port) (fetch : StepFetch)
  | stepModify (p : Port) (fetch : StepFetch)
  | stepCopy (p : Port) (fetch : StepFetch) (ecc : EccMap)
  | stepPoll (p : Port) (ecc : EccMap)
  | pollTimeout (p : Port)
  | stepWaitFrame (p : Port) (ecc : EccMap)
  | stepDelay (p : Port) (ecc : EccMap)
  | stepCommit (p : Port) (ecc : EccMap)
  | stepEnd (p : Port) (ecc : EccMap)
  | seqHoldLong (slot : Nat)
  | seqDonePop (p : Port) (n : Nat)
  -- events
  | evtPop (ag : Agent) (n : Nat)
  | maskSet (ag : Agent) (src : Nat)
  | maskClear (ag : Agent) (src : Nat)
  | routeChange (ag : Agent) (src route : Nat)
  | pendClear (ag : Agent) (src : Nat) (sameCycle : Bool)
  | intnEnWrite (ag : Agent) (n : Nat) (en : Bool)
  | coalesceTime (n : Nat)
  -- tallies and the lifetime log
  | tally (ag : Agent)
  | timedCopy
  | logPeriodic
  | talLogWritten (ok : Bool)
  | driveSecondsCopy
  -- start-up, image and life-cycle
  | aonPorRelease (straps : BitVec 2) (banks : BitVec 5)
  | fusesLoaded
  | imageVerify
  | imageApply
  | portsUpOrTimeout
  | lcCmd (ag : Agent) (value : Word)
  | burn (ag : Agent) (code : BitVec 16)
  | cfgRestart (ag : Agent) (code : BitVec 16)
  | clearBor (ag : Agent)
  | nvRead (ag : Agent)
  | nvProgram (ag : Agent)
  | cfgNvDone (ecc : EccMap) (deviceOk verifyOk : Bool)
  | resetn
  -- power
  | pwrOnBackup
  | pwrOnMain
  | powerOnReset (bothLost : Bool)
  | pwrReversed (x : SupplyReport)
  | pwrBackupLost
  | lowPowerEntry
  | brownOut
  | pwrRailLow (x : RailReport)
  | domainRequest (ag : Agent) (dd : Nat) (req : Nat)
  | domainTransitionComplete (dd : Nat)
  -- rows the table lists last
  | invalidSymbol (lane : Nat) (six : BitVec 6) (four : BitVec 4)
  | gatePulseEdge (n sig : Nat) (stop : Bool)
  | blSyncPulseEnd
  | lockedFoldWipeComplete
  deriving DecidableEq, Repr

end Sys2Proof
end

