-- ==== Sys2Proof/Decode.lean ====
section
/-! DEFINITION. Reading a command from table bits. spec/opcode_table.json gives none of its rows any bits, so no word spells
a command: the block takes its commands whole, from its queue. -/

namespace Sys2Proof

/-- The command that a word spells by the table's bits: none of the rows has bits, so none. -/
def decodeTableWord (_nbits _w : Nat) : Option Instr := none

end Sys2Proof
end

