-- ==== Sys2Proof/Machine/Operands.lean ====
section
/-! DEFINITION. The number formats of the part and their rounding (R2 to R11): WL16 light, 0.16 transmittance, signed
fields, and the bit fields of words and bytes. Exact values are rational numbers. -/

namespace Sys2Proof.Machine

/-! ### Rounding and saturation (R8, R9) -/

/-- Round half up, for unsigned results (R9). -/
def roundUp (v : Rat) : Int := (v + 1 / 2).floor

/-- Round half away from zero, for signed results (R9). -/
def roundAway (v : Rat) : Int := if v < 0 then -(1 / 2 - v).floor else (v + 1 / 2).floor

/-- Saturate at the limits of a destination (R8). -/
def clampInt (lo hi v : Int) : Int := max lo (min hi v)

/-- Saturate at an upper limit (R8). -/
def satNat (hi v : Nat) : Nat := min hi v

/-- The quotient of naturals rounded half up. -/
def divRound (n d : Nat) : Nat := if d = 0 then 0 else (2 * n + d) / (2 * d)

/-- The smallest integer that is not below n / d. -/
def divCeil (n d : Nat) : Nat := (n + d - 1) / d

/-! ### WL16 (R2 to R5) -/

/-- The value of a WL16 code in units of 2^(−25) cd/m², which every code is a multiple of (R2, R100). -/
def wlUnits (code : Nat) : Nat :=
  let e := code / 2048 % 32
  let m := code % 2048
  if e = 0 then m else (2048 + m) * 2 ^ (e - 1)

/-- The value of a WL16 code in cd/m² (R2). -/
def wlVal (code : Nat) : Rat := (wlUnits code : Rat) / 33554432

/-- The WL16 code of the ratio n / d in units of 2^(−25) cd/m², its mantissa rounded to nearest, half up (R5). -/
def wlOfUnits (n d : Nat) : Nat :=
  let q := n / d
  let e := min 31 (if q < 2048 then 0 else Nat.log2 q - 10)
  if e = 0 then divRound n d
  else min 0xFFFF (e * 2048 + divRound n (d * 2 ^ (e - 1)) - 2048)

/-- Conversion to WL16 (R5). A negative value has no code: its rule makes it 0 before it comes here. -/
def wlOf (v : Rat) : Nat := wlOfUnits (v.num.toNat * 33554432) v.den

/-! ### Transmittance and other fractions -/

/-- A 0.16 code as an integer from 0 to 65,536: 0xFFFF counts as exactly 1.0 (R6). -/
def t16 (code : Nat) : Nat := if code = 0xFFFF then 65536 else code

/-- The value of a 0.16 code (R6). -/
def t16Val (code : Nat) : Rat := (t16 code : Rat) / 65536

/-- A result of 65,535 or more is stored as 0xFFFF (R6). -/
def t16Of (n : Int) : Nat := (clampInt 0 0xFFFF n).toNat

/-! ### Signed fields -/

/-- The signed value of an n-bit field. -/
def signed (n v : Nat) : Int := if v % 2 ^ n < 2 ^ (n - 1) then (v % 2 ^ n : Nat) else (v % 2 ^ n : Nat) - (2 ^ n : Nat)

/-- The n-bit field of an integer, modulo 2^n. -/
def unsigned (n : Nat) (v : Int) : Nat := (v % (2 ^ n : Nat)).toNat

/-- The n-bit field of an integer that saturates at the signed range (R8). -/
def signedSat (n : Nat) (v : Int) : Nat := unsigned n (clampInt (-(2 ^ (n - 1) : Nat)) ((2 ^ (n - 1) : Nat) - 1) v)

/-! ### Bits and bytes -/

/-- The bits [hi:lo] of a number. -/
def bits (v hi lo : Nat) : Nat := v / 2 ^ lo % 2 ^ (hi + 1 - lo)

/-- Whether bit i of a number is 1. -/
def bitAt (v i : Nat) : Bool := v / 2 ^ i % 2 == 1

/-- A number with bit i set to b. -/
def setBit (v i : Nat) (b : Bool) : Nat := v - (if bitAt v i then 2 ^ i else 0) + (if b then 2 ^ i else 0)

/-- The number whose bits below n are those given by f. -/
def ofBits (n : Nat) (f : Nat → Bool) : Nat := (List.range n).foldl (fun a i => if f i then a + 2 ^ i else a) 0

/-- A number of a list of bytes, the first byte most significant (R50). -/
def beNat (bs : List Byte) : Nat := bs.foldl (fun a b => a * 256 + b.toNat) 0

/-- The n bytes of a number, most significant first. -/
def beBytes : Nat → Nat → List Byte
  | 0, _ => []
  | n + 1, v => BitVec.ofNat 8 (v / 256 ^ n) :: beBytes n v

/-- The n bytes of a number, least significant first (R367). -/
def leBytes : Nat → Nat → List Byte
  | 0, _ => []
  | n + 1, v => BitVec.ofNat 8 v :: leBytes n (v / 256)

/-- A number of a list of bytes, the first byte least significant (R367). -/
def leNat (bs : List Byte) : Nat := bs.foldr (fun b a => a * 256 + b.toNat) 0

/-- The bytes [i, i + n) of a list; missing bytes read as zero. -/
def slice (bs : List Byte) (i n : Nat) : List Byte := (List.range n).map fun k => bs.getD (i + k) 0

/-! ### Check codes -/

/-- One bit of a CRC of width n with polynomial p, most significant bit first. -/
def crcBit (n p r : Nat) (b : Bool) : Nat :=
  let top := bitAt r (n - 1)
  let r' := r * 2 % 2 ^ n
  if top != b then Nat.xor r' p else r'

/-- A CRC of width n over bytes, most significant bit of each byte first, with no reflection. -/
def crcBytes (n p init : Nat) (bs : List Byte) : Nat :=
  bs.foldl (fun r b => (List.range 8).foldl (fun r i => crcBit n p r (bitAt b.toNat (7 - i))) r) init

/-- The packet CRC-16 (R51): polynomial 0x1021, initial value 0xFFFF. -/
def crc16 (bs : List Byte) : Nat := crcBytes 16 0x1021 0xFFFF bs

/-- The back-channel CRC-8 (R65): polynomial 0x07, initial value 0. -/
def crc8 (bs : List Byte) : Nat := crcBytes 8 0x07 0 bs

/-- One byte of the CRC-32C of R205: reflected, polynomial 0x82F63B78. -/
def crc32cByte (r : Nat) (b : Byte) : Nat :=
  (List.range 8).foldl (fun r _ => if r % 2 = 1 then Nat.xor (r / 2) 0x82F63B78 else r / 2) (Nat.xor r b.toNat)

/-- The CRC-32C of bytes (R205): initial value and final inversion 0xFFFFFFFF. -/
def crc32c (bs : List Byte) : Nat := Nat.xor (bs.foldl crc32cByte 0xFFFFFFFF) 0xFFFFFFFF

end Sys2Proof.Machine
end

