-- ==== Sys2Proof/Config.lean ====
section
/-! DEFINITION. What one part fixes for itself, and the values that the spec leaves open.
An `opaque` constant without a body is a free value: no proof can see what it is. -/

namespace Sys2Proof.Config

/-- The free values: the spec leaves the value open and the part goes on (assumption log 4).
The argument is the counter `State.freeCtr`, which every use advances. -/
opaque free : Nat → BitVec 64

/-- The words of the frame store that a copy of the copy engine finds in error (R269, R270): they depend on the memory alone and are
free values (assumption log 4). The argument is the counter `State.freeCtr`. -/
opaque freeWords : Nat → EccMap

/-- The part's estimate of its regulated load in µA (R440), from the states of the domains and the hottest sensor reading: the spec
gives no formula, and the estimate is a free value (assumption log 4). -/
opaque aonLoad : List Nat → Int → BitVec 12

/-- The unit MAC address in the fuses: the spec says only that it is not zero (R427). DESIGN CHOICE (assumption log 9). -/
def fuseMac : Nat := 0x020000000001

/-- The trim baseline of every tile of every slice in the fuses (R341): six bits a tile, 32 each. DESIGN CHOICE (assumption log 9). -/
def sliceBaseline : Nat := 0x20820820

/-- The process signature of the die in the fuses (R341). DESIGN CHOICE (assumption log 9). -/
def processSignature : Nat := 0

/-- The offset-trim baseline of every lane in the fuses (R341). DESIGN CHOICE (assumption log 9). -/
def laneBaseline : Int := 0

end Sys2Proof.Config
end

