-- ==== Sys2Proof/Machine/State.lean ====
section
/-! DEFINITION. The state of the part as plain data, the ways a command can stop, and the state after reset.
Registers are words kept by address: an address that is not listed holds its reset value (RegMap.lean).
What the spec gives the part beside its registers stands in one structure per engine. -/

namespace Sys2Proof.Machine

/-- A field of a register: the register's address and the bits [hi:lo]. -/
structure FRef where
  addr : Nat
  hi : Nat
  lo : Nat
  deriving DecidableEq, Repr

/-- The layout of a register, repeated n1 × n2 times at strides s1 and s2: its reset value, the bits that are RW or RWS,
those that are W1C, those that are WO, and whether writes go to a shadow (Table 0.2). -/
structure RegDef where
  base : Nat
  n1 : Nat
  s1 : Nat
  n2 : Nat
  s2 : Nat
  reset : Nat
  w : Nat
  w1c : Nat
  wo : Nat
  rws : Bool
  deriving DecidableEq, Repr

/-- Why a command faults. No command of this part has a fault: every error it describes is reported and goes on. -/
inductive Fault where
  /-- Nothing raises it: the spec describes no condition in which the part stops. Safe. -/
  | none
  deriving DecidableEq, Repr

/-- Why a command has no meaning. -/
inductive Refusal where
  /-- An arm of `exec` without a meaning yet, named by its mnemonic. Safe. -/
  | notModelled (mnemonic : String)
  /-- Every command whose operands name a unit that the part does not have (`Instr.wellFormed`). Safe. -/
  | illFormed
  deriving DecidableEq, Repr

/-- One occurrence of an event source in the step in progress, with its fault class (R393). -/
structure Occ where
  src : Nat
  cls : Nat
  deriving DecidableEq, Repr

/-- A packet on a driver port (Table 8.2): what kind it is, and the bytes it carries. -/
structure PortPacket where
  kind : Nat
  bytes : List Byte
  deriving DecidableEq, Repr

/-- What the part sends out of its balls in the command in progress. -/
inductive Output where
  /-- A back-channel message on the bellwether lane of a flock (R65): TYPE, SEQ, P0 to P7 and CHK; the 8b/10b groups of its twelve
  characters, K28.2 first (R302); and the differential level of each bit in 1/64 mV (R305). -/
  | backChannel (flock typ seq : Nat) (payload : List Byte) (chk : Nat) (groups : List Nat) (levels : List Int)
  /-- The first unit of a transmitter that leaves electrical idle (R302): the groups of an idle unit, or idle pair, and the levels of
  their bits in 1/64 mV (R305). -/
  | laneStarts (lane : Nat) (groups : List Nat) (levels : List Int)
  /-- Data bytes of a read transaction of a host port (R367). -/
  | readData (p : Port) (bytes : List Byte)
  /-- A packet on driver port nn; both lanes carry it (R197). -/
  | portPacket (dp : Nat) (pkt : PortPacket)
  /-- That packet on one lane of the port: its 8b/10b groups from K27.7 to K29.7 (R192, R302), and the level of each bit in 1/64 mV
  (R305). -/
  | lanePacket (lane : Nat) (groups : List Nat) (levels : List Int)
  /-- The words of 24 bits of a transfer on a backlight chain, first sent first (R219). -/
  | chainWords (chain : Nat) (words : List (BitVec 24))
  /-- The bits of a loop test on a backlight chain (Table 9.4). -/
  | chainBits (chain : Nat) (bits : List Bool)
  /-- A transaction of the sensor controller: device address, bytes written, bytes to read (R228, R230). -/
  | sensorBus (addr : Nat) (write : List Byte) (read : Nat)
  /-- A `VOUT_COMMAND` on the PMBus: address, code and whether a PEC byte follows (R231, R359). -/
  | pmbus (addr code : Nat) (pec : Bool)
  /-- A `Delay_Req` with its VLAN tag, its source address, its DSCP and its sequence number (R320, R322). -/
  | delayReq (vlan : Option Nat) (ip dscp seqId : Nat)
  /-- An ARP reply to the asker at `mac` and `ip`: `HTM_IP` is at the part's MAC address (R320). -/
  | arpReply (vlan : Option Nat) (mac : BitVec 48) (ip : Word) (ownMac ownIp : Nat)
  /-- An IGMPv2 membership report for 224.0.1.129 (R320). -/
  | igmpReport (vlan : Option Nat)
  /-- An MDIO access: PHY, register, and the data of a write (R327). -/
  | mdio (phy reg : Nat) (data : Option Nat)
  deriving DecidableEq, Repr

/-- Three components of one pixel, in the order of the format's components. -/
structure Rgb where
  r : Nat
  g : Nat
  b : Nat
  deriving DecidableEq, Repr

/-! ### Events (chapter 18) -/

/-- A record of a target's queue (R396) with the instant it entered. -/
structure EvtRecord where
  src : Nat
  count : Nat
  cls : Nat
  masked : Bool
  overflow : Bool
  stamp : Nat
  entered : Nat
  deriving DecidableEq, Repr

/-- The held count of a source and a `MASKED` value at a target (R397). -/
structure EvtHeld where
  src : Nat
  masked : Bool
  count : Nat
  cls : Nat
  stamp : Nat
  deriving DecidableEq, Repr

/-- A target of events: its queue, oldest first, the held counts, whether an urgent record came since the queue was
last empty, whether the oldest record has reached the coalescing time, and the pin (R401). -/
structure EvtTarget where
  queue : List EvtRecord := []
  held : List EvtHeld := []
  urgentSeen : Bool := false
  timeDue : Bool := false
  intn : Bool := false
  deriving DecidableEq, Repr

/-- The targets by number (3 is the core), the route each source had before its last change and when it changed, and
when each source's `MASK` was last set (R395, R399). -/
structure EvtState where
  targets : SMap EvtTarget := []
  /-- Sources whose `PEND` is 1. -/
  pend : SMap Bool := []
  /-- `EVT_Hn_CNT_REC`, `CNT_MERGE`, `CNT_HELD` at 3 n, 3 n + 1, 3 n + 2. -/
  counts : SMap Nat := []
  routeWas : SMap (Nat × Nat) := []
  maskedAt : SMap Nat := []
  deriving DecidableEq, Repr

/-! ### Host ports and sequences (chapter 17) -/

/-- Bytes of a fold-window write that wait (R467), with the address of the first. -/
structure HeldWrite where
  addr : Nat
  bytes : List Byte
  deriving DecidableEq, Repr

/-- A host port beyond its registers: the write held, and what its reads of pair registers and of house time latched. -/
structure HptPort where
  held : Option HeldWrite := none
  /-- The transaction of the held bytes is still the port's last one (R467). -/
  heldLast : Bool := false
  pairLatch : SMap Word := []
  nowLo : Option Word := none
  nowHi : Option Word := none
  /-- `HPn_BUSY` during the last transaction (R375). -/
  busy : Bool := false
  deriving DecidableEq, Repr

/-- A sequence as submitted (R383): slot, step-list address, tag, hold mask, first step. -/
structure SeqRun where
  slot : Nat
  base : Nat
  tag : Word
  hold : Nat
  step : Nat
  /-- Set by CANCEL: the sequence ends at its turn or its next step boundary (R390). -/
  cancelled : Bool := false
  /-- Frame boundaries that a WAIT_FRAME step still waits for. -/
  waitLeft : Nat := 0
  /-- The generator of those boundaries. -/
  waitTg : Nat := 0
  /-- The step at `step` waits (POLL, WAIT_FRAME, DELAY) and has not finished. -/
  waiting : Bool := false
  /-- The four words of the step that waits. -/
  words : List Word := []
  deriving DecidableEq, Repr

/-- A completion record of a sequence (Table 17.13). -/
structure SeqDone where
  slot : Nat
  status : Nat
  next : Nat
  tag : Word
  deriving DecidableEq, Repr

/-- The sequence engine: per port the submitted sequences, the first being the one that runs, and the records; per slot
the engines held; the port served last, from which the round-robin goes on (R384, R389, R390). -/
structure SeqState where
  runs : SMap (List SeqRun) := []
  done : SMap (List SeqDone) := []
  holds : SMap Nat := []
  last : Nat := 2
  deriving DecidableEq, Repr

/-! ### Management core (chapter 16) -/

/-- A mailbox command as submitted (R352). -/
structure MbCmd where
  op : Nat
  tag : Nat
  args : List Word
  deriving DecidableEq, Repr

/-- A mailbox completion record (Table 16.12). -/
structure MbDone where
  op : Nat
  tag : Nat
  status : Nat
  retry : Nat
  data : Word
  deriving DecidableEq, Repr

/-- A queued or running recovery: the fault's class and event number (R361), and its redundancy group (`sourceGroup`). -/
structure Recovery where
  cls : Nat
  src : Nat
  group : Nat
  deriving DecidableEq, Repr

/-- The management core: mailboxes, the sheepdog, the load history, deferred C4 work (0 tally or log work), the voltage
loop, and the recoveries. -/
structure MgtState where
  cmds : SMap (List MbCmd) := []
  done : SMap (List MbDone) := []
  /-- The sheepdog runs while the state is BOOT or RUNNING and `MGT` is ON (R355, R445). -/
  dogSuspended : Bool := false
  /-- Load updates in a row above 90 and those that let `DEFER` fall (Table 16.1). -/
  highUpdates : Nat := 0
  lowUpdates : Nat := 0
  loads : List Nat := []
  deferredC4 : Nat := 0
  avsFails : Nat := 0
  /-- The voltage whose write has failed: it is written again 1 ms later (R359). -/
  avsRetry : Option Nat := none
  /-- Updates of the voltage loop since the last change of V, saturating at 10 (R358). -/
  avsSince : Nat := 10
  /-- The engines' region commits are paused by the hold sequencer (R250). -/
  regionsPaused : Bool := false
  calFrozen : Bool := false
  recovering : Option Recovery := none
  recoveries : List Recovery := []
  /-- The recovery that a double fault has abandoned: one recovery covers it and the faults of its group (R362). -/
  combine : Option Recovery := none
  /-- The patch section of the image in use and its version (R424): the core loads it at each start. -/
  patch : List Byte := []
  patchNo : Nat := 0
  deriving DecidableEq, Repr

/-! ### House time (chapter 14) -/

/-- House time (R315): seconds, nanoseconds, the 16-bit fraction, and the residue below 2^(−16) ns in units of
10^(−9) × 2^(−16) ns, carried from cycle to cycle. -/
structure HouseTime where
  sec : Nat := 0
  ns : Nat := 0
  frac : Nat := 0
  residue : Nat := 0
  deriving DecidableEq, Repr

/-- A master heard in the domain (R322): its sender, its data set, when its last `Announce` came on the nanosecond scale, and
whether it has qualified. -/
structure ForeignMaster where
  sender : Nat
  last : AnnounceMsg
  heard : Nat
  qualified : Bool
  deriving DecidableEq, Repr

/-- A two-step `Sync` that waits for its `Follow_Up` (R319). -/
structure PendingSync where
  sender : Nat
  seqId : Nat
  t2 : Int
  corr : Int
  logInterval : Int
  deriving DecidableEq, Repr

/-- The house-time servo: the integrator in ppb, the path delay in ns; instants are in 2^(−16) ns. `syncHeard`, `ppsLast` and `ppsSince`
are on the nanosecond scale of `State.now`. -/
structure HtmState where
  integrator : Rat := 0
  pathDelay : Option Rat := none
  lastT1 : Option Int := none
  freshServo : Bool := true
  inLock : Nat := 0
  selected : Option Nat := none
  foreign : List ForeignMaster := []
  pendingSync : Option PendingSync := none
  /-- t1, t2 and the correction of the last `Sync` used, for the next exchange. -/
  syncTimes : Option (Int × Int × Int) := none
  delayReqSeq : Nat := 0
  delayReqT3 : Option Int := none
  logMinDelayReq : Option Int := none
  /-- The `logMessageInterval` of the selected master's last `Sync`, and when that came, or its selection (R319, Table 14.2). -/
  logSync : Option Int := none
  syncHeard : Nat := 0
  ppsArmed : Bool := false
  ppsLast : Option Nat := none
  /-- Since when no edge has been accepted; `none` once that has been reported (R326). -/
  ppsSince : Option Nat := none
  deriving DecidableEq, Repr

/-! ### Tallies and the lifetime log (chapter 19) -/

/-- A tally request by its sources (Table 19.3): host, period, event. -/
structure TallyReq where
  host : Bool := false
  period : Bool := false
  event : Bool := false
  deriving DecidableEq, Repr

/-- A fill in progress (R406): its number, cut frame, target bank, trigger bits, the flags and modes at the cut, the house time
of the cut, how many units were copied `TIMED`, and the units (by block offset) that have not copied. -/
structure TallyFill where
  seq : Nat
  cut : Nat
  bank : Nat
  trigger : Nat
  noFrame : Bool
  headless : Bool
  mode : Nat
  time : HouseTime
  timed : Nat
  left : List Nat
  deriving DecidableEq, Repr

/-- The record of the lifetime log that the core keeps (Table 19.4), as its 32-bit fields by byte offset. -/
structure LogState where
  fields : SMap Nat := []
  newestSlot : Nat := 63
  /-- A record being written: its slot and bytes (R411); the instant at which the last one was. -/
  writing : Option (Nat × List Byte) := none
  writtenAt : Option Nat := none
  /-- A supply loss came while a record was in programming: its own follows (R411). -/
  supplyDue : Bool := false
  deriving DecidableEq, Repr

/-- Tallies: the live counters by bank offset (48 bits), the latches of the groups that began a frame early with the
frame they began, the two banks by word offset, the requests and the fill. -/
structure TalState where
  live : SMap Nat := []
  latched : SMap (Nat × SMap Nat) := []
  banks : SMap (SMap Word) := []
  req : Option TallyReq := none
  /-- The waiting request found its target bank held (R409). -/
  deferred : Bool := false
  /-- `TAL_DEFERRED` and `TAL_CNT_MERGED`. -/
  deferredCnt : Nat := 0
  mergedCnt : Nat := 0
  /-- `TAL_SEQ` and `TAL_STATUS.NEWEST`. -/
  seq : Nat := 0
  newest : Nat := 0
  fill : Option TallyFill := none
  log : LogState := {}
  deriving DecidableEq, Repr

/-! ### Start-up, image and fuses (chapter 20) -/

/-- The fuses (R341, R430, R432): the bits of the life-cycle states, the burnt key hash words, `SIGN_REQ` and `BURNED`, and the
process signature; the MAC address and the trim baselines are constants of Config. -/
structure Fuses where
  factory : Bool := false
  deployed : Bool := false
  rma : Bool := false
  burned : Bool := false
  signReq : Bool := false
  keyHash : List Word := []
  signature : Nat := Config.processSignature
  deriving DecidableEq, Repr

/-- A running NVM job (R434). -/
structure NvJob where
  program : Bool
  addr : Nat
  buf : Nat
  len : Nat
  port : Port
  deriving DecidableEq, Repr

/-- The device on the NVM port (R416): none, one whose JESD216 table declares 8D-8D-8D, any other. Which one is attached is outside the
spec: at reset a quad one (DESIGN CHOICE, assumption log 158). -/
inductive NvmDevice where
  | absent | octal | quad
  deriving DecidableEq, Repr

/-- Start-up: the candidate slots left to check in order (R423), the image selected with the trust of its signature, the
`BOR_LP` latch, the NVM job, and the straps of HP2. -/
structure CfgState where
  fuses : Fuses := {}
  candidates : List Nat := []
  selected : Option Nat := none
  imageCrc : Nat := 0
  trusted : Bool := false
  panelOn : Bool := false
  blOn : Bool := false
  /-- Step of Table 20.7 reached: 6 waits for the front layer, 7 for first light. -/
  lightStep : Nat := 0
  borLatch : Bool := false
  job : Option NvJob := none
  hp2Addr : Nat := 0
  deriving DecidableEq, Repr

/-! ### Power (chapter 21) -/

/-- The supplies and the domains: the inputs at or above 2.90 V, reversed inputs, the input in use, the regulator's mode,
the rails above their thresholds, and the state a running transition of a domain goes to. -/
structure PwrState where
  onB : Bool := false
  aOk : Bool := true
  bOk : Bool := true
  revA : Bool := false
  revB : Bool := false
  lp : Bool := false
  railsGood : Nat := 31
  /-- The level of each `VDD_IO` bank that AON sensed when it started, from `VDD_IO1` in bit 0 on: 1 for 3.3 V (R454). -/
  padBanks : Nat := 0
  target : SMap Nat := []
  /-- `RETAIN` content: the tables of an engine survive RET (R446), by domain. -/
  contentLost : SMap Bool := []
  deriving DecidableEq, Repr

/-! ### Paith input link (chapter 2) -/

/-- A physical lane of the input link: whether a valid marker came with no invalid symbol since, its symbol position and
count, the lane ID it gives, lock (R61), deskew (R48), and invalid symbols since the last `LANE_STATUS`. -/
structure PilLane where
  marked : Bool := false
  pos : Nat := 0
  seq : Nat := 0
  id : Nat := 0
  dup : Bool := false
  foreign : Bool := false
  locked : Bool := false
  outside : Bool := false
  invalidSeen : Bool := false
  /-- The lane had lock and lost it, and has not locked again (R61, R69). -/
  lost : Bool := false
  deriving DecidableEq, Repr

/-- A rotation of a flock (Table 2.10): the working lane, the `ROT_DUP` sent, the agreeing intervals in a row, the failed
comparisons and the `DUP` markers seen; and whether lane j is coming back. -/
structure PilRot where
  lane : Nat := 0
  sends : Nat := 0
  dupSeen : Nat := 0
  agreed : Nat := 0
  fails : Nat := 0
  deriving DecidableEq, Repr

/-- The frame being received (R56): number, size, format, the next line and column expected, and what happened in it. -/
structure RxFrame where
  no : Word
  w : Nat
  h : Nat
  fmt : Nat
  line : Nat := 0
  col : Nat := 0
  /-- The line being received already has a concealed pixel. -/
  lineConcealed : Bool := false
  concealed : Bool := false
  /-- The rest of that line is concealed already, because a packet failed there (R72). -/
  restShown : Bool := false
  /-- Its size is not TG0's raster (R57). -/
  mismatch : Bool := false
  /-- Components of a slot as `FE_CFG.FLAGS_AS_KEY` stood while the frame was written (R240). -/
  comps : Nat := 3
  /-- Stored in the source buffer: the size matches TG0's raster and self-refresh lets it (R57, R238, R242). -/
  stored : Bool := true
  /-- The region updates accepted before its `FRAME_START` have lower numbers (R247). -/
  region : Nat := 0
  /-- Bands whose entry buffer has overflowed in the line being received (R33). -/
  dropBands : List Nat := []
  /-- Block slots whose CODED segment the encoder has found wrong (R288). -/
  badSegs : List Nat := []
  deriving DecidableEq, Repr

/-- A pixel as the front end takes it: 12-bit components in the format's order, and the flag bits X (R55). -/
structure InPixel where
  c : Rgb
  x : Nat
  deriving DecidableEq, Repr

/-- The input link beyond its registers. -/
structure PilState where
  lanes : SMap PilLane := []
  rot : SMap PilRot := []
  bcSeq : SMap Nat := []
  lastStatus : SMap (Nat × Nat) := []
  credit : SMap Nat := []
  sent : SMap Nat := []
  /-- W, H and format of the previous frame since the link last left DOWN (R57). -/
  prev : Option (Nat × Nat × Nat) := none
  prevNo : Word := 0
  rx : Option RxFrame := none
  /-- How many frames have opened. -/
  serial : Nat := 0
  /-- The pixels of the frame received last, by position. -/
  pixels : SMap InPixel := []
  /-- What the slices take in place of the pixels that an entry buffer dropped (R33). -/
  dropped : SMap InPixel := []
  /-- A frame whose `FRAME_END` has come and whose fold write drains (R31). -/
  draining : Option RxFrame := none
  /-- A complete source frame exists since the last synchronising reset (R71). -/
  haveFront : Bool := false
  lastComplete : Option Word := none
  /-- A packet has failed since the last `FRAME_START` (Table 2.17). -/
  crcSeen : Bool := false
  crcNow : Nat := 0xFFFFFFFF
  crcPrev : Option Nat := none
  metaNew : Option (List Byte) := none
  aux : List (List Byte) := []
  auxPos : Nat := 0
  /-- The frame that a `SLEEP` named, until it is acknowledged (R76). -/
  sleepWant : Option Word := none
  /-- TG0 frames in a row that began with the link DEGRADED (R70), and frames without a `FRAME_START` (R241). -/
  degradedFrames : Nat := 0
  idleFrames : Nat := 0
  /-- A `FRAME_START` came in the TG0 frame in progress (R28, Table 10.1). -/
  startSeen : Bool := false
  deriving DecidableEq, Repr

/-! ### Timing generators and panel (chapter 7) -/

/-- A timing generator at work: the raster values of the frame in progress, the line, the instants at which the frame and
the line began (2^(−16) ns), the lines planned, the servo and the static-frame count. -/
structure TgRun where
  on : Bool := false
  vtotal : Nat := 0
  vactive : Nat := 0
  tnom : Nat := 0
  period : Nat := 0
  line : Nat := 0
  frameStart : Nat := 0
  lineStart : Nat := 0
  planned : Nat := 0
  /-- The integrator in 2^(−16) ns, and the last servo period, 0 before the first (R178). -/
  integ : Rat := 0
  servo : Nat := 0
  inWindow : Nat := 0
  /-- When the lock source was last acquired anew, and the last R59 edge since then (Table 7.2). -/
  lockAt : Nat := 0
  refAt : Option Nat := none
  /-- The R59 edges of lock source INPUT whose targets may still come, oldest first, and whether one has come since the last
  measurement (Table 7.1, R178, R179). -/
  edges : List Nat := []
  fresh : Bool := false
  /-- `TGn_CFG` and `TGn_LOCK` as the frame in progress began with them (R466). -/
  cfg : Nat := 0
  lock : Nat := 0
  /-- The signals whose reversed pair carries no pulses in the frame in progress (R184). -/
  unpaired : List Nat := []
  /-- A jump is wanted, and the frame in progress may make it (R179, R466). -/
  want : Bool := false
  may : Bool := false
  /-- Restart instants of a follower, each after the leader's frame end that it was computed from (R180). -/
  targets : List (Nat × Nat) := []
  /-- The planned end that the followers have computed their targets from (R180). -/
  told : Nat := 0
  statics : Nat := 0
  /-- The source frame found last equals the one before it; a different one has come in the frame in progress (R181). -/
  same : Bool := false
  changed : Bool := false
  stopPending : Bool := false
  underrun : Bool := false
  linesSent : Nat := 0
  deriving DecidableEq, Repr

/-- A gate pad: whether it is at high impedance, and whether a pulse runs (R184, R185). -/
structure GatePad where
  hiZ : Bool := false
  pulse : Bool := false
  deriving DecidableEq, Repr

/-- What the gate pads of a layer do. -/
inductive GateMode where
  | park | pattern | discharge
  deriving DecidableEq, Repr

/-- The panel sequence of a layer (Tables 7.5, 7.6): held `ON`, black frames left, whether the frame in progress is black,
whether `GATE_DELAY` has passed, the gates' mode, the enables released since step 3, and whether the protection sequence has
finished. -/
structure PanelSeq where
  heldOn : Bool := false
  blackLeft : Nat := 0
  black : Bool := false
  gateDelayDone : Bool := false
  gates : GateMode := .park
  released : List Nat := []
  protectDone : Bool := false
  deriving DecidableEq, Repr

/-- The generators, the gate pads (16 × layer + s), the panel sequences by layer and the `PANEL_ENk` pins. -/
structure TgState where
  runs : SMap TgRun := []
  pads : SMap GatePad := []
  front : PanelSeq := {}
  rear : PanelSeq := {}
  enables : SMap Bool := []
  /-- The signals, 16 × layer + s, whose reversed pair was in effect when `WRAP_EN` was cleared (R184). -/
  unpaired : List Nat := []
  /-- Protection has put the backlight off (Table 7.6, step 1; log 112). -/
  dark : Bool := false
  deriving DecidableEq, Repr

/-! ### Self-refresh and regions (chapter 10) -/

/-- The layout of a source buffer (R240): W, H and components, and the format the frame came in (R82). -/
structure BufLayout where
  w : Nat := 0
  h : Nat := 0
  comps : Nat := 3
  fmt : Nat := 0
  deriving DecidableEq, Repr

/-- An accepted region update: its place in the acceptance order, slot, owner (`none`: the link), rectangle, tag, and where
its pixels are: an address with pitch and format, or an offset in the staging ring. -/
structure RegionUpd where
  id : Nat
  slot : Nat
  owner : Option Port
  x : Nat
  y : Nat
  w : Nat
  h : Nat
  tag : Word
  data : Nat
  pitch : Nat
  fmt : Nat
  deriving DecidableEq, Repr

/-- An open link update (R248): its rectangle and tag, where its reservation in the ring starts, the line and column expected
in the rectangle, the packets of that line, and the outcome it already has. -/
structure OpenUpd where
  x : Nat
  y : Nat
  w : Nat
  h : Nat
  tag : Word
  stage : Option Nat
  line : Nat := 0
  col : Nat := 0
  packets : Nat := 0
  /-- The last pixel delivered of the line: a packet that starts at an odd column completes its group of the ring (R248). -/
  last : InPixel := ⟨⟨0, 0, 0⟩, 0⟩
  bad : Option Nat := none
  deriving DecidableEq, Repr

/-- A copy of the copy engine (R252). -/
inductive SrfCopy where
  | fill
  | update (u : RegionUpd)
  | echo (us : List RegionUpd)
  | rollback (u : RegionUpd)
  deriving DecidableEq, Repr

/-- A final outcome that may still wait for an earlier update of its slot (R255). -/
structure RegionOutcome where
  id : Nat
  slot : Nat
  owner : Option Port
  tag : Word
  outcome : Nat
  frame : Nat
  deriving DecidableEq, Repr

/-- A record of a result queue (Table 10.7). -/
structure SrfResult where
  slot : Nat
  frame : Nat
  outcome : Nat
  tag : Word
  deriving DecidableEq, Repr

/-- A reservation of the staging ring: the update it serves, if accepted, its start and size in bytes, and whether its
update is final. -/
structure StageRes where
  start : Nat
  size : Nat
  slot : Nat
  tag : Word
  final : Bool
  deriving DecidableEq, Repr

/-- Self-refresh and regions beyond their registers. -/
structure SrfState where
  layouts : SMap BufLayout := []
  frontNo : SMap Word := []
  opens : SMap OpenUpd := []
  /-- The tag of a slot's link update that was open when the link left UP (R249): its outcome has been settled without a report. -/
  cut : SMap Word := []
  running : SMap RegionUpd := []
  waiting : SMap RegionUpd := []
  complete : List RegionUpd := []
  swapped : List RegionUpd := []
  inFlight : Option SrfCopy := none
  rollbacks : List RegionUpd := []
  echoes : List (List RegionUpd) := []
  fillDue : Bool := false
  holdStarts : Bool := false
  nextId : Nat := 0
  /-- Accepted updates whose outcome has not been reported, in acceptance order. -/
  unreported : List (Nat × Nat) := []
  finals : List RegionOutcome := []
  results : SMap (List SrfResult) := []
  ring : List StageRes := []
  ringNext : Nat := 0
  /-- The `FRAME_START` that stopped the copies while no cause was left (R243). -/
  exiting : Bool := false
  /-- That frame is complete; and a read start has come since. -/
  exitReady : Bool := false
  exitDue : Bool := false
  /-- The store-mode reader (R31): the buffer it reads, whether the front end has still to begin that frame, the buffer and
  number of the frame read before, and the pixels decoded, by position. -/
  readBuf : Nat := 0
  readDue : Bool := false
  lastRead : Option (Nat × Word) := none
  /-- The reader's frame is the one that it read before (R31, R181). -/
  readHeld : Bool := false
  readPix : SMap InPixel := []
  /-- The block slots decoded so far. -/
  readSlots : List Nat := []
  deriving DecidableEq, Repr

/-- What is left of self-refresh and the regions when their domain leaves ON (R446, R447): the AON store's numbers of the frames, with
their layouts (log 78), and the reader, which is not of that domain. -/
def SrfState.off (f : SrfState) : SrfState :=
  { layouts := f.layouts, frontNo := f.frontNo, nextId := f.nextId, readBuf := f.readBuf, readDue := f.readDue, lastRead := f.lastRead
    readHeld := f.readHeld, readPix := f.readPix, readSlots := f.readSlots }

/-! ### Frame store (chapter 11) -/

/-- A write of an owner port that waits for its fold (R265, R273); `granted` once it has come before the write that hands the fold
away (R266). -/
structure FoldWait where
  owner : Nat
  addr : Nat
  bytes : List Byte
  granted : Bool := false
  deriving DecidableEq, Repr

/-- The frame store beyond its registers: bytes of the fold window (by fold-window address) and of the locked fold that are
not zero (R273), the owner word each fold had before its handover, the engines' writes that wait, in order, and the fold-window
address of the next grazed word. -/
structure FstState where
  mem : List Host.Cell := []
  locked : List Host.Cell := []
  prevOwner : SMap Nat := []
  waits : List FoldWait := []
  graze : Nat := 0
  /-- The part has wiped the locked fold since the image began to load (R424). -/
  wipedInApply : Bool := false
  deriving DecidableEq, Repr

/-! ### Lanes (chapter 13) -/

/-- A lane beyond its registers: a host scan that waits, whether the monitor has found the eye low, whether it measures, and
a transmitter stopped for a short or for its read-back. -/
structure LnsLane where
  scanWaits : Bool := false
  eyeLow : Bool := false
  monitoring : Bool := false
  stopped : Bool := false
  /-- The boundary of the first comma of a search (R303). -/
  comma : Option Nat := none
  /-- The point of the host scan in progress (R309): phase, threshold and `DWELL`. -/
  point : Option (Nat × Nat × Nat) := none
  /-- The transmitter's running disparity, and the instant at which what it has sent ends (R302). -/
  txRd : Bool := false
  txAt : Nat := 0
  /-- The last bit of what it has sent. -/
  txBit : Bool := false
  deriving DecidableEq, Repr

/-! ### Compression (chapter 12) -/

/-- A record of a ring (Table 12.8). -/
structure CprRecord where
  status : Nat
  tag : Word
  len : Nat
  deriving DecidableEq, Repr

/-- The compression engine beyond its registers: the record queues, the ring served last, the job that runs with its
descriptor's eight words, whether its descriptor was bad when it started (R292), and whether one of its folds has since been handed
over or left ON (R296). -/
structure CprState where
  records : SMap (List CprRecord) := []
  lastRing : Nat := 2
  job : Option (Nat × List Word) := none
  jobBad : Bool := false
  foreignHit : Bool := false
  deriving DecidableEq, Repr

/-! ### Calibration (chapter 15) -/

/-- A due unit (R330): its code, its trigger, its place in the order of becoming due, whether a skip waits for its retry (R332),
and when its start was postponed (R351). -/
structure CalDue where
  unit : Nat
  trigger : Nat
  order : Nat
  skipped : Bool := false
  postponed : Option Nat := none
  deriving DecidableEq, Repr

/-- The phase of a unit that leaves its work and comes back: it waits for a frame boundary, its stand-in works in parallel or
its rotation is requested, it is fallow, its trims wait for a boundary, it works in parallel again or its rotation ends. -/
inductive CalPhase where
  | waiting | parallel | fallow | applying | returning
  deriving DecidableEq, Repr

/-- A calibration in progress (R333 to R337): unit, trigger, phase, the element of an output port that is measured (0 lane A,
1 lane B), its runs' trims, the most runs an element has had, the agreed trims, and the quality measured last. `bare` marks a
slice that only takes its band back after a transient mismatch (R343); `saved` is the `TRIM` word that lane A of a port had before its
new trim took effect. -/
structure CalRun where
  unit : Nat
  trigger : Nat
  phase : CalPhase
  lane : Nat := 0
  runs : List (List Int) := []
  made : Nat := 0
  agreed : List Int := []
  unstable : Bool := false
  quality : List Int := []
  bare : Bool := false
  saved : Option Nat := none
  deriving DecidableEq, Repr

/-- A built-in test after a mismatch (R343): the slice that runs it, the slice of the band, whether it is the second of the two
tests, and whether the mismatch came in the parallel frame of a return. -/
structure CalBist where
  slice : Nat
  home : Nat
  second : Bool
  back : Bool
  deriving DecidableEq, Repr

/-- Calibration beyond its registers: the due units and those recalled that wait for a stand-in, the running calibrations, the
sensors' last readings, per unit the reading and the instant of its last calibration, the lanes whose sampler is calibration's,
the band that an idle SL16 shadows next, the built-in test in progress and the one that the next boundary starts, the instants
of transient mismatches by slice, the slices whose bands change hands at the next TG0 boundary (R343, R345, R362), and the
bands on the bypass path before that boundary (Table 16.7). -/
structure CalState where
  due : List CalDue := []
  dueNext : Nat := 0
  recalled : List (Nat × Nat) := []
  runs : List CalRun := []
  sensors : SMap Int := []
  refTemp : SMap Int := []
  endedAt : SMap Nat := []
  fallowLanes : List Nat := []
  nextBand : Nat := 0
  bist : Option CalBist := none
  bistNext : Option CalBist := none
  transientAt : SMap Nat := []
  takeover : Option Nat := none
  takeBack : Option Nat := none
  /-- Revived slices that take a band at the next boundary: the slice and the band (R345, R354). -/
  covers : List (Nat × Nat) := []
  /-- SL16 keeps its band for good (R345). -/
  permanent : Bool := false
  bypassNow : Nat := 0
  /-- A gate short has frozen calibration until the layer is ON (Table 16.7). -/
  frozenFront : Bool := false
  frozenRear : Bool := false
  deriving DecidableEq, Repr

/-! ### Pixel path (chapters 3 to 6) -/

/-- The registers and active tables that a frame began with (R91, R125): no frame mixes old and new parameters. -/
structure Snap where
  regs : SMap Word := []
  tbl : SMap Word := []
  deriving DecidableEq, Repr

/-- The front end: the frame in it (from the reader or the link, its format, blank where R240 shows zeros), its parameters, the
targets by 2 × position + the zone processor's parity, and what it has counted in the frame (R93). -/
structure FeState where
  snap : Snap := {}
  store : Bool := false
  /-- Which of the link's frames it is, counted by `PilState.serial`. -/
  serial : Nat := 0
  /-- It began since TG0's last frame boundary: its output starts at the next one (R91). -/
  ahead : Bool := false
  fmt : Nat := 0
  blank : Bool := false
  targets : SMap Rgb := []
  gamut : Nat := 0
  limited : Nat := 0
  set1 : Nat := 0
  deriving DecidableEq, Repr

/-- Where a zone-store swap stands (R119, R120): the frame's bank is complete, a swap sync waits for it, the swap of the
frame before is still due. -/
structure SwapState where
  bankDone : Bool := false
  deferred : Bool := false
  /-- The TG0 frame whose levels the bank holds. -/
  no : Nat := 0
  deriving DecidableEq, Repr

/-- The split: parameters of the zone processor's frame and of the pixels' frame, the parity that tells their fields apart,
the levels and field cells by parity, the filter states, the statistic of the last whole frame and the per-frame counts. -/
structure SplState where
  zoneSnap : Snap := {}
  pixSnap : Snap := {}
  zoneParity : Nat := 0
  /-- The TG0 frame in the zone processor: the one that the next boundary begins (R91). -/
  zoneNo : Nat := 0
  pixParity : Nat := 0
  zonesDecided : Nat := 0
  levels : SMap Rgb := []
  /-- Levels by zone of the last frame whose zone rows were all decided, dead colours 0 (R157). -/
  lastLevels : SMap Rgb := []
  field : SMap Rgb := []
  filter : SMap Nat := []
  globalFilter : SMap Nat := []
  globalStat : Option Rgb := none
  globalLevel : Rgb := ⟨0, 0, 0⟩
  seeding : Bool := true
  syncPending : Bool := false
  seedNext : Bool := true
  /-- A raster commit has made the geometry invalid: FIXED mode (R99); so it stood when the frames of `zoneSnap` and `pixSnap` began. -/
  badRaster : Bool := false
  zoneFixed : Bool := false
  pixFixed : Bool := false
  /-- Input lines that the zone processor has received of its frame (R116), and of the frame before with how many of its zone rows
  were decided. -/
  lines : Nat := 0
  linesWas : Nat := 0
  zonesWas : Nat := 0
  /-- Zone-colours that `BLE` has reported and the next TG0 boundary makes dead (R103). -/
  deadDue : List (Nat × Nat) := []
  clip : Nat := 0
  tmin : Nat := 0
  swap : SwapState := {}
  /-- Front transmittances and rear transmittances of the frame, by pixel. -/
  tFront : SMap Rgb := []
  tRear : SMap Nat := []
  deriving DecidableEq, Repr

/-- Panel compensation: the frame's parameters and lists, the automatic entries that the next TG0 boundary writes, the
streams that fail for the rest of the frame (8 × band + table), the stage A and stage B codes and the frame's counts. -/
structure PcmState where
  snap : Snap := {}
  autoDue : List (Layer × Nat × Nat) := []
  failed : List (Nat × Nat) := []
  codeA : SMap Nat := []
  codeB : SMap Nat := []
  clip : Nat := 0
  masked : Nat := 0
  unmasked : Nat := 0
  /-- Stage A's transmittances clipped, so that an element counts once (R134). -/
  clippedAt : List Nat := []
  /-- The layer whose last element of the frame has left the tiles while the other's has not: 1 front, 2 rear, 0 none. -/
  half : Nat := 0
  deriving DecidableEq, Repr

/-- A thermistor input (R155): its last sixteen codes within the limits, newest first, whether it is excluded, and how many
codes in a row lay within the limits. -/
structure Thermistor where
  codes : List Nat := []
  excluded : Bool := false
  good : Nat := 0
  deriving DecidableEq, Repr

/-- The history of a layer (R159 to R164): the buffer being written, the frame since the restart, a restart that the next
boundary makes, and the band-frames that failed or overflowed in this frame. -/
structure OdrHistory where
  index : Nat := 0
  frame : Nat := 0
  restart : Bool := true
  /-- A commit asks for a restart that the frame makes to which the commit applies (R91, R164). -/
  renew : Bool := false
  failed1 : List Nat := []
  failed2 : List Nat := []
  /-- The history values of the frame in progress, by element. -/
  samples : SMap Nat := []
  /-- Segments stored in the slots that a stream filled, by 16 × buffer + band; the rest is missing (R161). -/
  stored : SMap Nat := []
  /-- Segments of the frame in progress that the encoder has found wrong (R288): band and segment. -/
  badSegs : List (Nat × Nat) := []
  deriving DecidableEq, Repr

/-- Overdrive: the frame's parameters, thermistors, heat states by zone, the frame's zone temperatures, histories and the
output codes by element. -/
structure OdrState where
  snap : Snap := {}
  inputs : SMap Thermistor := []
  heat : SMap Nat := []
  temps : SMap Int := []
  front : OdrHistory := {}
  rear : OdrHistory := {}
  codes : SMap Nat := []
  fullRaised : Bool := false
  /-- The frame in progress is counted as one that used a hold table (R165). -/
  holdCounted : Bool := false
  deriving DecidableEq, Repr

/-- Dither: the frame's parameters, whether the frame before ran slow, whether the frame in progress is counted as frozen (R167),
whether the next frame restarts the phase, the saturated values of the frame, and the exit buffers' N-bit values by element (R150). -/
structure DthState where
  snap : Snap := {}
  wasSlow : Bool := false
  frozenCounted : Bool := false
  restart : Bool := true
  sat : Nat := 0
  /-- The layer whose last element of the frame has left the tiles while the other's has not: 1 front, 2 rear, 0 none. -/
  half : Nat := 0
  values : SMap Nat := []
  deriving DecidableEq, Repr

/-! ### Driver link (chapter 8) -/

/-- The poll of an output flock in the window in progress (R201): the port, its tag, whether the request has gone out, and
whether a commit discards the reply (R202). -/
structure AdlPoll where
  port : Nat
  tag : Nat
  asked : Bool := false
  discard : Bool := false
  deriving DecidableEq, Repr

/-- The driver link beyond its registers: the tag of each port, mismatched packets in a row by lane (R204), the
configuration a rear port still sends (R190), the lines left of the window, the polls by flock, the layers' running CRCs
(read-back in `sig`, computed in `ref`), the signature lane of each port, 0 A, 1 B, 2 none (R205), and the ports that have sent
`CTRL` since they came UP and those that a frame boundary has since let send lines (Table 8.5). -/
structure AdlState where
  tags : SMap Nat := []
  bad : SMap Nat := []
  rearCfg : SMap Word := []
  windowLeft : Nat := 0
  polls : SMap AdlPoll := []
  sig : SMap Nat := []
  ref : SMap Nat := []
  sigLane : SMap Nat := []
  ctrlSent : List Nat := []
  live : List Nat := []
  deriving DecidableEq, Repr

/-! ### Backlight (chapter 9) -/

/-- What a transfer does: a row's words, NOPs, or the steps of the loop test (Table 9.4). -/
inductive BleKind where
  | words (row : Nat)
  | nop
  | bypass
  | pattern
  deriving DecidableEq, Repr

/-- A chain beyond its registers: the rows ready, in order (16 + r: row r of the bank that the split still writes, R221); the
rows already sent from that bank; the transfer that has started and not latched, with its bank; bad status in a row; whether
the first status after a loop test is still to come; the step of a loop test that is due (1 bypass, 2 pattern); whether the
chain was BROKEN before the test; whether it has transferred since the last evaluation of VLED, and a flag it showed. -/
structure BleChain where
  ready : List Nat := []
  served : List Nat := []
  running : Option BleKind := none
  badStatus : Nat := 0
  skipMark : Bool := false
  testStep : Nat := 0
  wasBroken : Bool := false
  swept : Bool := false
  lowHead : Bool := false
  /-- The words that the running transfer gives to zone-colours, by 4 z + c. -/
  words : SMap Nat := []
  deriving DecidableEq, Repr

/-- A scan row's window (R222, R224): lit, its opening waits for a latch, and the pair of ticks that it began with. -/
structure BleWindow where
  lit : Bool := false
  waits : Bool := false
  start : Nat := 0
  stop : Nat := 0
  /-- The start of the frame in which its `START` fell, and the instant from which it has been lit, in 2^(−16) ns. -/
  frame : Nat := 0
  litAt : Nat := 0
  deriving DecidableEq, Repr

/-- A sample of a sensor loop (R228): counts and expected counts, per colour. -/
structure BleSample where
  m : List Nat
  e : List Rat
  deriving DecidableEq, Repr

/-- A sensor loop: the samples in its window, newest first, how many since the clear, failed reads in a row, a read in
progress with the expected counts of its start. -/
structure BleLoop where
  samples : List BleSample := []
  count : Nat := 0
  fails : Nat := 0
  reading : Option (List Rat) := none
  deriving DecidableEq, Repr

/-- The backlight beyond its registers: the zone store by bank × 65,536 + 4 z + c, the zone rows written for the new frame,
the latched inputs (R218), the drivers' last good `TEMP`, the channels disabled by faults (48 × (64 chain + d) + channel)
and those whose first word is TEST, chains, windows, loops and their gains, drive counters in seconds, the last word of each
zone-colour, the supply's failures, and the instants of sync edges. -/
structure BleState where
  zones : SMap Nat := []
  rowsWritten : List Nat := []
  latchedA : Nat := 4096
  latchedAge : SMap Rat := []
  latchedLoop : SMap Nat := []
  latchedTemp : SMap Nat := []
  temps : SMap Nat := []
  disabled : List Nat := []
  testNext : List Nat := []
  chains : SMap BleChain := []
  windows : SMap BleWindow := []
  /-- The windows that began under an old pair and run on while their row's next window has begun (R224). -/
  older : SMap BleWindow := []
  lateRaised : Bool := false
  suppressRaised : Bool := false
  loops : SMap BleLoop := []
  gains : SMap Nat := []
  drive : SMap Rat := []
  sent : SMap Nat := []
  vledFails : Nat := 0
  syncLast : Option Nat := none
  syncHigh : Bool := false
  /-- A sensor write of `BLE_SNS_CMD` waits for a loop read to end (R230). -/
  snsWaits : Bool := false
  /-- `BL_SCANr` outputs that are active. -/
  scan : List Nat := []
  deriving DecidableEq, Repr

/-! ### The whole part -/

/-- The state of the part. -/
structure State where
  /-- The commands that wait, first in, first out. -/
  pending : List Instr := []
  /-- Event occurrences of the command in progress, in the order they happened. -/
  occ : List Occ := []
  /-- What the command in progress sends out of the balls. -/
  out : List Output := []
  /-- Time since the supplies came on the nanosecond scale of house time, in 2^(−16) ns; the idle tick and the steps of a timing
  generator advance it. -/
  now : Nat := 0
  house : HouseTime := {}
  /-- The next free value (the model's own field, assumption log 4). -/
  freeCtr : Nat := 0
  /-- In the cycle of the write in progress hardware sets the W1C flags that the write clears (R15). -/
  sameCycle : Bool := false
  /-- Registers that differ from their reset values, by address; and the shadows written since the last commit. -/
  regs : SMap Word := []
  shadow : SMap Word := []
  /-- Words of the table window that differ from zero, by address: the active copies, and the shadows written. -/
  tbl : SMap Word := []
  tblShadow : SMap Word := []
  /-- Bytes of the configuration NVM that are not 0xFF; the device; and the 4 KiB blocks in which a program job was cut and none has
  been completed since (R434). -/
  nvm : List Host.Cell := []
  nvmDevice : NvmDevice := .quad
  nvmTorn : List Nat := []
  hpt : SMap HptPort := []
  seq : SeqState := {}
  evt : EvtState := {}
  mgt : MgtState := {}
  htm : HtmState := {}
  tal : TalState := {}
  cfg : CfgState := {}
  pwr : PwrState := {}
  pil : PilState := {}
  tg : TgState := {}
  srf : SrfState := {}
  fst : FstState := {}
  lns : SMap LnsLane := []
  cpr : CprState := {}
  cal : CalState := {}
  fe : FeState := {}
  spl : SplState := {}
  pcm : PcmState := {}
  odr : OdrState := {}
  dth : DthState := {}
  adl : AdlState := {}
  ble : BleState := {}
  deriving DecidableEq, Repr

/-- The part right after the supplies come: every register and every table at its reset value, every memory as the spec
leaves it, nothing pending. -/
def State.reset : State := {}

end Sys2Proof.Machine
end

