-- ==== Sys2Proof/Machine/RegMap.lean ====
section
/-! DEFINITION. The register map: every register address of the part, every field, and for every layout its reset value
and access masks, as the register tables of the engine chapters give them (R22, R391, R463; Tables 1.6 to 21.8). -/

namespace Sys2Proof.Machine

namespace R

/-- `PIL_CFG`, Table 2.12. -/
def PIL_CFG : Nat := 0x4000
/-- `PIL_STATUS`, Table 2.12. -/
def PIL_STATUS : Nat := 0x4004
/-- `PIL_FLOCKk_STATUS`, Table 2.12. -/
def PIL_FLOCK_STATUS (u : Nat) : Nat := 0x4010 + 0x4 * u
/-- `PIL_FLOCKk_MAP`, Table 2.12. -/
def PIL_FLOCK_MAP (u : Nat) : Nat := 0x4020 + 0x4 * u
/-- `PIL_MODE`, Table 2.12. -/
def PIL_MODE : Nat := 0x4040
/-- `PIL_SRC_FRAME_NO`, Table 2.12. -/
def PIL_SRC_FRAME_NO : Nat := 0x4044
/-- `PIL_FS_OFFSET`, Table 2.12. -/
def PIL_FS_OFFSET : Nat := 0x4048
/-- `PIL_CNT_CRC`, Table 2.12. -/
def PIL_CNT_CRC : Nat := 0x4060
/-- `PIL_CNT_CONCEAL`, Table 2.12. -/
def PIL_CNT_CONCEAL : Nat := 0x4064
/-- `PIL_CNT_DISCARD`, Table 2.12. -/
def PIL_CNT_DISCARD : Nat := 0x4068
/-- `PIL_CNT_LANE_LOSS`, Table 2.12. -/
def PIL_CNT_LANE_LOSS : Nat := 0x406C
/-- `PIL_CNT_FRAME_SKIP`, Table 2.12. -/
def PIL_CNT_FRAME_SKIP : Nat := 0x4070
/-- `PIL_METAi`, Table 2.12. -/
def PIL_META (u : Nat) : Nat := 0x4080 + 0x4 * u
/-- `PIL_AUX_STATUS`, Table 2.12. -/
def PIL_AUX_STATUS : Nat := 0x40A0
/-- `PIL_AUX_POP`, Table 2.12. -/
def PIL_AUX_POP : Nat := 0x40A4
/-- `FE_CFG`, Table 3.4. -/
def FE_CFG : Nat := 0x8000
/-- `FE_STATUS`, Table 3.4. -/
def FE_STATUS : Nat := 0x8004
/-- `FE_PANEL_Y0`, Table 3.4. -/
def FE_PANEL_Y0 : Nat := 0x8010
/-- `FE_PANEL_Y1`, Table 3.4. -/
def FE_PANEL_Y1 : Nat := 0x8014
/-- `FE_LIMIT`, Table 3.4. -/
def FE_LIMIT : Nat := 0x8018
/-- `FE_PEAK`, Table 3.4. -/
def FE_PEAK : Nat := 0x801C
/-- `FE_CNT_GAMUT`, Table 3.4. -/
def FE_CNT_GAMUT : Nat := 0x8020
/-- `FE_CNT_LIMIT`, Table 3.4. -/
def FE_CNT_LIMIT : Nat := 0x8024
/-- `FE_CNT_SET1`, Table 3.4. -/
def FE_CNT_SET1 : Nat := 0x8028
/-- `FE_SETs_CFG`, Table 3.4. -/
def FE_SET_CFG (u : Nat) : Nat := 0x8040 + 0x40 * u
/-- `FE_SETs_MATi`, Table 3.4. -/
def FE_SET_MAT (u : Nat) (i : Nat) : Nat := 0x8044 + 0x40 * u + 0x4 * i
/-- `FE_SETs_HLGY0`, Table 3.4. -/
def FE_SET_HLGY0 (u : Nat) : Nat := 0x8058 + 0x40 * u
/-- `FE_SETs_HLGY1`, Table 3.4. -/
def FE_SET_HLGY1 (u : Nat) : Nat := 0x805C + 0x40 * u
/-- `SPL_CTRL`, Table 4.3. -/
def SPL_CTRL : Nat := 0xC000
/-- `SPL_CFG`, Table 4.3. -/
def SPL_CFG : Nat := 0xC004
/-- `SPL_STATUS`, Table 4.3. -/
def SPL_STATUS : Nat := 0xC008
/-- `SPL_ZONE_GRID`, Table 4.3. -/
def SPL_ZONE_GRID : Nat := 0xC00C
/-- `SPL_STAT`, Table 4.3. -/
def SPL_STAT : Nat := 0xC010
/-- `SPL_LEVEL`, Table 4.3. -/
def SPL_LEVEL : Nat := 0xC014
/-- `SPL_HEAD`, Table 4.3. -/
def SPL_HEAD : Nat := 0xC018
/-- `SPL_FILTER`, Table 4.3. -/
def SPL_FILTER : Nat := 0xC01C
/-- `SPL_PEAK0`, Table 4.3. -/
def SPL_PEAK0 : Nat := 0xC020
/-- `SPL_PEAK1`, Table 4.3. -/
def SPL_PEAK1 : Nat := 0xC024
/-- `SPL_REAR`, Table 4.3. -/
def SPL_REAR : Nat := 0xC028
/-- `SPL_BLUR0`, Table 4.3. -/
def SPL_BLUR0 : Nat := 0xC02C
/-- `SPL_BLUR1`, Table 4.3. -/
def SPL_BLUR1 : Nat := 0xC030
/-- `SPL_USER`, Table 4.3. -/
def SPL_USER : Nat := 0xC034
/-- `SPL_CNT_CLIP`, Table 4.3. -/
def SPL_CNT_CLIP : Nat := 0xC040
/-- `SPL_CNT_TMIN`, Table 4.3. -/
def SPL_CNT_TMIN : Nat := 0xC044
/-- `SPL_CNT_SYNC`, Table 4.3. -/
def SPL_CNT_SYNC : Nat := 0xC048
/-- `SPL_CNT_BL_SWAP`, Table 4.3. -/
def SPL_CNT_BL_SWAP : Nat := 0xC04C
/-- `SPL_DEAD`, Table 4.3. -/
def SPL_DEAD : Nat := 0xC050
/-- `PCM_CFG`, Table 5.8. -/
def PCM_CFG : Nat := 0x10000
/-- `PCM_STATUS`, Table 5.8. -/
def PCM_STATUS : Nat := 0x10004
/-- `PCM_TABLES`, Table 5.8. -/
def PCM_TABLES : Nat := 0x10008
/-- `PCM_SETs`, Table 5.8. -/
def PCM_SET (u : Nat) : Nat := 0x10010 + 0x4 * u
/-- `PCM_MASK`, Table 5.8. -/
def PCM_MASK : Nat := 0x10020
/-- `PCM_AUTO`, Table 5.8. -/
def PCM_AUTO : Nat := 0x10024
/-- `PCM_PLANEp_CFG`, Table 5.8. -/
def PCM_PLANE_CFG (u : Nat) : Nat := 0x10040 + 0x10 * u
/-- `PCM_PLANEp_KNOT01`, Table 5.8. -/
def PCM_PLANE_KNOT01 (u : Nat) : Nat := 0x10044 + 0x10 * u
/-- `PCM_PLANEp_KNOT23`, Table 5.8. -/
def PCM_PLANE_KNOT23 (u : Nat) : Nat := 0x10048 + 0x10 * u
/-- `PCM_CNT_CLIP`, Table 5.8. -/
def PCM_CNT_CLIP : Nat := 0x10080
/-- `PCM_CNT_MASKED`, Table 5.8. -/
def PCM_CNT_MASKED : Nat := 0x10084
/-- `PCM_CNT_UNMASKED`, Table 5.8. -/
def PCM_CNT_UNMASKED : Nat := 0x10088
/-- `PCM_CNT_DECODE_ERR`, Table 5.8. -/
def PCM_CNT_DECODE_ERR : Nat := 0x1008C
/-- `PCM_CNT_AUTO`, Table 5.8. -/
def PCM_CNT_AUTO : Nat := 0x10090
/-- `PCM_LAST_AUTO`, Table 5.8. -/
def PCM_LAST_AUTO : Nat := 0x10094
/-- `ODR_CFG`, Table 6.4. -/
def ODR_CFG : Nat := 0x14000
/-- `ODR_STATUS`, Table 6.4. -/
def ODR_STATUS : Nat := 0x14004
/-- `ODR_HIST_F`, Table 6.4. -/
def ODR_HIST_F : Nat := 0x14008
/-- `ODR_HIST_R`, Table 6.4. -/
def ODR_HIST_R : Nat := 0x1400C
/-- `ODR_TEMPjk`, Table 6.4. -/
def ODR_TEMP (u : Nat) : Nat := 0x14010 + 0x4 * u
/-- `ODR_TGRID`, Table 6.4. -/
def ODR_TGRID : Nat := 0x14020
/-- `ODR_TMAP0`, Table 6.4. -/
def ODR_TMAP0 : Nat := 0x14024
/-- `ODR_TMAP1`, Table 6.4. -/
def ODR_TMAP1 : Nat := 0x14028
/-- `ODR_TH_LIMITS`, Table 6.4. -/
def ODR_TH_LIMITS : Nat := 0x1402C
/-- `ODR_HEAT`, Table 6.4. -/
def ODR_HEAT : Nat := 0x14030
/-- `ODR_CNT_SYNC`, Table 6.4. -/
def ODR_CNT_SYNC : Nat := 0x14060
/-- `ODR_CNT_HIST_ERR`, Table 6.4. -/
def ODR_CNT_HIST_ERR : Nat := 0x14064
/-- `ODR_CNT_HIST_FULL`, Table 6.4. -/
def ODR_CNT_HIST_FULL : Nat := 0x14068
/-- `ODR_CNT_HOLD`, Table 6.4. -/
def ODR_CNT_HOLD : Nat := 0x1406C
/-- `ODR_CNT_TH_EXCL`, Table 6.4. -/
def ODR_CNT_TH_EXCL : Nat := 0x14070
/-- `ODR_THk_READ`, Table 6.4. -/
def ODR_TH_READ (u : Nat) : Nat := 0x14080 + 0x4 * u
/-- `DTH_CFG`, Table 6.9. -/
def DTH_CFG : Nat := 0x18000
/-- `DTH_STATUS`, Table 6.9. -/
def DTH_STATUS : Nat := 0x18004
/-- `DTH_PLANEp_OFS`, Table 6.9. -/
def DTH_PLANE_OFS (u : Nat) : Nat := 0x18010 + 0x4 * u
/-- `DTH_CNT_RESTART`, Table 6.9. -/
def DTH_CNT_RESTART : Nat := 0x18020
/-- `DTH_CNT_FROZEN`, Table 6.9. -/
def DTH_CNT_FROZEN : Nat := 0x18024
/-- `DTH_CNT_SAT`, Table 6.9. -/
def DTH_CNT_SAT : Nat := 0x18028
/-- `TGn_CFG`, Table 7.8. -/
def TG_CFG (u : Nat) : Nat := 0x1C000 + 0x400 * u
/-- `TGn_STATUS`, Table 7.8. -/
def TG_STATUS (u : Nat) : Nat := 0x1C004 + 0x400 * u
/-- `TGn_LINE_PERIOD`, Table 7.8. -/
def TG_LINE_PERIOD (u : Nat) : Nat := 0x1C008 + 0x400 * u
/-- `TGn_RASTER0`, Table 7.8. -/
def TG_RASTER0 (u : Nat) : Nat := 0x1C00C + 0x400 * u
/-- `TGn_RASTER1`, Table 7.8. -/
def TG_RASTER1 (u : Nat) : Nat := 0x1C010 + 0x400 * u
/-- `TGn_LOCK`, Table 7.8. -/
def TG_LOCK (u : Nat) : Nat := 0x1C014 + 0x400 * u
/-- `TGn_LOCK_OFS`, Table 7.8. -/
def TG_LOCK_OFS (u : Nat) : Nat := 0x1C018 + 0x400 * u
/-- `TGn_HOUSE_RATE`, Table 7.8. -/
def TG_HOUSE_RATE (u : Nat) : Nat := 0x1C01C + 0x400 * u
/-- `TGn_STEP`, Table 7.8. -/
def TG_STEP (u : Nat) : Nat := 0x1C020 + 0x400 * u
/-- `TGn_LINE_MATCH`, Table 7.8. -/
def TG_LINE_MATCH (u : Nat) : Nat := 0x1C024 + 0x400 * u
/-- `TGn_FRAME_NO`, Table 7.8. -/
def TG_FRAME_NO (u : Nat) : Nat := 0x1C028 + 0x400 * u
/-- `TGn_POSITION`, Table 7.8. -/
def TG_POSITION (u : Nat) : Nat := 0x1C02C + 0x400 * u
/-- `TGn_PHASE_ERR`, Table 7.8. -/
def TG_PHASE_ERR (u : Nat) : Nat := 0x1C030 + 0x400 * u
/-- `TGn_CNT_UNDERRUN`, Table 7.8. -/
def TG_CNT_UNDERRUN (u : Nat) : Nat := 0x1C040 + 0x400 * u
/-- `TGn_CNT_SUPPRESS`, Table 7.8. -/
def TG_CNT_SUPPRESS (u : Nat) : Nat := 0x1C044 + 0x400 * u
/-- `TGn_CNT_RELOCK`, Table 7.8. -/
def TG_CNT_RELOCK (u : Nat) : Nat := 0x1C048 + 0x400 * u
/-- `TGn_CNT_STEP`, Table 7.8. -/
def TG_CNT_STEP (u : Nat) : Nat := 0x1C04C + 0x400 * u
/-- `TGn_GATEs_EDGE`, Table 7.8. -/
def TG_GATE_EDGE (u : Nat) (i : Nat) : Nat := 0x1C100 + 0x400 * u + 0x10 * i
/-- `TGn_GATEs_LINES`, Table 7.8. -/
def TG_GATE_LINES (u : Nat) (i : Nat) : Nat := 0x1C104 + 0x400 * u + 0x10 * i
/-- `TGn_GATEs_CFG`, Table 7.8. -/
def TG_GATE_CFG (u : Nat) (i : Nat) : Nat := 0x1C108 + 0x400 * u + 0x10 * i
/-- `TG_PANEL_CTRL`, Table 7.8. -/
def TG_PANEL_CTRL : Nat := 0x1D000
/-- `TG_PANEL_STATUS`, Table 7.8. -/
def TG_PANEL_STATUS : Nat := 0x1D004
/-- `TG_PANEL_TIMING`, Table 7.8. -/
def TG_PANEL_TIMING : Nat := 0x1D008
/-- `TG_PANEL_ENk_CFG`, Table 7.8. -/
def TG_PANEL_EN_CFG (u : Nat) : Nat := 0x1D010 + 0x4 * u
/-- `TG_GATE_SHORT`, Table 7.8. -/
def TG_GATE_SHORT : Nat := 0x1D020
/-- `ADL_PORTnn_CFG`, Table 8.9. -/
def ADL_PORT_CFG (u : Nat) : Nat := 0x20000 + 0x40 * u
/-- `ADL_PORTnn_STATUS`, Table 8.9. -/
def ADL_PORT_STATUS (u : Nat) : Nat := 0x20004 + 0x40 * u
/-- `ADL_PORTnn_REPLY`, Table 8.9. -/
def ADL_PORT_REPLY (u : Nat) : Nat := 0x20008 + 0x40 * u
/-- `ADL_PORTnn_CNT_RB`, Table 8.9. -/
def ADL_PORT_CNT_RB (u : Nat) : Nat := 0x2000C + 0x40 * u
/-- `ADL_PORTnn_CNT_REPEAT`, Table 8.9. -/
def ADL_PORT_CNT_REPEAT (u : Nat) : Nat := 0x20010 + 0x40 * u
/-- `ADL_PORTnn_CNT_POLL_ERR`, Table 8.9. -/
def ADL_PORT_CNT_POLL_ERR (u : Nat) : Nat := 0x20014 + 0x40 * u
/-- `ADL_PORTnn_CNT_FAR_ERR`, Table 8.9. -/
def ADL_PORT_CNT_FAR_ERR (u : Nat) : Nat := 0x20018 + 0x40 * u
/-- `ADL_CFG`, Table 8.9. -/
def ADL_CFG : Nat := 0x21000
/-- `ADL_STATUS`, Table 8.9. -/
def ADL_STATUS : Nat := 0x21004
/-- `ADL_FLOCKk_CFG`, Table 8.9. -/
def ADL_FLOCK_CFG (u : Nat) : Nat := 0x21010 + 0x4 * u
/-- `ADL_FLOCKk_STATUS`, Table 8.9. -/
def ADL_FLOCK_STATUS (u : Nat) : Nat := 0x21030 + 0x4 * u
/-- `ADL_CTRL_F0`, Table 8.9. -/
def ADL_CTRL_F0 : Nat := 0x21060
/-- `ADL_CTRL_F1`, Table 8.9. -/
def ADL_CTRL_F1 : Nat := 0x21064
/-- `ADL_CTRL_R0`, Table 8.9. -/
def ADL_CTRL_R0 : Nat := 0x21068
/-- `ADL_CTRL_R1`, Table 8.9. -/
def ADL_CTRL_R1 : Nat := 0x2106C
/-- `ADL_SIGn`, Table 8.9. -/
def ADL_SIG (u : Nat) : Nat := 0x21080 + 0x10 * u
/-- `ADL_REFn`, Table 8.9. -/
def ADL_REF (u : Nat) : Nat := 0x21084 + 0x10 * u
/-- `ADL_SIG_FRAMEn`, Table 8.9. -/
def ADL_SIG_FRAME (u : Nat) : Nat := 0x21088 + 0x10 * u
/-- `ADL_CNT_LOCKN_LOST`, Table 8.9. -/
def ADL_CNT_LOCKN_LOST : Nat := 0x210A0
/-- `BLE_CHAINnn_CFG`, Table 9.9. -/
def BLE_CHAIN_CFG (u : Nat) : Nat := 0x24000 + 0x80 * u
/-- `BLE_CHAINnn_STATUS`, Table 9.9. -/
def BLE_CHAIN_STATUS (u : Nat) : Nat := 0x24004 + 0x80 * u
/-- `BLE_CHAINnn_CNT_MARK`, Table 9.9. -/
def BLE_CHAIN_CNT_MARK (u : Nat) : Nat := 0x24008 + 0x80 * u
/-- `BLE_CHAINnn_CNT_LATE`, Table 9.9. -/
def BLE_CHAIN_CNT_LATE (u : Nat) : Nat := 0x2400C + 0x80 * u
/-- `BLE_CHAINnn_FAULT`, Table 9.9. -/
def BLE_CHAIN_FAULT (u : Nat) : Nat := 0x24010 + 0x80 * u
/-- `BLE_CFG`, Table 9.9. -/
def BLE_CFG : Nat := 0x25000
/-- `BLE_STATUS`, Table 9.9. -/
def BLE_STATUS : Nat := 0x25004
/-- `BLE_CTRL`, Table 9.9. -/
def BLE_CTRL : Nat := 0x25008
/-- `BLE_SYNC`, Table 9.9. -/
def BLE_SYNC : Nat := 0x2500C
/-- `BLE_SCAN`, Table 9.9. -/
def BLE_SCAN : Nat := 0x25010
/-- `BLE_MASTER`, Table 9.9. -/
def BLE_MASTER : Nat := 0x25014
/-- `BLE_MASTER_NOW`, Table 9.9. -/
def BLE_MASTER_NOW : Nat := 0x25018
/-- `BLE_COLOURc`, Table 9.9. -/
def BLE_COLOUR (u : Nat) : Nat := 0x25020 + 0x4 * u
/-- `BLE_TCOMP`, Table 9.9. -/
def BLE_TCOMP : Nat := 0x25030
/-- `BLE_AGE`, Table 9.9. -/
def BLE_AGE : Nat := 0x25034
/-- `BLE_STROBEr`, Table 9.9. -/
def BLE_STROBE (u : Nat) : Nat := 0x25040 + 0x4 * u
/-- `BLE_VLED_CFG`, Table 9.9. -/
def BLE_VLED_CFG : Nat := 0x25080
/-- `BLE_VLED_LIMITS`, Table 9.9. -/
def BLE_VLED_LIMITS : Nat := 0x25084
/-- `BLE_VLED_NOW`, Table 9.9. -/
def BLE_VLED_NOW : Nat := 0x25088
/-- `BLE_LOOPk_CFG`, Table 9.9. -/
def BLE_LOOP_CFG (u : Nat) : Nat := 0x250A0 + 0x10 * u
/-- `BLE_LOOPk_AREA`, Table 9.9. -/
def BLE_LOOP_AREA (u : Nat) : Nat := 0x250A4 + 0x10 * u
/-- `BLE_LOOPk_REF0`, Table 9.9. -/
def BLE_LOOP_REF0 (u : Nat) : Nat := 0x250A8 + 0x10 * u
/-- `BLE_LOOPk_REF1`, Table 9.9. -/
def BLE_LOOP_REF1 (u : Nat) : Nat := 0x250AC + 0x10 * u
/-- `BLE_LOOP_LIMITS`, Table 9.9. -/
def BLE_LOOP_LIMITS : Nat := 0x250E0
/-- `BLE_LOOPk_STATUS`, Table 9.9. -/
def BLE_LOOP_STATUS (u : Nat) : Nat := 0x250E4 + 0x4 * u
/-- `BLE_SNS_CMD`, Table 9.9. -/
def BLE_SNS_CMD : Nat := 0x25100
/-- `BLE_CNT_SWAP`, Table 9.9. -/
def BLE_CNT_SWAP : Nat := 0x25120
/-- `BLE_CNT_LATE`, Table 9.9. -/
def BLE_CNT_LATE : Nat := 0x25124
/-- `BLE_CNT_SUPPRESS`, Table 9.9. -/
def BLE_CNT_SUPPRESS : Nat := 0x25128
/-- `BLE_CNT_DEAD`, Table 9.9. -/
def BLE_CNT_DEAD : Nat := 0x2512C
/-- `BLE_CNT_VLED_UP`, Table 9.9. -/
def BLE_CNT_VLED_UP : Nat := 0x25130
/-- `BLE_CNT_VLED_DOWN`, Table 9.9. -/
def BLE_CNT_VLED_DOWN : Nat := 0x25134
/-- `BLE_CNT_SNS_ERR`, Table 9.9. -/
def BLE_CNT_SNS_ERR : Nat := 0x25138
/-- `BLE_CNT_SETTLE`, Table 9.9. -/
def BLE_CNT_SETTLE : Nat := 0x2513C
/-- `BLE_CNT_SYNC_IGN`, Table 9.9. -/
def BLE_CNT_SYNC_IGN : Nat := 0x25140
/-- `BLE_CNT_SPL_DROP`, Table 9.9. -/
def BLE_CNT_SPL_DROP : Nat := 0x25144
/-- `SRF_CFG`, Table 10.5. -/
def SRF_CFG : Nat := 0x28000
/-- `SRF_STATUS`, Table 10.5. -/
def SRF_STATUS : Nat := 0x28004
/-- `SRF_CTRL`, Table 10.5. -/
def SRF_CTRL : Nat := 0x28008
/-- `SRF_SRC`, Table 10.5. -/
def SRF_SRC : Nat := 0x2800C
/-- `SRF_STAGE`, Table 10.5. -/
def SRF_STAGE : Nat := 0x28010
/-- `SRF_FRONT_NO`, Table 10.5. -/
def SRF_FRONT_NO : Nat := 0x28014
/-- `SRF_CNT_ENTER`, Table 10.5. -/
def SRF_CNT_ENTER : Nat := 0x28020
/-- `SRF_CNT_HELD`, Table 10.5. -/
def SRF_CNT_HELD : Nat := 0x28024
/-- `SRF_CNT_SWAP_WAIT`, Table 10.5. -/
def SRF_CNT_SWAP_WAIT : Nat := 0x28028
/-- `SRF_CNT_SWAP`, Table 10.5. -/
def SRF_CNT_SWAP : Nat := 0x2802C
/-- `SRF_CNT_SUPERSEDED`, Table 10.5. -/
def SRF_CNT_SUPERSEDED : Nat := 0x28030
/-- `SRF_CNT_LOST`, Table 10.5. -/
def SRF_CNT_LOST : Nat := 0x28034
/-- `SRF_CNT_OVERLAP`, Table 10.5. -/
def SRF_CNT_OVERLAP : Nat := 0x28038
/-- `SRF_CNT_REFUSED`, Table 10.5. -/
def SRF_CNT_REFUSED : Nat := 0x2803C
/-- `SRF_Hn_RESULT_LO`, Table 10.5. -/
def SRF_H_RESULT_LO (u : Nat) : Nat := 0x28040 + 0x8 * u
/-- `SRF_Hn_RESULT_HI`, Table 10.5. -/
def SRF_H_RESULT_HI (u : Nat) : Nat := 0x28044 + 0x8 * u
/-- `SRF_RSss_CFG`, Table 10.5. -/
def SRF_RS_CFG (u : Nat) : Nat := 0x28100 + 0x20 * u
/-- `SRF_RSss_RECT0`, Table 10.5. -/
def SRF_RS_RECT0 (u : Nat) : Nat := 0x28104 + 0x20 * u
/-- `SRF_RSss_RECT1`, Table 10.5. -/
def SRF_RS_RECT1 (u : Nat) : Nat := 0x28108 + 0x20 * u
/-- `SRF_RSss_DATA`, Table 10.5. -/
def SRF_RS_DATA (u : Nat) : Nat := 0x2810C + 0x20 * u
/-- `SRF_RSss_FMT`, Table 10.5. -/
def SRF_RS_FMT (u : Nat) : Nat := 0x28110 + 0x20 * u
/-- `SRF_RSss_TAG`, Table 10.5. -/
def SRF_RS_TAG (u : Nat) : Nat := 0x28114 + 0x20 * u
/-- `SRF_RSss_CMD`, Table 10.5. -/
def SRF_RS_CMD (u : Nat) : Nat := 0x28118 + 0x20 * u
/-- `SRF_RSss_STATUS`, Table 10.5. -/
def SRF_RS_STATUS (u : Nat) : Nat := 0x2811C + 0x20 * u
/-- `FST_FOLDnn_OWNER`, Table 11.5. -/
def FST_FOLD_OWNER (u : Nat) : Nat := 0x2C000 + 0x40 * u
/-- `FST_FOLDnn_RETAIN`, Table 11.5. -/
def FST_FOLD_RETAIN (u : Nat) : Nat := 0x2C004 + 0x40 * u
/-- `FST_FOLDnn_STATUS`, Table 11.5. -/
def FST_FOLD_STATUS (u : Nat) : Nat := 0x2C008 + 0x40 * u
/-- `FST_CFG`, Table 11.5. -/
def FST_CFG : Nat := 0x2D000
/-- `FST_FLAGS`, Table 11.5. -/
def FST_FLAGS : Nat := 0x2D004
/-- `FST_UE_ADDR`, Table 11.5. -/
def FST_UE_ADDR : Nat := 0x2D008
/-- `FST_COLLIDE_ADDR`, Table 11.5. -/
def FST_COLLIDE_ADDR : Nat := 0x2D00C
/-- `FST_CNT_CE`, Table 11.5. -/
def FST_CNT_CE : Nat := 0x2D020
/-- `FST_CNT_UE`, Table 11.5. -/
def FST_CNT_UE : Nat := 0x2D024
/-- `FST_CNT_CONCEAL`, Table 11.5. -/
def FST_CNT_CONCEAL : Nat := 0x2D028
/-- `FST_CNT_COLLIDE`, Table 11.5. -/
def FST_CNT_COLLIDE : Nat := 0x2D02C
/-- `FST_CNT_FOREIGN`, Table 11.5. -/
def FST_CNT_FOREIGN : Nat := 0x2D030
/-- `FST_CNT_OFF_ACCESS`, Table 11.5. -/
def FST_CNT_OFF_ACCESS : Nat := 0x2D034
/-- `FST_CNT_GRAZE_PASS`, Table 11.5. -/
def FST_CNT_GRAZE_PASS : Nat := 0x2D038
/-- `FST_LOCKED_STATUS`, Table 11.5. -/
def FST_LOCKED_STATUS : Nat := 0x2D040
/-- `CPR_CFG`, Table 12.6. -/
def CPR_CFG : Nat := 0x30000
/-- `CPR_STATUS`, Table 12.6. -/
def CPR_STATUS : Nat := 0x30004
/-- `CPR_RINGr_BASE`, Table 12.6. -/
def CPR_RING_BASE (u : Nat) : Nat := 0x30040 + 0x40 * u
/-- `CPR_RINGr_SIZE`, Table 12.6. -/
def CPR_RING_SIZE (u : Nat) : Nat := 0x30044 + 0x40 * u
/-- `CPR_RINGr_TAIL`, Table 12.6. -/
def CPR_RING_TAIL (u : Nat) : Nat := 0x30048 + 0x40 * u
/-- `CPR_RINGr_HEAD`, Table 12.6. -/
def CPR_RING_HEAD (u : Nat) : Nat := 0x3004C + 0x40 * u
/-- `CPR_RINGr_STATUS`, Table 12.6. -/
def CPR_RING_STATUS (u : Nat) : Nat := 0x30050 + 0x40 * u
/-- `CPR_RINGr_CTRL`, Table 12.6. -/
def CPR_RING_CTRL (u : Nat) : Nat := 0x30054 + 0x40 * u
/-- `CPR_RINGr_DONE_LO`, Table 12.6. -/
def CPR_RING_DONE_LO (u : Nat) : Nat := 0x30058 + 0x40 * u
/-- `CPR_RINGr_DONE_HI`, Table 12.6. -/
def CPR_RING_DONE_HI (u : Nat) : Nat := 0x3005C + 0x40 * u
/-- `CPR_RINGr_DONE_LEN`, Table 12.6. -/
def CPR_RING_DONE_LEN (u : Nat) : Nat := 0x30060 + 0x40 * u
/-- `CPR_CNT_JOBS`, Table 12.6. -/
def CPR_CNT_JOBS : Nat := 0x30200
/-- `CPR_CNT_FAILED`, Table 12.6. -/
def CPR_CNT_FAILED : Nat := 0x30204
/-- `CPR_CNT_RAW_SEG`, Table 12.6. -/
def CPR_CNT_RAW_SEG : Nat := 0x30208
/-- `CPR_CNT_VERIFY`, Table 12.6. -/
def CPR_CNT_VERIFY : Nat := 0x3020C
/-- `LNS_LANEnnn_CFG`, Table 13.4. -/
def LNS_LANE_CFG (u : Nat) : Nat := 0x34000 + 0x40 * u
/-- `LNS_LANEnnn_STATUS`, Table 13.4. -/
def LNS_LANE_STATUS (u : Nat) : Nat := 0x34004 + 0x40 * u
/-- `LNS_LANEnnn_TX`, Table 13.4. -/
def LNS_LANE_TX (u : Nat) : Nat := 0x34008 + 0x40 * u
/-- `LNS_LANEnnn_RX`, Table 13.4. -/
def LNS_LANE_RX (u : Nat) : Nat := 0x3400C + 0x40 * u
/-- `LNS_LANEnnn_DFE`, Table 13.4. -/
def LNS_LANE_DFE (u : Nat) : Nat := 0x34010 + 0x40 * u
/-- `LNS_LANEnnn_EYE`, Table 13.4. -/
def LNS_LANE_EYE (u : Nat) : Nat := 0x34014 + 0x40 * u
/-- `LNS_LANEnnn_TRIM`, Table 13.4. -/
def LNS_LANE_TRIM (u : Nat) : Nat := 0x34018 + 0x40 * u
/-- `LNS_LANEnnn_SCAN`, Table 13.4. -/
def LNS_LANE_SCAN (u : Nat) : Nat := 0x3401C + 0x40 * u
/-- `LNS_LANEnnn_SCAN_RESULT`, Table 13.4. -/
def LNS_LANE_SCAN_RESULT (u : Nat) : Nat := 0x34020 + 0x40 * u
/-- `LNS_LANEnnn_SLIP`, Table 13.4. -/
def LNS_LANE_SLIP (u : Nat) : Nat := 0x34024 + 0x40 * u
/-- `LNS_LANEnnn_CNT_SYM`, Table 13.4. -/
def LNS_LANE_CNT_SYM (u : Nat) : Nat := 0x34028 + 0x40 * u
/-- `LNS_LANEnnn_CNT_DISP`, Table 13.4. -/
def LNS_LANE_CNT_DISP (u : Nat) : Nat := 0x3402C + 0x40 * u
/-- `LNS_LANEnnn_CNT_LOSS`, Table 13.4. -/
def LNS_LANE_CNT_LOSS (u : Nat) : Nat := 0x34030 + 0x40 * u
/-- `LNS_CFG`, Table 13.4. -/
def LNS_CFG : Nat := 0x37000
/-- `LNS_PLL_STATUS`, Table 13.4. -/
def LNS_PLL_STATUS : Nat := 0x37004
/-- `HTM_CFG`, Table 14.4. -/
def HTM_CFG : Nat := 0x38000
/-- `HTM_STATUS`, Table 14.4. -/
def HTM_STATUS : Nat := 0x38004
/-- `HTM_NOW_NS`, Table 14.4. -/
def HTM_NOW_NS : Nat := 0x38010
/-- `HTM_NOW_SEC_LO`, Table 14.4. -/
def HTM_NOW_SEC_LO : Nat := 0x38014
/-- `HTM_NOW_SEC_HI`, Table 14.4. -/
def HTM_NOW_SEC_HI : Nat := 0x38018
/-- `HTM_FREQ`, Table 14.4. -/
def HTM_FREQ : Nat := 0x38020
/-- `HTM_STEP_SEC`, Table 14.4. -/
def HTM_STEP_SEC : Nat := 0x38024
/-- `HTM_STEP_NS`, Table 14.4. -/
def HTM_STEP_NS : Nat := 0x38028
/-- `HTM_SERVO`, Table 14.4. -/
def HTM_SERVO : Nat := 0x38030
/-- `HTM_STEP_LIMIT`, Table 14.4. -/
def HTM_STEP_LIMIT : Nat := 0x38034
/-- `HTM_LAT`, Table 14.4. -/
def HTM_LAT : Nat := 0x38038
/-- `HTM_MAC_LO`, Table 14.4. -/
def HTM_MAC_LO : Nat := 0x38040
/-- `HTM_MAC_HI`, Table 14.4. -/
def HTM_MAC_HI : Nat := 0x38044
/-- `HTM_IP`, Table 14.4. -/
def HTM_IP : Nat := 0x38048
/-- `HTM_NET`, Table 14.4. -/
def HTM_NET : Nat := 0x3804C
/-- `HTM_OFFSET`, Table 14.4. -/
def HTM_OFFSET : Nat := 0x38050
/-- `HTM_PATH_DELAY`, Table 14.4. -/
def HTM_PATH_DELAY : Nat := 0x38054
/-- `HTM_UTC`, Table 14.4. -/
def HTM_UTC : Nat := 0x38058
/-- `HTM_GM_ID_LO`, Table 14.4. -/
def HTM_GM_ID_LO : Nat := 0x38060
/-- `HTM_GM_ID_HI`, Table 14.4. -/
def HTM_GM_ID_HI : Nat := 0x38064
/-- `HTM_GM_CLASS`, Table 14.4. -/
def HTM_GM_CLASS : Nat := 0x38068
/-- `HTM_PPS_TOD_LO`, Table 14.4. -/
def HTM_PPS_TOD_LO : Nat := 0x38070
/-- `HTM_PPS_TOD_HI`, Table 14.4. -/
def HTM_PPS_TOD_HI : Nat := 0x38074
/-- `HTM_PPS_OFS`, Table 14.4. -/
def HTM_PPS_OFS : Nat := 0x38078
/-- `HTM_MDIO`, Table 14.4. -/
def HTM_MDIO : Nat := 0x38080
/-- `HTM_CNT_SYNC`, Table 14.4. -/
def HTM_CNT_SYNC : Nat := 0x38090
/-- `HTM_CNT_DELAY`, Table 14.4. -/
def HTM_CNT_DELAY : Nat := 0x38094
/-- `HTM_CNT_DROP`, Table 14.4. -/
def HTM_CNT_DROP : Nat := 0x38098
/-- `HTM_CNT_STEP`, Table 14.4. -/
def HTM_CNT_STEP : Nat := 0x3809C
/-- `HTM_CNT_HOLDOVER`, Table 14.4. -/
def HTM_CNT_HOLDOVER : Nat := 0x380A0
/-- `HTM_CNT_PPS_IGN`, Table 14.4. -/
def HTM_CNT_PPS_IGN : Nat := 0x380A4
/-- `CAL_CFG`, Table 15.5. -/
def CAL_CFG : Nat := 0x3C000
/-- `CAL_STATUS`, Table 15.5. -/
def CAL_STATUS : Nat := 0x3C004
/-- `CAL_REQ`, Table 15.5. -/
def CAL_REQ : Nat := 0x3C008
/-- `CAL_LAST`, Table 15.5. -/
def CAL_LAST : Nat := 0x3C00C
/-- `CAL_LAST_Q`, Table 15.5. -/
def CAL_LAST_Q : Nat := 0x3C010
/-- `CAL_CNT_DONE`, Table 15.5. -/
def CAL_CNT_DONE : Nat := 0x3C020
/-- `CAL_CNT_UNSTABLE`, Table 15.5. -/
def CAL_CNT_UNSTABLE : Nat := 0x3C024
/-- `CAL_CNT_SKIP`, Table 15.5. -/
def CAL_CNT_SKIP : Nat := 0x3C028
/-- `CAL_CNT_RECALL`, Table 15.5. -/
def CAL_CNT_RECALL : Nat := 0x3C02C
/-- `CAL_CNT_POSTPONE`, Table 15.5. -/
def CAL_CNT_POSTPONE : Nat := 0x3C030
/-- `CAL_CNT_MISMATCH`, Table 15.5. -/
def CAL_CNT_MISMATCH : Nat := 0x3C034
/-- `CAL_CNT_RETIRE`, Table 15.5. -/
def CAL_CNT_RETIRE : Nat := 0x3C038
/-- `MGT_CFG`, Table 16.9. -/
def MGT_CFG : Nat := 0x40000
/-- `MGT_STATUS`, Table 16.9. -/
def MGT_STATUS : Nat := 0x40004
/-- `MGT_CTRL`, Table 16.9. -/
def MGT_CTRL : Nat := 0x40008
/-- `MGT_LOAD`, Table 16.9. -/
def MGT_LOAD : Nat := 0x4000C
/-- `MGT_DOG`, Table 16.9. -/
def MGT_DOG : Nat := 0x40010
/-- `MGT_AVS_CFG`, Table 16.9. -/
def MGT_AVS_CFG : Nat := 0x40020
/-- `MGT_AVS_LIMITS`, Table 16.9. -/
def MGT_AVS_LIMITS : Nat := 0x40024
/-- `MGT_AVS_NOW`, Table 16.9. -/
def MGT_AVS_NOW : Nat := 0x40028
/-- `MGT_REC_STATUS`, Table 16.9. -/
def MGT_REC_STATUS : Nat := 0x40040
/-- `MGT_CNT_DOG`, Table 16.9. -/
def MGT_CNT_DOG : Nat := 0x40060
/-- `MGT_CNT_REBOOT_FAIL`, Table 16.9. -/
def MGT_CNT_REBOOT_FAIL : Nat := 0x40064
/-- `MGT_CNT_DEFER_C4`, Table 16.9. -/
def MGT_CNT_DEFER_C4 : Nat := 0x40068
/-- `MGT_CNT_DEFER_C3`, Table 16.9. -/
def MGT_CNT_DEFER_C3 : Nat := 0x4006C
/-- `MGT_CNT_REPLAN`, Table 16.9. -/
def MGT_CNT_REPLAN : Nat := 0x40070
/-- `MGT_CNT_GUARD`, Table 16.9. -/
def MGT_CNT_GUARD : Nat := 0x40074
/-- `MGT_CNT_ABORTED`, Table 16.9. -/
def MGT_CNT_ABORTED : Nat := 0x40078
/-- `MGT_MBn_ARGi`, Table 16.9. -/
def MGT_MB_ARG (u : Nat) (i : Nat) : Nat := 0x40100 + 0x20 * u + 0x4 * i
/-- `MGT_MBn_CMD`, Table 16.9. -/
def MGT_MB_CMD (u : Nat) : Nat := 0x40110 + 0x20 * u
/-- `MGT_MBn_DONE_LO`, Table 16.9. -/
def MGT_MB_DONE_LO (u : Nat) : Nat := 0x40114 + 0x20 * u
/-- `MGT_MBn_DONE_HI`, Table 16.9. -/
def MGT_MB_DONE_HI (u : Nat) : Nat := 0x40118 + 0x20 * u
/-- `MGT_MBn_DONE_DATA`, Table 16.9. -/
def MGT_MB_DONE_DATA (u : Nat) : Nat := 0x4011C + 0x20 * u
/-- `DEV_ID`, Table 17.9. -/
def DEV_ID : Nat := 0x0
/-- `DEV_STATUS`, Table 17.9. -/
def DEV_STATUS : Nat := 0x4
/-- `DEV_COMMIT`, Table 17.9. -/
def DEV_COMMIT : Nat := 0x10
/-- `DEV_PATH_STATUS`, Table 17.9. -/
def DEV_PATH_STATUS : Nat := 0x40
/-- `DEV_OWN_CTRL`, Table 17.9. -/
def DEV_OWN_CTRL : Nat := 0x80
/-- `DEV_OWN_ENG0`, Table 17.9. -/
def DEV_OWN_ENG0 : Nat := 0x84
/-- `DEV_OWN_ENG1`, Table 17.9. -/
def DEV_OWN_ENG1 : Nat := 0x88
/-- `DEV_OWN_SLOT`, Table 17.9. -/
def DEV_OWN_SLOT : Nat := 0x8C
/-- `DEV_OWN_SEQ`, Table 17.9. -/
def DEV_OWN_SEQ : Nat := 0x90
/-- `DEV_OWN_DELEG`, Table 17.9. -/
def DEV_OWN_DELEG : Nat := 0x94
/-- `DEV_OWN_EVTi`, Table 17.9. -/
def DEV_OWN_EVT (u : Nat) : Nat := 0x100 + 0x4 * u
/-- `HPT_Pn_STATUS`, Table 17.11. -/
def HPT_P_STATUS (u : Nat) : Nat := 0x44000 + 0x40 * u
/-- `HPT_Pn_ERR_ADDR`, Table 17.11. -/
def HPT_P_ERR_ADDR (u : Nat) : Nat := 0x44004 + 0x40 * u
/-- `HPT_Pn_CNT_BUSY`, Table 17.11. -/
def HPT_P_CNT_BUSY (u : Nat) : Nat := 0x44008 + 0x40 * u
/-- `HPT_Pn_CNT_ERR`, Table 17.11. -/
def HPT_P_CNT_ERR (u : Nat) : Nat := 0x4400C + 0x40 * u
/-- `SEQ_SLOTs_BASE`, Table 17.12. -/
def SEQ_SLOT_BASE (u : Nat) : Nat := 0x48000 + 0x20 * u
/-- `SEQ_SLOTs_TAG`, Table 17.12. -/
def SEQ_SLOT_TAG (u : Nat) : Nat := 0x48004 + 0x20 * u
/-- `SEQ_SLOTs_HOLD`, Table 17.12. -/
def SEQ_SLOT_HOLD (u : Nat) : Nat := 0x48008 + 0x20 * u
/-- `SEQ_SLOTs_CTRL`, Table 17.12. -/
def SEQ_SLOT_CTRL (u : Nat) : Nat := 0x4800C + 0x20 * u
/-- `SEQ_SLOTs_STATUS`, Table 17.12. -/
def SEQ_SLOT_STATUS (u : Nat) : Nat := 0x48010 + 0x20 * u
/-- `SEQ_Hn_DONE_LO`, Table 17.12. -/
def SEQ_H_DONE_LO (u : Nat) : Nat := 0x48200 + 0x8 * u
/-- `SEQ_Hn_DONE_HI`, Table 17.12. -/
def SEQ_H_DONE_HI (u : Nat) : Nat := 0x48204 + 0x8 * u
/-- `EVT_SRCnnn_CFG`, Table 18.2. -/
def EVT_SRC_CFG (u : Nat) : Nat := 0x4C000 + 0x4 * u
/-- `EVT_Hn_CFG`, Table 18.2. -/
def EVT_H_CFG (u : Nat) : Nat := 0x4C800 + 0x20 * u
/-- `EVT_Hn_STATUS`, Table 18.2. -/
def EVT_H_STATUS (u : Nat) : Nat := 0x4C804 + 0x20 * u
/-- `EVT_Hn_POP`, Table 18.2. -/
def EVT_H_POP (u : Nat) : Nat := 0x4C808 + 0x20 * u
/-- `EVT_Hn_POP_HI`, Table 18.2. -/
def EVT_H_POP_HI (u : Nat) : Nat := 0x4C80C + 0x20 * u
/-- `EVT_Hn_CNT_REC`, Table 18.2. -/
def EVT_H_CNT_REC (u : Nat) : Nat := 0x4C810 + 0x20 * u
/-- `EVT_Hn_CNT_MERGE`, Table 18.2. -/
def EVT_H_CNT_MERGE (u : Nat) : Nat := 0x4C814 + 0x20 * u
/-- `EVT_Hn_CNT_HELD`, Table 18.2. -/
def EVT_H_CNT_HELD (u : Nat) : Nat := 0x4C818 + 0x20 * u
/-- `TAL_CFG`, Table 19.5. -/
def TAL_CFG : Nat := 0x50000
/-- `TAL_CTRL`, Table 19.5. -/
def TAL_CTRL : Nat := 0x50004
/-- `TAL_STATUS`, Table 19.5. -/
def TAL_STATUS : Nat := 0x50008
/-- `TAL_SEQ`, Table 19.5. -/
def TAL_SEQ : Nat := 0x5000C
/-- `TAL_BANKb_HOLD`, Table 19.5. -/
def TAL_BANK_HOLD (u : Nat) : Nat := 0x50010 + 0x4 * u
/-- `TAL_DEFERRED`, Table 19.5. -/
def TAL_DEFERRED : Nat := 0x50018
/-- `TAL_CNT_MERGED`, Table 19.5. -/
def TAL_CNT_MERGED : Nat := 0x5001C
/-- `TAL_LOG_CFG`, Table 19.5. -/
def TAL_LOG_CFG : Nat := 0x50040
/-- `TAL_LOG_STATUS`, Table 19.5. -/
def TAL_LOG_STATUS : Nat := 0x50044
/-- `TAL_LOG_SEQ`, Table 19.5. -/
def TAL_LOG_SEQ : Nat := 0x50048
/-- `TAL_CNT_LOG_WRITE`, Table 19.5. -/
def TAL_CNT_LOG_WRITE : Nat := 0x5004C
/-- `TAL_CNT_LOG_FAIL`, Table 19.5. -/
def TAL_CNT_LOG_FAIL : Nat := 0x50050
/-- `CFG_STATUS`, Table 20.9. -/
def CFG_STATUS : Nat := 0x54000
/-- `CFG_CTRL`, Table 20.9. -/
def CFG_CTRL : Nat := 0x54004
/-- `CFG_IMAGE_SEQ`, Table 20.9. -/
def CFG_IMAGE_SEQ : Nat := 0x54008
/-- `CFG_LC`, Table 20.9. -/
def CFG_LC : Nat := 0x54010
/-- `CFG_LC_CMD`, Table 20.9. -/
def CFG_LC_CMD : Nat := 0x54014
/-- `CFG_KEYHASHi`, Table 20.9. -/
def CFG_KEYHASH (u : Nat) : Nat := 0x54020 + 0x4 * u
/-- `CFG_FUSE`, Table 20.9. -/
def CFG_FUSE : Nat := 0x54040
/-- `CFG_NV_ADDR`, Table 20.9. -/
def CFG_NV_ADDR : Nat := 0x54060
/-- `CFG_NV_BUF`, Table 20.9. -/
def CFG_NV_BUF : Nat := 0x54064
/-- `CFG_NV_LEN`, Table 20.9. -/
def CFG_NV_LEN : Nat := 0x54068
/-- `CFG_NV_CMD`, Table 20.9. -/
def CFG_NV_CMD : Nat := 0x5406C
/-- `CFG_NV_STATUS`, Table 20.9. -/
def CFG_NV_STATUS : Nat := 0x54070
/-- `PWR_CFG`, Table 21.7. -/
def PWR_CFG : Nat := 0x58000
/-- `PWR_STATUS`, Table 21.7. -/
def PWR_STATUS : Nat := 0x58004
/-- `PWR_RAILS`, Table 21.7. -/
def PWR_RAILS : Nat := 0x58008
/-- `PWR_CNT_SWITCH`, Table 21.7. -/
def PWR_CNT_SWITCH : Nat := 0x58010
/-- `PWR_CNT_DENIED`, Table 21.7. -/
def PWR_CNT_DENIED : Nat := 0x58014
/-- `PWR_DOMdd`, Table 21.8. -/
def PWR_DOM (dd : Nat) : Nat := 0x58100 + 4 * dd
/-- `SLC_SLICEk_STATUS`, Table 15.9. -/
def SLC_SLICE_STATUS (u : Nat) : Nat := 0x5C000 + 0x200 * u
/-- `SLC_SLICEk_TAPS`, Table 15.9. -/
def SLC_SLICE_TAPS (u : Nat) : Nat := 0x5C004 + 0x200 * u
/-- `SLC_SLICEk_FIELD`, Table 15.9. -/
def SLC_SLICE_FIELD (u : Nat) : Nat := 0x5C008 + 0x200 * u
/-- `SLC_SLICEk_CAL`, Table 15.9. -/
def SLC_SLICE_CAL (u : Nat) : Nat := 0x5C00C + 0x200 * u

end R

namespace F

def PIL_CFG_SPARE_EN : FRef := ⟨R.PIL_CFG, 27, 24⟩
def PIL_CFG_FLOCK_EN : FRef := ⟨R.PIL_CFG, 19, 16⟩
def PIL_CFG_RATE : FRef := ⟨R.PIL_CFG, 2, 0⟩
def PIL_STATUS_SLEEP : FRef := ⟨R.PIL_STATUS, 21, 20⟩
def PIL_STATUS_FLOCK_UP : FRef := ⟨R.PIL_STATUS, 19, 16⟩
def PIL_STATUS_LINK_STATE : FRef := ⟨R.PIL_STATUS, 1, 0⟩
def PIL_FLOCK_STATUS_SKEW (u : Nat) : FRef := ⟨(R.PIL_FLOCK_STATUS u), 31, 24⟩
def PIL_FLOCK_STATUS_ROT_STATE (u : Nat) : FRef := ⟨(R.PIL_FLOCK_STATUS u), 22, 20⟩
def PIL_FLOCK_STATUS_SPARE_SERVES (u : Nat) : FRef := ⟨(R.PIL_FLOCK_STATUS u), 18, 16⟩
def PIL_FLOCK_STATUS_POL_INV (u : Nat) : FRef := ⟨(R.PIL_FLOCK_STATUS u), 15, 8⟩
def PIL_FLOCK_STATUS_LOCK (u : Nat) : FRef := ⟨(R.PIL_FLOCK_STATUS u), 7, 0⟩
def PIL_FLOCK_MAP_PHYS (u : Nat) : FRef := ⟨(R.PIL_FLOCK_MAP u), 23, 0⟩
def PIL_MODE_FORMAT : FRef := ⟨R.PIL_MODE, 31, 30⟩
def PIL_MODE_ACTIVE_H : FRef := ⟨R.PIL_MODE, 29, 16⟩
def PIL_MODE_ACTIVE_W : FRef := ⟨R.PIL_MODE, 13, 0⟩
def PIL_SRC_FRAME_NO_FRAME_NO : FRef := ⟨R.PIL_SRC_FRAME_NO, 31, 0⟩
def PIL_FS_OFFSET_OFFSET : FRef := ⟨R.PIL_FS_OFFSET, 31, 0⟩
def PIL_AUX_STATUS_ENTRIES : FRef := ⟨R.PIL_AUX_STATUS, 15, 8⟩
def PIL_AUX_STATUS_LENGTH : FRef := ⟨R.PIL_AUX_STATUS, 7, 0⟩
def PIL_AUX_POP_DATA : FRef := ⟨R.PIL_AUX_POP, 31, 0⟩
def FE_CFG_TBL_RETAIN : FRef := ⟨R.FE_CFG, 8, 8⟩
def FE_CFG_FLAGS_AS_KEY : FRef := ⟨R.FE_CFG, 4, 4⟩
def FE_CFG_SET : FRef := ⟨R.FE_CFG, 0, 0⟩
def FE_STATUS_TBL_PENDING : FRef := ⟨R.FE_STATUS, 1, 1⟩
def FE_STATUS_ACTIVE_SET : FRef := ⟨R.FE_STATUS, 0, 0⟩
def FE_PANEL_Y0_WR : FRef := ⟨R.FE_PANEL_Y0, 31, 16⟩
def FE_PANEL_Y0_WG : FRef := ⟨R.FE_PANEL_Y0, 15, 0⟩
def FE_PANEL_Y1_WB : FRef := ⟨R.FE_PANEL_Y1, 31, 16⟩
def FE_LIMIT_MODE : FRef := ⟨R.FE_LIMIT, 1, 0⟩
def FE_PEAK_PEAK : FRef := ⟨R.FE_PEAK, 31, 16⟩
def FE_PEAK_START : FRef := ⟨R.FE_PEAK, 15, 0⟩
def FE_SET_CFG_KNEE (u : Nat) : FRef := ⟨(R.FE_SET_CFG u), 31, 16⟩
def FE_SET_CFG_GAMUT (u : Nat) : FRef := ⟨(R.FE_SET_CFG u), 5, 4⟩
def FE_SET_CFG_EOTF (u : Nat) : FRef := ⟨(R.FE_SET_CFG u), 2, 0⟩
def FE_SET_HLGY0_KR (u : Nat) : FRef := ⟨(R.FE_SET_HLGY0 u), 31, 16⟩
def FE_SET_HLGY0_KG (u : Nat) : FRef := ⟨(R.FE_SET_HLGY0 u), 15, 0⟩
def FE_SET_HLGY1_KB (u : Nat) : FRef := ⟨(R.FE_SET_HLGY1 u), 31, 16⟩
def SPL_CTRL_SYNC_RESET : FRef := ⟨R.SPL_CTRL, 0, 0⟩
def SPL_CFG_TBL_RETAIN : FRef := ⟨R.SPL_CFG, 31, 31⟩
def SPL_CFG_LOOKAHEAD : FRef := ⟨R.SPL_CFG, 24, 16⟩
def SPL_CFG_SHIFT : FRef := ⟨R.SPL_CFG, 11, 8⟩
def SPL_CFG_FC : FRef := ⟨R.SPL_CFG, 5, 4⟩
def SPL_CFG_BL_MODE : FRef := ⟨R.SPL_CFG, 3, 2⟩
def SPL_CFG_REAR_EN : FRef := ⟨R.SPL_CFG, 0, 0⟩
def SPL_STATUS_LA_EFF : FRef := ⟨R.SPL_STATUS, 31, 23⟩
def SPL_STATUS_LA_MIN : FRef := ⟨R.SPL_STATUS, 22, 14⟩
def SPL_STATUS_TBL_PENDING : FRef := ⟨R.SPL_STATUS, 2, 2⟩
def SPL_STATUS_SEEDED : FRef := ⟨R.SPL_STATUS, 1, 1⟩
def SPL_STATUS_GEOM_REJECTED : FRef := ⟨R.SPL_STATUS, 0, 0⟩
def SPL_ZONE_GRID_ROWS : FRef := ⟨R.SPL_ZONE_GRID, 23, 16⟩
def SPL_ZONE_GRID_COLS : FRef := ⟨R.SPL_ZONE_GRID, 7, 0⟩
def SPL_STAT_DIL_X : FRef := ⟨R.SPL_STAT, 29, 24⟩
def SPL_STAT_DIL_Y : FRef := ⟨R.SPL_STAT, 21, 16⟩
def SPL_STAT_MIX : FRef := ⟨R.SPL_STAT, 15, 0⟩
def SPL_LEVEL_MIN : FRef := ⟨R.SPL_LEVEL, 31, 16⟩
def SPL_LEVEL_MAX : FRef := ⟨R.SPL_LEVEL, 15, 0⟩
def SPL_HEAD_DEAD_BOOST : FRef := ⟨R.SPL_HEAD, 31, 16⟩
def SPL_HEAD_HR : FRef := ⟨R.SPL_HEAD, 15, 0⟩
def SPL_FILTER_ATTACK : FRef := ⟨R.SPL_FILTER, 31, 16⟩
def SPL_FILTER_DECAY : FRef := ⟨R.SPL_FILTER, 15, 0⟩
def SPL_PEAK0_PEAK_R : FRef := ⟨R.SPL_PEAK0, 31, 16⟩
def SPL_PEAK0_PEAK_G : FRef := ⟨R.SPL_PEAK0, 15, 0⟩
def SPL_PEAK1_PEAK_B : FRef := ⟨R.SPL_PEAK1, 31, 16⟩
def SPL_PEAK1_FIXED : FRef := ⟨R.SPL_PEAK1, 15, 0⟩
def SPL_REAR_BETA : FRef := ⟨R.SPL_REAR, 31, 16⟩
def SPL_REAR_TMIN : FRef := ⟨R.SPL_REAR, 15, 0⟩
def SPL_BLUR0_K0 : FRef := ⟨R.SPL_BLUR0, 31, 16⟩
def SPL_BLUR0_K1 : FRef := ⟨R.SPL_BLUR0, 15, 0⟩
def SPL_BLUR1_K2 : FRef := ⟨R.SPL_BLUR1, 31, 16⟩
def SPL_USER_BRIGHT : FRef := ⟨R.SPL_USER, 15, 0⟩
def SPL_DEAD_COLOUR : FRef := ⟨R.SPL_DEAD, 31, 30⟩
def SPL_DEAD_ZONE : FRef := ⟨R.SPL_DEAD, 29, 16⟩
def SPL_DEAD_COUNT : FRef := ⟨R.SPL_DEAD, 15, 0⟩
def PCM_CFG_TBL_RETAIN : FRef := ⟨R.PCM_CFG, 31, 31⟩
def PCM_CFG_AUTO_EN : FRef := ⟨R.PCM_CFG, 2, 2⟩
def PCM_CFG_MASK_EN : FRef := ⟨R.PCM_CFG, 1, 1⟩
def PCM_CFG_EN : FRef := ⟨R.PCM_CFG, 0, 0⟩
def PCM_STATUS_REJECT_REASON : FRef := ⟨R.PCM_STATUS, 11, 8⟩
def PCM_STATUS_LIST_FULL : FRef := ⟨R.PCM_STATUS, 4, 4⟩
def PCM_STATUS_MASK_UNAVAIL : FRef := ⟨R.PCM_STATUS, 3, 3⟩
def PCM_STATUS_REJECTED : FRef := ⟨R.PCM_STATUS, 2, 2⟩
def PCM_STATUS_TBL_PENDING : FRef := ⟨R.PCM_STATUS, 1, 1⟩
def PCM_STATUS_ACTIVE_SET : FRef := ⟨R.PCM_STATUS, 0, 0⟩
def PCM_TABLES_SET : FRef := ⟨R.PCM_TABLES, 0, 0⟩
def PCM_SET_COUNT (u : Nat) : FRef := ⟨(R.PCM_SET u), 13, 8⟩
def PCM_SET_BASE (u : Nat) : FRef := ⟨(R.PCM_SET u), 5, 0⟩
def PCM_MASK_KMIN : FRef := ⟨R.PCM_MASK, 31, 16⟩
def PCM_MASK_RING : FRef := ⟨R.PCM_MASK, 15, 0⟩
def PCM_AUTO_SHARE : FRef := ⟨R.PCM_AUTO, 15, 0⟩
def PCM_PLANE_CFG_UNIT (u : Nat) : FRef := ⟨(R.PCM_PLANE_CFG u), 5, 4⟩
def PCM_PLANE_CFG_GAIN_EN (u : Nat) : FRef := ⟨(R.PCM_PLANE_CFG u), 1, 1⟩
def PCM_PLANE_CFG_MURA_EN (u : Nat) : FRef := ⟨(R.PCM_PLANE_CFG u), 0, 0⟩
def PCM_PLANE_KNOT01_K1 (u : Nat) : FRef := ⟨(R.PCM_PLANE_KNOT01 u), 31, 16⟩
def PCM_PLANE_KNOT01_K0 (u : Nat) : FRef := ⟨(R.PCM_PLANE_KNOT01 u), 15, 0⟩
def PCM_PLANE_KNOT23_K3 (u : Nat) : FRef := ⟨(R.PCM_PLANE_KNOT23 u), 31, 16⟩
def PCM_PLANE_KNOT23_K2 (u : Nat) : FRef := ⟨(R.PCM_PLANE_KNOT23 u), 15, 0⟩
def PCM_LAST_AUTO_VALID : FRef := ⟨R.PCM_LAST_AUTO, 31, 31⟩
def PCM_LAST_AUTO_LAYER : FRef := ⟨R.PCM_LAST_AUTO, 30, 30⟩
def PCM_LAST_AUTO_COLOUR : FRef := ⟨R.PCM_LAST_AUTO, 29, 28⟩
def PCM_LAST_AUTO_SLOT : FRef := ⟨R.PCM_LAST_AUTO, 27, 22⟩
def PCM_LAST_AUTO_INDEX : FRef := ⟨R.PCM_LAST_AUTO, 12, 0⟩
def ODR_CFG_TBL_RETAIN : FRef := ⟨R.ODR_CFG, 31, 31⟩
def ODR_CFG_NTEMP : FRef := ⟨R.ODR_CFG, 10, 8⟩
def ODR_CFG_HOLD_EN : FRef := ⟨R.ODR_CFG, 3, 3⟩
def ODR_CFG_PER_COLOUR : FRef := ⟨R.ODR_CFG, 2, 2⟩
def ODR_CFG_REAR_EN : FRef := ⟨R.ODR_CFG, 1, 1⟩
def ODR_CFG_FRONT_EN : FRef := ⟨R.ODR_CFG, 0, 0⟩
def ODR_STATUS_HIST_NEED_R : FRef := ⟨R.ODR_STATUS, 29, 24⟩
def ODR_STATUS_HIST_NEED_F : FRef := ⟨R.ODR_STATUS, 21, 16⟩
def ODR_STATUS_REJECT_REASON : FRef := ⟨R.ODR_STATUS, 11, 8⟩
def ODR_STATUS_REJECTED : FRef := ⟨R.ODR_STATUS, 7, 7⟩
def ODR_STATUS_TBL_PENDING : FRef := ⟨R.ODR_STATUS, 6, 6⟩
def ODR_STATUS_HOLD_R : FRef := ⟨R.ODR_STATUS, 5, 5⟩
def ODR_STATUS_HOLD_F : FRef := ⟨R.ODR_STATUS, 4, 4⟩
def ODR_STATUS_HIST_R : FRef := ⟨R.ODR_STATUS, 3, 2⟩
def ODR_STATUS_HIST_F : FRef := ⟨R.ODR_STATUS, 1, 0⟩
def ODR_HIST_F_COUNT : FRef := ⟨R.ODR_HIST_F, 13, 8⟩
def ODR_HIST_F_BASE : FRef := ⟨R.ODR_HIST_F, 5, 0⟩
def ODR_HIST_R_COUNT : FRef := ⟨R.ODR_HIST_R, 13, 8⟩
def ODR_HIST_R_BASE : FRef := ⟨R.ODR_HIST_R, 5, 0⟩
def ODR_TEMP_HI (u : Nat) : FRef := ⟨(R.ODR_TEMP u), 31, 16⟩
def ODR_TEMP_LO (u : Nat) : FRef := ⟨(R.ODR_TEMP u), 15, 0⟩
def ODR_TGRID_DEFAULT : FRef := ⟨R.ODR_TGRID, 31, 16⟩
def ODR_TGRID_ROWS : FRef := ⟨R.ODR_TGRID, 10, 8⟩
def ODR_TGRID_COLS : FRef := ⟨R.ODR_TGRID, 2, 0⟩
def ODR_TMAP0_NODES : FRef := ⟨R.ODR_TMAP0, 31, 0⟩
def ODR_TMAP1_NODES : FRef := ⟨R.ODR_TMAP1, 31, 0⟩
def ODR_TH_LIMITS_HI : FRef := ⟨R.ODR_TH_LIMITS, 27, 16⟩
def ODR_TH_LIMITS_LO : FRef := ⟨R.ODR_TH_LIMITS, 11, 0⟩
def ODR_HEAT_ALPHA : FRef := ⟨R.ODR_HEAT, 31, 16⟩
def ODR_HEAT_COEF : FRef := ⟨R.ODR_HEAT, 15, 0⟩
def ODR_TH_READ_VALID (u : Nat) : FRef := ⟨(R.ODR_TH_READ u), 31, 31⟩
def ODR_TH_READ_ADC (u : Nat) : FRef := ⟨(R.ODR_TH_READ u), 27, 16⟩
def ODR_TH_READ_TEMP (u : Nat) : FRef := ⟨(R.ODR_TH_READ u), 15, 0⟩
def DTH_CFG_TBL_RETAIN : FRef := ⟨R.DTH_CFG, 31, 31⟩
def DTH_CFG_TEMPORAL_EN : FRef := ⟨R.DTH_CFG, 8, 8⟩
def DTH_CFG_REAR_MODE : FRef := ⟨R.DTH_CFG, 7, 6⟩
def DTH_CFG_FRONT_MODE : FRef := ⟨R.DTH_CFG, 5, 4⟩
def DTH_CFG_REAR_BITS : FRef := ⟨R.DTH_CFG, 3, 2⟩
def DTH_CFG_FRONT_BITS : FRef := ⟨R.DTH_CFG, 1, 0⟩
def DTH_STATUS_TBL_PENDING : FRef := ⟨R.DTH_STATUS, 4, 4⟩
def DTH_STATUS_FROZEN_R : FRef := ⟨R.DTH_STATUS, 3, 3⟩
def DTH_STATUS_FROZEN_F : FRef := ⟨R.DTH_STATUS, 2, 2⟩
def DTH_STATUS_PHASE : FRef := ⟨R.DTH_STATUS, 1, 0⟩
def DTH_PLANE_OFS_OY (u : Nat) : FRef := ⟨(R.DTH_PLANE_OFS u), 21, 16⟩
def DTH_PLANE_OFS_OX (u : Nat) : FRef := ⟨(R.DTH_PLANE_OFS u), 5, 0⟩
def TG_CFG_EN (u : Nat) : FRef := ⟨(R.TG_CFG u), 31, 31⟩
def TG_CFG_WRAP_EN (u : Nat) : FRef := ⟨(R.TG_CFG u), 8, 8⟩
def TG_CFG_LEADER (u : Nat) : FRef := ⟨(R.TG_CFG u), 5, 4⟩
def TG_CFG_LOCK_SRC (u : Nat) : FRef := ⟨(R.TG_CFG u), 2, 0⟩
def TG_STATUS_LOCK_STATE (u : Nat) : FRef := ⟨(R.TG_STATUS u), 15, 13⟩
def TG_STATUS_STEP (u : Nat) : FRef := ⟨(R.TG_STATUS u), 9, 8⟩
def TG_STATUS_PAIR_REJECTED (u : Nat) : FRef := ⟨(R.TG_STATUS u), 1, 1⟩
def TG_STATUS_RASTER_REJECTED (u : Nat) : FRef := ⟨(R.TG_STATUS u), 0, 0⟩
def TG_LINE_PERIOD_NS (u : Nat) : FRef := ⟨(R.TG_LINE_PERIOD u), 31, 16⟩
def TG_LINE_PERIOD_FRAC (u : Nat) : FRef := ⟨(R.TG_LINE_PERIOD u), 15, 0⟩
def TG_RASTER0_VTOTAL (u : Nat) : FRef := ⟨(R.TG_RASTER0 u), 31, 16⟩
def TG_RASTER0_VACTIVE (u : Nat) : FRef := ⟨(R.TG_RASTER0 u), 12, 0⟩
def TG_RASTER1_WIDTH (u : Nat) : FRef := ⟨(R.TG_RASTER1 u), 12, 0⟩
def TG_LOCK_RATIO (u : Nat) : FRef := ⟨(R.TG_LOCK u), 31, 28⟩
def TG_LOCK_DERIVE (u : Nat) : FRef := ⟨(R.TG_LOCK u), 24, 24⟩
def TG_LOCK_WINDOW (u : Nat) : FRef := ⟨(R.TG_LOCK u), 23, 16⟩
def TG_LOCK_PULL (u : Nat) : FRef := ⟨(R.TG_LOCK u), 9, 0⟩
def TG_LOCK_OFS_OFS (u : Nat) : FRef := ⟨(R.TG_LOCK_OFS u), 31, 0⟩
def TG_HOUSE_RATE_NUM (u : Nat) : FRef := ⟨(R.TG_HOUSE_RATE u), 31, 12⟩
def TG_HOUSE_RATE_DEN (u : Nat) : FRef := ⟨(R.TG_HOUSE_RATE u), 11, 0⟩
def TG_STEP_STATIC_N (u : Nat) : FRef := ⟨(R.TG_STEP u), 15, 8⟩
def TG_STEP_MIN (u : Nat) : FRef := ⟨(R.TG_STEP u), 3, 2⟩
def TG_STEP_ALLOW (u : Nat) : FRef := ⟨(R.TG_STEP u), 1, 0⟩
def TG_LINE_MATCH_LINE (u : Nat) : FRef := ⟨(R.TG_LINE_MATCH u), 15, 0⟩
def TG_GATE_EDGE_STOP (u i : Nat) : FRef := ⟨(R.TG_GATE_EDGE u i), 27, 16⟩
def TG_GATE_EDGE_START (u i : Nat) : FRef := ⟨(R.TG_GATE_EDGE u i), 11, 0⟩
def TG_GATE_LINES_LAST (u i : Nat) : FRef := ⟨(R.TG_GATE_LINES u i), 31, 16⟩
def TG_GATE_LINES_FIRST (u i : Nat) : FRef := ⟨(R.TG_GATE_LINES u i), 15, 0⟩
def TG_GATE_CFG_STEP (u i : Nat) : FRef := ⟨(R.TG_GATE_CFG u i), 11, 8⟩
def TG_GATE_CFG_DISCH (u i : Nat) : FRef := ⟨(R.TG_GATE_CFG u i), 2, 2⟩
def TG_GATE_CFG_PARK (u i : Nat) : FRef := ⟨(R.TG_GATE_CFG u i), 1, 1⟩
def TG_GATE_CFG_POL (u i : Nat) : FRef := ⟨(R.TG_GATE_CFG u i), 0, 0⟩
def TG_PANEL_CTRL_ON_R : FRef := ⟨R.TG_PANEL_CTRL, 1, 1⟩
def TG_PANEL_CTRL_ON_F : FRef := ⟨R.TG_PANEL_CTRL, 0, 0⟩
def TG_PANEL_STATUS_STATE_R : FRef := ⟨R.TG_PANEL_STATUS, 6, 4⟩
def TG_PANEL_STATUS_STATE_F : FRef := ⟨R.TG_PANEL_STATUS, 2, 0⟩
def TG_PANEL_TIMING_DISCH_MS : FRef := ⟨R.TG_PANEL_TIMING, 31, 24⟩
def TG_PANEL_TIMING_BLACK_FRAMES : FRef := ⟨R.TG_PANEL_TIMING, 19, 16⟩
def TG_PANEL_TIMING_GATE_DELAY : FRef := ⟨R.TG_PANEL_TIMING, 7, 0⟩
def TG_PANEL_EN_CFG_LAYER (u : Nat) : FRef := ⟨(R.TG_PANEL_EN_CFG u), 31, 31⟩
def TG_PANEL_EN_CFG_OFF_DELAY (u : Nat) : FRef := ⟨(R.TG_PANEL_EN_CFG u), 15, 8⟩
def TG_PANEL_EN_CFG_ON_DELAY (u : Nat) : FRef := ⟨(R.TG_PANEL_EN_CFG u), 7, 0⟩
def TG_GATE_SHORT_REAR : FRef := ⟨R.TG_GATE_SHORT, 31, 16⟩
def TG_GATE_SHORT_FRONT : FRef := ⟨R.TG_GATE_SHORT, 15, 0⟩
def ADL_PORT_CFG_EN (u : Nat) : FRef := ⟨(R.ADL_PORT_CFG u), 31, 31⟩
def ADL_PORT_CFG_LAYER (u : Nat) : FRef := ⟨(R.ADL_PORT_CFG u), 30, 30⟩
def ADL_PORT_CFG_PIXELS (u : Nat) : FRef := ⟨(R.ADL_PORT_CFG u), 25, 16⟩
def ADL_PORT_CFG_FIRST_COL (u : Nat) : FRef := ⟨(R.ADL_PORT_CFG u), 12, 0⟩
def ADL_PORT_STATUS_STATE (u : Nat) : FRef := ⟨(R.ADL_PORT_STATUS u), 31, 29⟩
def ADL_PORT_STATUS_LANE_OFF_B (u : Nat) : FRef := ⟨(R.ADL_PORT_STATUS u), 28, 28⟩
def ADL_PORT_STATUS_LANE_OFF_A (u : Nat) : FRef := ⟨(R.ADL_PORT_STATUS u), 27, 27⟩
def ADL_PORT_STATUS_FAR_B (u : Nat) : FRef := ⟨(R.ADL_PORT_STATUS u), 26, 26⟩
def ADL_PORT_STATUS_FAR_A (u : Nat) : FRef := ⟨(R.ADL_PORT_STATUS u), 25, 25⟩
def ADL_PORT_STATUS_POL_B (u : Nat) : FRef := ⟨(R.ADL_PORT_STATUS u), 24, 24⟩
def ADL_PORT_STATUS_POL_A (u : Nat) : FRef := ⟨(R.ADL_PORT_STATUS u), 23, 23⟩
def ADL_PORT_STATUS_LAST_CAUSE (u : Nat) : FRef := ⟨(R.ADL_PORT_STATUS u), 22, 20⟩
def ADL_PORT_STATUS_TEMP (u : Nat) : FRef := ⟨(R.ADL_PORT_STATUS u), 19, 12⟩
def ADL_PORT_STATUS_OPEN_CH (u : Nat) : FRef := ⟨(R.ADL_PORT_STATUS u), 9, 0⟩
def ADL_CFG_LAUNCH_R : FRef := ⟨R.ADL_CFG, 27, 16⟩
def ADL_CFG_LAUNCH_F : FRef := ⟨R.ADL_CFG, 11, 0⟩
def ADL_STATUS_REJECT_REASON : FRef := ⟨R.ADL_STATUS, 11, 8⟩
def ADL_STATUS_SIG_DIFF_R : FRef := ⟨R.ADL_STATUS, 3, 3⟩
def ADL_STATUS_SIG_DIFF_F : FRef := ⟨R.ADL_STATUS, 2, 2⟩
def ADL_STATUS_REJECTED : FRef := ⟨R.ADL_STATUS, 1, 1⟩
def ADL_STATUS_GAPS : FRef := ⟨R.ADL_STATUS, 0, 0⟩
def ADL_FLOCK_CFG_RATE (u : Nat) : FRef := ⟨(R.ADL_FLOCK_CFG u), 2, 0⟩
def ADL_FLOCK_STATUS_WINDOW (u : Nat) : FRef := ⟨(R.ADL_FLOCK_STATUS u), 9, 9⟩
def ADL_FLOCK_STATUS_POLLING (u : Nat) : FRef := ⟨(R.ADL_FLOCK_STATUS u), 8, 8⟩
def ADL_FLOCK_STATUS_LOCKN (u : Nat) : FRef := ⟨(R.ADL_FLOCK_STATUS u), 7, 7⟩
def ADL_FLOCK_STATUS_NEXT (u : Nat) : FRef := ⟨(R.ADL_FLOCK_STATUS u), 2, 0⟩
def ADL_CTRL_F0_OE_DELAY : FRef := ⟨R.ADL_CTRL_F0, 31, 16⟩
def ADL_CTRL_F0_SLEW : FRef := ⟨R.ADL_CTRL_F0, 10, 8⟩
def ADL_CTRL_F0_INV : FRef := ⟨R.ADL_CTRL_F0, 2, 0⟩
def ADL_CTRL_F1_OE_WIDTH : FRef := ⟨R.ADL_CTRL_F1, 31, 16⟩
def ADL_CTRL_R0_OE_DELAY : FRef := ⟨R.ADL_CTRL_R0, 31, 16⟩
def ADL_CTRL_R0_SLEW : FRef := ⟨R.ADL_CTRL_R0, 10, 8⟩
def ADL_CTRL_R0_INV : FRef := ⟨R.ADL_CTRL_R0, 2, 0⟩
def ADL_CTRL_R1_OE_WIDTH : FRef := ⟨R.ADL_CTRL_R1, 31, 16⟩
def ADL_SIG_CRC (u : Nat) : FRef := ⟨(R.ADL_SIG u), 31, 0⟩
def ADL_REF_CRC (u : Nat) : FRef := ⟨(R.ADL_REF u), 31, 0⟩
def ADL_SIG_FRAME_FRAME_NO (u : Nat) : FRef := ⟨(R.ADL_SIG_FRAME u), 31, 0⟩
def BLE_CHAIN_CFG_EN (u : Nat) : FRef := ⟨(R.BLE_CHAIN_CFG u), 31, 31⟩
def BLE_CHAIN_CFG_DRIVERS (u : Nat) : FRef := ⟨(R.BLE_CHAIN_CFG u), 29, 24⟩
def BLE_CHAIN_CFG_ROW (u : Nat) : FRef := ⟨(R.BLE_CHAIN_CFG u), 23, 20⟩
def BLE_CHAIN_CFG_RET_DELAY (u : Nat) : FRef := ⟨(R.BLE_CHAIN_CFG u), 19, 16⟩
def BLE_CHAIN_CFG_CLKDIV (u : Nat) : FRef := ⟨(R.BLE_CHAIN_CFG u), 6, 0⟩
def BLE_CHAIN_STATUS_STATE (u : Nat) : FRef := ⟨(R.BLE_CHAIN_STATUS u), 31, 30⟩
def BLE_CHAIN_STATUS_LAST_CAUSE (u : Nat) : FRef := ⟨(R.BLE_CHAIN_STATUS u), 29, 27⟩
def BLE_CHAIN_STATUS_LOOP_OK (u : Nat) : FRef := ⟨(R.BLE_CHAIN_STATUS u), 26, 26⟩
def BLE_CHAIN_STATUS_LEN_FOUND (u : Nat) : FRef := ⟨(R.BLE_CHAIN_STATUS u), 25, 20⟩
def BLE_CHAIN_STATUS_TEMP_MAX (u : Nat) : FRef := ⟨(R.BLE_CHAIN_STATUS u), 7, 0⟩
def BLE_CHAIN_FAULT_VALID (u : Nat) : FRef := ⟨(R.BLE_CHAIN_FAULT u), 31, 31⟩
def BLE_CHAIN_FAULT_SHORT (u : Nat) : FRef := ⟨(R.BLE_CHAIN_FAULT u), 30, 30⟩
def BLE_CHAIN_FAULT_DRIVER (u : Nat) : FRef := ⟨(R.BLE_CHAIN_FAULT u), 29, 24⟩
def BLE_CHAIN_FAULT_CHANNEL (u : Nat) : FRef := ⟨(R.BLE_CHAIN_FAULT u), 5, 0⟩
def BLE_CFG_TBL_RETAIN : FRef := ⟨R.BLE_CFG, 31, 31⟩
def BLE_CFG_CURVE : FRef := ⟨R.BLE_CFG, 7, 6⟩
def BLE_CFG_EARLY : FRef := ⟨R.BLE_CFG, 5, 5⟩
def BLE_CFG_SOURCE : FRef := ⟨R.BLE_CFG, 4, 4⟩
def BLE_CFG_HYBRID : FRef := ⟨R.BLE_CFG, 1, 1⟩
def BLE_CFG_EN : FRef := ⟨R.BLE_CFG, 0, 0⟩
def BLE_STATUS_REJECT_REASON : FRef := ⟨R.BLE_STATUS, 11, 8⟩
def BLE_STATUS_SYNC_IN_OK : FRef := ⟨R.BLE_STATUS, 6, 6⟩
def BLE_STATUS_RAMPING : FRef := ⟨R.BLE_STATUS, 5, 5⟩
def BLE_STATUS_TBL_PENDING : FRef := ⟨R.BLE_STATUS, 4, 4⟩
def BLE_STATUS_REJECTED : FRef := ⟨R.BLE_STATUS, 3, 3⟩
def BLE_STATUS_LIT : FRef := ⟨R.BLE_STATUS, 2, 2⟩
def BLE_STATUS_SWAP_PENDING : FRef := ⟨R.BLE_STATUS, 1, 1⟩
def BLE_STATUS_BANK : FRef := ⟨R.BLE_STATUS, 0, 0⟩
def BLE_CTRL_CLEAR_DEAD : FRef := ⟨R.BLE_CTRL, 2, 2⟩
def BLE_CTRL_LOOP_TEST : FRef := ⟨R.BLE_CTRL, 1, 1⟩
def BLE_CTRL_SWAP : FRef := ⟨R.BLE_CTRL, 0, 0⟩
def BLE_SYNC_SRC : FRef := ⟨R.BLE_SYNC, 31, 30⟩
def BLE_SYNC_OUT_WIDTH : FRef := ⟨R.BLE_SYNC, 23, 16⟩
def BLE_SCAN_MUX : FRef := ⟨R.BLE_SCAN, 4, 4⟩
def BLE_SCAN_ROWS : FRef := ⟨R.BLE_SCAN, 3, 0⟩
def BLE_MASTER_TARGET : FRef := ⟨R.BLE_MASTER, 28, 16⟩
def BLE_MASTER_RATE : FRef := ⟨R.BLE_MASTER, 11, 0⟩
def BLE_COLOUR_ISCALE (u : Nat) : FRef := ⟨(R.BLE_COLOUR u), 29, 24⟩
def BLE_COLOUR_PWM_MIN (u : Nat) : FRef := ⟨(R.BLE_COLOUR u), 15, 0⟩
def BLE_TCOMP_BASE : FRef := ⟨R.BLE_TCOMP, 31, 24⟩
def BLE_TCOMP_STEP : FRef := ⟨R.BLE_TCOMP, 15, 8⟩
def BLE_TCOMP_DEFAULT : FRef := ⟨R.BLE_TCOMP, 7, 0⟩
def BLE_AGE_EN : FRef := ⟨R.BLE_AGE, 31, 31⟩
def BLE_AGE_STEP : FRef := ⟨R.BLE_AGE, 15, 0⟩
def BLE_STROBE_STOP (u : Nat) : FRef := ⟨(R.BLE_STROBE u), 27, 16⟩
def BLE_STROBE_START (u : Nat) : FRef := ⟨(R.BLE_STROBE u), 11, 0⟩
def BLE_VLED_CFG_EN : FRef := ⟨R.BLE_VLED_CFG, 31, 31⟩
def BLE_VLED_CFG_ADDR : FRef := ⟨R.BLE_VLED_CFG, 30, 24⟩
def BLE_VLED_CFG_PEC : FRef := ⟨R.BLE_VLED_CFG, 23, 23⟩
def BLE_VLED_CFG_EXP : FRef := ⟨R.BLE_VLED_CFG, 20, 16⟩
def BLE_VLED_CFG_SETTLE : FRef := ⟨R.BLE_VLED_CFG, 7, 0⟩
def BLE_VLED_LIMITS_MAX : FRef := ⟨R.BLE_VLED_LIMITS, 31, 16⟩
def BLE_VLED_LIMITS_MIN : FRef := ⟨R.BLE_VLED_LIMITS, 15, 0⟩
def BLE_VLED_NOW_FAULT : FRef := ⟨R.BLE_VLED_NOW, 31, 31⟩
def BLE_VLED_NOW_MV : FRef := ⟨R.BLE_VLED_NOW, 15, 0⟩
def BLE_LOOP_CFG_EN (u : Nat) : FRef := ⟨(R.BLE_LOOP_CFG u), 31, 31⟩
def BLE_LOOP_CFG_ADDR (u : Nat) : FRef := ⟨(R.BLE_LOOP_CFG u), 30, 24⟩
def BLE_LOOP_CFG_REG (u : Nat) : FRef := ⟨(R.BLE_LOOP_CFG u), 23, 16⟩
def BLE_LOOP_CFG_LE (u : Nat) : FRef := ⟨(R.BLE_LOOP_CFG u), 15, 15⟩
def BLE_LOOP_CFG_PERIOD (u : Nat) : FRef := ⟨(R.BLE_LOOP_CFG u), 11, 0⟩
def BLE_LOOP_AREA_X1 (u : Nat) : FRef := ⟨(R.BLE_LOOP_AREA u), 31, 24⟩
def BLE_LOOP_AREA_X0 (u : Nat) : FRef := ⟨(R.BLE_LOOP_AREA u), 23, 16⟩
def BLE_LOOP_AREA_Y1 (u : Nat) : FRef := ⟨(R.BLE_LOOP_AREA u), 14, 8⟩
def BLE_LOOP_AREA_Y0 (u : Nat) : FRef := ⟨(R.BLE_LOOP_AREA u), 6, 0⟩
def BLE_LOOP_REF0_REF_R (u : Nat) : FRef := ⟨(R.BLE_LOOP_REF0 u), 31, 16⟩
def BLE_LOOP_REF0_REF_G (u : Nat) : FRef := ⟨(R.BLE_LOOP_REF0 u), 15, 0⟩
def BLE_LOOP_REF1_REF_B (u : Nat) : FRef := ⟨(R.BLE_LOOP_REF1 u), 31, 16⟩
def BLE_LOOP_REF1_K (u : Nat) : FRef := ⟨(R.BLE_LOOP_REF1 u), 15, 0⟩
def BLE_LOOP_LIMITS_GMAX : FRef := ⟨R.BLE_LOOP_LIMITS, 31, 16⟩
def BLE_LOOP_LIMITS_GMIN : FRef := ⟨R.BLE_LOOP_LIMITS, 15, 0⟩
def BLE_LOOP_STATUS_STATE (u : Nat) : FRef := ⟨(R.BLE_LOOP_STATUS u), 31, 30⟩
def BLE_LOOP_STATUS_OUTPUTS (u : Nat) : FRef := ⟨(R.BLE_LOOP_STATUS u), 15, 0⟩
def BLE_SNS_CMD_GO : FRef := ⟨R.BLE_SNS_CMD, 31, 31⟩
def BLE_SNS_CMD_ADDR : FRef := ⟨R.BLE_SNS_CMD, 30, 24⟩
def BLE_SNS_CMD_REG : FRef := ⟨R.BLE_SNS_CMD, 23, 16⟩
def BLE_SNS_CMD_DATA : FRef := ⟨R.BLE_SNS_CMD, 15, 8⟩
def BLE_SNS_CMD_RESULT : FRef := ⟨R.BLE_SNS_CMD, 1, 0⟩
def SRF_CFG_IDLE_FRAMES : FRef := ⟨R.SRF_CFG, 15, 8⟩
def SRF_CFG_LINK_EN : FRef := ⟨R.SRF_CFG, 0, 0⟩
def SRF_STATUS_ACTIVE : FRef := ⟨R.SRF_STATUS, 31, 31⟩
def SRF_STATUS_CAUSE : FRef := ⟨R.SRF_STATUS, 30, 27⟩
def SRF_STATUS_FRONT : FRef := ⟨R.SRF_STATUS, 26, 26⟩
def SRF_STATUS_FILLING : FRef := ⟨R.SRF_STATUS, 25, 25⟩
def SRF_STATUS_WAITING : FRef := ⟨R.SRF_STATUS, 24, 24⟩
def SRF_STATUS_LAYOUT_MISMATCH : FRef := ⟨R.SRF_STATUS, 23, 23⟩
def SRF_STATUS_SRC_NEED : FRef := ⟨R.SRF_STATUS, 21, 16⟩
def SRF_STATUS_REJECT_REASON : FRef := ⟨R.SRF_STATUS, 11, 8⟩
def SRF_STATUS_REJECTED : FRef := ⟨R.SRF_STATUS, 0, 0⟩
def SRF_CTRL_EXIT : FRef := ⟨R.SRF_CTRL, 1, 1⟩
def SRF_CTRL_ENTER : FRef := ⟨R.SRF_CTRL, 0, 0⟩
def SRF_SRC_COUNT : FRef := ⟨R.SRF_SRC, 13, 8⟩
def SRF_SRC_BASE : FRef := ⟨R.SRF_SRC, 5, 0⟩
def SRF_STAGE_COUNT : FRef := ⟨R.SRF_STAGE, 13, 8⟩
def SRF_STAGE_BASE : FRef := ⟨R.SRF_STAGE, 5, 0⟩
def SRF_H_RESULT_LO_VALID (u : Nat) : FRef := ⟨(R.SRF_H_RESULT_LO u), 31, 31⟩
def SRF_H_RESULT_LO_QUEUED (u : Nat) : FRef := ⟨(R.SRF_H_RESULT_LO u), 30, 24⟩
def SRF_H_RESULT_LO_SLOT (u : Nat) : FRef := ⟨(R.SRF_H_RESULT_LO u), 23, 20⟩
def SRF_H_RESULT_LO_FRAME (u : Nat) : FRef := ⟨(R.SRF_H_RESULT_LO u), 15, 8⟩
def SRF_H_RESULT_LO_OUTCOME (u : Nat) : FRef := ⟨(R.SRF_H_RESULT_LO u), 7, 0⟩
def SRF_RS_CFG_EN (u : Nat) : FRef := ⟨(R.SRF_RS_CFG u), 31, 31⟩
def SRF_RS_CFG_SOURCE (u : Nat) : FRef := ⟨(R.SRF_RS_CFG u), 30, 30⟩
def SRF_RS_RECT0_Y (u : Nat) : FRef := ⟨(R.SRF_RS_RECT0 u), 31, 16⟩
def SRF_RS_RECT0_X (u : Nat) : FRef := ⟨(R.SRF_RS_RECT0 u), 15, 0⟩
def SRF_RS_RECT1_H (u : Nat) : FRef := ⟨(R.SRF_RS_RECT1 u), 31, 16⟩
def SRF_RS_RECT1_W (u : Nat) : FRef := ⟨(R.SRF_RS_RECT1 u), 15, 0⟩
def SRF_RS_DATA_ADDR (u : Nat) : FRef := ⟨(R.SRF_RS_DATA u), 31, 0⟩
def SRF_RS_FMT_PITCH (u : Nat) : FRef := ⟨(R.SRF_RS_FMT u), 31, 16⟩
def SRF_RS_FMT_FORMAT (u : Nat) : FRef := ⟨(R.SRF_RS_FMT u), 1, 0⟩
def SRF_RS_TAG_TAG (u : Nat) : FRef := ⟨(R.SRF_RS_TAG u), 31, 0⟩
def SRF_RS_CMD_COMMIT (u : Nat) : FRef := ⟨(R.SRF_RS_CMD u), 0, 0⟩
def SRF_RS_STATUS_RUN (u : Nat) : FRef := ⟨(R.SRF_RS_STATUS u), 31, 30⟩
def SRF_RS_STATUS_PENDING (u : Nat) : FRef := ⟨(R.SRF_RS_STATUS u), 29, 29⟩
def SRF_RS_STATUS_OPEN (u : Nat) : FRef := ⟨(R.SRF_RS_STATUS u), 28, 28⟩
def SRF_RS_STATUS_CMD_RESULT (u : Nat) : FRef := ⟨(R.SRF_RS_STATUS u), 27, 26⟩
def SRF_RS_STATUS_LAST_OUTCOME (u : Nat) : FRef := ⟨(R.SRF_RS_STATUS u), 7, 0⟩
def FST_FOLD_OWNER_HOST_PORT (u : Nat) : FRef := ⟨(R.FST_FOLD_OWNER u), 5, 4⟩
def FST_FOLD_OWNER_OWNER (u : Nat) : FRef := ⟨(R.FST_FOLD_OWNER u), 3, 0⟩
def FST_FOLD_RETAIN_RETAIN (u : Nat) : FRef := ⟨(R.FST_FOLD_RETAIN u), 0, 0⟩
def FST_FOLD_STATUS_OWNER_CHANGING (u : Nat) : FRef := ⟨(R.FST_FOLD_STATUS u), 31, 31⟩
def FST_FOLD_STATUS_INIT (u : Nat) : FRef := ⟨(R.FST_FOLD_STATUS u), 30, 30⟩
def FST_FOLD_STATUS_LOST (u : Nat) : FRef := ⟨(R.FST_FOLD_STATUS u), 29, 29⟩
def FST_FOLD_STATUS_POWER (u : Nat) : FRef := ⟨(R.FST_FOLD_STATUS u), 25, 24⟩
def FST_FOLD_STATUS_UE (u : Nat) : FRef := ⟨(R.FST_FOLD_STATUS u), 23, 16⟩
def FST_FOLD_STATUS_CE (u : Nat) : FRef := ⟨(R.FST_FOLD_STATUS u), 15, 0⟩
def FST_CFG_GRAZE_EN : FRef := ⟨R.FST_CFG, 16, 16⟩
def FST_CFG_GRAZE_S : FRef := ⟨R.FST_CFG, 11, 0⟩
def FST_FLAGS_UE : FRef := ⟨R.FST_FLAGS, 1, 1⟩
def FST_FLAGS_COLLIDE : FRef := ⟨R.FST_FLAGS, 0, 0⟩
def FST_LOCKED_STATUS_WIPING : FRef := ⟨R.FST_LOCKED_STATUS, 31, 31⟩
def FST_LOCKED_STATUS_CAUSE : FRef := ⟨R.FST_LOCKED_STATUS, 9, 8⟩
def FST_LOCKED_STATUS_WIPES : FRef := ⟨R.FST_LOCKED_STATUS, 7, 0⟩
def CPR_CFG_EN : FRef := ⟨R.CPR_CFG, 0, 0⟩
def CPR_STATUS_BUSY : FRef := ⟨R.CPR_STATUS, 31, 31⟩
def CPR_STATUS_RING : FRef := ⟨R.CPR_STATUS, 25, 24⟩
def CPR_RING_SIZE_SIZE (u : Nat) : FRef := ⟨(R.CPR_RING_SIZE u), 8, 0⟩
def CPR_RING_TAIL_INDEX (u : Nat) : FRef := ⟨(R.CPR_RING_TAIL u), 7, 0⟩
def CPR_RING_HEAD_INDEX (u : Nat) : FRef := ⟨(R.CPR_RING_HEAD u), 7, 0⟩
def CPR_RING_STATUS_HALTED (u : Nat) : FRef := ⟨(R.CPR_RING_STATUS u), 31, 31⟩
def CPR_RING_STATUS_FAIL (u : Nat) : FRef := ⟨(R.CPR_RING_STATUS u), 27, 24⟩
def CPR_RING_STATUS_QUEUED (u : Nat) : FRef := ⟨(R.CPR_RING_STATUS u), 5, 0⟩
def CPR_RING_CTRL_SKIP (u : Nat) : FRef := ⟨(R.CPR_RING_CTRL u), 1, 1⟩
def CPR_RING_CTRL_RESUME (u : Nat) : FRef := ⟨(R.CPR_RING_CTRL u), 0, 0⟩
def CPR_RING_DONE_LO_VALID (u : Nat) : FRef := ⟨(R.CPR_RING_DONE_LO u), 31, 31⟩
def CPR_RING_DONE_LO_QUEUED (u : Nat) : FRef := ⟨(R.CPR_RING_DONE_LO u), 30, 25⟩
def CPR_RING_DONE_LO_STATUS (u : Nat) : FRef := ⟨(R.CPR_RING_DONE_LO u), 3, 0⟩
def LNS_LANE_CFG_FREEZE (u : Nat) : FRef := ⟨(R.LNS_LANE_CFG u), 7, 7⟩
def LNS_LANE_CFG_POL (u : Nat) : FRef := ⟨(R.LNS_LANE_CFG u), 5, 4⟩
def LNS_LANE_CFG_TX_INV (u : Nat) : FRef := ⟨(R.LNS_LANE_CFG u), 3, 3⟩
def LNS_LANE_CFG_TEST (u : Nat) : FRef := ⟨(R.LNS_LANE_CFG u), 2, 2⟩
def LNS_LANE_STATUS_STATE (u : Nat) : FRef := ⟨(R.LNS_LANE_STATUS u), 31, 29⟩
def LNS_LANE_STATUS_POL_INV (u : Nat) : FRef := ⟨(R.LNS_LANE_STATUS u), 28, 28⟩
def LNS_LANE_STATUS_SHORT (u : Nat) : FRef := ⟨(R.LNS_LANE_STATUS u), 27, 27⟩
def LNS_LANE_STATUS_CUR_LIMIT (u : Nat) : FRef := ⟨(R.LNS_LANE_STATUS u), 26, 26⟩
def LNS_LANE_STATUS_RD (u : Nat) : FRef := ⟨(R.LNS_LANE_STATUS u), 25, 25⟩
def LNS_LANE_STATUS_LAST_CAUSE (u : Nat) : FRef := ⟨(R.LNS_LANE_STATUS u), 24, 22⟩
def LNS_LANE_STATUS_CODE (u : Nat) : FRef := ⟨(R.LNS_LANE_STATUS u), 19, 10⟩
def LNS_LANE_STATUS_BIT_POS (u : Nat) : FRef := ⟨(R.LNS_LANE_STATUS u), 3, 0⟩
def LNS_LANE_TX_SWING (u : Nat) : FRef := ⟨(R.LNS_LANE_TX u), 23, 20⟩
def LNS_LANE_TX_POST (u : Nat) : FRef := ⟨(R.LNS_LANE_TX u), 12, 8⟩
def LNS_LANE_TX_PRE (u : Nat) : FRef := ⟨(R.LNS_LANE_TX u), 3, 0⟩
def LNS_LANE_RX_CTLE_AUTO (u : Nat) : FRef := ⟨(R.LNS_LANE_RX u), 15, 15⟩
def LNS_LANE_RX_CTLE (u : Nat) : FRef := ⟨(R.LNS_LANE_RX u), 11, 8⟩
def LNS_LANE_DFE_CTLE_NOW (u : Nat) : FRef := ⟨(R.LNS_LANE_DFE u), 31, 28⟩
def LNS_LANE_DFE_H1 (u : Nat) : FRef := ⟨(R.LNS_LANE_DFE u), 27, 22⟩
def LNS_LANE_DFE_H2 (u : Nat) : FRef := ⟨(R.LNS_LANE_DFE u), 21, 16⟩
def LNS_LANE_DFE_H3 (u : Nat) : FRef := ⟨(R.LNS_LANE_DFE u), 15, 11⟩
def LNS_LANE_DFE_H4 (u : Nat) : FRef := ⟨(R.LNS_LANE_DFE u), 10, 6⟩
def LNS_LANE_DFE_H5 (u : Nat) : FRef := ⟨(R.LNS_LANE_DFE u), 5, 1⟩
def LNS_LANE_EYE_VALID (u : Nat) : FRef := ⟨(R.LNS_LANE_EYE u), 31, 31⟩
def LNS_LANE_EYE_WIDTH (u : Nat) : FRef := ⟨(R.LNS_LANE_EYE u), 30, 24⟩
def LNS_LANE_EYE_HEIGHT (u : Nat) : FRef := ⟨(R.LNS_LANE_EYE u), 23, 15⟩
def LNS_LANE_EYE_RESIDUAL (u : Nat) : FRef := ⟨(R.LNS_LANE_EYE u), 14, 7⟩
def LNS_LANE_TRIM_FIELD (u : Nat) : FRef := ⟨(R.LNS_LANE_TRIM u), 23, 16⟩
def LNS_LANE_TRIM_TOTAL (u : Nat) : FRef := ⟨(R.LNS_LANE_TRIM u), 7, 0⟩
def LNS_LANE_SCAN_GO (u : Nat) : FRef := ⟨(R.LNS_LANE_SCAN u), 31, 31⟩
def LNS_LANE_SCAN_PHASE (u : Nat) : FRef := ⟨(R.LNS_LANE_SCAN u), 21, 16⟩
def LNS_LANE_SCAN_VOLT (u : Nat) : FRef := ⟨(R.LNS_LANE_SCAN u), 6, 0⟩
def LNS_LANE_SCAN_RESULT_DONE (u : Nat) : FRef := ⟨(R.LNS_LANE_SCAN_RESULT u), 31, 31⟩
def LNS_LANE_SCAN_RESULT_WAITED (u : Nat) : FRef := ⟨(R.LNS_LANE_SCAN_RESULT u), 30, 30⟩
def LNS_LANE_SCAN_RESULT_ERRORS (u : Nat) : FRef := ⟨(R.LNS_LANE_SCAN_RESULT u), 23, 0⟩
def LNS_LANE_SLIP_SLIP (u : Nat) : FRef := ⟨(R.LNS_LANE_SLIP u), 0, 0⟩
def LNS_CFG_DWELL : FRef := ⟨R.LNS_CFG, 27, 24⟩
def LNS_CFG_MON_MS : FRef := ⟨R.LNS_CFG, 23, 16⟩
def LNS_CFG_EYE_MIN_H : FRef := ⟨R.LNS_CFG, 15, 8⟩
def LNS_CFG_EYE_MIN_W : FRef := ⟨R.LNS_CFG, 7, 0⟩
def LNS_PLL_STATUS_OF_LOCK : FRef := ⟨R.LNS_PLL_STATUS, 11, 4⟩
def LNS_PLL_STATUS_IF_LOCK : FRef := ⟨R.LNS_PLL_STATUS, 3, 0⟩
def HTM_CFG_DOMAIN : FRef := ⟨R.HTM_CFG, 31, 24⟩
def HTM_CFG_PROFILE : FRef := ⟨R.HTM_CFG, 19, 18⟩
def HTM_CFG_SRC : FRef := ⟨R.HTM_CFG, 17, 16⟩
def HTM_STATUS_STATE : FRef := ⟨R.HTM_STATUS, 31, 29⟩
def HTM_STATUS_LINK : FRef := ⟨R.HTM_STATUS, 28, 28⟩
def HTM_STATUS_TWO_STEP : FRef := ⟨R.HTM_STATUS, 27, 27⟩
def HTM_STATUS_PTP_TIMESCALE : FRef := ⟨R.HTM_STATUS, 26, 26⟩
def HTM_SERVO_KP : FRef := ⟨R.HTM_SERVO, 31, 24⟩
def HTM_SERVO_KI : FRef := ⟨R.HTM_SERVO, 23, 16⟩
def HTM_SERVO_LOCK_NS : FRef := ⟨R.HTM_SERVO, 15, 0⟩
def HTM_LAT_TX : FRef := ⟨R.HTM_LAT, 31, 16⟩
def HTM_LAT_RX : FRef := ⟨R.HTM_LAT, 15, 0⟩
def HTM_NET_VLAN_EN : FRef := ⟨R.HTM_NET, 31, 31⟩
def HTM_NET_VID : FRef := ⟨R.HTM_NET, 27, 16⟩
def HTM_NET_PHY_ADDR : FRef := ⟨R.HTM_NET, 12, 8⟩
def HTM_NET_DSCP : FRef := ⟨R.HTM_NET, 5, 0⟩
def HTM_MDIO_GO : FRef := ⟨R.HTM_MDIO, 31, 31⟩
def HTM_MDIO_WRITE : FRef := ⟨R.HTM_MDIO, 30, 30⟩
def HTM_MDIO_PHY : FRef := ⟨R.HTM_MDIO, 29, 25⟩
def HTM_MDIO_REG : FRef := ⟨R.HTM_MDIO, 24, 20⟩
def HTM_MDIO_DATA : FRef := ⟨R.HTM_MDIO, 15, 0⟩
def CAL_CFG_EN : FRef := ⟨R.CAL_CFG, 31, 31⟩
def CAL_CFG_SHADOW_EN : FRef := ⟨R.CAL_CFG, 30, 30⟩
def CAL_CFG_DELTA_T : FRef := ⟨R.CAL_CFG, 27, 24⟩
def CAL_CFG_MARGIN : FRef := ⟨R.CAL_CFG, 23, 16⟩
def CAL_CFG_INTERVAL : FRef := ⟨R.CAL_CFG, 15, 0⟩
def CAL_STATUS_STATE : FRef := ⟨R.CAL_STATUS, 31, 30⟩
def CAL_STATUS_QUEUED : FRef := ⟨R.CAL_STATUS, 29, 22⟩
def CAL_STATUS_FALLOW_SLICE : FRef := ⟨R.CAL_STATUS, 21, 17⟩
def CAL_STATUS_SHADOW_BAND : FRef := ⟨R.CAL_STATUS, 16, 12⟩
def CAL_STATUS_FALLOW_PORTS : FRef := ⟨R.CAL_STATUS, 11, 9⟩
def CAL_REQ_UNIT : FRef := ⟨R.CAL_REQ, 7, 0⟩
def CAL_LAST_UNIT : FRef := ⟨R.CAL_LAST, 31, 24⟩
def CAL_LAST_RESULT : FRef := ⟨R.CAL_LAST, 23, 22⟩
def CAL_LAST_RUNS : FRef := ⟨R.CAL_LAST, 21, 20⟩
def CAL_LAST_TRIGGER : FRef := ⟨R.CAL_LAST, 19, 18⟩
def MGT_CFG_RETRY_MS : FRef := ⟨R.MGT_CFG, 31, 24⟩
def MGT_STATUS_STATE : FRef := ⟨R.MGT_STATUS, 31, 29⟩
def MGT_STATUS_DEFER : FRef := ⟨R.MGT_STATUS, 28, 27⟩
def MGT_STATUS_CAUSE : FRef := ⟨R.MGT_STATUS, 26, 25⟩
def MGT_STATUS_PATCH : FRef := ⟨R.MGT_STATUS, 15, 8⟩
def MGT_STATUS_ROM : FRef := ⟨R.MGT_STATUS, 7, 0⟩
def MGT_CTRL_REVIVE : FRef := ⟨R.MGT_CTRL, 1, 1⟩
def MGT_CTRL_RESTART : FRef := ⟨R.MGT_CTRL, 0, 0⟩
def MGT_LOAD_MAX : FRef := ⟨R.MGT_LOAD, 15, 8⟩
def MGT_LOAD_LOAD : FRef := ⟨R.MGT_LOAD, 7, 0⟩
def MGT_DOG_KEY : FRef := ⟨R.MGT_DOG, 15, 0⟩
def MGT_AVS_CFG_EN : FRef := ⟨R.MGT_AVS_CFG, 31, 31⟩
def MGT_AVS_CFG_ADDR : FRef := ⟨R.MGT_AVS_CFG, 30, 24⟩
def MGT_AVS_CFG_PEC : FRef := ⟨R.MGT_AVS_CFG, 23, 23⟩
def MGT_AVS_CFG_EXP : FRef := ⟨R.MGT_AVS_CFG, 20, 16⟩
def MGT_AVS_CFG_TARGET : FRef := ⟨R.MGT_AVS_CFG, 15, 8⟩
def MGT_AVS_CFG_HYST : FRef := ⟨R.MGT_AVS_CFG, 7, 4⟩
def MGT_AVS_LIMITS_VMAX : FRef := ⟨R.MGT_AVS_LIMITS, 31, 16⟩
def MGT_AVS_LIMITS_VMIN : FRef := ⟨R.MGT_AVS_LIMITS, 15, 0⟩
def MGT_AVS_NOW_FAULT : FRef := ⟨R.MGT_AVS_NOW, 31, 31⟩
def MGT_AVS_NOW_HELD : FRef := ⟨R.MGT_AVS_NOW, 30, 30⟩
def MGT_AVS_NOW_GUARD : FRef := ⟨R.MGT_AVS_NOW, 29, 29⟩
def MGT_AVS_NOW_MARGIN : FRef := ⟨R.MGT_AVS_NOW, 23, 16⟩
def MGT_AVS_NOW_MV : FRef := ⟨R.MGT_AVS_NOW, 15, 0⟩
def MGT_REC_STATUS_ACTIVE : FRef := ⟨R.MGT_REC_STATUS, 31, 31⟩
def MGT_REC_STATUS_CLASS : FRef := ⟨R.MGT_REC_STATUS, 30, 28⟩
def MGT_REC_STATUS_SOURCE : FRef := ⟨R.MGT_REC_STATUS, 24, 16⟩
def MGT_REC_STATUS_QUEUED : FRef := ⟨R.MGT_REC_STATUS, 7, 0⟩
def MGT_MB_ARG_ARG (u i : Nat) : FRef := ⟨(R.MGT_MB_ARG u i), 31, 0⟩
def MGT_MB_CMD_OP (u : Nat) : FRef := ⟨(R.MGT_MB_CMD u), 31, 24⟩
def MGT_MB_CMD_TAG (u : Nat) : FRef := ⟨(R.MGT_MB_CMD u), 15, 0⟩
def MGT_MB_DONE_LO_VALID (u : Nat) : FRef := ⟨(R.MGT_MB_DONE_LO u), 31, 31⟩
def MGT_MB_DONE_LO_QUEUED (u : Nat) : FRef := ⟨(R.MGT_MB_DONE_LO u), 30, 27⟩
def MGT_MB_DONE_LO_OP (u : Nat) : FRef := ⟨(R.MGT_MB_DONE_LO u), 23, 16⟩
def MGT_MB_DONE_LO_STATUS (u : Nat) : FRef := ⟨(R.MGT_MB_DONE_LO u), 7, 0⟩
def MGT_MB_DONE_HI_RETRY_MS (u : Nat) : FRef := ⟨(R.MGT_MB_DONE_HI u), 31, 16⟩
def MGT_MB_DONE_HI_TAG (u : Nat) : FRef := ⟨(R.MGT_MB_DONE_HI u), 15, 0⟩
def MGT_MB_DONE_DATA_DATA (u : Nat) : FRef := ⟨(R.MGT_MB_DONE_DATA u), 31, 0⟩
def DEV_ID_PART : FRef := ⟨R.DEV_ID, 31, 16⟩
def DEV_ID_STEP : FRef := ⟨R.DEV_ID, 15, 8⟩
def DEV_STATUS_HEADLESS : FRef := ⟨R.DEV_STATUS, 31, 31⟩
def DEV_STATUS_OWN_LOCKED : FRef := ⟨R.DEV_STATUS, 30, 30⟩
def DEV_COMMIT_GO : FRef := ⟨R.DEV_COMMIT, 0, 0⟩
def DEV_PATH_STATUS_BYPASS_BANDS : FRef := ⟨R.DEV_PATH_STATUS, 31, 16⟩
def DEV_PATH_STATUS_SPARE_BAND : FRef := ⟨R.DEV_PATH_STATUS, 10, 6⟩
def DEV_PATH_STATUS_MODE : FRef := ⟨R.DEV_PATH_STATUS, 1, 0⟩
def DEV_OWN_CTRL_LOCK : FRef := ⟨R.DEV_OWN_CTRL, 0, 0⟩
def DEV_OWN_SEQ_SLOTS : FRef := ⟨R.DEV_OWN_SEQ, 15, 0⟩
def DEV_OWN_DELEG_MASTER : FRef := ⟨R.DEV_OWN_DELEG, 5, 4⟩
def DEV_OWN_DELEG_LEVEL : FRef := ⟨R.DEV_OWN_DELEG, 3, 2⟩
def DEV_OWN_DELEG_USER : FRef := ⟨R.DEV_OWN_DELEG, 1, 0⟩
def HPT_P_STATUS_BUSY_LAST (u : Nat) : FRef := ⟨(R.HPT_P_STATUS u), 31, 31⟩
def HPT_P_STATUS_ERR_LAST (u : Nat) : FRef := ⟨(R.HPT_P_STATUS u), 30, 28⟩
def HPT_P_STATUS_PENDING (u : Nat) : FRef := ⟨(R.HPT_P_STATUS u), 27, 27⟩
def HPT_P_STATUS_NOT_ACCEPTED (u : Nat) : FRef := ⟨(R.HPT_P_STATUS u), 23, 16⟩
def SEQ_SLOT_CTRL_START (u : Nat) : FRef := ⟨(R.SEQ_SLOT_CTRL u), 31, 31⟩
def SEQ_SLOT_CTRL_CANCEL (u : Nat) : FRef := ⟨(R.SEQ_SLOT_CTRL u), 30, 30⟩
def SEQ_SLOT_CTRL_RELEASE (u : Nat) : FRef := ⟨(R.SEQ_SLOT_CTRL u), 29, 29⟩
def SEQ_SLOT_CTRL_START_STEP (u : Nat) : FRef := ⟨(R.SEQ_SLOT_CTRL u), 15, 0⟩
def SEQ_SLOT_STATUS_STATE (u : Nat) : FRef := ⟨(R.SEQ_SLOT_STATUS u), 31, 29⟩
def SEQ_SLOT_STATUS_HOLDING (u : Nat) : FRef := ⟨(R.SEQ_SLOT_STATUS u), 28, 28⟩
def SEQ_SLOT_STATUS_RESULT (u : Nat) : FRef := ⟨(R.SEQ_SLOT_STATUS u), 19, 16⟩
def SEQ_SLOT_STATUS_NEXT (u : Nat) : FRef := ⟨(R.SEQ_SLOT_STATUS u), 15, 0⟩
def SEQ_H_DONE_LO_VALID (u : Nat) : FRef := ⟨(R.SEQ_H_DONE_LO u), 31, 31⟩
def SEQ_H_DONE_LO_QUEUED (u : Nat) : FRef := ⟨(R.SEQ_H_DONE_LO u), 30, 27⟩
def SEQ_H_DONE_LO_SLOT (u : Nat) : FRef := ⟨(R.SEQ_H_DONE_LO u), 26, 24⟩
def SEQ_H_DONE_LO_STATUS (u : Nat) : FRef := ⟨(R.SEQ_H_DONE_LO u), 23, 20⟩
def SEQ_H_DONE_LO_NEXT (u : Nat) : FRef := ⟨(R.SEQ_H_DONE_LO u), 15, 0⟩
def EVT_SRC_CFG_PEND (u : Nat) : FRef := ⟨(R.EVT_SRC_CFG u), 31, 31⟩
def EVT_SRC_CFG_URGENT (u : Nat) : FRef := ⟨(R.EVT_SRC_CFG u), 3, 3⟩
def EVT_SRC_CFG_MASK (u : Nat) : FRef := ⟨(R.EVT_SRC_CFG u), 2, 2⟩
def EVT_SRC_CFG_ROUTE (u : Nat) : FRef := ⟨(R.EVT_SRC_CFG u), 1, 0⟩
def EVT_H_CFG_EN (u : Nat) : FRef := ⟨(R.EVT_H_CFG u), 31, 31⟩
def EVT_H_CFG_COUNT (u : Nat) : FRef := ⟨(R.EVT_H_CFG u), 23, 16⟩
def EVT_H_CFG_TIME (u : Nat) : FRef := ⟨(R.EVT_H_CFG u), 15, 0⟩
def EVT_H_STATUS_INTN (u : Nat) : FRef := ⟨(R.EVT_H_STATUS u), 31, 31⟩
def EVT_H_STATUS_HELD (u : Nat) : FRef := ⟨(R.EVT_H_STATUS u), 30, 30⟩
def EVT_H_STATUS_QUEUED (u : Nat) : FRef := ⟨(R.EVT_H_STATUS u), 8, 0⟩
def EVT_H_POP_VALID (u : Nat) : FRef := ⟨(R.EVT_H_POP u), 31, 31⟩
def EVT_H_POP_MASKED (u : Nat) : FRef := ⟨(R.EVT_H_POP u), 30, 30⟩
def EVT_H_POP_OVERFLOW (u : Nat) : FRef := ⟨(R.EVT_H_POP u), 29, 29⟩
def EVT_H_POP_SOURCE (u : Nat) : FRef := ⟨(R.EVT_H_POP u), 28, 20⟩
def EVT_H_POP_COUNT (u : Nat) : FRef := ⟨(R.EVT_H_POP u), 19, 12⟩
def EVT_H_POP_CLASS (u : Nat) : FRef := ⟨(R.EVT_H_POP u), 11, 9⟩
def EVT_H_POP_QUEUED (u : Nat) : FRef := ⟨(R.EVT_H_POP u), 7, 0⟩
def TAL_CFG_TRIG_EN : FRef := ⟨R.TAL_CFG, 31, 31⟩
def TAL_CFG_TRIG_SRC : FRef := ⟨R.TAL_CFG, 24, 16⟩
def TAL_CFG_PERIOD : FRef := ⟨R.TAL_CFG, 15, 0⟩
def TAL_CTRL_TALLY : FRef := ⟨R.TAL_CTRL, 0, 0⟩
def TAL_STATUS_FILLING : FRef := ⟨R.TAL_STATUS, 31, 31⟩
def TAL_STATUS_WAITING : FRef := ⟨R.TAL_STATUS, 30, 30⟩
def TAL_STATUS_NEWEST : FRef := ⟨R.TAL_STATUS, 29, 29⟩
def TAL_BANK_HOLD_HOLD (u : Nat) : FRef := ⟨(R.TAL_BANK_HOLD u), 0, 0⟩
def TAL_LOG_CFG_SUPPLY_WRITE : FRef := ⟨R.TAL_LOG_CFG, 8, 8⟩
def TAL_LOG_CFG_MINUTES : FRef := ⟨R.TAL_LOG_CFG, 7, 0⟩
def TAL_LOG_STATUS_VALID : FRef := ⟨R.TAL_LOG_STATUS, 31, 31⟩
def TAL_LOG_STATUS_DRIVE_LOADED : FRef := ⟨R.TAL_LOG_STATUS, 30, 30⟩
def TAL_LOG_STATUS_SLOT : FRef := ⟨R.TAL_LOG_STATUS, 5, 0⟩
def CFG_STATUS_STATE : FRef := ⟨R.CFG_STATUS, 31, 29⟩
def CFG_STATUS_DEFAULTED : FRef := ⟨R.CFG_STATUS, 28, 28⟩
def CFG_STATUS_BOR_LP : FRef := ⟨R.CFG_STATUS, 27, 27⟩
def CFG_STATUS_SLOT : FRef := ⟨R.CFG_STATUS, 26, 25⟩
def CFG_STATUS_APPLY_FAIL : FRef := ⟨R.CFG_STATUS, 24, 24⟩
def CFG_STATUS_SIG : FRef := ⟨R.CFG_STATUS, 23, 21⟩
def CFG_STATUS_CAUSE : FRef := ⟨R.CFG_STATUS, 20, 18⟩
def CFG_STATUS_FAIL_SECTION : FRef := ⟨R.CFG_STATUS, 17, 8⟩
def CFG_STATUS_REASON_A : FRef := ⟨R.CFG_STATUS, 7, 4⟩
def CFG_STATUS_REASON_B : FRef := ⟨R.CFG_STATUS, 3, 0⟩
def CFG_CTRL_CODE : FRef := ⟨R.CFG_CTRL, 31, 16⟩
def CFG_CTRL_CLEAR_BOR : FRef := ⟨R.CFG_CTRL, 2, 2⟩
def CFG_CTRL_BURN : FRef := ⟨R.CFG_CTRL, 1, 1⟩
def CFG_CTRL_RESTART : FRef := ⟨R.CFG_CTRL, 0, 0⟩
def CFG_LC_STATE : FRef := ⟨R.CFG_LC, 1, 0⟩
def CFG_LC_CMD_CODE : FRef := ⟨R.CFG_LC_CMD, 31, 16⟩
def CFG_LC_CMD_TARGET : FRef := ⟨R.CFG_LC_CMD, 1, 0⟩
def CFG_KEYHASH_HASH (u : Nat) : FRef := ⟨(R.CFG_KEYHASH u), 31, 0⟩
def CFG_FUSE_BURNED : FRef := ⟨R.CFG_FUSE, 8, 8⟩
def CFG_FUSE_SIGN_REQ : FRef := ⟨R.CFG_FUSE, 0, 0⟩
def CFG_NV_CMD_OP : FRef := ⟨R.CFG_NV_CMD, 1, 0⟩
def CFG_NV_STATUS_BUSY : FRef := ⟨R.CFG_NV_STATUS, 31, 31⟩
def CFG_NV_STATUS_RESULT : FRef := ⟨R.CFG_NV_STATUS, 30, 28⟩
def CFG_NV_STATUS_OCTAL : FRef := ⟨R.CFG_NV_STATUS, 24, 24⟩
def CFG_NV_STATUS_DONE : FRef := ⟨R.CFG_NV_STATUS, 23, 0⟩
def PWR_CFG_AUTO_LP : FRef := ⟨R.PWR_CFG, 0, 0⟩
def PWR_STATUS_ON_B : FRef := ⟨R.PWR_STATUS, 31, 31⟩
def PWR_STATUS_A_OK : FRef := ⟨R.PWR_STATUS, 30, 30⟩
def PWR_STATUS_B_OK : FRef := ⟨R.PWR_STATUS, 29, 29⟩
def PWR_STATUS_REV_A : FRef := ⟨R.PWR_STATUS, 28, 28⟩
def PWR_STATUS_REV_B : FRef := ⟨R.PWR_STATUS, 27, 27⟩
def PWR_STATUS_LP : FRef := ⟨R.PWR_STATUS, 26, 26⟩
def PWR_STATUS_AON_EST : FRef := ⟨R.PWR_STATUS, 11, 0⟩
def PWR_RAILS_LOW : FRef := ⟨R.PWR_RAILS, 20, 16⟩
def PWR_RAILS_GOOD : FRef := ⟨R.PWR_RAILS, 4, 0⟩
def PWR_DOM_DENIED (u : Nat) : FRef := ⟨(R.PWR_DOM u), 18, 16⟩
def PWR_DOM_BUSY (u : Nat) : FRef := ⟨(R.PWR_DOM u), 9, 9⟩
def PWR_DOM_STATE (u : Nat) : FRef := ⟨(R.PWR_DOM u), 7, 6⟩
def PWR_DOM_REQ (u : Nat) : FRef := ⟨(R.PWR_DOM u), 1, 0⟩
def SLC_SLICE_STATUS_ROLE (u : Nat) : FRef := ⟨(R.SLC_SLICE_STATUS u), 31, 29⟩
def SLC_SLICE_STATUS_BAND (u : Nat) : FRef := ⟨(R.SLC_SLICE_STATUS u), 28, 25⟩
def SLC_SLICE_STATUS_UNSTABLE (u : Nat) : FRef := ⟨(R.SLC_SLICE_STATUS u), 24, 24⟩
def SLC_SLICE_STATUS_LAST_CAUSE (u : Nat) : FRef := ⟨(R.SLC_SLICE_STATUS u), 23, 21⟩
def SLC_SLICE_STATUS_MARGIN (u : Nat) : FRef := ⟨(R.SLC_SLICE_STATUS u), 15, 8⟩
def SLC_SLICE_TAPS_ALL (u : Nat) : FRef := ⟨(R.SLC_SLICE_TAPS u), 29, 0⟩
def SLC_SLICE_FIELD_ALL (u : Nat) : FRef := ⟨(R.SLC_SLICE_FIELD u), 29, 0⟩
def SLC_SLICE_CAL_AGE (u : Nat) : FRef := ⟨(R.SLC_SLICE_CAL u), 31, 16⟩
def SLC_SLICE_CAL_REF_T (u : Nat) : FRef := ⟨(R.SLC_SLICE_CAL u), 15, 0⟩

end F

/-- The layouts of `DEV` (engine 0). -/
def regDefsDEV : List RegDef := [
  ⟨0x0, 1, 0x0, 1, 0x0, 0x8840B100, 0x0, 0x0, 0x0, false⟩,
  ⟨0x4, 1, 0x0, 1, 0x0, 0x0, 0x0, 0x0, 0x0, false⟩,
  ⟨0x10, 1, 0x0, 1, 0x0, 0x0, 0x0, 0x0, 0x1, false⟩,
  ⟨0x40, 1, 0x0, 1, 0x0, 0x7C0, 0x0, 0x0, 0x0, false⟩,
  ⟨0x80, 1, 0x0, 1, 0x0, 0x0, 0x1, 0x0, 0x0, false⟩,
  ⟨0x84, 1, 0x0, 1, 0x0, 0x0, 0xFFFFFFFF, 0x0, 0x0, false⟩,
  ⟨0x88, 1, 0x0, 1, 0x0, 0x0, 0xFFFF, 0x0, 0x0, false⟩,
  ⟨0x8C, 1, 0x0, 1, 0x0, 0x0, 0xFFFFFFFF, 0x0, 0x0, false⟩,
  ⟨0x90, 1, 0x0, 1, 0x0, 0x0, 0xFFFF, 0x0, 0x0, false⟩,
  ⟨0x94, 1, 0x0, 1, 0x0, 0x0, 0x3F, 0x0, 0x0, false⟩,
  ⟨0x100, 32, 0x4, 1, 0x0, 0x0, 0xFFFFFFFF, 0x0, 0x0, false⟩]
/-- The layouts of `PIL` (engine 1). -/
def regDefsPIL : List RegDef := [
  ⟨0x4000, 1, 0x0, 1, 0x0, 0x0, 0xF0F0007, 0x0, 0x0, false⟩,
  ⟨0x4004, 1, 0x0, 1, 0x0, 0x0, 0x0, 0x0, 0x0, false⟩,
  ⟨0x4010, 4, 0x4, 1, 0x0, 0x70000, 0x0, 0x0, 0x0, false⟩,
  ⟨0x4020, 4, 0x4, 1, 0x0, 0xFAC688, 0x0, 0x0, 0x0, false⟩,
  ⟨0x4040, 1, 0x0, 1, 0x0, 0x0, 0x0, 0x0, 0x0, false⟩,
  ⟨0x4044, 1, 0x0, 1, 0x0, 0x0, 0x0, 0x0, 0x0, false⟩,
  ⟨0x4048, 1, 0x0, 1, 0x0, 0x80000000, 0x0, 0x0, 0x0, false⟩,
  ⟨0x4060, 1, 0x0, 1, 0x0, 0x0, 0x0, 0x0, 0x0, false⟩,
  ⟨0x4064, 1, 0x0, 1, 0x0, 0x0, 0x0, 0x0, 0x0, false⟩,
  ⟨0x4068, 1, 0x0, 1, 0x0, 0x0, 0x0, 0x0, 0x0, false⟩,
  ⟨0x406C, 1, 0x0, 1, 0x0, 0x0, 0x0, 0x0, 0x0, false⟩,
  ⟨0x4070, 1, 0x0, 1, 0x0, 0x0, 0x0, 0x0, 0x0, false⟩,
  ⟨0x4080, 7, 0x4, 1, 0x0, 0x0, 0x0, 0x0, 0x0, false⟩,
  ⟨0x40A0, 1, 0x0, 1, 0x0, 0x0, 0x0, 0x0, 0x0, false⟩,
  ⟨0x40A4, 1, 0x0, 1, 0x0, 0x0, 0x0, 0x0, 0x0, false⟩]
/-- The layouts of `FE` (engine 2). -/
def regDefsFE : List RegDef := [
  ⟨0x8000, 1, 0x0, 1, 0x0, 0x0, 0x111, 0x0, 0x0, true⟩,
  ⟨0x8004, 1, 0x0, 1, 0x0, 0x0, 0x0, 0x0, 0x0, false⟩,
  ⟨0x8010, 1, 0x0, 1, 0x0, 0x4340AD91, 0xFFFFFFFF, 0x0, 0x0, true⟩,
  ⟨0x8014, 1, 0x0, 1, 0x0, 0xF2E0000, 0xFFFF0000, 0x0, 0x0, true⟩,
  ⟨0x8018, 1, 0x0, 1, 0x0, 0x0, 0x3, 0x0, 0x0, true⟩,
  ⟨0x801C, 1, 0x0, 1, 0x0, 0xFFFFFFFF, 0xFFFFFFFF, 0x0, 0x0, true⟩,
  ⟨0x8020, 1, 0x0, 1, 0x0, 0x0, 0x0, 0x0, 0x0, false⟩,
  ⟨0x8024, 1, 0x0, 1, 0x0, 0x0, 0x0, 0x0, 0x0, false⟩,
  ⟨0x8028, 1, 0x0, 1, 0x0, 0x0, 0x0, 0x0, 0x0, false⟩,
  ⟨0x8040, 2, 0x40, 1, 0x0, 0xE0000000, 0xFFFF0037, 0x0, 0x0, true⟩,
  ⟨0x8044, 2, 0x40, 4, 0x4, 0x0, 0xFFFFFFFF, 0x0, 0x0, true⟩,
  ⟨0x8054, 2, 0x40, 1, 0x0, 0x40000000, 0xFFFF0000, 0x0, 0x0, true⟩,
  ⟨0x8058, 2, 0x40, 1, 0x0, 0x4340AD91, 0xFFFFFFFF, 0x0, 0x0, true⟩,
  ⟨0x805C, 2, 0x40, 1, 0x0, 0xF2E0000, 0xFFFF0000, 0x0, 0x0, true⟩]
/-- The layouts of `SPL` (engine 3). -/
def regDefsSPL : List RegDef := [
  ⟨0xC000, 1, 0x0, 1, 0x0, 0x0, 0x0, 0x0, 0x1, false⟩,
  ⟨0xC004, 1, 0x0, 1, 0x0, 0x600710, 0x81FF0F3D, 0x0, 0x0, true⟩,
  ⟨0xC008, 1, 0x0, 1, 0x0, 0x30000000, 0x0, 0x0, 0x0, false⟩,
  ⟨0xC00C, 1, 0x0, 1, 0x0, 0x10001, 0xFF00FF, 0x0, 0x0, true⟩,
  ⟨0xC010, 1, 0x0, 1, 0x0, 0x808FFFF, 0x3F3FFFFF, 0x0, 0x0, true⟩,
  ⟨0xC014, 1, 0x0, 1, 0x0, 0xFFFF, 0xFFFFFFFF, 0x0, 0x0, true⟩,
  ⟨0xC018, 1, 0x0, 1, 0x0, 0x20004000, 0xFFFFFFFF, 0x0, 0x0, true⟩,
  ⟨0xC01C, 1, 0x0, 1, 0x0, 0xFFFFFFFF, 0xFFFFFFFF, 0x0, 0x0, true⟩,
  ⟨0xC020, 1, 0x0, 1, 0x0, 0x78007800, 0xFFFFFFFF, 0x0, 0x0, true⟩,
  ⟨0xC024, 1, 0x0, 1, 0x0, 0x78000000, 0xFFFFFFFF, 0x0, 0x0, true⟩,
  ⟨0xC028, 1, 0x0, 1, 0x0, 0x80000000, 0xFFFFFFFF, 0x0, 0x0, true⟩,
  ⟨0xC02C, 1, 0x0, 1, 0x0, 0xFFFF0000, 0xFFFFFFFF, 0x0, 0x0, true⟩,
  ⟨0xC030, 1, 0x0, 1, 0x0, 0x0, 0xFFFF0000, 0x0, 0x0, true⟩,
  ⟨0xC034, 1, 0x0, 1, 0x0, 0xFFFF, 0xFFFF, 0x0, 0x0, true⟩,
  ⟨0xC040, 1, 0x0, 1, 0x0, 0x0, 0x0, 0x0, 0x0, false⟩,
  ⟨0xC044, 1, 0x0, 1, 0x0, 0x0, 0x0, 0x0, 0x0, false⟩,
  ⟨0xC048, 1, 0x0, 1, 0x0, 0x0, 0x0, 0x0, 0x0, false⟩,
  ⟨0xC04C, 1, 0x0, 1, 0x0, 0x0, 0x0, 0x0, 0x0, false⟩,
  ⟨0xC050, 1, 0x0, 1, 0x0, 0x0, 0x0, 0x0, 0x0, false⟩]
/-- The layouts of `PCM` (engine 4). -/
def regDefsPCM : List RegDef := [
  ⟨0x10000, 1, 0x0, 1, 0x0, 0x4, 0x80000007, 0x0, 0x0, true⟩,
  ⟨0x10004, 1, 0x0, 1, 0x0, 0x0, 0x0, 0x0, 0x0, false⟩,
  ⟨0x10008, 1, 0x0, 1, 0x0, 0x0, 0x1, 0x0, 0x0, true⟩,
  ⟨0x10010, 2, 0x4, 1, 0x0, 0x100, 0x3F3F, 0x0, 0x0, true⟩,
  ⟨0x10020, 1, 0x0, 1, 0x0, 0x10000000, 0xFFFFFFFF, 0x0, 0x0, true⟩,
  ⟨0x10024, 1, 0x0, 1, 0x0, 0x8000, 0xFFFF, 0x0, 0x0, true⟩,
  ⟨0x10040, 4, 0x10, 1, 0x0, 0x0, 0x33, 0x0, 0x0, true⟩,
  ⟨0x10044, 4, 0x10, 1, 0x0, 0x55550000, 0xFFFFFFFF, 0x0, 0x0, true⟩,
  ⟨0x10048, 4, 0x10, 1, 0x0, 0xFFFFAAAA, 0xFFFFFFFF, 0x0, 0x0, true⟩,
  ⟨0x10080, 1, 0x0, 1, 0x0, 0x0, 0x0, 0x0, 0x0, false⟩,
  ⟨0x10084, 1, 0x0, 1, 0x0, 0x0, 0x0, 0x0, 0x0, false⟩,
  ⟨0x10088, 1, 0x0, 1, 0x0, 0x0, 0x0, 0x0, 0x0, false⟩,
  ⟨0x1008C, 1, 0x0, 1, 0x0, 0x0, 0x0, 0x0, 0x0, false⟩,
  ⟨0x10090, 1, 0x0, 1, 0x0, 0x0, 0x0, 0x0, 0x0, false⟩,
  ⟨0x10094, 1, 0x0, 1, 0x0, 0x0, 0x0, 0x0, 0x0, false⟩]
/-- The layouts of `ODR` (engine 5). -/
def regDefsODR : List RegDef := [
  ⟨0x14000, 1, 0x0, 1, 0x0, 0x8, 0x8000070F, 0x0, 0x0, true⟩,
  ⟨0x14004, 1, 0x0, 1, 0x0, 0x0, 0x0, 0x0, 0x0, false⟩,
  ⟨0x14008, 1, 0x0, 1, 0x0, 0x100, 0x3F3F, 0x0, 0x0, true⟩,
  ⟨0x1400C, 1, 0x0, 1, 0x0, 0x103, 0x3F3F, 0x0, 0x0, true⟩,
  ⟨0x14010, 4, 0x4, 1, 0x0, 0x0, 0xFFFFFFFF, 0x0, 0x0, true⟩,
  ⟨0x14020, 1, 0x0, 1, 0x0, 0x1900101, 0xFFFF0707, 0x0, 0x0, true⟩,
  ⟨0x14024, 1, 0x0, 1, 0x0, 0x76543210, 0xFFFFFFFF, 0x0, 0x0, true⟩,
  ⟨0x14028, 1, 0x0, 1, 0x0, 0xFEDCBA98, 0xFFFFFFFF, 0x0, 0x0, true⟩,
  ⟨0x1402C, 1, 0x0, 1, 0x0, 0xF800080, 0xFFF0FFF, 0x0, 0x0, true⟩,
  ⟨0x14030, 1, 0x0, 1, 0x0, 0x0, 0xFFFFFFFF, 0x0, 0x0, true⟩,
  ⟨0x14060, 1, 0x0, 1, 0x0, 0x0, 0x0, 0x0, 0x0, false⟩,
  ⟨0x14064, 1, 0x0, 1, 0x0, 0x0, 0x0, 0x0, 0x0, false⟩,
  ⟨0x14068, 1, 0x0, 1, 0x0, 0x0, 0x0, 0x0, 0x0, false⟩,
  ⟨0x1406C, 1, 0x0, 1, 0x0, 0x0, 0x0, 0x0, 0x0, false⟩,
  ⟨0x14070, 1, 0x0, 1, 0x0, 0x0, 0x0, 0x0, 0x0, false⟩,
  ⟨0x14080, 16, 0x4, 1, 0x0, 0x0, 0x0, 0x0, 0x0, false⟩]
/-- The layouts of `DTH` (engine 6). -/
def regDefsDTH : List RegDef := [
  ⟨0x18000, 1, 0x0, 1, 0x0, 0x155, 0x800001FF, 0x0, 0x0, true⟩,
  ⟨0x18004, 1, 0x0, 1, 0x0, 0x0, 0x0, 0x0, 0x0, false⟩,
  ⟨0x18010, 4, 0x4, 1, 0x0, 0x0, 0x3F003F, 0x0, 0x0, true⟩,
  ⟨0x18020, 1, 0x0, 1, 0x0, 0x0, 0x0, 0x0, 0x0, false⟩,
  ⟨0x18024, 1, 0x0, 1, 0x0, 0x0, 0x0, 0x0, 0x0, false⟩,
  ⟨0x18028, 1, 0x0, 1, 0x0, 0x0, 0x0, 0x0, 0x0, false⟩]
/-- The layouts of `TG` (engine 7). -/
def regDefsTG : List RegDef := [
  ⟨0x1C000, 4, 0x400, 1, 0x0, 0x0, 0x80000137, 0x0, 0x0, true⟩,
  ⟨0x1C004, 4, 0x400, 1, 0x0, 0x0, 0x0, 0x0, 0x0, false⟩,
  ⟨0x1C008, 4, 0x400, 1, 0x0, 0x765F07C, 0xFFFFFFFF, 0x0, 0x0, true⟩,
  ⟨0x1C00C, 4, 0x400, 1, 0x0, 0x113010E0, 0xFFFF1FFF, 0x0, 0x0, true⟩,
  ⟨0x1C010, 4, 0x400, 1, 0x0, 0x1E00, 0x1FFF, 0x0, 0x0, true⟩,
  ⟨0x1C014, 4, 0x400, 1, 0x0, 0x100400C8, 0xF1FF03FF, 0x0, 0x0, true⟩,
  ⟨0x1C018, 4, 0x400, 1, 0x0, 0x0, 0xFFFFFFFF, 0x0, 0x0, true⟩,
  ⟨0x1C01C, 4, 0x400, 1, 0x0, 0x78001, 0xFFFFFFFF, 0x0, 0x0, true⟩,
  ⟨0x1C020, 4, 0x400, 1, 0x0, 0x809, 0xFF0F, 0x0, 0x0, true⟩,
  ⟨0x1C024, 4, 0x400, 1, 0x0, 0x0, 0xFFFF, 0x0, 0x0, true⟩,
  ⟨0x1C028, 4, 0x400, 1, 0x0, 0x0, 0x0, 0x0, 0x0, false⟩,
  ⟨0x1C02C, 4, 0x400, 1, 0x0, 0x0, 0x0, 0x0, 0x0, false⟩,
  ⟨0x1C030, 4, 0x400, 1, 0x0, 0x80000000, 0x0, 0x0, 0x0, false⟩,
  ⟨0x1C040, 4, 0x400, 1, 0x0, 0x0, 0x0, 0x0, 0x0, false⟩,
  ⟨0x1C044, 4, 0x400, 1, 0x0, 0x0, 0x0, 0x0, 0x0, false⟩,
  ⟨0x1C048, 4, 0x400, 1, 0x0, 0x0, 0x0, 0x0, 0x0, false⟩,
  ⟨0x1C04C, 4, 0x400, 1, 0x0, 0x0, 0x0, 0x0, 0x0, false⟩,
  ⟨0x1C100, 4, 0x400, 16, 0x10, 0x0, 0xFFF0FFF, 0x0, 0x0, true⟩,
  ⟨0x1C104, 4, 0x400, 16, 0x10, 0x0, 0xFFFFFFFF, 0x0, 0x0, true⟩,
  ⟨0x1C108, 4, 0x400, 16, 0x10, 0x100, 0xF07, 0x0, 0x0, true⟩,
  ⟨0x1D000, 1, 0x0, 1, 0x0, 0x0, 0x3, 0x0, 0x0, false⟩,
  ⟨0x1D004, 1, 0x0, 1, 0x0, 0x0, 0x0, 0x0, 0x0, false⟩,
  ⟨0x1D008, 1, 0x0, 1, 0x0, 0x14020032, 0xFF0F00FF, 0x0, 0x0, false⟩,
  ⟨0x1D010, 4, 0x4, 1, 0x0, 0x0, 0x8000FFFF, 0x0, 0x0, false⟩,
  ⟨0x1D020, 1, 0x0, 1, 0x0, 0x0, 0x0, 0x0, 0x0, false⟩]
/-- The layouts of `ADL` (engine 8). -/
def regDefsADL : List RegDef := [
  ⟨0x20000, 56, 0x40, 1, 0x0, 0xA00000, 0xC3FF1FFF, 0x0, 0x0, true⟩,
  ⟨0x20004, 56, 0x40, 1, 0x0, 0xFF3FF, 0x0, 0x0, 0x0, false⟩,
  ⟨0x20008, 56, 0x40, 1, 0x0, 0x0, 0x0, 0x0, 0x0, false⟩,
  ⟨0x2000C, 56, 0x40, 1, 0x0, 0x0, 0x0, 0x0, 0x0, false⟩,
  ⟨0x20010, 56, 0x40, 1, 0x0, 0x0, 0x0, 0x0, 0x0, false⟩,
  ⟨0x20014, 56, 0x40, 1, 0x0, 0x0, 0x0, 0x0, 0x0, false⟩,
  ⟨0x20018, 56, 0x40, 1, 0x0, 0x0, 0x0, 0x0, 0x0, false⟩,
  ⟨0x21000, 1, 0x0, 1, 0x0, 0x400040, 0xFFF0FFF, 0x0, 0x0, true⟩,
  ⟨0x21004, 1, 0x0, 1, 0x0, 0x0, 0x0, 0x0, 0x0, false⟩,
  ⟨0x21010, 8, 0x4, 1, 0x0, 0x0, 0x7, 0x0, 0x0, true⟩,
  ⟨0x21030, 8, 0x4, 1, 0x0, 0x0, 0x0, 0x0, 0x0, false⟩,
  ⟨0x21060, 1, 0x0, 1, 0x0, 0x0, 0xFFFF0707, 0x0, 0x0, true⟩,
  ⟨0x21064, 1, 0x0, 1, 0x0, 0x0, 0xFFFF0000, 0x0, 0x0, true⟩,
  ⟨0x21068, 1, 0x0, 1, 0x0, 0x0, 0xFFFF0707, 0x0, 0x0, true⟩,
  ⟨0x2106C, 1, 0x0, 1, 0x0, 0x0, 0xFFFF0000, 0x0, 0x0, true⟩,
  ⟨0x21080, 2, 0x10, 1, 0x0, 0x0, 0x0, 0x0, 0x0, false⟩,
  ⟨0x21084, 2, 0x10, 1, 0x0, 0x0, 0x0, 0x0, 0x0, false⟩,
  ⟨0x21088, 2, 0x10, 1, 0x0, 0x0, 0x0, 0x0, 0x0, false⟩,
  ⟨0x210A0, 1, 0x0, 1, 0x0, 0x0, 0x0, 0x0, 0x0, false⟩]
/-- The layouts of `BLE` (engine 9). -/
def regDefsBLE : List RegDef := [
  ⟨0x24000, 24, 0x80, 1, 0x0, 0x1, 0xBFFF007F, 0x0, 0x0, true⟩,
  ⟨0x24004, 24, 0x80, 1, 0x0, 0xFF, 0x0, 0x0, 0x0, false⟩,
  ⟨0x24008, 24, 0x80, 1, 0x0, 0x0, 0x0, 0x0, 0x0, false⟩,
  ⟨0x2400C, 24, 0x80, 1, 0x0, 0x0, 0x0, 0x0, 0x0, false⟩,
  ⟨0x24010, 24, 0x80, 1, 0x0, 0x0, 0x0, 0x0, 0x0, false⟩,
  ⟨0x25000, 1, 0x0, 1, 0x0, 0x20, 0x800000F3, 0x0, 0x0, true⟩,
  ⟨0x25004, 1, 0x0, 1, 0x0, 0x0, 0x0, 0x0, 0x0, false⟩,
  ⟨0x25008, 1, 0x0, 1, 0x0, 0x0, 0x0, 0x0, 0x7, false⟩,
  ⟨0x2500C, 1, 0x0, 1, 0x0, 0x10000, 0xC0FF0000, 0x0, 0x0, true⟩,
  ⟨0x25010, 1, 0x0, 1, 0x0, 0x0, 0x1F, 0x0, 0x0, true⟩,
  ⟨0x25014, 1, 0x0, 1, 0x0, 0x10, 0x1FFF0FFF, 0x0, 0x0, true⟩,
  ⟨0x25018, 1, 0x0, 1, 0x0, 0x0, 0x0, 0x0, 0x0, false⟩,
  ⟨0x25020, 3, 0x4, 1, 0x0, 0x20000000, 0x3F00FFFF, 0x0, 0x0, true⟩,
  ⟨0x25030, 1, 0x0, 1, 0x0, 0x841, 0xFF00FFFF, 0x0, 0x0, true⟩,
  ⟨0x25034, 1, 0x0, 1, 0x0, 0x3E8, 0x8000FFFF, 0x0, 0x0, true⟩,
  ⟨0x25040, 16, 0x4, 1, 0x0, 0xFFF0000, 0xFFF0FFF, 0x0, 0x0, true⟩,
  ⟨0x25080, 1, 0x0, 1, 0x0, 0x17000A, 0xFF9F00FF, 0x0, 0x0, true⟩,
  ⟨0x25084, 1, 0x0, 1, 0x0, 0x0, 0xFFFFFFFF, 0x0, 0x0, true⟩,
  ⟨0x25088, 1, 0x0, 1, 0x0, 0x0, 0x0, 0x0, 0x0, false⟩,
  ⟨0x250A0, 4, 0x10, 1, 0x0, 0x14, 0xFFFF8FFF, 0x0, 0x0, true⟩,
  ⟨0x250A4, 4, 0x10, 1, 0x0, 0x0, 0xFFFF7F7F, 0x0, 0x0, true⟩,
  ⟨0x250A8, 4, 0x10, 1, 0x0, 0x0, 0xFFFFFFFF, 0x0, 0x0, true⟩,
  ⟨0x250AC, 4, 0x10, 1, 0x0, 0x4000, 0xFFFFFFFF, 0x0, 0x0, true⟩,
  ⟨0x250E0, 1, 0x0, 1, 0x0, 0x48003800, 0xFFFFFFFF, 0x0, 0x0, true⟩,
  ⟨0x250E4, 4, 0x4, 1, 0x0, 0x0, 0x0, 0x0, 0x0, false⟩,
  ⟨0x25100, 1, 0x0, 1, 0x0, 0x0, 0xFFFFFF00, 0x0, 0x0, false⟩,
  ⟨0x25120, 1, 0x0, 1, 0x0, 0x0, 0x0, 0x0, 0x0, false⟩,
  ⟨0x25124, 1, 0x0, 1, 0x0, 0x0, 0x0, 0x0, 0x0, false⟩,
  ⟨0x25128, 1, 0x0, 1, 0x0, 0x0, 0x0, 0x0, 0x0, false⟩,
  ⟨0x2512C, 1, 0x0, 1, 0x0, 0x0, 0x0, 0x0, 0x0, false⟩,
  ⟨0x25130, 1, 0x0, 1, 0x0, 0x0, 0x0, 0x0, 0x0, false⟩,
  ⟨0x25134, 1, 0x0, 1, 0x0, 0x0, 0x0, 0x0, 0x0, false⟩,
  ⟨0x25138, 1, 0x0, 1, 0x0, 0x0, 0x0, 0x0, 0x0, false⟩,
  ⟨0x2513C, 1, 0x0, 1, 0x0, 0x0, 0x0, 0x0, 0x0, false⟩,
  ⟨0x25140, 1, 0x0, 1, 0x0, 0x0, 0x0, 0x0, 0x0, false⟩,
  ⟨0x25144, 1, 0x0, 1, 0x0, 0x0, 0x0, 0x0, 0x0, false⟩]
/-- The layouts of `SRF` (engine 10). -/
def regDefsSRF : List RegDef := [
  ⟨0x28000, 1, 0x0, 1, 0x0, 0x401, 0xFF01, 0x0, 0x0, true⟩,
  ⟨0x28004, 1, 0x0, 1, 0x0, 0x0, 0x0, 0x0, 0x0, false⟩,
  ⟨0x28008, 1, 0x0, 1, 0x0, 0x0, 0x0, 0x0, 0x3, false⟩,
  ⟨0x2800C, 1, 0x0, 1, 0x0, 0xA29, 0x3F3F, 0x0, 0x0, true⟩,
  ⟨0x28010, 1, 0x0, 1, 0x0, 0x23D, 0x3F3F, 0x0, 0x0, true⟩,
  ⟨0x28014, 1, 0x0, 1, 0x0, 0x0, 0x0, 0x0, 0x0, false⟩,
  ⟨0x28020, 1, 0x0, 1, 0x0, 0x0, 0x0, 0x0, 0x0, false⟩,
  ⟨0x28024, 1, 0x0, 1, 0x0, 0x0, 0x0, 0x0, 0x0, false⟩,
  ⟨0x28028, 1, 0x0, 1, 0x0, 0x0, 0x0, 0x0, 0x0, false⟩,
  ⟨0x2802C, 1, 0x0, 1, 0x0, 0x0, 0x0, 0x0, 0x0, false⟩,
  ⟨0x28030, 1, 0x0, 1, 0x0, 0x0, 0x0, 0x0, 0x0, false⟩,
  ⟨0x28034, 1, 0x0, 1, 0x0, 0x0, 0x0, 0x0, 0x0, false⟩,
  ⟨0x28038, 1, 0x0, 1, 0x0, 0x0, 0x0, 0x0, 0x0, false⟩,
  ⟨0x2803C, 1, 0x0, 1, 0x0, 0x0, 0x0, 0x0, 0x0, false⟩,
  ⟨0x28040, 3, 0x8, 1, 0x0, 0x0, 0x0, 0x0, 0x0, false⟩,
  ⟨0x28044, 3, 0x8, 1, 0x0, 0x0, 0x0, 0x0, 0x0, false⟩,
  ⟨0x28100, 16, 0x20, 1, 0x0, 0x0, 0xC0000000, 0x0, 0x0, false⟩,
  ⟨0x28104, 16, 0x20, 1, 0x0, 0x0, 0xFFFFFFFF, 0x0, 0x0, false⟩,
  ⟨0x28108, 16, 0x20, 1, 0x0, 0x0, 0xFFFFFFFF, 0x0, 0x0, false⟩,
  ⟨0x2810C, 16, 0x20, 1, 0x0, 0x40000000, 0xFFFFFFFF, 0x0, 0x0, false⟩,
  ⟨0x28110, 16, 0x20, 1, 0x0, 0x0, 0xFFFF0003, 0x0, 0x0, false⟩,
  ⟨0x28114, 16, 0x20, 1, 0x0, 0x0, 0xFFFFFFFF, 0x0, 0x0, false⟩,
  ⟨0x28118, 16, 0x20, 1, 0x0, 0x0, 0x0, 0x0, 0x1, false⟩,
  ⟨0x2811C, 16, 0x20, 1, 0x0, 0xFF, 0x0, 0x0, 0x0, false⟩]
/-- The layouts of `FST` (engine 11). -/
def regDefsFST : List RegDef := [
  ⟨0x2C000, 64, 0x40, 1, 0x0, 0x0, 0x3F, 0x0, 0x0, false⟩,
  ⟨0x2C004, 64, 0x40, 1, 0x0, 0x0, 0x1, 0x0, 0x0, false⟩,
  ⟨0x2C008, 64, 0x40, 1, 0x0, 0x20000000, 0x0, 0x0, 0x0, false⟩,
  ⟨0x2D000, 1, 0x0, 1, 0x0, 0x1003C, 0x10FFF, 0x0, 0x0, false⟩,
  ⟨0x2D004, 1, 0x0, 1, 0x0, 0x0, 0x0, 0x3, 0x0, false⟩,
  ⟨0x2D008, 1, 0x0, 1, 0x0, 0x0, 0x0, 0x0, 0x0, false⟩,
  ⟨0x2D00C, 1, 0x0, 1, 0x0, 0x0, 0x0, 0x0, 0x0, false⟩,
  ⟨0x2D020, 1, 0x0, 1, 0x0, 0x0, 0x0, 0x0, 0x0, false⟩,
  ⟨0x2D024, 1, 0x0, 1, 0x0, 0x0, 0x0, 0x0, 0x0, false⟩,
  ⟨0x2D028, 1, 0x0, 1, 0x0, 0x0, 0x0, 0x0, 0x0, false⟩,
  ⟨0x2D02C, 1, 0x0, 1, 0x0, 0x0, 0x0, 0x0, 0x0, false⟩,
  ⟨0x2D030, 1, 0x0, 1, 0x0, 0x0, 0x0, 0x0, 0x0, false⟩,
  ⟨0x2D034, 1, 0x0, 1, 0x0, 0x0, 0x0, 0x0, 0x0, false⟩,
  ⟨0x2D038, 1, 0x0, 1, 0x0, 0x0, 0x0, 0x0, 0x0, false⟩,
  ⟨0x2D040, 1, 0x0, 1, 0x0, 0x0, 0x0, 0x0, 0x0, false⟩]
/-- The layouts of `CPR` (engine 12). -/
def regDefsCPR : List RegDef := [
  ⟨0x30000, 1, 0x0, 1, 0x0, 0x1, 0x1, 0x0, 0x0, false⟩,
  ⟨0x30004, 1, 0x0, 1, 0x0, 0x0, 0x0, 0x0, 0x0, false⟩,
  ⟨0x30040, 4, 0x40, 1, 0x0, 0x0, 0xFFFFFFFF, 0x0, 0x0, false⟩,
  ⟨0x30044, 4, 0x40, 1, 0x0, 0x0, 0x1FF, 0x0, 0x0, false⟩,
  ⟨0x30048, 4, 0x40, 1, 0x0, 0x0, 0xFF, 0x0, 0x0, false⟩,
  ⟨0x3004C, 4, 0x40, 1, 0x0, 0x0, 0x0, 0x0, 0x0, false⟩,
  ⟨0x30050, 4, 0x40, 1, 0x0, 0x0, 0x0, 0x0, 0x0, false⟩,
  ⟨0x30054, 4, 0x40, 1, 0x0, 0x0, 0x0, 0x0, 0x3, false⟩,
  ⟨0x30058, 4, 0x40, 1, 0x0, 0x0, 0x0, 0x0, 0x0, false⟩,
  ⟨0x3005C, 4, 0x40, 1, 0x0, 0x0, 0x0, 0x0, 0x0, false⟩,
  ⟨0x30060, 4, 0x40, 1, 0x0, 0x0, 0x0, 0x0, 0x0, false⟩,
  ⟨0x30200, 1, 0x0, 1, 0x0, 0x0, 0x0, 0x0, 0x0, false⟩,
  ⟨0x30204, 1, 0x0, 1, 0x0, 0x0, 0x0, 0x0, 0x0, false⟩,
  ⟨0x30208, 1, 0x0, 1, 0x0, 0x0, 0x0, 0x0, 0x0, false⟩,
  ⟨0x3020C, 1, 0x0, 1, 0x0, 0x0, 0x0, 0x0, 0x0, false⟩]
/-- The layouts of `LNS` (engine 13). -/
def regDefsLNS : List RegDef := [
  ⟨0x34000, 144, 0x40, 1, 0x0, 0x0, 0xBC, 0x0, 0x0, false⟩,
  ⟨0x34004, 144, 0x40, 1, 0x0, 0x0, 0x0, 0x0, 0x0, false⟩,
  ⟨0x34008, 144, 0x40, 1, 0x0, 0x800800, 0xF01F0F, 0x0, 0x0, false⟩,
  ⟨0x3400C, 144, 0x40, 1, 0x0, 0x8800, 0x8F00, 0x0, 0x0, false⟩,
  ⟨0x34010, 144, 0x40, 1, 0x0, 0x80000000, 0x0, 0x0, 0x0, false⟩,
  ⟨0x34014, 144, 0x40, 1, 0x0, 0x0, 0x0, 0x0, 0x0, false⟩,
  ⟨0x34018, 144, 0x40, 1, 0x0, 0x0, 0x0, 0x0, 0x0, false⟩,
  ⟨0x3401C, 144, 0x40, 1, 0x0, 0x200040, 0x803F007F, 0x0, 0x0, false⟩,
  ⟨0x34020, 144, 0x40, 1, 0x0, 0x0, 0x0, 0x0, 0x0, false⟩,
  ⟨0x34024, 144, 0x40, 1, 0x0, 0x0, 0x0, 0x0, 0x1, false⟩,
  ⟨0x34028, 144, 0x40, 1, 0x0, 0x0, 0x0, 0x0, 0x0, false⟩,
  ⟨0x3402C, 144, 0x40, 1, 0x0, 0x0, 0x0, 0x0, 0x0, false⟩,
  ⟨0x34030, 144, 0x40, 1, 0x0, 0x0, 0x0, 0x0, 0x0, false⟩,
  ⟨0x37000, 1, 0x0, 1, 0x0, 0x4641010, 0xFFFFFFF, 0x0, 0x0, false⟩,
  ⟨0x37004, 1, 0x0, 1, 0x0, 0x0, 0x0, 0x0, 0x0, false⟩]
/-- The layouts of `HTM` (engine 14). -/
def regDefsHTM : List RegDef := [
  ⟨0x38000, 1, 0x0, 1, 0x0, 0x7F000000, 0xFF0F0000, 0x0, 0x0, false⟩,
  ⟨0x38004, 1, 0x0, 1, 0x0, 0x0, 0x0, 0x0, 0x0, false⟩,
  ⟨0x38010, 1, 0x0, 1, 0x0, 0x0, 0x0, 0x0, 0x0, false⟩,
  ⟨0x38014, 1, 0x0, 1, 0x0, 0x0, 0x0, 0x0, 0x0, false⟩,
  ⟨0x38018, 1, 0x0, 1, 0x0, 0x0, 0x0, 0x0, 0x0, false⟩,
  ⟨0x38020, 1, 0x0, 1, 0x0, 0x0, 0xFFFFFFFF, 0x0, 0x0, false⟩,
  ⟨0x38024, 1, 0x0, 1, 0x0, 0x0, 0xFFFFFFFF, 0x0, 0x0, false⟩,
  ⟨0x38028, 1, 0x0, 1, 0x0, 0x0, 0x0, 0x0, 0xFFFFFFFF, false⟩,
  ⟨0x38030, 1, 0x0, 1, 0x0, 0x20100064, 0xFFFFFFFF, 0x0, 0x0, false⟩,
  ⟨0x38034, 1, 0x0, 1, 0x0, 0xC350, 0xFFFFFFFF, 0x0, 0x0, false⟩,
  ⟨0x38038, 1, 0x0, 1, 0x0, 0x0, 0xFFFFFFFF, 0x0, 0x0, false⟩,
  ⟨0x38040, 1, 0x0, 1, 0x0, 0x0, 0xFFFFFFFF, 0x0, 0x0, false⟩,
  ⟨0x38044, 1, 0x0, 1, 0x0, 0x0, 0xFFFF, 0x0, 0x0, false⟩,
  ⟨0x38048, 1, 0x0, 1, 0x0, 0x0, 0xFFFFFFFF, 0x0, 0x0, false⟩,
  ⟨0x3804C, 1, 0x0, 1, 0x0, 0x2E, 0x8FFF1F3F, 0x0, 0x0, false⟩,
  ⟨0x38050, 1, 0x0, 1, 0x0, 0x80000000, 0x0, 0x0, 0x0, false⟩,
  ⟨0x38054, 1, 0x0, 1, 0x0, 0x0, 0x0, 0x0, 0x0, false⟩,
  ⟨0x38058, 1, 0x0, 1, 0x0, 0x0, 0x0, 0x0, 0x0, false⟩,
  ⟨0x38060, 1, 0x0, 1, 0x0, 0x0, 0x0, 0x0, 0x0, false⟩,
  ⟨0x38064, 1, 0x0, 1, 0x0, 0x0, 0x0, 0x0, 0x0, false⟩,
  ⟨0x38068, 1, 0x0, 1, 0x0, 0x0, 0x0, 0x0, 0x0, false⟩,
  ⟨0x38070, 1, 0x0, 1, 0x0, 0x0, 0xFFFFFFFF, 0x0, 0x0, false⟩,
  ⟨0x38074, 1, 0x0, 1, 0x0, 0x0, 0xFFFF, 0x0, 0x0, false⟩,
  ⟨0x38078, 1, 0x0, 1, 0x0, 0x0, 0xFFFFFFFF, 0x0, 0x0, false⟩,
  ⟨0x38080, 1, 0x0, 1, 0x0, 0x0, 0xFFF0FFFF, 0x0, 0x0, false⟩,
  ⟨0x38090, 1, 0x0, 1, 0x0, 0x0, 0x0, 0x0, 0x0, false⟩,
  ⟨0x38094, 1, 0x0, 1, 0x0, 0x0, 0x0, 0x0, 0x0, false⟩,
  ⟨0x38098, 1, 0x0, 1, 0x0, 0x0, 0x0, 0x0, 0x0, false⟩,
  ⟨0x3809C, 1, 0x0, 1, 0x0, 0x0, 0x0, 0x0, 0x0, false⟩,
  ⟨0x380A0, 1, 0x0, 1, 0x0, 0x0, 0x0, 0x0, 0x0, false⟩,
  ⟨0x380A4, 1, 0x0, 1, 0x0, 0x0, 0x0, 0x0, 0x0, false⟩]
/-- The layouts of `CAL` (engine 15). -/
def regDefsCAL : List RegDef := [
  ⟨0x3C000, 1, 0x0, 1, 0x0, 0xC4140258, 0xCFFFFFFF, 0x0, 0x0, false⟩,
  ⟨0x3C004, 1, 0x0, 1, 0x0, 0x3FF000, 0x0, 0x0, 0x0, false⟩,
  ⟨0x3C008, 1, 0x0, 1, 0x0, 0x0, 0x0, 0x0, 0xFF, false⟩,
  ⟨0x3C00C, 1, 0x0, 1, 0x0, 0xFF000000, 0x0, 0x0, 0x0, false⟩,
  ⟨0x3C010, 1, 0x0, 1, 0x0, 0x0, 0x0, 0x0, 0x0, false⟩,
  ⟨0x3C020, 1, 0x0, 1, 0x0, 0x0, 0x0, 0x0, 0x0, false⟩,
  ⟨0x3C024, 1, 0x0, 1, 0x0, 0x0, 0x0, 0x0, 0x0, false⟩,
  ⟨0x3C028, 1, 0x0, 1, 0x0, 0x0, 0x0, 0x0, 0x0, false⟩,
  ⟨0x3C02C, 1, 0x0, 1, 0x0, 0x0, 0x0, 0x0, 0x0, false⟩,
  ⟨0x3C030, 1, 0x0, 1, 0x0, 0x0, 0x0, 0x0, 0x0, false⟩,
  ⟨0x3C034, 1, 0x0, 1, 0x0, 0x0, 0x0, 0x0, 0x0, false⟩,
  ⟨0x3C038, 1, 0x0, 1, 0x0, 0x0, 0x0, 0x0, 0x0, false⟩]
/-- The layouts of `MGT` (engine 16). -/
def regDefsMGT : List RegDef := [
  ⟨0x40000, 1, 0x0, 1, 0x0, 0x14000000, 0xFF000000, 0x0, 0x0, false⟩,
  ⟨0x40004, 1, 0x0, 1, 0x0, 0x0, 0x0, 0x0, 0x0, false⟩,
  ⟨0x40008, 1, 0x0, 1, 0x0, 0x0, 0x0, 0x0, 0x3, false⟩,
  ⟨0x4000C, 1, 0x0, 1, 0x0, 0x0, 0x0, 0x0, 0x0, false⟩,
  ⟨0x40010, 1, 0x0, 1, 0x0, 0x0, 0xFFFF, 0x0, 0x0, false⟩,
  ⟨0x40020, 1, 0x0, 1, 0x0, 0x170E40, 0xFF9FFFF0, 0x0, 0x0, false⟩,
  ⟨0x40024, 1, 0x0, 1, 0x0, 0x3200258, 0xFFFFFFFF, 0x0, 0x0, false⟩,
  ⟨0x40028, 1, 0x0, 1, 0x0, 0x0, 0x0, 0x0, 0x0, false⟩,
  ⟨0x40040, 1, 0x0, 1, 0x0, 0x0, 0x0, 0x0, 0x0, false⟩,
  ⟨0x40060, 1, 0x0, 1, 0x0, 0x0, 0x0, 0x0, 0x0, false⟩,
  ⟨0x40064, 1, 0x0, 1, 0x0, 0x0, 0x0, 0x0, 0x0, false⟩,
  ⟨0x40068, 1, 0x0, 1, 0x0, 0x0, 0x0, 0x0, 0x0, false⟩,
  ⟨0x4006C, 1, 0x0, 1, 0x0, 0x0, 0x0, 0x0, 0x0, false⟩,
  ⟨0x40070, 1, 0x0, 1, 0x0, 0x0, 0x0, 0x0, 0x0, false⟩,
  ⟨0x40074, 1, 0x0, 1, 0x0, 0x0, 0x0, 0x0, 0x0, false⟩,
  ⟨0x40078, 1, 0x0, 1, 0x0, 0x0, 0x0, 0x0, 0x0, false⟩,
  ⟨0x40100, 3, 0x20, 4, 0x4, 0x0, 0xFFFFFFFF, 0x0, 0x0, false⟩,
  ⟨0x40110, 3, 0x20, 1, 0x0, 0x0, 0x0, 0x0, 0xFF00FFFF, false⟩,
  ⟨0x40114, 3, 0x20, 1, 0x0, 0x0, 0x0, 0x0, 0x0, false⟩,
  ⟨0x40118, 3, 0x20, 1, 0x0, 0x0, 0x0, 0x0, 0x0, false⟩,
  ⟨0x4011C, 3, 0x20, 1, 0x0, 0x0, 0x0, 0x0, 0x0, false⟩]
/-- The layouts of `HPT` (engine 17). -/
def regDefsHPT : List RegDef := [
  ⟨0x44000, 3, 0x40, 1, 0x0, 0x0, 0x0, 0x0, 0x0, false⟩,
  ⟨0x44004, 3, 0x40, 1, 0x0, 0x0, 0x0, 0x0, 0x0, false⟩,
  ⟨0x44008, 3, 0x40, 1, 0x0, 0x0, 0x0, 0x0, 0x0, false⟩,
  ⟨0x4400C, 3, 0x40, 1, 0x0, 0x0, 0x0, 0x0, 0x0, false⟩]
/-- The layouts of `SEQ` (engine 18). -/
def regDefsSEQ : List RegDef := [
  ⟨0x48000, 8, 0x20, 1, 0x0, 0x0, 0xFFFFFFFF, 0x0, 0x0, false⟩,
  ⟨0x48004, 8, 0x20, 1, 0x0, 0x0, 0xFFFFFFFF, 0x0, 0x0, false⟩,
  ⟨0x48008, 8, 0x20, 1, 0x0, 0x0, 0xFFFFFF, 0x0, 0x0, false⟩,
  ⟨0x4800C, 8, 0x20, 1, 0x0, 0x0, 0x0, 0x0, 0xE000FFFF, false⟩,
  ⟨0x48010, 8, 0x20, 1, 0x0, 0x0, 0x0, 0x0, 0x0, false⟩,
  ⟨0x48200, 3, 0x8, 1, 0x0, 0x0, 0x0, 0x0, 0x0, false⟩,
  ⟨0x48204, 3, 0x8, 1, 0x0, 0x0, 0x0, 0x0, 0x0, false⟩]
/-- The layouts of `EVT` (engine 19). -/
def regDefsEVT : List RegDef := [
  ⟨0x4C000, 512, 0x4, 1, 0x0, 0x3, 0xF, 0x80000000, 0x0, false⟩,
  ⟨0x4C800, 3, 0x20, 1, 0x0, 0x80010064, 0x80FFFFFF, 0x0, 0x0, false⟩,
  ⟨0x4C804, 3, 0x20, 1, 0x0, 0x0, 0x0, 0x0, 0x0, false⟩,
  ⟨0x4C808, 3, 0x20, 1, 0x0, 0x0, 0x0, 0x0, 0x0, false⟩,
  ⟨0x4C80C, 3, 0x20, 1, 0x0, 0x0, 0x0, 0x0, 0x0, false⟩,
  ⟨0x4C810, 3, 0x20, 1, 0x0, 0x0, 0x0, 0x0, 0x0, false⟩,
  ⟨0x4C814, 3, 0x20, 1, 0x0, 0x0, 0x0, 0x0, 0x0, false⟩,
  ⟨0x4C818, 3, 0x20, 1, 0x0, 0x0, 0x0, 0x0, 0x0, false⟩]
/-- The layouts of `TAL` (engine 20). -/
def regDefsTAL : List RegDef := [
  ⟨0x50000, 1, 0x0, 1, 0x0, 0x0, 0x81FFFFFF, 0x0, 0x0, false⟩,
  ⟨0x50004, 1, 0x0, 1, 0x0, 0x0, 0x0, 0x0, 0x1, false⟩,
  ⟨0x50008, 1, 0x0, 1, 0x0, 0x0, 0x0, 0x0, 0x0, false⟩,
  ⟨0x5000C, 1, 0x0, 1, 0x0, 0x0, 0x0, 0x0, 0x0, false⟩,
  ⟨0x50010, 2, 0x4, 1, 0x0, 0x0, 0x1, 0x0, 0x0, false⟩,
  ⟨0x50018, 1, 0x0, 1, 0x0, 0x0, 0x0, 0x0, 0x0, false⟩,
  ⟨0x5001C, 1, 0x0, 1, 0x0, 0x0, 0x0, 0x0, 0x0, false⟩,
  ⟨0x50040, 1, 0x0, 1, 0x0, 0x13C, 0x1FF, 0x0, 0x0, false⟩,
  ⟨0x50044, 1, 0x0, 1, 0x0, 0x0, 0x0, 0x0, 0x0, false⟩,
  ⟨0x50048, 1, 0x0, 1, 0x0, 0x0, 0x0, 0x0, 0x0, false⟩,
  ⟨0x5004C, 1, 0x0, 1, 0x0, 0x0, 0x0, 0x0, 0x0, false⟩,
  ⟨0x50050, 1, 0x0, 1, 0x0, 0x0, 0x0, 0x0, 0x0, false⟩]
/-- The layouts of `CFG` (engine 21). -/
def regDefsCFG : List RegDef := [
  ⟨0x54000, 1, 0x0, 1, 0x0, 0x603FF11, 0x0, 0x0, 0x0, false⟩,
  ⟨0x54004, 1, 0x0, 1, 0x0, 0x0, 0x0, 0x0, 0xFFFF0007, false⟩,
  ⟨0x54008, 1, 0x0, 1, 0x0, 0x0, 0x0, 0x0, 0x0, false⟩,
  ⟨0x54010, 1, 0x0, 1, 0x0, 0x0, 0x0, 0x0, 0x0, false⟩,
  ⟨0x54014, 1, 0x0, 1, 0x0, 0x0, 0x0, 0x0, 0xFFFF0003, false⟩,
  ⟨0x54020, 8, 0x4, 1, 0x0, 0x0, 0xFFFFFFFF, 0x0, 0x0, false⟩,
  ⟨0x54040, 1, 0x0, 1, 0x0, 0x0, 0x1, 0x0, 0x0, false⟩,
  ⟨0x54060, 1, 0x0, 1, 0x0, 0x0, 0xFFFFFFFF, 0x0, 0x0, false⟩,
  ⟨0x54064, 1, 0x0, 1, 0x0, 0x40000000, 0xFFFFFFFF, 0x0, 0x0, false⟩,
  ⟨0x54068, 1, 0x0, 1, 0x0, 0x0, 0xFFFFFFFF, 0x0, 0x0, false⟩,
  ⟨0x5406C, 1, 0x0, 1, 0x0, 0x0, 0x0, 0x0, 0x3, false⟩,
  ⟨0x54070, 1, 0x0, 1, 0x0, 0x0, 0x0, 0x0, 0x0, false⟩]
/-- The layouts of `PWR` (engine 22). -/
def regDefsPWR : List RegDef := [
  ⟨0x58000, 1, 0x0, 1, 0x0, 0x1, 0x1, 0x0, 0x0, false⟩,
  ⟨0x58004, 1, 0x0, 1, 0x0, 0x0, 0x0, 0x0, 0x0, false⟩,
  ⟨0x58008, 1, 0x0, 1, 0x0, 0x0, 0x0, 0x0, 0x0, false⟩,
  ⟨0x58010, 1, 0x0, 1, 0x0, 0x0, 0x0, 0x0, 0x0, false⟩,
  ⟨0x58014, 1, 0x0, 1, 0x0, 0x0, 0x0, 0x0, 0x0, false⟩,
  ⟨0x58104, 99, 0x4, 1, 0x0, 0x0, 0x3, 0x0, 0x0, false⟩]
/-- The layouts of `SLC` (engine 23). -/
def regDefsSLC : List RegDef := [
  ⟨0x5C000, 17, 0x200, 1, 0x0, 0xE0000000, 0x0, 0x0, 0x0, false⟩,
  ⟨0x5C004, 17, 0x200, 1, 0x0, Config.sliceBaseline, 0x0, 0x0, 0x0, false⟩,
  ⟨0x5C008, 17, 0x200, 1, 0x0, 0x0, 0x0, 0x0, 0x0, false⟩,
  ⟨0x5C00C, 17, 0x200, 1, 0x0, 0xFFFF0000, 0x0, 0x0, 0x0, false⟩]

/-- The layouts of engine e, counted as in Table 1.2 (R463). -/
def regDefs (e : Nat) : List RegDef :=
  match e with
  | 0 => regDefsDEV
  | 1 => regDefsPIL
  | 2 => regDefsFE
  | 3 => regDefsSPL
  | 4 => regDefsPCM
  | 5 => regDefsODR
  | 6 => regDefsDTH
  | 7 => regDefsTG
  | 8 => regDefsADL
  | 9 => regDefsBLE
  | 10 => regDefsSRF
  | 11 => regDefsFST
  | 12 => regDefsCPR
  | 13 => regDefsLNS
  | 14 => regDefsHTM
  | 15 => regDefsCAL
  | 16 => regDefsMGT
  | 17 => regDefsHPT
  | 18 => regDefsSEQ
  | 19 => regDefsEVT
  | 20 => regDefsTAL
  | 21 => regDefsCFG
  | 22 => regDefsPWR
  | 23 => regDefsSLC
  | _ => []

/-- Whether address a is one of the registers of layout d. -/
def RegDef.covers (d : RegDef) (a : Nat) : Bool :=
  let o := a - d.base
  let i := if d.s1 = 0 then 0 else o / d.s1
  let r := o - i * d.s1
  let j := if d.s2 = 0 then 0 else r / d.s2
  d.base ≤ a && i < d.n1 && j < d.n2 && o = i * d.s1 + j * d.s2

/-- The layout of the register at address a, if a chapter defines one (R463). -/
def regDef? (a : Nat) : Option RegDef :=
  (regDefs (a / 0x4000)).find? (fun d => d.covers a)

/-- Reset values that differ between the units of one layout: the identity matrix of `FE_SETs_MATi`, the set bounds of
`ODR_TEMPjk`, the ON request of domain 1 (R448), the unpowered slices (R468), and the fuse MAC address (R427). -/
def resetOverride (a : Nat) : Option Nat :=
  if a = R.FE_SET_MAT 0 0 ∨ a = R.FE_SET_MAT 0 2 ∨ a = R.FE_SET_MAT 1 0 ∨ a = R.FE_SET_MAT 1 2 then some 0x40000000
  else if a = R.ODR_TEMP 0 then some 0x00A00000
  else if a = R.ODR_TEMP 1 then some 0x01E00140
  else if a = R.ODR_TEMP 2 then some 0x03200280
  else if a = R.ODR_TEMP 3 then some 0x046003C0
  else if a = R.PWR_DOM 1 then some 2
  else if a = R.HTM_MAC_LO then some (Config.fuseMac % 0x100000000)
  else if a = R.HTM_MAC_HI then some (Config.fuseMac / 0x100000000)
  else none

end Sys2Proof.Machine
end

