-- ==== Sys2Proof/Machine/Ops.lean ====
section
/-! DEFINITION. The named operations over the part's registers, fields, counters, tables, memories and outputs: every
meaning reads and writes the state through them. -/

namespace Sys2Proof.Machine

/-! ### Sparse maps -/

/-- The entry of a key, if the map lists it. -/
def mfind {α : Type} : SMap α → Nat → Option α
  | [], _ => none
  | (k, v) :: m, a => if a = k then some v else mfind m a

/-- The map without a key. -/
def merase {α : Type} (m : SMap α) (a : Nat) : SMap α := m.filter (fun e => e.1 != a)

/-- The map with an entry put in its place; the key is not listed before. -/
def mins {α : Type} : SMap α → Nat → α → SMap α
  | [], a, v => [(a, v)]
  | (k, w) :: m, a, v => if a < k then (a, v) :: (k, w) :: m else (k, w) :: mins m a v

/-- The map with a key set, whatever it held. -/
def mput {α : Type} (m : SMap α) (a : Nat) (v : α) : SMap α := mins (merase m a) a v

/-- The value of a key, d where it is not listed. -/
def mget {α : Type} (d : α) (m : SMap α) (a : Nat) : α := (mfind m a).getD d

/-- The map with a key set; a key that takes the value d is not listed (the canonical form). -/
def mset {α : Type} [DecidableEq α] (d : α) (m : SMap α) (a : Nat) (v : α) : SMap α :=
  if v = d then merase m a else mput m a v

/-- Apply a function to the value of a key. -/
def mupd {α : Type} [DecidableEq α] (d : α) (m : SMap α) (a : Nat) (f : α → α) : SMap α := mset d m a (f (mget d m a))

/-- The canonical form: keys strictly rising, no entry equal to the default. -/
def mwf {α : Type} [DecidableEq α] (d : α) : SMap α → Bool
  | [] => true
  | (k, v) :: m => decide (v ≠ d) && m.all (fun e => decide (k < e.1)) && mwf d m

/-- Memories of bytes (the folds, the locked fold, the NVM) in canonical form, with the byte that an unlisted address holds. -/
abbrev Memory.wf (d : Byte) (m : List Host.Cell) : Prop := mwf d m = true

/-! ### Registers and fields -/

/-- The reset value of the register at an address (R391, Tables 1.6 to 21.8); 0 where no chapter defines one. -/
def resetOf (a : Nat) : Nat :=
  match resetOverride a with
  | some v => v
  | none => match regDef? a with
    | some d => d.reset
    | none => 0

/-- The value of the register at an address: its active copy (R12, R13). -/
def State.reg (s : State) (a : Nat) : Nat :=
  match mfind s.regs a with
  | some w => w.toNat
  | none => resetOf a

/-- The state with a register set; a register at its reset value is not listed. -/
def State.setReg (s : State) (a v : Nat) : State :=
  { s with regs := if v % 2 ^ 32 = resetOf a then merase s.regs a else mput s.regs a (BitVec.ofNat 32 v) }

/-- The last value written to a register: its shadow where one waits (R13). -/
def State.regW (s : State) (a : Nat) : Nat :=
  match mfind s.shadow a with
  | some w => w.toNat
  | none => s.reg a

/-- A word with the bits [hi:lo] replaced. -/
def putBits (w hi lo v : Nat) : Nat := w / 2 ^ (hi + 1) * 2 ^ (hi + 1) + v % 2 ^ (hi + 1 - lo) * 2 ^ lo + w % 2 ^ lo

/-- The value of a field. -/
def State.get (s : State) (f : FRef) : Nat := bits (s.reg f.addr) f.hi f.lo

/-- The value of a field as last written. -/
def State.getW (s : State) (f : FRef) : Nat := bits (s.regW f.addr) f.hi f.lo

/-- Whether a field is not 0. -/
def State.flag (s : State) (f : FRef) : Bool := s.get f != 0

/-- The state with a field set. -/
def State.put (s : State) (f : FRef) (v : Nat) : State := s.setReg f.addr (putBits (s.reg f.addr) f.hi f.lo v)

/-- The state with a one-bit field set to a condition. -/
def State.putB (s : State) (f : FRef) (b : Bool) : State := s.put f (bit b)

/-- A field taken from the registers of a snapshot (R91, R125). -/
def Snap.get (n : Snap) (f : FRef) : Nat :=
  bits (match mfind n.regs f.addr with | some w => w.toNat | none => resetOf f.addr) f.hi f.lo

/-- Whether a field of a snapshot is not 0. -/
def Snap.flag (n : Snap) (f : FRef) : Bool := n.get f != 0

/-! ### Events, outputs, free values -/

/-- An occurrence of an event source with its class; `deliver` routes it at the end of the command (R393). -/
def State.raise (s : State) (src cls : Nat) : State := { s with occ := s.occ ++ [⟨src, cls⟩] }

/-- An occurrence where a condition holds. -/
def State.raiseIf (s : State) (b : Bool) (src cls : Nat) : State := if b then s.raise src cls else s

/-- Something sent out of the part's balls. -/
def State.emit (s : State) (o : Output) : State := { s with out := s.out ++ [o] }

/-- The next free value, w bits (assumption log 4). -/
def State.freeVal (s : State) (w : Nat) : Nat := (Config.free s.freeCtr).toNat % 2 ^ w

/-- The words that the next copy of the copy engine finds in error: a free value. -/
def State.freeEcc (s : State) : EccMap := Config.freeWords s.freeCtr

/-- The state in which the next free value is used up. -/
def State.useFree (s : State) : State := { s with freeCtr := s.freeCtr + 1 }

/-! ### Counters and their tally twins (R403, R404) -/

/-- The counter registers of an engine that are no unit's, in register-offset order (R404). -/
def engineCounters : List (List Nat) := [
  [],
  [R.PIL_CNT_CRC, R.PIL_CNT_CONCEAL, R.PIL_CNT_DISCARD, R.PIL_CNT_LANE_LOSS, R.PIL_CNT_FRAME_SKIP],
  [R.FE_CNT_GAMUT, R.FE_CNT_LIMIT, R.FE_CNT_SET1],
  [R.SPL_CNT_CLIP, R.SPL_CNT_TMIN, R.SPL_CNT_SYNC, R.SPL_CNT_BL_SWAP],
  [R.PCM_CNT_CLIP, R.PCM_CNT_MASKED, R.PCM_CNT_UNMASKED, R.PCM_CNT_DECODE_ERR, R.PCM_CNT_AUTO],
  [R.ODR_CNT_SYNC, R.ODR_CNT_HIST_ERR, R.ODR_CNT_HIST_FULL, R.ODR_CNT_HOLD, R.ODR_CNT_TH_EXCL],
  [R.DTH_CNT_RESTART, R.DTH_CNT_FROZEN, R.DTH_CNT_SAT],
  [],
  [R.ADL_CNT_LOCKN_LOST],
  [R.BLE_CNT_SWAP, R.BLE_CNT_LATE, R.BLE_CNT_SUPPRESS, R.BLE_CNT_DEAD, R.BLE_CNT_VLED_UP, R.BLE_CNT_VLED_DOWN,
    R.BLE_CNT_SNS_ERR, R.BLE_CNT_SETTLE, R.BLE_CNT_SYNC_IGN, R.BLE_CNT_SPL_DROP],
  [R.SRF_CNT_ENTER, R.SRF_CNT_HELD, R.SRF_CNT_SWAP_WAIT, R.SRF_CNT_SWAP, R.SRF_CNT_SUPERSEDED, R.SRF_CNT_LOST,
    R.SRF_CNT_OVERLAP, R.SRF_CNT_REFUSED],
  [R.FST_CNT_CE, R.FST_CNT_UE, R.FST_CNT_CONCEAL, R.FST_CNT_COLLIDE, R.FST_CNT_FOREIGN, R.FST_CNT_OFF_ACCESS,
    R.FST_CNT_GRAZE_PASS],
  [R.CPR_CNT_JOBS, R.CPR_CNT_FAILED, R.CPR_CNT_RAW_SEG, R.CPR_CNT_VERIFY],
  [],
  [R.HTM_CNT_SYNC, R.HTM_CNT_DELAY, R.HTM_CNT_DROP, R.HTM_CNT_STEP, R.HTM_CNT_HOLDOVER, R.HTM_CNT_PPS_IGN],
  [R.CAL_CNT_DONE, R.CAL_CNT_UNSTABLE, R.CAL_CNT_SKIP, R.CAL_CNT_RECALL, R.CAL_CNT_POSTPONE, R.CAL_CNT_MISMATCH,
    R.CAL_CNT_RETIRE],
  [R.MGT_CNT_DOG, R.MGT_CNT_REBOOT_FAIL, R.MGT_CNT_DEFER_C4, R.MGT_CNT_DEFER_C3, R.MGT_CNT_REPLAN, R.MGT_CNT_GUARD,
    R.MGT_CNT_ABORTED],
  [], [],
  [R.EVT_H_CNT_REC 0, R.EVT_H_CNT_MERGE 0, R.EVT_H_CNT_HELD 0, R.EVT_H_CNT_REC 1, R.EVT_H_CNT_MERGE 1,
    R.EVT_H_CNT_HELD 1, R.EVT_H_CNT_REC 2, R.EVT_H_CNT_MERGE 2, R.EVT_H_CNT_HELD 2],
  [R.TAL_DEFERRED, R.TAL_CNT_MERGED, R.TAL_CNT_LOG_WRITE, R.TAL_CNT_LOG_FAIL],
  [],
  [R.PWR_CNT_SWITCH, R.PWR_CNT_DENIED],
  []]

/-- The bank offset of the twin of the counter register at an address (Tables 19.1, 19.2); `none` where it has no twin. -/
def talTwin (a : Nat) : Option Nat :=
  let e := a / 0x4000
  let o := a % 0x4000
  if e = 13 ∧ 0x28 ≤ o % 64 ∧ o / 64 < 144 then some (0x1000 + 0x40 * (o / 64) + 8 * ((o % 64 - 0x28) / 4))
  else if e = 8 ∧ 0x10 ≤ o % 64 ∧ o / 64 < 56 then some (0x4000 + 0x40 * (o / 64) + 8 * ((o % 64 - 0x10) / 4 + 2))
  else if e = 9 ∧ o < 0xC00 then some (0x5800 + 0x40 * (o / 128) + 8 * ((o % 128 - 8) / 4))
  else if e = 7 then some (0x6000 + 0x40 * (o / 1024) + 8 * ((o % 1024 - 0x40) / 4))
  else if e = 17 then some (0x6600 + 0x40 * (o / 64) + 8 * ((o % 64 - 8) / 4))
  else (((engineCounters.getD e []).idxOf? a)).map fun c => 0x8000 + 0x400 * e + 8 * c

/-- Add to a live tally counter: 48 bits, saturating (R403). -/
def State.tally (s : State) (off n : Nat) : State :=
  { s with tal := { s.tal with live := mupd 0 s.tal.live off (fun v => min (2 ^ 48 - 1) (v + n)) } }

/-- Add to the twin of a counter register. -/
def State.tallyTwin (s : State) (a n : Nat) : State :=
  match talTwin a with
  | some off => s.tally off n
  | none => s

/-- Add n to a 32-bit counter register, saturating, and to its twin. -/
def State.count (s : State) (a : Nat) (n : Nat := 1) : State :=
  (s.setReg a (min 0xFFFFFFFF (s.reg a + n))).tallyTwin a n

/-- Count where a condition holds. -/
def State.countIf (s : State) (b : Bool) (a : Nat) : State := if b then s.count a else s

/-- Latch a counter that covers the last completed frame; its twin adds the frame's value (R404). -/
def State.latchCount (s : State) (a n : Nat) : State := (s.setReg a (min 0xFFFFFFFF n)).tallyTwin a n

/-! ### Domains (chapter 21) -/

/-- Whether a power domain is ON (R448). Domain 0 is AON. -/
def State.domOn (s : State) (dd : Nat) : Bool := dd == 0 || s.get (F.PWR_DOM_STATE dd) == 2

/-- Whether some domain of a range is ON. -/
def State.anyOn (s : State) (lo hi : Nat) : Bool := (List.range (hi + 1 - lo)).any fun i => s.domOn (lo + i)

/-- Whether the domain of an engine's common logic is ON (Table 21.2). -/
def State.engineOn (s : State) (e : Nat) : Bool :=
  match e with
  | 1 => s.anyOn 2 5
  | 2 | 3 | 4 | 5 | 6 => s.domOn 31
  | 8 => s.anyOn 6 13
  | 9 => s.domOn 32
  | 10 => s.domOn 33
  | 12 => s.domOn 34
  | 16 => s.domOn 1
  | 18 => s.domOn 35
  | _ => true

/-- The power domain of a lane's flock (Table 21.2). -/
def laneDomain (l : Nat) : Nat := if l < 32 then 2 + l / 8 else 6 + (l - 32) / 14

/-- The core runs: its domain is ON and it is not booting, held or headless. -/
def State.coreRuns (s : State) : Bool := s.domOn 1 && s.get F.MGT_STATUS_STATE == 1

/-! ### Ports and generators -/

/-- A port's configuration as a word: enabled, rear, pixels, first column (Table 8.10). -/
structure PortCfg where
  en : Bool
  rear : Bool
  pixels : Nat
  first : Nat
  deriving DecidableEq, Repr

/-- The fields of a configuration word. -/
def PortCfg.ofWord (w : Nat) : PortCfg := ⟨bitAt w 31, bitAt w 30, bits w 25 16, bits w 12 0⟩

/-- The configuration a port sends with (R190): a rear port keeps its old one until the next TG1 frame boundary. -/
def State.portCfg (s : State) (nn : Nat) : PortCfg :=
  PortCfg.ofWord (match mfind s.adl.rearCfg nn with | some w => w.toNat | none => s.reg (R.ADL_PORT_CFG nn))

/-- The run of generator n. -/
def State.run (s : State) (n : Nat) : TgRun := mget ({} : TgRun) s.tg.runs n

/-! ### Tables of the table window -/

/-- The reset value of a table word: a zone gain is 1.0 (0x8000), every other word 0 (R125, R168, R233). -/
def tblReset (a : Nat) : Word :=
  if 0x220000 ≤ a ∧ a < 0x240000 then (if a % 8 = 0 then 0x80008000#32 else 0x00008000#32) else 0#32

/-- The word of a table in a set of tables. -/
def tblWord (t : SMap Word) (a : Nat) : Word := mget (tblReset a) t a

/-- The half-word of a table at an even address (R89): the lower address in bits [15:0]. -/
def tblHalf (t : SMap Word) (a : Nat) : Nat := (tblWord t (a / 4 * 4)).toNat / 2 ^ (8 * (a % 4)) % 65536

/-- The byte of a table (R168). -/
def tblByte (t : SMap Word) (a : Nat) : Nat := (tblWord t (a / 4 * 4)).toNat / 2 ^ (8 * (a % 4)) % 256

/-- Set a word of a set of tables; a word at its reset value is not listed. -/
def tblSet (t : SMap Word) (a : Nat) (w : Word) : SMap Word := mset (tblReset a) t a w

/-- The word that a read of a shadowed table returns: the shadow's (R90). -/
def State.tblShadowWord (s : State) (a : Nat) : Word :=
  match mfind s.tblShadow a with
  | some w => w
  | none => tblWord s.tbl a

/-- The parameters that a stage takes when it begins a frame (R91, R125). -/
def State.snapshot (s : State) : Snap := ⟨s.regs, s.tbl⟩

/-! ### Memories -/

/-- A byte of a memory whose unlisted bytes are 0. -/
def memByte (m : List Host.Cell) (a : Nat) : Byte := mget 0 m a

/-- n bytes of a memory from an address. -/
def memBytes (m : List Host.Cell) (a n : Nat) : List Byte := (List.range n).map fun i => memByte m (a + i)

/-- Write a byte; the canonical form holds. -/
def memSet (m : List Host.Cell) (a : Nat) (b : Byte) : List Host.Cell := mset 0 m a b

/-- Write bytes to ascending addresses. -/
def memWrite (m : List Host.Cell) (a : Nat) : List Byte → List Host.Cell
  | [] => m
  | b :: bs => memWrite (memSet m a b) (a + 1) bs

/-- Clear a range of a memory. -/
def memClear (m : List Host.Cell) (lo hi : Nat) : List Host.Cell := m.filter (fun e => e.1 < lo || hi ≤ e.1)

/-- A byte of the NVM; an erased byte reads 0xFF. -/
def State.nvByte (s : State) (a : Nat) : Byte := if s.nvmDevice = .absent then 0xFF else mget 0xFF s.nvm a

/-- n bytes of the NVM. -/
def State.nvBytes (s : State) (a n : Nat) : List Byte := (List.range n).map fun i => s.nvByte (a + i)

/-- Program bytes of the NVM. -/
def nvWrite (m : List Host.Cell) (a : Nat) : List Byte → List Host.Cell
  | [] => m
  | b :: bs => nvWrite (mset 0xFF m a b) (a + 1) bs

/-! ### Time -/

/-- One nanosecond in the units of `State.now`. -/
def nsUnit : Nat := 65536

/-- One microsecond in the units of `State.now`. -/
def usUnit : Nat := 65536000

/-- House time in ns × 2^16 since its epoch. -/
def HouseTime.toUnits (t : HouseTime) : Int := ((t.sec * 1000000000 + t.ns) * 65536 + t.frac : Nat)

/-- House time in units of 10^(−9) × 2^(−16) ns. -/
def HouseTime.fine (t : HouseTime) : Nat := ((t.sec * 1000000000 + t.ns) * 65536 + t.frac) * 1000000000 + t.residue

/-- The house time of such a number; the seconds wrap at 2^48 (R315). -/
def HouseTime.ofFine (v : Nat) : HouseTime :=
  let u := v / 1000000000
  let n := u / 65536
  ⟨n / 1000000000 % 2 ^ 48, n % 1000000000, u % 65536, v % 1000000000⟩

/-- The state at an instant that is not before `now`: the scale and house time move together (R175, R315). -/
def State.advanceTo (s : State) (t : Nat) : State :=
  if t ≤ s.now then s else { s with now := t, house := HouseTime.ofFine (s.house.fine + (t - s.now) * 1000000000) }

/-- One cycle of the 250 MHz clock (R315): 4 ns × (1 + f × 10^(−9)), f being `HTM_FREQ` in units of 2^(−16) ppb. -/
def State.tick (s : State) : State :=
  let d := ((262144 * 1000000000 + s.house.residue : Nat) + 4 * signed 32 (s.reg R.HTM_FREQ) : Int).toNat
  { s with now := s.now + d / 1000000000, house := HouseTime.ofFine (s.house.fine - s.house.residue + d) }

/-! ### Lists -/

/-- The state after a list of steps. -/
def State.each {α : Type} (s : State) (l : List α) (f : State → α → State) : State := l.foldl f s

/-- The elements of [0, n) that satisfy a test. -/
def upTo (n : Nat) (p : Nat → Bool) : List Nat := (List.range n).filter p

end Sys2Proof.Machine
end

