-- ==== Sys2Proof/Machine/Encodings.lean ====
section
/-! DEFINITION. The reserved encodings of fields (R18): which words a register refuses whole. Registers whose effect has a meaning
of its own check their words there. -/

namespace Sys2Proof.Machine

/-- The unit of a repeated register that an address names: n units at a stride from a base. -/
def unitAt (base n stride a : Nat) : Option Nat :=
  if base ≤ a ∧ (a - base) % stride = 0 ∧ (a - base) / stride < n then some ((a - base) / stride) else none

/-- Whether an address is a unit of a repeated register. -/
def isUnit (base n stride a : Nat) : Bool := (unitAt base n stride a).isSome

/-- A field of a word. -/
def fieldOf (v : Nat) (f : FRef) : Nat := bits v f.hi f.lo

/-- A number within limits. -/
def within' (lo hi v : Nat) : Bool := lo ≤ v && v ≤ hi

/-- Whether a word of `FE` or `SPL` is free of reserved encodings (Tables 3.5, 4.12). -/
def goodSplit (a v : Nat) : Bool :=
  if isUnit (R.FE_SET_CFG 0) 2 0x40 a then
    0x8000 ≤ fieldOf v (F.FE_SET_CFG_KNEE 0) && fieldOf v (F.FE_SET_CFG_GAMUT 0) != 3 && fieldOf v (F.FE_SET_CFG_EOTF 0) ≤ 5
  else if a = R.FE_LIMIT then fieldOf v F.FE_LIMIT_MODE ≤ 2
  else if a = R.SPL_CFG then fieldOf v F.SPL_CFG_LOOKAHEAD ≤ 256 && fieldOf v F.SPL_CFG_FC ≤ 2 && fieldOf v F.SPL_CFG_BL_MODE ≤ 2
  else if a = R.SPL_ZONE_GRID then within' 1 128 (fieldOf v F.SPL_ZONE_GRID_ROWS) && within' 1 160 (fieldOf v F.SPL_ZONE_GRID_COLS)
  else if a = R.SPL_PEAK0 then fieldOf v F.SPL_PEAK0_PEAK_R != 0 && fieldOf v F.SPL_PEAK0_PEAK_G != 0
  else if a = R.SPL_PEAK1 then fieldOf v F.SPL_PEAK1_PEAK_B != 0
  else true

/-- Whether a word of `PCM`, `ODR` or `DTH` is free of reserved encodings (Tables 5.9, 6.7, 6.14). -/
def goodPanel (a v : Nat) : Bool :=
  if isUnit (R.PCM_SET 0) 2 4 a then within' 1 32 (fieldOf v (F.PCM_SET_COUNT 0))
  else if isUnit (R.PCM_PLANE_CFG 0) 4 0x10 a then fieldOf v (F.PCM_PLANE_CFG_UNIT 0) ≤ 2
  else if a = R.ODR_HIST_F ∨ a = R.ODR_HIST_R then within' 1 21 (fieldOf v F.ODR_HIST_F_COUNT)
  else if a = R.ODR_TGRID then within' 1 4 (fieldOf v F.ODR_TGRID_ROWS) && within' 1 4 (fieldOf v F.ODR_TGRID_COLS)
  else if a = R.DTH_CFG then
    fieldOf v F.DTH_CFG_REAR_MODE ≤ 2 && fieldOf v F.DTH_CFG_FRONT_MODE ≤ 2 && fieldOf v F.DTH_CFG_REAR_BITS ≤ 2
      && fieldOf v F.DTH_CFG_FRONT_BITS ≤ 2
  else true

/-- Whether a word of `TG` or `ADL` is free of reserved encodings (Tables 7.10, 8.9). -/
def goodTiming (a v : Nat) : Bool :=
  if isUnit (R.TG_CFG 0) 4 0x400 a then fieldOf v (F.TG_CFG_LOCK_SRC 0) ≤ 3
  else if isUnit (R.TG_LOCK 0) 4 0x400 a then
    1 ≤ fieldOf v (F.TG_LOCK_RATIO 0) && 1 ≤ fieldOf v (F.TG_LOCK_WINDOW 0) && fieldOf v (F.TG_LOCK_PULL 0) ≤ 1000
  else if isUnit (R.TG_HOUSE_RATE 0) 4 0x400 a then
    1 ≤ fieldOf v (F.TG_HOUSE_RATE_NUM 0) && 1 ≤ fieldOf v (F.TG_HOUSE_RATE_DEN 0)
  else if isUnit (R.TG_STEP 0) 4 0x400 a then
    1 ≤ fieldOf v (F.TG_STEP_STATIC_N 0) && fieldOf v (F.TG_STEP_MIN 0) ≤ 2 && fieldOf v (F.TG_STEP_ALLOW 0) ≤ 2
  else if isUnit (R.TG_GATE_CFG 0 0) 16 0x10 a || isUnit (R.TG_GATE_CFG 1 0) 16 0x10 a then within' 1 12 (fieldOf v (F.TG_GATE_CFG_STEP 0 0))
  else if a = R.ADL_CTRL_F0 ∨ a = R.ADL_CTRL_R0 then fieldOf v F.ADL_CTRL_F0_INV ≤ 6
  else true

/-- Whether a word of `BLE` is free of reserved encodings (Table 9.11). -/
def goodLight (a v : Nat) : Bool :=
  if isUnit (R.BLE_CHAIN_CFG 0) 24 0x80 a then within' 1 99 (fieldOf v (F.BLE_CHAIN_CFG_CLKDIV 0))
  else if a = R.BLE_CFG then fieldOf v F.BLE_CFG_CURVE ≤ 2
  else if a = R.BLE_SYNC then fieldOf v F.BLE_SYNC_SRC ≤ 1
  else if a = R.BLE_MASTER then fieldOf v F.BLE_MASTER_TARGET ≤ 4096
  else if isUnit (R.BLE_COLOUR 0) 3 4 a then 1 ≤ fieldOf v (F.BLE_COLOUR_ISCALE 0)
  else if a = R.BLE_TCOMP then 1 ≤ fieldOf v F.BLE_TCOMP_STEP
  else if a = R.BLE_AGE then 1 ≤ fieldOf v F.BLE_AGE_STEP
  else if a = R.BLE_VLED_CFG then 1 ≤ fieldOf v F.BLE_VLED_CFG_SETTLE
  else if isUnit (R.BLE_LOOP_CFG 0) 4 0x10 a then 1 ≤ fieldOf v (F.BLE_LOOP_CFG_PERIOD 0)
  else true

/-- Whether a word of the other engines is free of reserved encodings. -/
def goodOther (a v : Nat) : Bool :=
  if a = R.SRF_SRC then within' 1 32 (fieldOf v F.SRF_SRC_COUNT)
  else if a = R.SRF_STAGE then fieldOf v F.SRF_STAGE_COUNT ≤ 8
  else if a = R.FST_CFG then within' 10 3600 (fieldOf v F.FST_CFG_GRAZE_S)
  else if a = R.LNS_CFG then
    fieldOf v F.LNS_CFG_DWELL ≤ 8 && (fieldOf v F.LNS_CFG_MON_MS == 0 || 10 ≤ fieldOf v F.LNS_CFG_MON_MS)
  else if a = R.CAL_CFG then
    1 ≤ fieldOf v F.CAL_CFG_DELTA_T && within' 12 50 (fieldOf v F.CAL_CFG_MARGIN)
      && (fieldOf v F.CAL_CFG_INTERVAL == 0 || 10 ≤ fieldOf v F.CAL_CFG_INTERVAL)
  else if a = R.MGT_CFG then 1 ≤ fieldOf v F.MGT_CFG_RETRY_MS
  else if a = R.TAL_CFG then !within' 432 447 (fieldOf v F.TAL_CFG_TRIG_SRC)
  else if a = R.TAL_LOG_CFG then within' 10 240 (fieldOf v F.TAL_LOG_CFG_MINUTES)
  else if a = R.DEV_OWN_ENG0 then v % 4 != 3
  else true

/-- Whether a word of the register space is free of reserved encodings (R18). -/
def goodWord (a v : Nat) : Bool :=
  let e := a / 0x4000
  if e = 2 ∨ e = 3 then goodSplit a v
  else if 4 ≤ e ∧ e ≤ 6 then goodPanel a v
  else if e = 7 ∨ e = 8 then goodTiming a v
  else if e = 9 then goodLight a v
  else goodOther a v

end Sys2Proof.Machine
end

