-- ==== Sys2Proof/Machine/TalOps.lean ====
section
/-! DEFINITION. Tallies (chapter 19): the copy groups, the cut, the copies and the publication (R403 to R410). -/

namespace Sys2Proof.Machine

/-! ### Requests (R405, R409) -/

/-- The bank that the next tally writes (R406). -/
def State.talTarget (s : State) : Nat := 1 - s.tal.newest

/-- A request finds its target bank held and no fill running (R409): it is deferred. -/
def State.talDefer (s : State) : State :=
  let s := { s with tal := { s.tal with
    deferred := true
    deferredCnt := min 0xFFFFFFFF (s.tal.deferredCnt + 1)
    live := mupd 0 s.tal.live (0x8000 + 0x400 * 20) (fun v => min (2 ^ 48 - 1) (v + 1)) } }
  s.raise 433 0

/-- A tally request (R405, R409); `k` 0 host, 1 period, 2 event. A request that finds another one waiting counts as merged. -/
def State.talRequest (s : State) (k : Nat) : State :=
  let old := s.tal.req
  let r := old.getD {}
  let s := { s with tal := { s.tal with
    req := some ⟨r.host || k == 0, r.period || k == 1, r.event || k == 2⟩
    mergedCnt := if old.isSome then min 0xFFFFFFFF (s.tal.mergedCnt + 1) else s.tal.mergedCnt
    live := if old.isSome then mupd 0 s.tal.live (0x8000 + 0x400 * 20 + 8) (fun v => min (2 ^ 48 - 1) (v + 1)) else s.tal.live } }
  if old.isNone && s.tal.fill.isNone && s.flag (F.TAL_BANK_HOLD_HOLD s.talTarget) then s.talDefer else s

/-! ### Units and copy groups

The groups of R406: 0 copies at the cut; 1 the input flocks and `PIL`, 5 `FE`, 6 `SPL`, which latch when they begin a frame, the last
one with its split (DEDUCED, assumption log 137); 2 `PCM`, `ODR`, `DTH`, the slices and the front ports, which begin at the TG0 boundary;
3 the rear ports; 4 `BLE`, its chains and the colour sensors. -/

/-- A unit of Table 19.2: block offset, block size, flag word offset, group, whether it is ON and whether it is in use. -/
structure TalUnit where
  base : Nat
  size : Nat
  flags : Nat
  group : Nat
  on : Bool
  used : Bool
  deriving DecidableEq, Repr

/-- The copy group of engine e. -/
def talEngineGroup (e : Nat) : Nat :=
  match e with
  | 1 => 1
  | 2 => 5
  | 3 => 6
  | 4 | 5 | 6 => 2
  | 9 => 4
  | _ => 0

/-- A unit with a block of 0x40 bytes. -/
def talUnit (base group : Nat) (on used : Bool) : TalUnit := ⟨base, 0x40, base + 0x38, group, on, used⟩

/-- Every unit and engine of Table 19.2 with its state at this moment. -/
def State.talUnits (s : State) : List TalUnit :=
  ((List.range 144).map fun l => talUnit (0x1000 + 0x40 * l) 0 (s.domOn (laneDomain l)) (s.get (F.LNS_LANE_STATUS_STATE l) != 0))
  ++ ((List.range 56).map fun nn =>
        talUnit (0x4000 + 0x40 * nn) (if (s.portCfg nn).rear then 3 else 2) (s.domOn (6 + nn / 7)) (s.portCfg nn).en)
  ++ ((List.range 17).map fun k => talUnit (0x5000 + 0x40 * k) 2 (s.domOn (14 + k)) (s.domOn (14 + k)))
  ++ ((List.range 24).map fun c => talUnit (0x5800 + 0x40 * c) 4 (s.domOn 32) (s.flag (F.BLE_CHAIN_CFG_EN c)))
  ++ ((List.range 4).map fun n => talUnit (0x6000 + 0x40 * n) 0 true (s.flag (F.TG_CFG_EN n)))
  ++ ((List.range 4).map fun k => talUnit (0x6200 + 0x40 * k) 1 (s.domOn (2 + k)) (bitAt (s.get F.PIL_CFG_FLOCK_EN) k))
  ++ ((List.range 4).map fun k => talUnit (0x6400 + 0x40 * k) 4 (s.domOn 32) (s.flag (F.BLE_LOOP_CFG_EN k)))
  ++ ((List.range 3).map fun n => talUnit (0x6600 + 0x40 * n) 0 true true)
  ++ ((List.range 24).map fun e => ⟨0x8000 + 0x400 * e, 0x400, 0x8000 + 0x400 * e + 0x3F8, talEngineGroup e, s.engineOn e, s.engineOn e⟩)

/-- Whether a bank offset belongs to a unit's counters. -/
def TalUnit.holds (u : TalUnit) (off : Nat) : Bool := u.base ≤ off && off < u.flags

/-- A drive counter's whole seconds (R217): H_y. -/
def State.driveSeconds (s : State) (y : Nat) : Nat := min 0xFFFFFFFF (mget (0 : Rat) s.ble.drive y).floor.toNat

/-- The bank offset of the tally's drive seconds of zone row y (Table 19.2). -/
def talDrive (y : Nat) : Nat := 0xE000 + 8 * y

/-- The drive counters of `BLE` changed. -/
def State.driveSet (s : State) (d : SMap Rat) : State := { s with ble := { s.ble with drive := d } }

/-- The tally's drive seconds show the counters of `BLE` as they now stand; the AON store holds them from then on (R403). -/
def State.tallyDrives (s : State) : State :=
  { s with tal := { s.tal with live := (List.range 128).foldl (fun m y => mset 0 m (talDrive y) (s.driveSeconds y)) s.tal.live } }

/-- A backlight frame adds to a drive counter, and the same whole seconds to the tally's, which goes on from what it holds (R217,
R403). -/
def State.driveAddOne (s : State) (y : Nat) (d : Rat) : State :=
  let old := s.driveSeconds y
  let s := s.driveSet (mupd (0 : Rat) s.ble.drive y fun h => min 0xFFFFFFFF (h + d))
  if s.driveSeconds y = old then s
  else { s with tal := { s.tal with live := mupd 0 s.tal.live (talDrive y) fun v => min (2 ^ 48 - 1) (v + (s.driveSeconds y - old)) } }

/-- Whether the live counters at a bank offset go with a group beside its units': the drive seconds with `BLE`, the fold counts with
group 0. -/
def talExtra (g off : Nat) : Bool := (g == 0 && 0xE800 ≤ off) || (g == 4 && 0xE000 ≤ off && off < 0xE800)

/-- The live counters of a group: those of its units, and those at its own bank offsets. -/
def State.talLive (s : State) (g : Nat) : SMap Nat :=
  let us := s.talUnits.filter fun u => u.group == g
  s.tal.live.filter fun e => us.any (fun u => u.holds e.1) || talExtra g e.1

/-- Counters written into a bank as pairs of words (R370). -/
def talStore (bank : SMap Word) (counters : SMap Nat) : SMap Word :=
  counters.foldl (fun b e => mset 0 (mset 0 b e.1 (BitVec.ofNat 32 e.2)) (e.1 + 4) (BitVec.ofNat 32 (e.2 / 2 ^ 32))) bank

/-- A unit's flag word (Table 19.2). -/
def TalUnit.flagWord (u : TalUnit) (timed : Bool) : Nat := 4 * bit (!u.used) + 2 * bit timed + bit u.on

/-- One unit copies into the target bank; engine 9 brings the drive seconds with it, engine 11 the fold counts. -/
def State.talCopyUnit (s : State) (f : TallyFill) (counters : SMap Nat) (timed : Bool) (u : TalUnit) : State :=
  let extra (off : Nat) : Bool :=
    (u.base == 0x8000 + 0x400 * 11 && talExtra 0 off) || (u.base == 0x8000 + 0x400 * 9 && talExtra 4 off)
  let mine (off : Nat) : Bool := u.holds off || extra off
  let old := (mget [] s.tal.banks f.bank).filter fun e => !(u.base ≤ e.1 && e.1 < u.base + u.size || extra e.1)
  let b := talStore old (counters.filter fun e => mine e.1)
  { s with tal := { s.tal with banks := mset [] s.tal.banks f.bank (mset 0 b u.flags (BitVec.ofNat 32 (u.flagWord timed))) } }

/-- Whether a hold has come on the bank that is being filled (R409): nothing is written to it while it lasts, and what still has to be
copied then copies later (DESIGN CHOICE, assumption log 135). -/
def State.fillHeld (s : State) : Bool := s.tal.fill.any fun f => s.flag (F.TAL_BANK_HOLD_HOLD f.bank)

/-- The units of a group that reach their copy point copy into the target bank (R406); `timed` copies those that have not
(R407). A unit of the data path that is not ON or not in use reaches no copy point. -/
def State.talCopy (s : State) (g : Nat) (counters : SMap Nat) (timed : Bool) : State :=
  if s.fillHeld then s else
  match s.tal.fill with
  | none => s
  | some f =>
    let us := s.talUnits.filter fun u => u.group == g && f.left.contains u.base && (timed || g == 0 || (u.on && u.used))
    let s := s.each us fun s u => s.talCopyUnit f counters timed u
    { s with tal := { s.tal with fill := some { f with
        left := f.left.filter fun b => !us.any fun u => u.base == b
        timed := f.timed + if timed then us.length else 0 } } }

/-- A word of the header of the bank being filled. -/
def State.talHeader (s : State) (b off v : Nat) : State :=
  { s with tal := { s.tal with banks := mset [] s.tal.banks b (mset 0 (mget [] s.tal.banks b) off (BitVec.ofNat 32 v)) } }

/-- The publication of a fill whose last unit has copied (R408, R410). -/
def State.talPublish (s : State) : State :=
  match s.tal.fill with
  | none => s
  | some f =>
    if !f.left.isEmpty || s.fillHeld then s
    else
      let s := s.talHeader f.bank 0x04 f.cut
      let s := s.talHeader f.bank 0x08 f.time.ns
      let s := s.talHeader f.bank 0x0C f.time.sec
      let s := s.talHeader f.bank 0x10 (f.time.frac * 65536 + f.time.sec / 2 ^ 32 % 65536)
      let s := s.talHeader f.bank 0x14 (2 ^ 31 + f.trigger * 2 ^ 28 + bit f.noFrame * 2 ^ 27 + bit f.headless * 2 ^ 26 + f.mode * 2 ^ 24 + f.timed)
      let s := s.talHeader f.bank 0x18 f.seq
      let s := { s with tal := { s.tal with seq := f.seq, newest := f.bank, fill := none } }
      s.raise 432 0

/-- A frame number comes after the cut frame. -/
def TallyFill.after (f : TallyFill) (no : Nat) : Bool :=
  let d := (no + 2 ^ 32 - f.cut % 2 ^ 32) % 2 ^ 32
  decide (0 < d ∧ d < 2 ^ 31)

/-- `BLE`, its chains and the sensors copy at the swap that brings in the levels of the frame after the cut, or of a later one (R406);
the host's levels (R212) belong to no frame, and any swap counts. -/
def State.talSwap (s : State) (no : Option Nat) : State :=
  if s.tal.fill.any fun f => no.all f.after then (s.talCopy 4 (s.talLive 4) false).talPublish else s

/-- A group begins a frame: it latches its counters (R406), and copies them where a fill waits for it. -/
def State.talBegin (s : State) (g : Nat) : State :=
  let c := s.talLive g
  let s := { s with tal := { s.tal with latched := mput s.tal.latched g (s.reg (R.TG_FRAME_NO 0), c) } }
  (s.talCopy g c false).talPublish

/-- The fill of a request begins (R406, R410): the tally's number, its header, and every unit still to copy. -/
def State.talOpen (s : State) (r : TallyReq) (cut : Nat) (stopped : Bool) : State :=
  let seq := (s.tal.seq + 1) % 2 ^ 32
  let f : TallyFill := ⟨seq, cut, s.talTarget, bit r.event + 2 * bit r.period + 4 * bit r.host, stopped, s.flag F.DEV_STATUS_HEADLESS,
    s.get F.DEV_PATH_STATUS_MODE, s.house, 0, s.talUnits.map (·.base)⟩
  ({ s with tal := { s.tal with req := none, deferred := false, fill := some f } }).talHeader s.talTarget 0x00 seq

/-- A group that began frame C + 1 before the cut delivers the latch of that moment (R406). -/
def State.talEarly (s : State) (cut g : Nat) : State :=
  match mfind s.tal.latched g with
  | some (no, c) => if no = cut then s.talCopy g c false else s
  | none => s

/-- Every unit that has not copied copies now, as TIMED (R407). -/
def State.talAll (s : State) : State := (s.each [0, 1, 2, 3, 4, 5, 6] fun s g => s.talCopy g (s.talLive g) true).talPublish

/-- The copies of the cut boundary itself (R406). -/
def State.talAtCut (s : State) (cut : Nat) : State :=
  let s := s.talCopy 0 (s.talLive 0) false
  let s := s.talCopy 2 (s.talLive 2) false
  (((s.talEarly cut 1).talEarly cut 5).talEarly cut 6).talPublish

/-- The cut of a waiting request (R405, R406, R409): `cut` is C; with TG0 stopped every unit is copied as TIMED (R407). -/
def State.talCut (s : State) (cut : Nat) (stopped : Bool) : State :=
  match s.tal.req with
  | none => s
  | some r =>
    if s.tal.fill.isSome then s
    else if s.flag (F.TAL_BANK_HOLD_HOLD s.talTarget) then (if s.tal.deferred then s else s.talDefer)
    else if stopped then (s.talOpen r cut stopped).talAll
    else (s.talOpen r cut stopped).talAtCut cut

/-- Groups that have not reached their copy point one frame period after the cut copy as TIMED (R407). -/
def State.talTimed (s : State) : State := if s.tal.fill.isSome then s.talAll else s

/-- While TG0 is stopped a request is cut at once (R407). -/
def State.talStoppedCut (s : State) : State := if (s.run 0).on then s else s.talCut (s.reg (R.TG_FRAME_NO 0)) true

end Sys2Proof.Machine
end

