-- ==== Sys2Proof/WellFormed.lean ====
section
/-! DEFINITION. Well-formed commands: the unit an operand names exists (R22, R463). -/

namespace Sys2Proof

/-- The check of each command: its unit numbers name units that the part has. -/
def Instr.wellFormed : Instr → Bool
  | .registerWrite _ _ _ => true
  | .devCommit _ => true
  | .qspiWrite p _ _ _ => p != .hp2
  | .qspiRead ag _ _ _ _ _ _ => ag != .host .hp2 && ag != .loader
  | .qspiStatus p _ => p != .hp2
  | .badCmd p _ => p != .hp2
  | .i2cWrite _ _ _ _ => true
  | .i2cRead _ _ _ _ _ _ _ => true
  | .i2cStatusRead _ _ => true
  | .pairRegisterLatch _ _ => true
  | .pilCfgWrite _ _ => true
  | .laneStatus => true
  | .creditPeriodic => true
  | .laneMarker k j _ _ _ _ _ => k < 4 && j < 8
  | .laneLost l _ => l < 144
  | .rotDupRepeat k => k < 4
  | .rotNoCoop k => k < 4
  | .rotReturn k => k < 4
  | .degradedLinkLoss => true
  | .frameStart _ _ _ _ _ => true
  | .vidLine _ bands _ _ _ _ _ => bands.all (· < 16)
  | .frameEnd _ => true
  | .failedPacket _ _ => true
  | .regionBegin _ _ _ _ _ _ => true
  | .regionLine _ _ _ _ _ _ _ => true
  | .regionCommit _ _ => true
  | .sleep _ => true
  | .wake _ => true
  | .metaPacket _ => true
  | .auxPacket _ => true
  | .auxPop _ => true
  | .sourceFrameComplete => true
  | .tableShadowWrite _ _ _ => true
  | .fePixel _ _ => true
  | .storeModeRead _ _ _ _ => true
  | .zoneRowDecided _ => true
  | .splitPixel _ _ => true
  | .syncReset _ => true
  | .stageA _ _ p => p < 4
  | .stageB _ _ p _ => p < 4
  | .pcmListWrite _ _ _ => true
  | .overdrive _ _ p _ _ => p < 4
  | .dither _ _ p => p < 4
  | .thermistorConversion k c => k < 16 && c < 4096
  | .tgFrameBoundary n => n < 4
  | .lineStart n => n < 4
  | .jump n => n < 4
  | .followerRestart n => n < 4
  | .tgHoldover n => n < 4
  | .generatorStop n => n < 4
  | .gateShort _ g => g < 16
  | .panelOn _ _ => true
  | .panelOff _ _ => true
  | .onDelayElapsed k => k < 4
  | .gateDelayElapsed _ => true
  | .panelEnableRelease _ k => k.all (· < 4)
  | .lineSlot _ bad => bad.all (fun l => 32 ≤ l && l < 144)
  | .portUp f p => f < 8 && p.all fun nn => nn / 7 == f
  | .locknLost f => f < 8
  | .statusReply f _ => f < 8
  | .laneOff l => 32 ≤ l && l < 144
  | .blSyncIn => true
  | .bleSyncInLost => true
  | .zoneStoreWrite _ _ _ => true
  | .swap _ => true
  | .loopTest _ => true
  | .clearDead _ => true
  | .driveCounterWrite _ y _ => y < 128
  | .transfer c => c < 24
  | .latch c _ _ => c < 24
  | .nopTransfer c => c < 24
  | .loopTestRepeat c => c < 24
  | .strobeWindowOpen r => r < 16
  | .strobeWindowClose r => r < 16
  | .sensorRead k => k < 4
  | .sensorReadDone k c => k < 4 && c.all (fun b => b.length == 6)
  | .bleSnsCmd _ _ => true
  | .bleSnsDone _ => true
  | .vledEvaluation _ => true
  | .srfEnter _ => true
  | .srfExit _ => true
  | .stall => true
  | .regionHostCommit _ ss => ss < 16
  | .slotCfgWrite _ ss _ => ss < 16
  | .fillComplete => true
  | .updateCopyComplete _ => true
  | .echoComplete => true
  | .rollbackComplete => true
  | .readStart => true
  | .srfResultPop _ n => n < 3
  | .foldOwnerWrite _ f _ => f < 64
  | .fstHandover f => f < 64
  | .grazeStep _ => true
  | .foldInitComplete f => f < 64
  | .tampern => true
  | .tailWrite _ r _ => r < 4
  | .jobStart _ => true
  | .jobComplete _ _ => true
  | .resume _ r => r < 4
  | .skip _ r => r < 4
  | .cprDonePop _ r => r < 4
  | .pllLock p => p < 12
  | .pllUnlock p => p < 12
  | .cdrLock l => l < 144
  | .signalLoss l => l < 144
  | .commaAligned l c => l < 144 && c.pos < 10
  | .polarityInvert l => l < 144
  | .slip _ l => l < 144
  | .adaptStep l taps _ => l < 144 && taps.length == 5
  | .eyeMonitor l => l < 144
  | .eyeMeasurementDone l ph v _ => l < 144 && ph.length == 64 && v.length == 128
  | .scanGo _ l _ => l < 144
  | .scanDone l p => l < 144 && p.phase < 64 && p.volt < 128
  | .outputShort x => x.lane < 144
  | .htmNowLatch _ => true
  | .htmStep _ _ => true
  | .sync _ _ _ _ _ _ _ => true
  | .followUp _ _ _ _ => true
  | .delayResp _ _ _ _ _ _ => true
  | .announce _ => true
  | .delayReq _ => true
  | .droppedFrame => true
  | .arpRequest _ _ _ => true
  | .igmpQuery => true
  | .phyPoll _ => true
  | .announceTimeout => true
  | .ppsEdge _ => true
  | .htmPpsLost => true
  | .ppsTodArm _ _ => true
  | .mdioGo _ _ => true
  | .mdioDone _ => true
  | .calReq _ _ => true
  | .calTemp n _ => n < 32
  | .calInterval u => u < 255
  | .calUnitStart => true
  | .calSkipRetry u => u < 255
  | .calRunComplete u v q => u < 255 && v.length == (if u < 17 then 5 else 1) && q.length == v.length
  | .sliceLineCompare _ _ => true
  | .sliceBistComplete k _ => k < 17
  | .tileFault k => k < 17
  | .loadUpdate l => l ≤ 100
  | .echo _ => true
  | .version _ => true
  | .logRead _ => true
  | .logWrite _ _ => true
  | .reviveUnit _ _ => true
  | .thermal _ => true
  | .mailboxReservedOp _ => true
  | .mgtDonePop _ n => n < 3
  | .sheepdogService _ => true
  | .sheepdogTimeout => true
  | .mgtRestart _ => true
  | .revive _ => true
  | .reboot1 => true
  | .reboot2 => true
  | .mgtHeadless => true
  | .avsLoop m _ => m.length == 17
  | .avsGuard m _ => m.length == 17
  | .recoveryStart => true
  | .ownershipWrite _ _ _ => true
  | .ownLock _ => true
  | .seqStart _ ss st => ss < 8 && st < 65536
  | .seqCancel _ ss => ss < 8
  | .seqRelease _ ss => ss < 8
  | .stepWrite _ _ => true
  | .stepModify _ _ => true
  | .stepCopy _ _ _ => true
  | .stepPoll _ _ => true
  | .pollTimeout _ => true
  | .stepWaitFrame _ _ => true
  | .stepDelay _ _ => true
  | .stepCommit _ _ => true
  | .stepEnd _ _ => true
  | .seqHoldLong ss => ss < 8
  | .seqDonePop _ n => n < 3
  | .evtPop ag n => match ag with | .host _ => n < 3 | .core => n = 3 | .loader => false
  | .maskSet _ src => src < 512
  | .maskClear _ src => src < 512
  | .routeChange _ src r => src < 512 && r < 4
  | .pendClear _ src _ => src < 512
  | .intnEnWrite _ n _ => n < 3
  | .coalesceTime n => n < 3
  | .tally _ => true
  | .timedCopy => true
  | .logPeriodic => true
  | .talLogWritten _ => true
  | .driveSecondsCopy => true
  | .aonPorRelease _ _ => true
  | .fusesLoaded => true
  | .imageVerify => true
  | .imageApply => true
  | .portsUpOrTimeout => true
  | .lcCmd _ _ => true
  | .burn _ _ => true
  | .cfgRestart _ _ => true
  | .clearBor _ => true
  | .nvRead _ => true
  | .nvProgram _ => true
  | .cfgNvDone _ _ _ => true
  | .resetn => true
  | .pwrOnBackup => true
  | .pwrOnMain => true
  | .powerOnReset _ => true
  | .pwrReversed _ => true
  | .pwrBackupLost => true
  | .lowPowerEntry => true
  | .brownOut => true
  | .pwrRailLow x => x.rail < 5
  | .domainRequest _ dd q => dd < 100 && q < 4
  | .domainTransitionComplete dd => 1 ≤ dd && dd < 100
  | .invalidSymbol l _ _ => l < 144
  | .gatePulseEdge n g _ => n < 2 && g < 16
  | .blSyncPulseEnd => true
  | .lockedFoldWipeComplete => true

end Sys2Proof
end

