-- ==== Sys2Proof/Machine/Flags.lean ====
section
/-! DEFINITION. Event delivery (R393 to R401): what one occurrence does to its target's queue, to `PEND`, to the interrupt
pins, to the tally trigger (R405) and to the core's recoveries (R361, R394). Every command ends with `deliver`. -/

namespace Sys2Proof.Machine

/-- The window of R395 and R399: 48 ns. -/
def evtWindow : Nat := 48 * nsUnit

/-- The target that an occurrence of source s goes to (R395). -/
def State.evtRoute (s : State) (src : Nat) : Nat :=
  match mfind s.evt.routeWas src with
  | some (old, at') => if s.now < at' + evtWindow then old else s.get (F.EVT_SRC_CFG_ROUTE src)
  | none => s.get (F.EVT_SRC_CFG_ROUTE src)

/-- What the mask of source s does to an occurrence (R399, R400): the `MASKED` value it carries, or `none` where it sets
`PEND` instead. -/
def State.evtMask (s : State) (src : Nat) : Option Bool :=
  if s.flag (F.EVT_SRC_CFG_MASK src) then
    (if s.now < mget 0 s.evt.maskedAt src + evtWindow && (mfind s.evt.maskedAt src).isSome then some true else none)
  else some false

/-- Merge an occurrence into the newest record of its source, the queue given newest first (R396). -/
def evtMerge (full : Bool) (src cls : Nat) (masked : Bool) : List EvtRecord → Option (List EvtRecord)
  | [] => none
  | r :: rs =>
    if r.src = src then
      (if r.masked = masked && (r.count < 255 || full) then
        some ({ r with count := min 255 (r.count + 1), cls := max r.cls cls, overflow := r.overflow || r.count == 255 } :: rs)
      else none)
    else (evtMerge full src cls masked rs).map (r :: ·)

/-- Hold an occurrence that finds the queue full (R397). -/
def evtHold (held : List EvtHeld) (src cls : Nat) (masked : Bool) (stamp : Nat) : List EvtHeld :=
  if held.any (fun h => h.src == src && h.masked == masked) then
    held.map fun h => if h.src = src && h.masked = masked then { h with count := min 255 (h.count + 1), cls := max h.cls cls } else h
  else held ++ [⟨src, masked, 1, cls, stamp⟩]

/-- An occurrence reaches a target (R396, R397): 0 merged, 1 enqueued, 2 held. -/
def evtAccept (t : EvtTarget) (urgent : Bool) (src cls : Nat) (masked : Bool) (stamp now : Nat) : EvtTarget × Nat :=
  let full := 256 ≤ t.queue.length
  let waits := t.held.any (fun h => h.src == src)
  match (if full && waits then none else evtMerge full src cls masked t.queue.reverse) with
  | some q => ({ t with queue := q.reverse, urgentSeen := t.urgentSeen || urgent }, 0)
  | none =>
    if full then ({ t with held := evtHold t.held src cls masked stamp }, 2)
    else ({ t with queue := t.queue ++ [⟨src, 1, cls, masked, false, stamp, now⟩], urgentSeen := t.urgentSeen || urgent }, 1)

/-- Count an event counter: `EVT_Hn_CNT_REC`, `CNT_MERGE` or `CNT_HELD` (k = 0, 1, 2), and its twin. -/
def State.evtCount (s : State) (n k : Nat) : State :=
  if 3 ≤ n then s
  else { s with evt := { s.evt with counts := mupd 0 s.evt.counts (3 * n + k) (fun v => min 0xFFFFFFFF (v + 1)) },
                tal := { s.tal with live := mupd 0 s.tal.live (0x8000 + 0x400 * 19 + 8 * (3 * n + k))
                                      (fun v => min (2 ^ 48 - 1) (v + 1)) } }

/-- The pin of a target after its queue or its configuration changed (R401). -/
def evtPin (t : EvtTarget) (en : Bool) (count : Nat) : EvtTarget :=
  if t.queue.isEmpty then { t with intn := false, timeDue := false, urgentSeen := false }
  else { t with intn := en && (t.intn || count ≤ t.queue.length || t.timeDue || t.urgentSeen) }

/-- The state with a target changed and its pin brought up to date. -/
def State.setTarget (s : State) (n : Nat) (t : EvtTarget) : State :=
  let t := if n < 3 then evtPin t (s.flag (F.EVT_H_CFG_EN n)) (s.get (F.EVT_H_CFG_COUNT n)) else t
  { s with evt := { s.evt with targets := mset {} s.evt.targets n t } }

/-- The target of number n. -/
def State.target (s : State) (n : Nat) : EvtTarget := mget {} s.evt.targets n

/-- The stamp of a record: `TG0_FRAME_NO` (R396). -/
def State.frameStamp (s : State) : Nat := s.reg (R.TG_FRAME_NO 0)

/-- One occurrence is routed, then merged, enqueued, held or marked in `PEND` (R395 to R400). -/
def State.occur (s : State) (src cls : Nat) : State :=
  match s.evtMask src with
  | none => { s with evt := { s.evt with pend := mset false s.evt.pend src true } }
  | some masked =>
    let n := s.evtRoute src
    let (t, k) := evtAccept (s.target n) (s.flag (F.EVT_SRC_CFG_URGENT src)) src cls masked s.frameStamp s.now
    (s.setTarget n t).evtCount n (if k = 1 then 0 else if k = 0 then 1 else 2)

/-- Add to a count of the lifetime log's working record (Table 19.4): 32 bits, saturating. -/
def State.logAdd (s : State) (off n : Nat) : State :=
  { s with tal := { s.tal with log := { s.tal.log with
      fields := mupd 0 s.tal.log.fields off (fun v => min 0xFFFFFFFF (v + n)) } } }

/-- The redundancy group of an event's source (Table 1.5): 0 the slices, 1 + k input flock k, 16 + nn port nn; 999 for none. -/
def sourceGroup (src : Nat) : Nat :=
  if 400 ≤ src ∧ src ≤ 416 then 0
  else if 256 ≤ src ∧ src < 288 then 1 + (src - 256) / 8
  else if 288 ≤ src ∧ src < 400 then 16 + (src - 288) / 2
  else if 128 ≤ src ∧ src < 184 then 16 + (src - 128)
  else 999

/-- The group of a source in a command's occurrences: an event of the input link, whose number names no lane, has that of the lane that
is reported with it. -/
def faultGroup (l : List Occ) (src : Nat) : Nat :=
  if 64 ≤ src ∧ src < 80 then (match l.find? fun o => 256 ≤ o.src && o.src < 288 with
    | some o => sourceGroup o.src
    | none => 999)
  else sourceGroup src

/-- The core takes notice of a fault of group g (R361, R394): classes F1 to F4 queue a recovery while the core works. The faults of a
group whose recovery has just been abandoned join it (R362). -/
def State.learn (s : State) (g src cls : Nat) : State :=
  if cls = 0 || s.flag F.DEV_STATUS_HEADLESS || !s.domOn 1 then s
  else
    let queue : State := { s with mgt := { s.mgt with recoveries := s.mgt.recoveries ++ [⟨cls, src, g⟩] } }
    match s.mgt.combine with
    | some m => if m.group = g then { s with mgt := { s.mgt with combine := some { m with cls := max m.cls cls } } } else queue
    | none => queue

/-- The recovery for a combined set of faults is planned (R362, step 2). -/
def State.planOne (s : State) : State :=
  match s.mgt.combine with
  | some m => { s with mgt := { s.mgt with recoveries := s.mgt.recoveries ++ [m], combine := none } }
  | none => s

/-- The event trigger of tallies (R405, R407): each occurrence of `TRIG_SRC`, whatever its routing and mask, is a request. -/
def State.talTrigger (s : State) : State :=
  let l := s.occ.filter fun o => s.flag F.TAL_CFG_TRIG_EN && o.src == s.get F.TAL_CFG_TRIG_SRC
  if l.isEmpty then s else (s.each l fun s _ => s.talRequest 2).talStoppedCut

/-- Occurrences in ascending source number, those of one source in the order they happened (R396). -/
def sortOcc (l : List Occ) : List Occ := l.insertionSort (fun a b => a.src ≤ b.src)

/-- One occurrence's whole effect: the log's fault counts, the core, and the target. `g` is its redundancy group. -/
def State.report (s : State) (g : Nat) (o : Occ) : State := ((s.logAdd (704 + 4 * o.cls) 1).learn g o.src o.cls).occur o.src o.cls

/-- The end of every command: its occurrences reach their targets. -/
def State.deliver (s : State) : State :=
  let s := s.talTrigger
  let l := sortOcc s.occ
  (({ s with occ := [] }).each l (fun s o => s.report (faultGroup l o.src) o)).planOne

/-- The interrupt pins follow the queues and the configuration as the command leaves them (R401). -/
def State.settle (s : State) : State := s.each [0, 1, 2] fun s n => s.setTarget n (s.target n)

/-- Whether hardware sets the flags that a write clears in the cycle of the write (R15). -/
def State.cycle (s : State) (same : Bool) : State := { s with sameCycle := same }

/-- The frame of a meaning: an ill-formed command is refused; a well-formed one starts with no occurrence and no output, ends by
delivering what it raised and bringing the interrupt pins up to date, and leaves the queue of commands as it is. -/
def checked (i : Instr) (s : State) (eff : State → State) : Host.Outcome State Fault Refusal :=
  if i.wellFormed then
    .next { (eff { s with occ := [], out := [], sameCycle := false }).deliver.settle with pending := s.pending, sameCycle := false }
  else .refused .illFormed

end Sys2Proof.Machine
end

