-- ==== Sys2Proof/Machine/SplMath.lean ====
section
/-! DEFINITION. The arithmetic of the split (R95 to R124), from its parameters alone: statistic, level, filter, geometry,
field, upsampling, rear curve, blur, front transmittance and response. -/

namespace Sys2Proof.Machine

/-- The geometry a frame is split with (R97, R98): the front raster, the rear grid, the zone grid, the field cell, the
kernel shift σ and the window extension. -/
structure SplGeom where
  w : Nat
  h : Nat
  wr : Nat
  hr : Nat
  zc : Nat
  zr : Nat
  fc : Nat
  shift : Nat
  dilX : Nat
  dilY : Nat
  deriving DecidableEq, Repr

/-- First front column of zone column zx (R97); zone column zx ends before that of zx + 1. -/
def SplGeom.x0 (g : SplGeom) (zx : Nat) : Nat := zx * g.w / g.zc

/-- First front line of zone row zy (R97). -/
def SplGeom.y0 (g : SplGeom) (zy : Nat) : Nat := zy * g.h / g.zr

/-- Last front column of zone column zx. -/
def SplGeom.x1 (g : SplGeom) (zx : Nat) : Nat := g.x0 (zx + 1) - 1

/-- Last front line of zone row zy. -/
def SplGeom.y1 (g : SplGeom) (zy : Nat) : Nat := g.y0 (zy + 1) - 1

/-- Columns of the field grid. -/
def SplGeom.cols (g : SplGeom) : Nat := divCeil g.wr g.fc

/-- Rows of the field grid. -/
def SplGeom.rows (g : SplGeom) : Nat := divCeil g.hr g.fc

/-- Centre of zone column zx in sixteenths of a rear pixel (R106). -/
def SplGeom.cx (g : SplGeom) (zx : Nat) : Nat := divRound (8 * (g.x0 zx + g.x1 zx + 1) * g.wr) g.w

/-- Centre of zone row zy in sixteenths of a rear pixel (R106). -/
def SplGeom.cy (g : SplGeom) (zy : Nat) : Nat := divRound (8 * (g.y0 zy + g.y1 zy + 1) * g.hr) g.h

/-- Centre of field column i or row i in sixteenths (R106). -/
def SplGeom.cell (g : SplGeom) (i : Nat) : Nat := 8 * g.fc * (2 * i + 1)

/-- Front line y's rear line (R97). -/
def SplGeom.rearY (g : SplGeom) (y : Nat) : Nat := y * g.hr / g.h

/-- Front column x's rear column (R97). -/
def SplGeom.rearX (g : SplGeom) (x : Nat) : Nat := x * g.wr / g.w

/-- 1,024 × 2^σ, the square of the kernel's reach in sixteenths (R106). -/
def SplGeom.reach2 (g : SplGeom) : Nat := 1024 * 2 ^ g.shift

/-- The square of the distance between two centres. -/
def sqDist (a b : Nat) : Nat := if a ≤ b then (b - a) * (b - a) else (a - b) * (a - b)

/-- The lowest field row that line y's upsampling needs (R116). -/
def SplGeom.lowRow (g : SplGeom) (y : Nat) : Nat :=
  let yr := g.rearY (min (y + 1) (g.h - 1))
  (clampInt 0 (g.rows - 1) (Int.fdiv (2 * (yr : Int) + 1 - g.fc) (2 * g.fc) + 2)).toNat

/-- B(y): the last front line that maps to the rear line of the blur's lowest neighbour (R116). -/
def SplGeom.lastLine (g : SplGeom) (y : Nat) : Nat :=
  let yr := g.rearY (min (y + 1) (g.h - 1))
  min (g.h - 1) (divCeil ((yr + 1) * g.h) g.hr - 1)

/-- The input line that decides zone row zy (R116). -/
def SplGeom.decides (g : SplGeom) (zy : Nat) : Nat := min (g.h - 1) (g.y1 zy + g.dilY)

/-- A(j): the input line after which field row j is ready (R116); 0 where no zone row reaches it. -/
def SplGeom.readyLine (g : SplGeom) (j : Nat) : Nat :=
  match (List.range g.zr).reverse.find? (fun zy => sqDist (g.cy zy) (g.cell j) < g.reach2) with
  | some zy => g.decides zy
  | none => 0

/-- L_min (R117); in GLOBAL and FIXED modes every row counts as decided at line 0. -/
def SplGeom.laMin (g : SplGeom) (whole : Bool) : Nat :=
  (List.range g.h).foldl (fun m y => max m (max (if whole then 0 else g.readyLine (g.lowRow y)) (g.lastLine y) - y)) 0

/-- The geometry is valid (R98), the kernel's support (R107) and the look-ahead (R117) included. -/
def SplGeom.valid (g : SplGeom) (whole : Bool) : Bool :=
  1 ≤ g.zc && g.zc ≤ 160 && 1 ≤ g.zr && g.zr ≤ 128 && g.zc * g.zr ≤ 16384
    && 4 ≤ g.w / g.zc && 4 ≤ g.h / g.zr
    && divCeil g.w 8 ≤ g.wr && g.wr ≤ g.w && divCeil g.h 8 ≤ g.hr && g.hr ≤ g.h
    && g.reach2 * (g.zc * g.zc) ≤ (112 * g.wr) * (112 * g.wr) && g.reach2 * (g.zr * g.zr) ≤ (112 * g.hr) * (112 * g.hr)
    && g.laMin whole ≤ 256

/-- Stage 1 (R96): t′ = t × B, rounded to WL16. -/
def splScale (bright t : Nat) : Nat := wlOf (wlVal t * t16Val bright)

/-- A weighted luminance, rounded to WL16 (R96, R109); the weights are 0.16 codes. -/
def splLum (wr wg wb : Nat) (c : Rgb) : Nat :=
  wlOf (t16Val wr * wlVal c.r + t16Val wg * wlVal c.g + t16Val wb * wlVal c.b)

/-- The statistic S (R100) of the scaled targets in a zone's window and in its rectangle; α is a 0.16 code. -/
def splStat (alpha : Nat) (window rect : List Nat) : Nat :=
  let m := wlVal (window.foldl max 0)
  let a : Rat := ((rect.map wlUnits).foldl (· + ·) 0 : Nat) / (33554432 * (max 1 rect.length : Nat))
  wlOf (a + t16Val alpha * (m - a))

/-- The target level λ of a live zone (R101): statistic S and peak P in WL16, gain 1.15, headroom 2.14, lower limit and
upper limit as 0.16 codes. -/
def splLevel (s p gain hr lo hi : Nat) : Nat :=
  let v := wlVal s * (hr / 16384 : Rat) / (wlVal p * (gain / 32768 : Rat))
  let l := clampInt 0 65536 (roundUp (v * 65536))
  t16Of (min (max l (t16 lo)) (t16 hi))

/-- One step of the temporal filter (R104): the new state and the level L. -/
def splFilter (seed live : Bool) (lambda attack decay s : Nat) : Nat × Nat :=
  let t : Int := t16 lambda * 256
  let s' : Int :=
    if seed || !live then (if live then t else 0)
    else
      let d := t - s
      let k := if 0 < d then t16 attack else t16 decay
      clampInt 0 16777216 (s + roundAway ((k : Rat) * d / 65536))
  (s'.toNat, t16Of (divRound s'.toNat 256))

/-- The light field of a cell in one colour (R108): the sum over the zones of level × gain × kernel, times the peak. -/
def splField (p : Nat) (terms : List (Nat × Nat × Nat)) : Nat :=
  let sum : Nat := terms.foldl (fun a (l, g, k) => a + t16 l * g * t16 k) 0
  wlOf (wlVal p * (sum : Rat) / (65536 * 32768 * 65536))

/-- The Catmull-Rom weights at t (R109). -/
def catmull (t : Rat) : List Rat :=
  [(-t ^ 3 + 2 * t ^ 2 - t) / 2, (3 * t ^ 3 - 5 * t ^ 2 + 2) / 2, (-3 * t ^ 3 + 4 * t ^ 2 + t) / 2, (t ^ 3 - t ^ 2) / 2]

/-- The four cell indexes and weights of a rear coordinate r along an axis of n cells (R109). -/
def splAxis (fc n r : Nat) : List (Nat × Rat) :=
  let u : Int := 2 * r + 1 - fc
  let i0 := Int.fdiv u (2 * fc)
  let t : Rat := ((u - i0 * (2 * fc : Int) : Int) : Rat) / (2 * fc : Nat)
  (List.range 4).map fun (k : Nat) => ((clampInt 0 ((n : Int) - 1) (i0 - 1 + (k : Int))).toNat, (catmull t).getD k 0)

/-- Stage 6 (R109): the field of a rear pixel in one colour, from the field cells. -/
def splUpsample (g : SplGeom) (cell : Nat → Nat → Nat) (xr yr : Nat) : Nat :=
  let xs := splAxis g.fc g.cols xr
  let ys := splAxis g.fc g.rows yr
  let v : Rat := ys.foldl (fun a (j, wj) => xs.foldl (fun a (i, wi) => a + wi * wj * wlVal (cell i j)) a) 0
  wlOf (max v 0)

/-- The integer logarithm of n, which lies from 1 below 2^(2^b): its bits are found from the highest down. -/
def logBits : Nat → Nat → Nat
  | 0, _ => 0
  | b + 1, n => if 2 ^ 2 ^ b ≤ n then 2 ^ b + logBits b (n / 2 ^ 2 ^ b) else logBits b n

/-- LG[m] = round(2,048 × log2(1 + m / 2,048)) (R110), from the integer logarithm of (2,048 + m)^4,096. -/
def splLg (m : Nat) : Nat := (logBits 16 ((2048 + m) ^ 4096) - 11 * 4096 + 1) / 2

/-- The logarithm ℓ of a WL16 code (R110); a subnormal code is taken as 0x0800. -/
def splLog (v : Nat) : Int :=
  let v := if v < 2048 ∧ v ≠ 0 then 2048 else v
  2048 * ((v / 2048 : Nat) - 15 : Int) + splLg (v % 2048)

/-- The largest r up to 65,536 with (2r − 1)^d ≤ 2^(17 d − k), by bisection over 17 bits. -/
def rootSearch (d k : Nat) : Nat :=
  (List.range 17).foldl (fun r i =>
    let r' := r + 2 ^ (16 - i)
    if r' ≤ 65536 ∧ (2 * r' - 1) ^ d ≤ 2 ^ (17 * d - k) then r' else r) 0

/-- RC[n] = round(65,536 × 2^(−β × n / 32)) (R111): the exponent is β n / 2^21, reduced to lowest terms. -/
def splRear (beta n : Nat) : Nat :=
  let k := t16 beta * n
  let gd := Nat.gcd k 2097152
  let d := 2097152 / gd
  let k := k / gd
  if 17 * d < k then 0 else t16Of (rootSearch d k)

/-- Stage 7 (R112): T_rear from the field luminance, the rear target and the rear curve, and whether step 4 raised it. -/
def splTRear (rc : Nat → Nat) (tmin yf yt : Nat) : Nat × Bool :=
  let t : Int :=
    if yf = 0 then 65536
    else if yt = 0 then t16 (rc 1024)
    else
      let d := splLog yf - splLog yt
      if d ≤ 0 then 65536
      else
        let n := d.toNat / 64
        let f := d.toNat % 64
        if 1024 ≤ n then t16 (rc 1024)
        else t16 (rc n) + roundAway (((((t16 (rc (n + 1)) : Int) - t16 (rc n)) * f : Int) : Rat) / 64)
  (t16Of (max t (t16 tmin)), t < t16 tmin)

/-- The effective rear transmittance of a front pixel (R113): the blur of the neighbours' rear transmittances, integers to
65,536. `nb` gives that of a neighbour offset, clamped into the front raster. -/
def splBlur (k0 k1 k2 : Nat) (nb : Int → Int → Nat) : Nat :=
  let offs : List Int := [-1, 0, 1]
  let kern (dx dy : Int) : Nat := if dx = 0 ∧ dy = 0 then k0 else if dx = 0 ∨ dy = 0 then k1 else k2
  let num := offs.foldl (fun a dy => offs.foldl (fun a dx => a + kern dx dy * nb dx dy) a) 0
  let den := offs.foldl (fun a dy => offs.foldl (fun a dx => a + kern dx dy) a) 0
  if den = 0 then nb 0 0 else divRound num den

/-- T_c of one colour (R113), and whether it clips: target t′ and field F in WL16, T_eff to 65,536. -/
def splFront (t f teff : Nat) : Nat × Bool :=
  if wlUnits t = 0 then (0, false)
  else if wlUnits f * teff = 0 then (0xFFFF, true)
  else
    let n := 4294967296 * wlUnits t
    let d := wlUnits f * teff
    (t16Of (divRound n d), 65536 * d < n)

/-- T_c of a band on the bypass path (R124): min(1, t′ / F), rounded once. A zero field with light wanted gives 1.0. -/
def splBypass (t f : Nat) : Nat :=
  if wlUnits t = 0 then 0
  else if wlUnits f = 0 then 0xFFFF
  else t16Of (min 65536 (divRound (65536 * wlUnits t) (wlUnits f)))

/-- Stage 10 (R115): a transmittance through a response table of 1,025 entries. -/
def splResponse (p : Nat → Nat) (t : Nat) : Nat :=
  let t' := t16 t
  let n := t' / 64
  let f := t' % 64
  if 1024 ≤ n then p 1024
  else ((p n : Int) + roundAway (((((p (n + 1) : Int) - p n) * f : Int) : Rat) / 64)).toNat

end Sys2Proof.Machine
end

