-- ==== Sys2Proof/Machine/Geom.lean ====
section
/-! DEFINITION. The rasters, bands, zones and ports as the registers give them (R24, R97, R189). -/

namespace Sys2Proof.Machine

/-- Columns of generator n's active raster. -/
def Snap.width (p : Snap) (n : Nat) : Nat := p.get (F.TG_RASTER1_WIDTH n)

/-- Lines of generator n's active raster. -/
def Snap.lines (p : Snap) (n : Nat) : Nat := p.get (F.TG_RASTER0_VACTIVE n)

/-- The geometry of the split (R97): the rear grid is TG1's raster, or the front raster where there is no rear layer. -/
def Snap.geom (p : Snap) : SplGeom :=
  let rear := p.flag F.SPL_CFG_REAR_EN
  { w := p.width 0, h := p.lines 0
    wr := if rear then p.width 1 else p.width 0
    hr := if rear then p.lines 1 else p.lines 0
    zc := p.get F.SPL_ZONE_GRID_COLS, zr := p.get F.SPL_ZONE_GRID_ROWS
    fc := 4 * 2 ^ p.get F.SPL_CFG_FC, shift := p.get F.SPL_CFG_SHIFT
    dilX := p.get F.SPL_STAT_DIL_X, dilY := p.get F.SPL_STAT_DIL_Y }

/-- First column of band k of a layer of width w (R24). -/
def bandStart (w k : Nat) : Nat := k * w / 16

/-- The band of column x (R24). -/
def bandOf (w x : Nat) : Nat := ((List.range 16).find? (fun k => bandStart w k ≤ x && x < bandStart w (k + 1))).getD 15

/-- The width of the widest band (R160). -/
def widestBand (w : Nat) : Nat := (List.range 16).foldl (fun m k => max m (bandStart w (k + 1) - bandStart w k)) 0

/-- The bands on the bypass path (R38). -/
def State.bypassed (s : State) (k : Nat) : Bool := bitAt (s.get F.DEV_PATH_STATUS_BYPASS_BANDS) k || bitAt s.cal.bypassNow k

/-- The zone column of front column x, and the zone row of front line y (R97). -/
def SplGeom.zoneCol (g : SplGeom) (x : Nat) : Nat :=
  ((List.range g.zc).find? (fun i => g.x0 i ≤ x && x < g.x0 (i + 1))).getD (g.zc - 1)

/-- The zone row of front line y (R97). -/
def SplGeom.zoneRow (g : SplGeom) (y : Nat) : Nat :=
  ((List.range g.zr).find? (fun i => g.y0 i ≤ y && y < g.y0 (i + 1))).getD (g.zr - 1)

/-- The zone of a front pixel. -/
def SplGeom.zoneAt (g : SplGeom) (x y : Nat) : Nat := g.zoneRow y * g.zc + g.zoneCol x

/-- The width, the lines and the components of a layer. -/
def SplGeom.layer (g : SplGeom) (rear : Bool) : Nat × Nat × Nat := if rear then (g.wr, g.hr, 1) else (g.w, g.h, 3)

/-- The driver width N of a layer (Table 6.12). -/
def Snap.driverBits (p : Snap) (rear : Bool) : Nat :=
  8 + 2 * p.get (if rear then F.DTH_CFG_REAR_BITS else F.DTH_CFG_FRONT_BITS)

/-- The key of an element of plane p (3: rear) in the pixel-path maps. -/
def elemKey (plane x y : Nat) : Nat := (y * 16384 + x) * 4 + plane

/-- The owner of an engine's entry, 3 for NONE (R391). -/
def State.engineOwner (s : State) (e : Nat) : Nat :=
  if e < 16 then s.reg R.DEV_OWN_ENG0 / 4 ^ e % 4 else s.reg R.DEV_OWN_ENG1 / 4 ^ (e - 16) % 4

/-- The slots that hold engine e (R389). -/
def State.heldBy (s : State) (e : Nat) : List Nat := upTo 8 fun i => bitAt (mget 0 s.seq.holds i) e

/-- Whether a commit point skips engine e; a COMMIT step of slot `by'` commits what only that slot holds (R389). -/
def State.skips (s : State) (e : Nat) (by' : Option Nat) : Bool := (s.heldBy e).any fun i => by' != some i

/-- The engine that an address of the table window belongs to (Table 23.3). -/
def tblEngine (a : Nat) : Option Nat :=
  if 0x200000 ≤ a ∧ a < 0x210000 then some 2
  else if 0x210000 ≤ a ∧ a < 0x240000 then some 3
  else if 0x240000 ≤ a ∧ a < 0x250000 then some 4
  else if 0x280000 ≤ a ∧ a < 0x2D0000 then some 5
  else if 0x2D0000 ≤ a ∧ a < 0x2E0000 then some 6
  else if 0x300000 ≤ a ∧ a < 0x400000 then some 9
  else none

/-- The shadows of engine e that wait, by address; those of generator n alone where the engine is `TG` (R42). -/
def State.waitingRegs (s : State) (keep : Nat → Bool) : SMap Word := s.shadow.filter fun x => keep x.1

/-- The table shadows of engine e that wait. -/
def State.waitingTbl (s : State) (e : Nat) : SMap Word := s.tblShadow.filter fun x => tblEngine x.1 == some e

/-- The registers of engine e. -/
def inEngine (e a : Nat) : Bool := a / 0x4000 == e

/-- The registers and tables as a commit of the waiting shadows would leave them (R14). -/
def State.after (s : State) (keep : Nat → Bool) (e : Nat) : Snap :=
  ⟨(s.waitingRegs keep).foldl (fun m x => if x.2.toNat = resetOf x.1 then merase m x.1 else mput m x.1 x.2) s.regs,
   (s.waitingTbl e).foldl (fun m x => tblSet m x.1 x.2) s.tbl⟩

/-- Entry n of response table t (Table 4.2). -/
def Snap.response (p : Snap) (t n : Nat) : Nat := tblHalf p.tbl (0x211000 + 0x1000 * t + 2 * n)

/-- The commit of the waiting registers (R13, R14). -/
def State.applyRegs (s : State) (keep : Nat → Bool) : State :=
  let w := s.waitingRegs keep
  let s := { s with shadow := s.shadow.filter fun x => !keep x.1 }
  s.each w fun s x => s.setReg x.1 x.2.toNat

/-- A rejected commit of the waiting registers: the registers keep their values, the shadows are used up (R99, R174, R206,
R256). -/
def State.dropRegs (s : State) (keep : Nat → Bool) : State := { s with shadow := s.shadow.filter fun x => !keep x.1 }

/-- The commit of an engine's waiting tables (R90, R91). -/
def State.applyTbl (s : State) (e : Nat) : State :=
  let w := s.waitingTbl e
  { s with tbl := w.foldl (fun m x => tblSet m x.1 x.2) s.tbl
           tblShadow := s.tblShadow.filter fun x => tblEngine x.1 != some e }

/-- Whether an engine has a register shadow or a table that waits. -/
def State.anyWaiting (s : State) (e : Nat) : Bool := !(s.waitingRegs (inEngine e)).isEmpty || !(s.waitingTbl e).isEmpty

end Sys2Proof.Machine
end

