-- ==== Sys2Proof/Machine/Seg.lean ====
section
/-! DEFINITION. The segment format (R279 to R288): prediction, Rice groups, segments, streams and linear streams, as
functions over bytes. -/

namespace Sys2Proof.Machine

/-- The bits of an n-bit number, most significant first. -/
def toBits (n v : Nat) : List Bool := (List.range n).map fun i => bitAt v (n - 1 - i)

/-- The number of a list of bits, most significant first. -/
def ofBitList (l : List Bool) : Nat := l.foldl (fun a b => 2 * a + bit b) 0

/-- Bytes of a list of bits, most significant first; zero bits pad the last byte. -/
def packBits : List Bool → List Byte
  | b7 :: b6 :: b5 :: b4 :: b3 :: b2 :: b1 :: b0 :: r => BitVec.ofNat 8 (ofBitList [b7, b6, b5, b4, b3, b2, b1, b0]) :: packBits r
  | [] => []
  | l => [BitVec.ofNat 8 (ofBitList l * 2 ^ (8 - l.length))]

/-- The bits of a list of bytes. -/
def unpackBits (l : List Byte) : List Bool := l.flatMap fun b => toBits 8 b.toNat

/-- The prediction of sample i from the samples before it, newest first (R282). -/
def segPredict (b i : Nat) (acc : List Nat) : Nat :=
  let a := acc.getD 0 0
  let u := acc.getD 63 0
  let c := acc.getD 64 0
  if i = 0 then 2 ^ (b - 1)
  else if i < 64 then a
  else if i % 64 = 0 then u
  else if max a u ≤ c then min a u
  else if c ≤ min a u then max a u
  else a + u - c

/-- The zig-zag value of a sample with prediction p (R283). -/
def segZig (b s p : Nat) : Nat :=
  let e : Int := ((s : Int) - p + 2 ^ (b - 1)) % 2 ^ b - 2 ^ (b - 1)
  if 0 ≤ e then (2 * e).toNat else (-2 * e - 1).toNat

/-- The sample that a zig-zag value gives with prediction p (R283). -/
def segUnzig (b z p : Nat) : Nat :=
  let e : Int := if z % 2 = 0 then (z / 2 : Nat) else -((z / 2 : Nat) : Int) - 1
  (((p : Int) + e) % 2 ^ b).toNat

/-- The zig-zag values of a component's 256 samples. -/
def segResiduals (b : Nat) (samples : List Nat) : List Nat :=
  (samples.foldl (fun (st : Nat × List Nat × List Nat) s =>
    let (i, acc, zs) := st
    (i + 1, s :: acc, segZig b s (segPredict b i acc) :: zs)) (0, [], [])).2.2.reverse

/-- The samples of a component's 256 zig-zag values. -/
def segRebuild (b : Nat) (zs : List Nat) : List Nat :=
  (zs.foldl (fun (st : Nat × List Nat) z => (st.1 + 1, segUnzig b z (segPredict b st.1 st.2) :: st.2)) (0, [])).2.reverse

/-- The cost of a group's Rice code (R285). -/
def riceCost (k : Nat) (zs : List Nat) : Nat := zs.foldl (fun a z => a + z / 2 ^ k + 1 + k) 0

/-- The k that the part chooses for a group (R285). -/
def riceChoose (b : Nat) (zs : List Nat) : Nat :=
  let best := (List.range 15).foldl (fun m k => if riceCost k zs < riceCost m zs then k else m) 0
  if 16 * b < riceCost best zs then 15 else best

/-- The bits of a group (R284). -/
def segGroup (b : Nat) (zs : List Nat) : List Bool :=
  let k := riceChoose b zs
  toBits 4 k ++ zs.flatMap fun z =>
    if k = 15 then toBits b z else List.replicate (z / 2 ^ k) true ++ [false] ++ toBits k (z % 2 ^ k)

/-- The coded bits of a component. -/
def segComponent (b : Nat) (samples : List Nat) : List Bool :=
  let zs := segResiduals b samples
  (List.range 16).flatMap fun g => segGroup b ((zs.drop (16 * g)).take 16)

/-- A segment as a CODED one (R281, R284), from its components' samples. -/
def segCoded (b : Nat) (comps : List (List Nat)) : List Byte :=
  let p := packBits (comps.flatMap (segComponent b))
  beBytes 2 ((2 + p.length) % 8192) ++ p

/-- A segment as a RAW one (Table 12.2). -/
def segRaw (b : Nat) (comps : List (List Nat)) : List Byte :=
  beBytes 2 (8192 + (2 + 32 * b * comps.length)) ++ packBits (comps.flatMap fun c => c.flatMap (toBits b))

/-- A segment with ERROR handling (R287), and whether it is stored RAW. -/
def segEncode (b : Nat) (comps : List (List Nat)) : List Byte × Bool :=
  let c := segCoded b comps
  if 2 + 32 * b * comps.length ≤ c.length then (segRaw b comps, true) else (c, false)

/-- Why a decoder fails a segment (R286). -/
inductive SegFail where
  | overrun | bad
  deriving DecidableEq, Repr

/-- Count one-bits up to a zero-bit. -/
def readUnary : List Bool → Nat → Option (Nat × List Bool)
  | [], _ => none
  | false :: r, q => some (q, r)
  | true :: r, q => readUnary r (q + 1)

/-- Read an n-bit number. -/
def readBits (n : Nat) (l : List Bool) : Option (Nat × List Bool) :=
  if l.length < n then none else some (ofBitList (l.take n), l.drop n)

/-- Read one code of a group. -/
def readCode (b k : Nat) (l : List Bool) : Except SegFail (Nat × List Bool) :=
  match (if k = 15 then readBits b l
         else (readUnary l 0).bind fun (q, r) => (readBits k r).map fun (v, r) => (q * 2 ^ k + v, r)) with
  | none => .error .overrun
  | some (z, r) => if 2 ^ b ≤ z then .error .bad else .ok (z, r)

/-- Read n codes of a group. -/
def readCodes (b k : Nat) : Nat → List Bool → List Nat → Except SegFail (List Nat × List Bool)
  | 0, l, acc => .ok (acc, l)
  | n + 1, l, acc => match readCode b k l with
    | .error e => .error e
    | .ok (z, r) => readCodes b k n r (z :: acc)

/-- Read n groups; the values come newest first. -/
def readGroups (b : Nat) : Nat → List Bool → List Nat → Except SegFail (List Nat × List Bool)
  | 0, l, acc => .ok (acc, l)
  | n + 1, l, acc => match readBits 4 l with
    | none => .error .overrun
    | some (k, r) => match readCodes b k 16 r acc with
      | .error e => .error e
      | .ok (acc, r) => readGroups b n r acc

/-- Read the n components of a CODED payload. -/
def readComponents (b : Nat) : Nat → List Bool → Except SegFail (List (List Nat) × List Bool)
  | 0, l => .ok ([], l)
  | n + 1, l => match readGroups b 16 l [] with
    | .error e => .error e
    | .ok (zs, r) => match readComponents b n r with
      | .error e => .error e
      | .ok (cs, r) => .ok (segRebuild b zs.reverse :: cs, r)

/-- The samples of a RAW payload. -/
def rawSamples (b n : Nat) (l : List Bool) : List (List Nat) :=
  (List.range n).map fun c => (List.range 256).map fun i => ofBitList ((l.drop ((256 * c + i) * b)).take b)

/-- Decode the segment at the front of the input (R286): its components and its length. -/
def segDecode (n b : Nat) (input : List Byte) : Except SegFail (List (List Nat) × Nat) :=
  if input.length < 2 then .error .bad
  else
    let h := beNat (input.take 2)
    let len := h % 8192
    let mode := h / 8192
    let l := unpackBits ((input.drop 2).take (len - 2))
    if 1 < mode then .error .bad
    else if mode = 1 then
      (if len ≠ 2 + 32 * b * n ∨ input.length < len then .error .bad else .ok (rawSamples b n l, len))
    else if len < 2 then .error .overrun
    else if input.length < len then .error .bad
    else match readComponents b n l with
      | .error e => .error e
      | .ok (cs, r) => if 8 ≤ r.length ∨ r.any id then .error .bad else .ok (cs, len)

/-- The samples of the block at (bx, by) of an image given by its samples; outside the image they are 0 (R279). -/
def blockOf (w h n : Nat) (f : Nat → Nat → Nat → Nat) (bx bY : Nat) : List (List Nat) :=
  (List.range n).map fun c => (List.range 256).map fun i =>
    let (x, y) := (64 * bx + i % 64, 4 * bY + i / 64)
    if x < w ∧ y < h then f x y c else 0

/-- The blocks of an image in block raster order (R279). -/
def imageBlocks (w h n : Nat) (f : Nat → Nat → Nat → Nat) : List (List (List Nat)) :=
  let cols := divCeil w 64
  (List.range (cols * divCeil h 4)).map fun i => blockOf w h n f (i % cols) (i / cols)

/-- Decode k segments one after the other; the blocks that decode before the first failure, and the failure. -/
def streamDecode (n b : Nat) : Nat → List Byte → List (List (List Nat)) × Option SegFail × List Byte
  | 0, l => ([], none, l)
  | k + 1, l => match segDecode n b l with
    | .error e => ([], some e, l)
    | .ok (cs, len) =>
      let (bs, e, r) := streamDecode n b k (l.drop len)
      (cs :: bs, e, r)

/-- The sample of component c at (x, y) of an image from its decoded blocks, if that block decoded. -/
def streamSample (w : Nat) (blocks : List (List (List Nat))) (x y c : Nat) : Option Nat :=
  match blocks[y / 4 * divCeil w 64 + x / 64]? with
  | some b => some ((b.getD c []).getD (64 * (y % 4) + x % 64) 0)
  | none => none

/-- Encode a linear stream (R280): each segment CODED (`grow`) or with ERROR handling. -/
def linearSegments (grow : Bool) (bs : List Byte) : List (List Byte) :=
  let h := divCeil bs.length 128
  let f (x y _ : Nat) : Nat := beNat (slice bs (128 * y + 2 * x) 2)
  (List.range (divCeil h 4)).map fun i =>
    let b := blockOf 64 h 1 f 0 i
    if grow then segCoded 16 b else (segEncode 16 b).1

/-- Decode a linear stream to L bytes (R280); the whole input must be used. -/
def linearDecode (len : Nat) (input : List Byte) : Except SegFail (List Byte) :=
  let h := divCeil len 128
  let (blocks, e, rest) := streamDecode 1 16 (divCeil h 4) input
  match e with
  | some e => .error e
  | none =>
    if rest.isEmpty then .ok ((blocks.flatMap fun b => (b.getD 0 []).flatMap (beBytes 2)).take len) else .error .bad

end Sys2Proof.Machine
end

