-- ==== Sys2Proof/Machine/FstOps.lean ====
section
/-! DEFINITION. The folds as the engines and the service port reach them (R259 to R274, R467). -/

namespace Sys2Proof.Machine

/-- The fold-window address of byte 0 of fold nn (R259). -/
def foldBase (nn : Nat) : Nat := 0x40000000 + nn * 0x1000000

/-- The fold of a fold-window address. -/
def foldOf (a : Nat) : Nat := (a - 0x40000000) / 0x1000000

/-- Whether an address lies in the fold window (Table 23.1). -/
def inFolds (a : Nat) : Bool := 0x40000000 ≤ a && a < 0x80000000

/-- Whether a fold is ON. -/
def State.foldOn (s : State) (nn : Nat) : Bool := s.get (F.FST_FOLD_STATUS_POWER nn) == 2

/-- A fold's owner (Table 11.1). -/
def State.foldOwner (s : State) (nn : Nat) : Nat := s.get (F.FST_FOLD_OWNER_OWNER nn)

/-- Whether every fold of a range is owned by an owner. -/
def State.foldsOwned (s : State) (own lo n : Nat) : Bool := (List.range n).all fun i => lo + i < 64 && s.foldOwner (lo + i) == own

/-- A corrected word of a fold (R269). -/
def State.noteCorrected (s : State) (nn : Nat) : State :=
  let s := (s.count R.FST_CNT_CE).tally (0xE800 + 0x10 * nn) 1
  let f := F.FST_FOLD_STATUS_CE nn
  (s.put f (min 0xFFFF (s.get f + 1))).raise 240 1

/-- An uncorrectable word at an address, with the class of its reader's rule (R270). -/
def State.noteUncorrectable (s : State) (addr cls : Nat) : State :=
  let nn := foldOf addr
  let s := ((s.setReg R.FST_UE_ADDR (addr / 8 * 8)).count R.FST_CNT_UE).tally (0xE800 + 0x10 * nn + 8) 1
  let f := F.FST_FOLD_STATUS_UE nn
  (s.put f (min 0xFF (s.get f + 1))).raise 241 cls

/-- What the check of a word at an address does (R269, R270). -/
def State.noteEcc (s : State) (addr : Nat) (ecc : Ecc) (cls : Nat) : State :=
  match ecc with
  | .good => s
  | .single => s.noteCorrected (foldOf addr)
  | .double => s.noteUncorrectable addr cls

/-- Write bytes to the folds; the first write to a fold ends `LOST` (R273). -/
def State.foldWrite (s : State) (addr : Nat) (bs : List Byte) : State :=
  let s := { s with fst := { s.fst with mem := memWrite s.fst.mem addr bs } }
  if bs.isEmpty then s else s.each [foldOf addr, foldOf (addr + bs.length - 1)] fun s nn => s.putB (F.FST_FOLD_STATUS_LOST nn) false

/-- The folds that a range of bytes touches. -/
def foldsIn (addr n : Nat) : List Nat := if n = 0 then [] else (List.range (foldOf (addr + n - 1) + 1 - foldOf addr)).map (foldOf addr + ·)

/-! ### What an access meets (R265, R266, R273, R274) -/

/-- What an access of an owner's engine to a fold meets: 0 good, 1 no such fold, else the counter of a fold that is not ON or not its
own (R266, R274). -/
def State.ownerMiss (s : State) (own nn : Nat) : Nat :=
  if 64 ≤ nn then 1
  else if !s.foldOn nn then R.FST_CNT_OFF_ACCESS
  else if s.foldOwner nn != own then R.FST_CNT_FOREIGN
  else 0

/-- What a DMA read meets: every fold that is ON may be read (R262, R274). -/
def State.dmaMiss (s : State) (nn : Nat) : Nat := if 64 ≤ nn then 1 else if !s.foldOn nn then R.FST_CNT_OFF_ACCESS else 0

/-- An access that meets a counter counts in it. -/
def State.missCount (s : State) (c : Nat) : State := if 2 ≤ c then s.count c else s

/-- An access of an owner's engine to a fold waits: the fold is being initialised, or a handover to that owner runs (R265, R273). -/
def State.ownerWaits (s : State) (own nn : Nat) : Bool :=
  nn < 64 && (s.flag (F.FST_FOLD_STATUS_INIT nn) || (s.flag (F.FST_FOLD_STATUS_OWNER_CHANGING nn) && s.foldOwner nn == own))

/-- Some access of an owner's engine to a range waits: what needs it has not happened yet. -/
def State.rangeWaits (s : State) (own addr n : Nat) : Bool := (foldsIn addr n).any (s.ownerWaits own)

/-- A DMA access to a range waits for a fold's initialisation (R273). -/
def State.dmaWaits (s : State) (addr n : Nat) : Bool := (foldsIn addr n).any fun nn => nn < 64 && s.flag (F.FST_FOLD_STATUS_INIT nn)

/-! ### Reads -/

/-- What the check finds in the ECC words of the bytes [lo, hi) (R269, R270): whether every word can be used, and the state. -/
def State.checkWords (s : State) (lo hi : Nat) (ecc : EccMap) (cls : Nat) : Bool × State :=
  let hits := ecc.filter fun e => lo / 8 ≤ e.1 && 8 * e.1 < hi
  (hits.all (·.2 != .double), s.each hits fun s e => s.noteEcc (8 * e.1) e.2 cls)

/-- A read of n bytes, fold by fold: a fold that `miss` does not let through counts as one access; of every other fold each word is
checked. The result says whether all the data are good. -/
def State.readFolds (s : State) (miss : State → Nat → Nat) (addr n : Nat) (ecc : EccMap) (cls : Nat) : Bool × State :=
  if !inFolds addr && n != 0 then (false, s)
  else (foldsIn addr n).foldl (fun r nn =>
    let c := miss r.2 nn
    if c ≠ 0 then (false, r.2.missCount c)
    else
      let q := r.2.checkWords (max addr (foldBase nn)) (min (addr + n) (foldBase (nn + 1))) ecc cls
      (r.1 && q.1, q.2)) (true, s)

/-- An owner port's read of n bytes (R266, R269, R270, R274): whether the data are good. -/
def State.ownerRead (s : State) (own addr n : Nat) (ecc : EccMap) (cls : Nat) : Bool × State :=
  s.readFolds (fun s nn => s.ownerMiss own nn) addr n ecc cls

/-- A DMA read of n bytes. -/
def State.dmaRead (s : State) (addr n : Nat) (ecc : EccMap) (cls : Nat) : Bool × State :=
  s.readFolds (fun s nn => s.dmaMiss nn) addr n ecc cls

/-! ### Writes -/

/-- The part of an owner port's write that lies in fold nn: it waits with its fold (R265, R273), and is discarded where the access does
not work. One that came before its owner's handover completes normally (R266): only the fold's initialisation holds it. -/
def State.ownerPiece (s : State) (nn : Nat) (w : FoldWait) : State :=
  let held := if w.granted then s.flag (F.FST_FOLD_STATUS_INIT nn) else s.ownerWaits w.owner nn
  let c := if w.granted && s.foldOn nn then 0 else s.ownerMiss w.owner nn
  if held then { s with fst := { s.fst with waits := s.fst.waits ++ [w] } }
  else if c ≠ 0 then s.missCount c
  else s.foldWrite w.addr w.bytes

/-- An owner port's write, fold by fold. -/
def State.ownerWrite (s : State) (own addr : Nat) (bs : List Byte) : State :=
  s.each (foldsIn addr bs.length) fun s nn =>
    let lo := max addr (foldBase nn)
    s.ownerPiece nn ⟨own, lo, (bs.drop (lo - addr)).take (foldBase (nn + 1) - lo), false⟩

/-- Writes of an owner that wait for a fold. -/
def State.writesWait (s : State) (own : Nat) : Bool := s.fst.waits.any fun w => w.owner == own

/-- The writes that no fold holds any more are applied, in their order (R265, R273). -/
def State.applyWaits (s : State) : State :=
  let ws := s.fst.waits
  ({ s with fst := { s.fst with waits := [] } }).each ws fun s w => s.ownerPiece (foldOf w.addr) w

/-- A handover of fold nn starts: what its owner's engine has already written to it completes normally (R266). -/
def State.grantWaits (s : State) (nn own : Nat) : State :=
  { s with fst := { s.fst with waits := s.fst.waits.map fun w =>
      if w.owner == own && foldOf w.addr == nn then { w with granted := true } else w } }

/-- The bytes that a reader of the segment at an address fetches: up to its `LENGTH`, inside the limit (R237). -/
def segSpan (m : List Host.Cell) (addr limit : Nat) : Nat := min (max 2 (beNat (memBytes m addr 2) % 8192)) (limit - addr)

/-- The segment at an address of the folds, inside a limit. -/
def segAt (m : List Host.Cell) (n b addr limit : Nat) : Except SegFail (List (List Nat) × Nat) :=
  segDecode n b (memBytes m addr (segSpan m addr limit))

/-- Segment k of the stream at an address (R279), or the one before it that fails: where it lies, how long it is, and its components. -/
def memSegment (m : List Host.Cell) (n b : Nat) : Nat → Nat → Nat → Nat × Nat × Option (List (List Nat))
  | 0, addr, limit => (addr, segSpan m addr limit, (segAt m n b addr limit).toOption.map (·.1))
  | k + 1, addr, limit => match segAt m n b addr limit with
    | .error _ => (addr, segSpan m addr limit, none)
    | .ok (_, len) => memSegment m n b k (addr + len) limit

/-- The segment of an image w columns wide that holds (x, y). -/
def segIndex (w x y : Nat) : Nat := y / 4 * divCeil w 64 + x / 64

/-- A sample of a segment's component. -/
def segSample (cs : List (List Nat)) (x y c : Nat) : Nat := (cs.getD c []).getD (64 * (y % 4) + x % 64) 0

/-- An owner's engine reads segment k of a stream: its components where every word is good and it decodes. -/
def State.ownerSegment (s : State) (own n b k addr limit : Nat) (ecc : EccMap) (cls : Nat) : Option (List (List Nat)) × State :=
  let g := memSegment s.fst.mem n b k addr limit
  let r := s.ownerRead own g.1 g.2.1 ecc cls
  (if r.1 then g.2.2 else none, r.2)

/-- That read waits (R265, R273). -/
def State.segmentWaits (s : State) (own n b k addr limit : Nat) : Bool :=
  let g := memSegment s.fst.mem n b k addr limit
  s.rangeWaits own g.1 g.2.1

/-- A block's segment, RAW where its encoder has found the CODED one wrong (R287, R288), and whether it is RAW. -/
def rawWhere (b : Nat) (comps : List (List Nat)) (wrong : Bool) : List Byte × Bool :=
  if wrong then (segRaw b comps, true) else segEncode b comps

/-- Encode a block for a stream in the folds (R287 to R289), and whether it is RAW. Where the encoder finds its CODED segment wrong, the
part reports it and takes the RAW one (R288). -/
def State.encodeSegment (s : State) (b : Nat) (comps : List (List Nat)) (wrong : Bool) : (List Byte × Bool) × State :=
  let e := segEncode b comps
  if wrong && !e.2 then ((segRaw b comps, true), (s.count R.CPR_CNT_VERIFY).raise 254 1) else (e, s)

/-- Write the segments of blocks one after the other up to a limit; how many were written (R161). Those stored RAW count (R289). -/
def State.writeSegments (s : State) (own limit b : Nat) (wrong : Nat → Bool) : List (List (List Nat)) → Nat → Nat → State × Nat
  | [], _, k => (s, k)
  | c :: cs, addr, k =>
    let e := rawWhere b c (wrong k)
    if limit < addr + e.1.length then (s, k)
    else ((s.ownerWrite own addr e.1).countIf e.2 R.CPR_CNT_RAW_SEG).writeSegments own limit b wrong cs (addr + e.1.length) (k + 1)

/-- A wipe of the locked fold (R276): cause 1 life-cycle, 2 `TAMPERN`. -/
def State.wipe (s : State) (cause : Nat) : State :=
  let s := { s with fst := { s.fst with locked := [], wipedInApply := s.fst.wipedInApply || s.get F.CFG_STATUS_STATE == 3 } }
  let f := F.FST_LOCKED_STATUS_WIPES
  ((s.put f (min 0xFF (s.get f + 1))).put F.FST_LOCKED_STATUS_CAUSE cause |>.putB F.FST_LOCKED_STATUS_WIPING true).raise 245 0

end Sys2Proof.Machine
end

