-- ==== Sys2Proof/Machine/Access.lean ====
section
/-! DEFINITION. Who may write what (R371, R379 to R382, R426, Table 17.4), and how a refusal shows in a port's status word
(R372, Table 17.3). Every command that writes a register passes through `asWrite`. -/

namespace Sys2Proof.Machine

/-- The port of an agent, if it is a partition (R379). -/
def agentPort : Agent → Option Port
  | .host p => some p
  | _ => none

/-- Who owns a register or a table address (Table 17.4): 0 to 2 a port, 3 NONE, 4 the core only, 5 every port. `HTM_STEP_*` of the table
takes in `HTM_STEP_LIMIT`, which R318 does not name (DEDUCED, assumption log 144). -/
def State.scopeOf (s : State) (a : Nat) : Nat :=
  let e := a / 0x4000
  if 0x40100 ≤ a ∧ a < 0x40160 then (if a % 0x20 < 0x14 then (a - 0x40100) / 0x20 else s.engineOwner 16)
  else if 0x30040 ≤ a ∧ a < 0x30140 then (let r := (a - 0x30040) / 0x40; if r = 3 then 4 else r)
  else if a = R.MGT_DOG then 4
  else if (a = R.HTM_FREQ ∨ a = R.HTM_STEP_SEC ∨ a = R.HTM_STEP_NS ∨ a = R.HTM_STEP_LIMIT) ∧ s.get F.HTM_CFG_SRC ≠ 2 then 4
  else if a = R.SPL_USER then s.reg R.DEV_OWN_DELEG % 4
  else if a = R.SPL_LEVEL then s.reg R.DEV_OWN_DELEG / 4 % 4
  else if a = R.BLE_MASTER then s.reg R.DEV_OWN_DELEG / 16 % 4
  else if 0x28100 ≤ a ∧ a < 0x28300 then s.reg R.DEV_OWN_SLOT / 4 ^ ((a - 0x28100) / 0x20) % 4
  else if 0x48000 ≤ a ∧ a < 0x48100 then s.reg R.DEV_OWN_SEQ / 4 ^ ((a - 0x48000) / 0x20) % 4
  else if 0x4C000 ≤ a ∧ a < 0x4C800 then
    (let n := (a - 0x4C000) / 4; s.reg (R.DEV_OWN_EVT (n / 16)) / 4 ^ (n % 16) % 4)
  else if a = R.DEV_COMMIT then 5
  else if a < 0x60000 then s.engineOwner e
  else match tblEngine a with
    | some e => s.engineOwner e
    | none => 3

/-- Whether an address is a word that some chapter defines: a register, or a word of the table window's ranges (R371, R462,
R464). -/
def definedWord (a : Nat) : Bool := (a < 0x60000 && (regDef? a).isSome) || (tblEngine a).isSome

/-- Whether an address is one of the `DEV_OWN_*` registers. -/
def isOwnReg (a : Nat) : Bool := 0x80 ≤ a && a < 0x180

/-- Whether host writes are still discarded (R426). -/
def State.beforeRun (s : State) : Bool := s.get F.CFG_STATUS_STATE != 5

/-- Whether an agent's write of a word is refused before the register's own rule: 0 no, 1 `ACCESS_ERR`, 2 `ACCESS_DENIED`. -/
def State.permits (s : State) (ag : Agent) (a : Nat) : Nat :=
  if !definedWord a then 1
  else if isOwnReg a && s.flag F.DEV_OWN_CTRL_LOCK then 2
  else match ag with
    | .host p =>
      let o := s.scopeOf a
      if s.beforeRun && a / 0x4000 != 17 && a / 0x4000 != 19 then 2
      else if o = 5 ∨ o = p.num then 0 else 2
    | .core => if 0x30040 ≤ a ∧ a < 0x30100 then 2 else 0
    | .loader => if 0x30040 ≤ a ∧ a < 0x30140 then 2 else 0

/-- The event of a refusal: 49 `ACCESS_ERR`, 50 `ACCESS_DENIED`. -/
def State.refusal (s : State) (code : Nat) : State := s.raise (48 + code) 0

/-- The last transaction of a port has ended: bytes of an older one no longer show in its status word (R467). -/
def State.portLast (s : State) (p : Port) (busy : Bool) : State :=
  let s := { s with hpt := mupd ({} : HptPort) s.hpt p.num fun h => { h with heldLast := false, busy := busy } }
  s.putB (F.HPT_P_STATUS_BUSY_LAST p.num) busy

/-- A transaction that is not accepted counts until the next status read (Table 17.3). -/
def State.notAccepted (s : State) (p : Port) : State :=
  s.put (F.HPT_P_STATUS_NOT_ACCEPTED p.num) (min 255 (s.get (F.HPT_P_STATUS_NOT_ACCEPTED p.num) + 1))

/-- A transaction of a port that ended with an error and was not accepted (R372, R376); code 0 is a region commit to be retried
(R250). -/
def State.portReject (s : State) (p : Port) (code a : Nat) : State :=
  let n := p.num
  let s := ((s.portLast p false).put (F.HPT_P_STATUS_ERR_LAST n) code).notAccepted p
  if code = 0 then s else (s.setReg (R.HPT_P_ERR_ADDR n) a).count (R.HPT_P_CNT_ERR n)

/-- A transaction of a port during which it met BUSY (R375, R378). -/
def State.portBusy (s : State) (p : Port) : State :=
  (((s.portLast p true).put (F.HPT_P_STATUS_ERR_LAST p.num) 0).notAccepted p).count (R.HPT_P_CNT_BUSY p.num)

/-- A transaction of a port that ended without error (Table 19.1). -/
def State.portAccept (s : State) (p : Port) : State :=
  ((s.portLast p false).put (F.HPT_P_STATUS_ERR_LAST p.num) 0).tally (0x6600 + 0x40 * p.num + 16) 1

/-- Whether a port's previous write transaction has not yet been applied (R375). -/
def State.portHeld (s : State) (p : Port) : Bool := (mget ({} : HptPort) s.hpt p.num).held.isSome

/-- The refusal that a word's own rule has just made (R18, R372): the code of the newest occurrence of event 49 or 50 since the
state `s`, 0 for none. -/
def newRefusal (s s' : State) : Nat :=
  ((s'.occ.drop s.occ.length).foldl (fun (c : Nat) o => if o.src = 49 then 1 else if o.src = 50 then 2 else c) 0)

/-- What the port's status word says of refusals of an accepted transaction: the word last refused (R372). -/
def State.portRefused (s : State) (p : Port) (code a : Nat) : State :=
  let n := p.num
  ((s.put (F.HPT_P_STATUS_ERR_LAST n) code).setReg (R.HPT_P_ERR_ADDR n) a).count (R.HPT_P_CNT_ERR n)

/-- A write of one word by an agent, with the effect that the register's rule gives (R372, R379). -/
def State.asWrite (s : State) (ag : Agent) (a : Nat) (eff : State → State) : State :=
  match s.permits ag a with
  | 0 => match agentPort ag with
    | none => eff s
    | some p =>
      if s.portHeld p then s.portBusy p else
      let s0 := s.portAccept p
      let s' := eff s0
      let c := newRefusal s0 s'
      if c = 0 ∨ a = R.DEV_COMMIT then s' else s'.portRefused p c a
  | c => match agentPort ag with
    | none => s.refusal c
    | some p => if s.portHeld p then s.portBusy p else (s.refusal c).portReject p c a

/-- The answer to a good read of one word: its four bytes go to the port (R367), and the read is the port's last transaction. -/
def State.answer (_s : State) (p : Port) (r : Nat × State) : State := (r.2.portAccept p).emit (.readData p (leBytes 4 r.1))

/-- A register's own rule refuses its word with `ACCESS_ERR` (R18). -/
def State.refuseWord (s : State) : State := s.refusal 1

end Sys2Proof.Machine
end

