-- ==== Sys2Proof/Machine/Coding.lean ====
section
/-! DEFINITION. The 8b/10b code of every lane (R46, R302): characters, groups and running disparity. The spec names the
fibre-channel-derived code table without printing it; the table here is that one (PRESUMED, assumption log 100). A group is a
number of ten bits, the first bit sent or received most significant, as in `LNS_LANEnnn_STATUS.CODE`. -/

namespace Sys2Proof.Machine

/-- A character: a data byte, or with `k` one of the control characters, K28.5 being 0xBC. -/
structure Sym where
  k : Bool
  v : Nat
  deriving DecidableEq, Repr

/-- The data character of a byte. -/
def dSym (b : Byte) : Sym := ⟨false, b.toNat⟩

/-- K28.5, the comma of an idle unit. -/
def symK28_5 : Sym := ⟨true, 0xBC⟩

/-- K28.2, reserved for the back-channel (R46). -/
def symK28_2 : Sym := ⟨true, 0x5C⟩

/-- K27.7, which opens a packet, and K29.7, which closes it (Table 2.2). -/
def symK27_7 : Sym := ⟨true, 0xFB⟩

/-- K29.7 (Table 2.2). -/
def symK29_7 : Sym := ⟨true, 0xFD⟩

/-- K28.0, which opens a lane marker (Table 2.2). -/
def symK28_0 : Sym := ⟨true, 0x1C⟩

/-- An idle unit (Table 2.2): K28.5 and three D21.5. -/
def idleUnit : List Sym := [symK28_5, ⟨false, 0xB5⟩, ⟨false, 0xB5⟩, ⟨false, 0xB5⟩]

/-- An idle pair of a driver lane (chapter 8): K28.5 and D21.5. -/
def idlePair : List Sym := [symK28_5, ⟨false, 0xB5⟩]

/-- The six bits abcdei of D.x after negative disparity. -/
def code6 (x : Nat) : Nat :=
  [0b100111, 0b011101, 0b101101, 0b110001, 0b110101, 0b101001, 0b011001, 0b111000,
   0b111001, 0b100101, 0b010101, 0b110100, 0b001101, 0b101100, 0b011100, 0b010111,
   0b011011, 0b100011, 0b010011, 0b110010, 0b001011, 0b101010, 0b011010, 0b111010,
   0b110011, 0b100110, 0b010110, 0b110110, 0b001110, 0b101110, 0b011110, 0b101011].getD x 0

/-- The four bits fghj of D.x.y after negative disparity. -/
def code4 (y : Nat) : Nat := [0b1011, 0b1001, 0b0101, 0b1100, 0b1101, 0b1010, 0b0110, 0b1110].getD y 0

/-- The control characters and their groups after negative disparity. -/
def codeK : List (Nat × Nat) :=
  [(0x1C, 0b0011110100), (0x3C, 0b0011111001), (0x5C, 0b0011110101), (0x7C, 0b0011110011), (0x9C, 0b0011110010),
   (0xBC, 0b0011111010), (0xDC, 0b0011110110), (0xFC, 0b0011111000), (0xF7, 0b1110101000), (0xFB, 0b1101101000),
   (0xFD, 0b1011101000), (0xFE, 0b0111101000)]

/-- How many of the low n bits of a number are 1. -/
def onesBelow (n v : Nat) : Nat := (List.range n).foldl (fun a i => a + v / 2 ^ i % 2) 0

/-- The six bits of D.x, and the disparity after them. -/
def encode6 (rd : Bool) (x : Nat) : Nat × Bool :=
  let c := code6 x
  let flips := onesBelow 6 c != 3
  (if rd && (flips || x == 7) then 63 - c else c, rd != flips)

/-- The four bits of D.x.y after the six bits have left the disparity `rd`: y = 7 has a second form that ends no run of five. -/
def encode4 (rd : Bool) (x y : Nat) : Nat :=
  let other := y == 7 && (if rd then x == 11 || x == 13 || x == 14 else x == 17 || x == 18 || x == 20)
  let c := if other then 0b0111 else code4 y
  if rd && (onesBelow 4 c != 2 || y == 3) then 15 - c else c

/-- The group of a character after a disparity; 0 for a control character that the code does not have. -/
def encodeSym (rd : Bool) (c : Sym) : Nat :=
  if c.k then
    (match codeK.find? (fun e => e.1 == c.v) with
     | some e => if rd then 1023 - e.2 else e.2
     | none => 0)
  else
    let a := encode6 rd (c.v % 32)
    a.1 * 16 + encode4 a.2 (c.v % 32) (c.v / 32 % 8)

/-- The disparity after a group: a group of six ones leaves it positive, one of four negative, one of five as it was. -/
def groupDisparity (rd : Bool) (g : Nat) : Bool :=
  let n := onesBelow 10 g
  if n = 5 then rd else decide (5 < n)

/-- The groups of characters from a disparity, and the disparity after them. -/
def encodeSyms (rd : Bool) : List Sym → List Nat × Bool
  | [] => ([], rd)
  | c :: cs =>
    let g := encodeSym rd c
    let r := encodeSyms (groupDisparity rd g) cs
    (g :: r.1, r.2)

/-- The disparity after characters. -/
def symsDisparity (rd : Bool) (cs : List Sym) : Bool := (encodeSyms rd cs).2

/-- Every character of the code. -/
def allSyms : List Sym := (List.range 256).map (⟨false, ·⟩) ++ codeK.map fun e => ⟨true, e.1⟩

/-- The character that a group stands for after a disparity. -/
def decodeIn (rd : Bool) (g : Nat) : Option Sym := allSyms.find? fun c => encodeSym rd c == g

/-- What a received group is (R302). -/
inductive Received where
  /-- A character that the code has after this disparity. -/
  | good (c : Sym)
  /-- A group of the table that conflicts with the running disparity. -/
  | disparity (c : Sym)
  /-- A group that is not in the table. -/
  | invalid
  deriving DecidableEq, Repr

/-- A group received with a running disparity (R302). -/
def decodeGroup (rd : Bool) (g : Nat) : Received :=
  match decodeIn rd g, decodeIn (!rd) g with
  | some c, _ => .good c
  | none, some c => .disparity c
  | none, none => .invalid

/-- The bits of groups in the order they are sent. -/
def groupBits (gs : List Nat) : List Bool := gs.flatMap fun g => (List.range 10).map fun i => bitAt g (9 - i)

/-- The transmitted differential levels of bits in 1/64 mV (R305), given the bit before them and the bit after them. -/
def ffeLevels (swing pre post : Nat) (before : Bool) (after : Bool) (bs : List Bool) : List Int :=
  let d (b : Bool) : Int := if b then 1 else -1
  let half : Int := (200 + 20 * swing : Nat)
  let main : Int := (64 : Int) - pre - post
  (List.range bs.length).map fun i =>
    half * (main * d (bs.getD i false) - pre * d (bs.getD (i + 1) after) - post * d (if i = 0 then before else bs.getD (i - 1) false))

end Sys2Proof.Machine
end

