-- ==== Sys2Proof/Machine/LnsOps.lean ====
section
/-! DEFINITION. Lanes and PLLs as other engines reach them (R300, R301, R303, R312, R314). -/

namespace Sys2Proof.Machine

/-- The PLL of a lane: 0 to 3 the input flocks, 4 to 11 the output flocks (R300). -/
def pllOf (l : Nat) : Nat := if l < 32 then l / 8 else 4 + (l - 32) / 14

/-- The lanes of a PLL's flock. -/
def pllLanes (p : Nat) : List Nat :=
  if p < 4 then (List.range 8).map (8 * p + ·) else (List.range 14).map (32 + 14 * (p - 4) + ·)

/-- The power domain of a PLL's flock (Table 21.2). -/
def pllDomain (p : Nat) : Nat := 2 + p

/-- Whether a PLL is locked. `LNS_PLL_STATUS` holds the input flocks in [3:0] and the output flocks in [11:4]. -/
def State.pllLocked (s : State) (p : Nat) : Bool := bitAt (s.reg R.LNS_PLL_STATUS) p

/-- Set the lock bit of a PLL. -/
def State.setPll (s : State) (p : Nat) (b : Bool) : State := s.setReg R.LNS_PLL_STATUS (setBit (s.reg R.LNS_PLL_STATUS) p b)

/-- Lane l. -/
def State.lane (s : State) (l : Nat) : LnsLane := mget ({} : LnsLane) s.lns l

/-- The state with lane l changed. -/
def State.setLane (s : State) (l : Nat) (v : LnsLane) : State := { s with lns := mset ({} : LnsLane) s.lns l v }

/-- The class of a lane cause (Table 13.7); LOST after `SLEEP_ACK` passes its own. -/
def laneCauseClass (cause : Nat) : Nat := [0, 2, 1, 2, 2, 0, 0, 3].getD cause 0

/-- A lane event with a class (R314). -/
def State.laneRaise (s : State) (l cause cls : Nat) : State :=
  (s.put (F.LNS_LANE_STATUS_LAST_CAUSE l) cause).raise (256 + l) cls

/-- A lane event with the class of its cause. -/
def State.laneCause (s : State) (l cause : Nat) : State := s.laneRaise l cause (laneCauseClass cause)

/-- A receiver comes into use: PLL while its PLL is unlocked, else CDR (Table 13.2); with its flock not ON it stays OFF (R313). -/
def State.laneUse (s : State) (l : Nat) : State :=
  if !s.domOn (laneDomain l) then s else s.put (F.LNS_LANE_STATUS_STATE l) (if s.pllLocked (pllOf l) then 2 else 1)

/-- A receiver goes out of use. -/
def State.laneOut (s : State) (l : Nat) : State := s.put (F.LNS_LANE_STATUS_STATE l) 0

/-- A receiver is not in TEST: `CODE` reads 0 (R304, R313). -/
def State.codeOff (s : State) (l : Nat) : State := s.put (F.LNS_LANE_STATUS_CODE l) 0

/-- A PLL is unlocked: the receivers of its flock that are in use wait in PLL (R301). -/
def State.pllDrop (s : State) (p : Nat) : State :=
  (s.setPll p false).each (pllLanes p) fun s l =>
    if s.get (F.LNS_LANE_STATUS_STATE l) = 0 then s
    else ((s.put (F.LNS_LANE_STATUS_STATE l) 1).codeOff l).setLane l { s.lane l with comma := none }

/-- The equaliser's values return to CTLE 8 and all taps 0 (R307). -/
def State.dfeReset (s : State) (l : Nat) : State := s.setReg (R.LNS_LANE_DFE l) 0x80000000

/-- The rate of a flock changes: its PLL locks anew (R301), and its receivers' equalisers return to their start values (R307). -/
def State.pllRate (s : State) (p : Nat) : State := (s.pllDrop p).each (pllLanes p) fun s l => s.dfeReset l

/-- Whether a transmitter sends: its flock ON, its PLL locked, not stopped, a bellwether's flock enabled (R199, R301, R312,
Table 2.8). -/
def State.laneSends (s : State) (l : Nat) : Bool :=
  s.domOn (laneDomain l) && s.pllLocked (pllOf l) && !(s.lane l).stopped && (32 ≤ l || bitAt (s.get F.PIL_CFG_FLOCK_EN) (l / 8))

/-- A lane has a transmitter (Table 13.1). -/
def hasTx (l : Nat) : Bool := 32 ≤ l || l % 8 == 0

/-- Whether a transmitter's polarity is inverted (R305). -/
def State.txInv (s : State) (l : Nat) : Bool := hasTx l && s.flag (F.LNS_LANE_CFG_TX_INV l)

/-- The levels in 1/64 mV at which lane l sends groups (R305): `before` and `after` are the bits around them; `TX_INV` inverts the
polarity. -/
def State.txLevels (s : State) (l : Nat) (before after : Bool) (gs : List Nat) : List Int :=
  let v := ffeLevels (s.get (F.LNS_LANE_TX_SWING l)) (s.get (F.LNS_LANE_TX_PRE l)) (s.get (F.LNS_LANE_TX_POST l)) before after (groupBits gs)
  if s.txInv l then v.map (- ·) else v

/-- What a transmitter sends between messages or packets: idle units, a driver lane idle pairs. -/
def idleOf (l : Nat) : List Sym := if l < 32 then idleUnit else idlePair

/-- A transmitter leaves electrical idle: its first idle unit, or idle pair of a driver lane, starts with negative running disparity
(R199, R302). -/
def State.txStart (s : State) (l : Nat) : State :=
  if !hasTx l || !s.laneSends l then s
  else
    let e := encodeSyms false (idleOf l)
    (s.setLane l { s.lane l with txRd := false, txAt := s.now, txBit := false }).emit (.laneStarts l e.1 (s.txLevels l false e.2 e.1))

/-- A stopped transmitter returns to service (R204, R312). -/
def State.laneRestart (s : State) (l : Nat) : State :=
  let was := (s.lane l).stopped
  let s := (s.setLane l { s.lane l with stopped := false }).putB (F.LNS_LANE_STATUS_SHORT l) false
  if was then s.txStart l else s

/-- A transmitter stops (R204, R312): in electrical idle it limits no current. -/
def State.laneStop (s : State) (l : Nat) : State :=
  (s.setLane l { s.lane l with stopped := true }).putB (F.LNS_LANE_STATUS_CUR_LIMIT l) false

/-- The line rate of each `RATE` in units of 10 Mbit/s (Table 8.1). -/
def adlRate (rate : Nat) : Nat := [125, 200, 250, 320, 400, 500, 640, 810].getD rate 125

/-- The line rate of a transmitter in units of 10 Mbit/s: 1.25 Gbit/s on the back-channel (R45), else its flock's (R191). -/
def State.txRate (s : State) (l : Nat) : Nat := if l < 32 then 125 else adlRate (s.get (F.ADL_FLOCK_CFG_RATE ((l - 32) / 14)))

/-- The time that n symbols of a transmitter take, in 2^(−16) ns. -/
def State.txTime (s : State) (l n : Nat) : Nat := divCeil (n * 1000 * nsUnit) (s.txRate l)

/-- The time from what a transmitter sent last to an instant, in whole idle units or pairs. -/
def State.txIdles (s : State) (l start : Nat) : Nat :=
  divCeil ((start - (s.lane l).txAt) * s.txRate l) ((idleOf l).length * 1000 * nsUnit)

/-- What a transmitter has sent when a message or packet that is due at an instant begins: idle units or pairs fill the time since what
it sent last (R65), each turns the disparity over, and its last bit is 0. A driver lane sends eight of them at least (R192). -/
def State.txReady (s : State) (l start : Nat) : LnsLane :=
  let h := s.lane l
  let n := max (if l < 32 then 0 else 8) (s.txIdles l start)
  if n = 0 then h
  else { h with txAt := h.txAt + s.txTime l (n * (idleOf l).length), txRd := h.txRd != (n % 2 == 1), txBit := false }

/-- Characters on a lane after what it sent last: their groups and levels, and the state after them. The bit after them is the first of
a K28 character. -/
def State.txSend (s : State) (l start : Nat) (cs : List Sym) : List Nat × List Int × State :=
  let h := s.txReady l start
  let e := encodeSyms h.txRd cs
  (e.1, s.txLevels l h.txBit e.2 e.1,
    s.setLane l { h with txRd := e.2, txAt := h.txAt + s.txTime l cs.length, txBit := e.1.getLastD 0 % 2 == 1 })

end Sys2Proof.Machine
end

