-- ==== Sys2Proof/Machine/BackChannel.lean ====
section
/-! DEFINITION. The back-channel (R36, R65, R66) and the pixel formats of the link and of host data (R54, R55). -/

namespace Sys2Proof.Machine

/-! ### Back-channel -/

/-- The flocks of the link (R44). -/
def State.linkFlocks (s : State) : List Nat := upTo 4 (bitAt (s.get F.PIL_CFG_FLOCK_EN))

/-- Whether the back-channel of a flock works (R36). -/
def State.backOn (s : State) (k : Nat) : Bool := k < 4 && s.laneSends (8 * k)

/-- CHK of a message (R65). -/
def backChk (typ seq : Nat) (payload : List Byte) : Nat := crc8 (BitVec.ofNat 8 typ :: BitVec.ofNat 8 seq :: payload)

/-- The twelve characters of a message (R65). -/
def backSyms (typ seq : Nat) (payload : List Byte) : List Sym :=
  symK28_2 :: (BitVec.ofNat 8 typ :: BitVec.ofNat 8 seq :: payload ++ [BitVec.ofNat 8 (backChk typ seq payload)]).map dSym

/-- One copy of a message leaves the bellwether lane of flock k (R65). -/
def State.backCopy (s : State) (k typ seq : Nat) (payload : List Byte) : State :=
  let r := s.txSend (8 * k) s.now (backSyms typ seq payload)
  r.2.2.emit (.backChannel k typ seq payload (backChk typ seq payload) r.1 r.2.1)

/-- Send a message on the bellwether lane of flock k: `LANE_STATUS` once, every other message twice with one SEQ (R66). The first
message of a lane has SEQ 1: the spec gives no start value (DESIGN CHOICE, assumption log 101). -/
def State.backSend (s : State) (k typ : Nat) (payload : List Nat) : State :=
  if !s.backOn k then s
  else
    let q := (mget 0 s.pil.bcSeq k + 1) % 256
    let s := ({ s with pil := { s.pil with bcSeq := mset 0 s.pil.bcSeq k q } }).backCopy k typ q (payload.map (BitVec.ofNat 8))
    if typ = 1 then s else s.backCopy k typ q (payload.map (BitVec.ofNat 8))

/-- Send a message on the bellwether lanes of all enabled flocks (R66). -/
def State.backAll (s : State) (typ : Nat) (payload : List Nat) : State :=
  s.each s.linkFlocks fun s k => s.backSend k typ payload

/-- The n bytes of a number, most significant first, as numbers. -/
def beNats (n v : Nat) : List Nat := (beBytes n v).map (·.toNat)

/-- The link's state: 0 DOWN, 1 ALIGNING, 2 UP, 3 DEGRADED (Table 2.14). -/
def State.linkState (s : State) : Nat := s.get F.PIL_STATUS_LINK_STATE

/-- The link carries packets (R62). -/
def State.linkWorks (s : State) : Bool := 2 ≤ s.linkState

/-- Send the credit limit of a slot (R75). -/
def State.sendCredit (s : State) (slot : Nat) : State :=
  if s.linkWorks then s.backAll 4 ([slot, 0] ++ beNats 2 (mget 0 s.pil.credit slot) ++ [0, 0, 0, 0]) else s

/-! ### Pixel formats (Table 2.7) -/

/-- A sample of n bits expanded to 12 bits by bit replication (R55). -/
def expand12 (n v : Nat) : Nat :=
  match n with
  | 5 => v * 128 + v * 4 + v / 8
  | 6 => v * 64 + v
  | 8 => v * 16 + v / 16
  | 10 => v * 4 + v / 256
  | _ => v

/-- The bytes of n packed pixels in a format (R54). -/
def pixelBytes (fmt n : Nat) : Nat :=
  match fmt with
  | 0 => 2 * n
  | 1 => 3 * n
  | 2 => 4 * n
  | _ => 9 * divCeil n 2

/-- Where the group of bytes that holds pixel i starts, how long it is, and which pixel of the group it is. -/
def pixelGroup (fmt i : Nat) : Nat × Nat × Nat :=
  match fmt with
  | 0 => (2 * i, 2, 0)
  | 1 => (3 * i, 3, 0)
  | 2 => (4 * i, 4, 0)
  | _ => (9 * (i / 2), 9, i % 2)

/-- The pixel j of a group whose bytes form the number v (Table 2.7, R55). -/
def unpackPixel (fmt v j : Nat) : InPixel :=
  match fmt with
  | 0 => ⟨⟨expand12 5 (v / 2048 % 32), expand12 6 (v / 32 % 64), expand12 5 (v % 32)⟩, 0⟩
  | 1 => ⟨⟨expand12 8 (v / 65536 % 256), expand12 8 (v / 256 % 256), expand12 8 (v % 256)⟩, 0⟩
  | 2 => ⟨⟨expand12 10 (v / 2 ^ 22 % 1024), expand12 10 (v / 4096 % 1024), expand12 10 (v / 4 % 1024)⟩, v % 4⟩
  | _ => let p := if j = 0 then v / 2 ^ 36 else v % 2 ^ 36
         ⟨⟨p / 2 ^ 24 % 4096, p / 4096 % 4096, p % 4096⟩, 0⟩

/-- Pixel i of packed pixel bytes. -/
def pixelAt (fmt : Nat) (bs : List Byte) (i : Nat) : InPixel :=
  let (o, n, j) := pixelGroup fmt i
  unpackPixel fmt (beNat (slice bs o n)) j

/-- A pixel as a number of 36 bits (Table 2.7, P36). -/
def packPixel (p : InPixel) : Nat := p.c.r * 2 ^ 24 + p.c.g * 4096 + p.c.b

/-- Pixels packed as P36; an odd last pixel leaves its group's second pixel zero (R54). -/
def packRow : List InPixel → List Byte
  | a :: b :: r => beBytes 9 (packPixel a * 2 ^ 36 + packPixel b) ++ packRow r
  | [a] => beBytes 9 (packPixel a * 2 ^ 36)
  | [] => []

end Sys2Proof.Machine
end

