-- ==== Sys2Proof/Machine/Arura.lean ====
section
/-! DEFINITION. The driver link (chapter 8): packets of the line slots, status windows and replies, signatures, commits. -/

namespace Sys2Proof.Machine

/-! ### Ports -/

/-- Lane A and lane B of port nn. -/
def laneA (nn : Nat) : Nat := 32 + 2 * nn
/-- Lane B of port nn. -/
def laneB (nn : Nat) : Nat := 33 + 2 * nn

/-- The ports of output flock k. -/
def flockPorts (k : Nat) : List Nat := (List.range 7).map (7 * k + ·)

/-- Channels of a port (R189). -/
def PortCfg.channels (p : PortCfg) : Nat := if p.rear then p.pixels else 3 * p.pixels

/-- The state of a port: 0 OFF, 1 ACQUIRE, 2 UP, 3 FAILED. -/
def State.portState (s : State) (nn : Nat) : Nat := s.get (F.ADL_PORT_STATUS_STATE nn)

/-- The class of a port cause (Table 8.12). -/
def portCauseClass (cause : Nat) : Nat := [0, 2, 2, 3, 3, 3, 0, 0].getD cause 0

/-- A port event (R208). -/
def State.portCause (s : State) (nn cause : Nat) : State :=
  (s.put (F.ADL_PORT_STATUS_LAST_CAUSE nn) cause).raise (128 + nn) (portCauseClass cause)

/-- The enabled ports of a layer, ascending. -/
def State.layerPorts (s : State) (rear : Bool) : List Nat := upTo 56 fun nn => (s.portCfg nn).en && (s.portCfg nn).rear == rear

/-! ### Line slots (R193 to R196, R204, R205) -/

/-- The state with the run of generator n changed. -/
def State.setRun (s : State) (n : Nat) (r : TgRun) : State := { s with tg := { s.tg with runs := mset ({} : TgRun) s.tg.runs n r } }

/-- A field of `TGn_CFG`, and one of `TGn_LOCK`, as the frame in progress began with it (R466). -/
def TgRun.cfgField (r : TgRun) (f : FRef) : Nat := bits r.cfg f.hi f.lo

/-- A field of `TGn_LOCK` of the frame in progress (R466). -/
def TgRun.lockField (r : TgRun) (f : FRef) : Nat := bits r.lock f.hi f.lo

/-- The lock source that a generator's frame in progress runs on: 0 FREE, 1 INPUT, 2 HOUSE, 3 TG. -/
def State.tgSrc (s : State) (n : Nat) : Nat := (s.run n).cfgField (F.TG_CFG_LOCK_SRC n)

/-- The leader of a generator's frame in progress. -/
def State.tgLeader (s : State) (n : Nat) : Nat := (s.run n).cfgField (F.TG_CFG_LEADER n)

/-- The `RATIO` of a generator's frame in progress. -/
def State.tgRatio (s : State) (n : Nat) : Nat := (s.run n).lockField (F.TG_LOCK_RATIO n)

/-- The exit buffer keys of a port's columns in a line, in channel order (R189). -/
def PortCfg.keys (p : PortCfg) (line : Nat) : List Nat :=
  (List.range p.channels).map fun i =>
    if p.rear then elemKey 3 (p.first + i) line else elemKey (i % 3) (p.first + i / 3) line

/-- A packet's bytes between K27.7 and K29.7: header (Table 8.2), payload and CRC-16 (R51). -/
def portPacketBytes (typ nbits : Nat) (first sreq : Bool) (tag frame line count : Nat) (payload : List Byte) : List Byte :=
  let h : List Byte := [BitVec.ofNat 8 (typ * 16 + (nbits - 8) / 2 * 4 + 2 * bit first + bit sreq),
    BitVec.ofNat 8 ((if sreq then tag else 0) * 16 + frame % 16)] ++ beBytes 2 line ++ beBytes 2 count
  h ++ payload ++ beBytes 2 (crc16 (h ++ payload))

/-- The payload of a `LINE` packet (R193): N-bit values, most significant bit first, zero bits at the end. -/
def linePayload (nbits : Nat) (values : List Nat) : List Byte := packBits (values.flatMap (toBits nbits))

/-- The payload of a `CTRL` packet (Table 8.4). -/
def State.ctrlPayload (s : State) (rear : Bool) (c : Nat) : List Byte :=
  let g (f r : FRef) := s.get (if rear then r else f)
  [BitVec.ofNat 8 (g F.ADL_CTRL_F0_INV F.ADL_CTRL_R0_INV), BitVec.ofNat 8 (g F.ADL_CTRL_F0_SLEW F.ADL_CTRL_R0_SLEW)]
    ++ beBytes 2 (g F.ADL_CTRL_F0_OE_DELAY F.ADL_CTRL_R0_OE_DELAY) ++ beBytes 2 (g F.ADL_CTRL_F1_OE_WIDTH F.ADL_CTRL_R1_OE_WIDTH)
    ++ beBytes 2 c ++ [0, 0, 0, 0]

/-- Advance a running CRC-32C by bytes (R205). -/
def crcStep (r : Nat) (bs : List Byte) : Nat := bs.foldl crc32cByte r

/-- `LANE_OFF_A` or `LANE_OFF_B` of an output lane. -/
def laneOffFlag (l : Nat) : FRef :=
  if l % 2 = 0 then F.ADL_PORT_STATUS_LANE_OFF_A ((l - 32) / 2) else F.ADL_PORT_STATUS_LANE_OFF_B ((l - 32) / 2)

/-- An output lane is out of service: the read-back rule or a short has stopped it (R204, R312). -/
def State.laneIdle (s : State) (l : Nat) : Bool := (s.lane l).stopped || s.flag (laneOffFlag l)

/-- A port takes a state; polling stops with the last UP port of its flock (R201). -/
def State.setPort (s : State) (nn st : Nat) : State :=
  let s := s.put (F.ADL_PORT_STATUS_STATE nn) st
  if (flockPorts (nn / 7)).any fun m => s.portState m == 2 then s else s.putB (F.ADL_FLOCK_STATUS_POLLING (nn / 7)) false

/-- A port with both lanes out of service is FAILED (R204). -/
def State.portFailCheck (s : State) (nn : Nat) : State :=
  if s.laneIdle (laneA nn) && s.laneIdle (laneB nn) && s.portState nn != 3 && s.portState nn != 0 then (s.setPort nn 3).portCause nn 3
  else s

/-- The mismatch of one lane's read-back (R204): counted in its half of `CNT_RB`; a good packet ends the row. A fallow lane
checks nothing (R339), and neither does one that `LANE_OFF` has taken out; what a lane stopped for a short (R312) reads back never
matches. -/
def State.readBack (s : State) (nn : Nat) (b bad : Bool) : State :=
  let l := if b then laneB nn else laneA nn
  if !s.domOn (laneDomain l) || !s.pllLocked (pllOf l) || s.flag (laneOffFlag l) || s.cal.fallowLanes.contains l then s
  else if !bad && !(s.lane l).stopped then { s with adl := { s.adl with bad := merase s.adl.bad l } }
  else
    let a := R.ADL_PORT_CNT_RB nn
    let (hi, lo) := if b then (31, 16) else (15, 0)
    let s := s.setReg a (putBits (s.reg a) hi lo (min 0xFFFF (bits (s.reg a) hi lo + 1)))
    let s := s.tally (0x4000 + 0x40 * nn + 8 * bit b) 1
    { s with adl := { s.adl with bad := mupd 0 s.adl.bad l (fun v => min 16 (v + 1)) } }

/-- The instant at which a packet of generator n is due in the line in progress (R194): tick `LAUNCH_F` or `LAUNCH_R`. -/
def State.launchAt (s : State) (n : Nat) : Nat :=
  let r := s.run n
  r.lineStart + (2 * s.get (if n = 0 then F.ADL_CFG_LAUNCH_F else F.ADL_CFG_LAUNCH_R) * r.period + 4096) / 8192

/-- A packet goes out on one lane of a port, if that sends (R192, R302, R305). -/
def State.laneSlot (s : State) (start : Nat) (bs : List Byte) (l : Nat) : State :=
  if !s.laneSends l then s
  else
    let r := s.txSend l start (symK27_7 :: bs.map dSym ++ [symK29_7])
    r.2.2.emit (.lanePacket l r.1 r.2.1)

/-- One port's packet in a line slot of generator n (R194): type, header, both lanes, read-back and signatures. The ports of a
layer that powers on are idle (Table 7.5, step 1), and so is a port between UP and the first frame boundary after its `CTRL`
(Table 8.5). -/
def State.portSlot (s : State) (n nn : Nat) (badLanes : List Nat) : State :=
  let rear := n == 1
  let r := s.run n
  let c := s.portCfg nn
  let line := r.line
  let keys := c.keys line
  let nbits := s.dth.snap.driverBits rear
  let active := line < r.vactive
  let ready := keys.all fun k => (mfind s.dth.values k).isSome
  let sends := s.laneSends (laneA nn) || s.laneSends (laneB nn)
  let poll := mfind s.adl.polls (nn / 7)
  let asks := sends && match poll with | some p => p.port == nn && !p.asked | none => false
  let tag := mget 0 s.adl.tags nn
  let idle := s.get (if rear then F.TG_PANEL_STATUS_STATE_R else F.TG_PANEL_STATUS_STATE_F) == 1 || !s.adl.live.contains nn
  let typ := if active then (if idle then 4 else if ready then 1 else 2) else if line = r.vactive then 3 else 4
  let payload := if typ = 1 then linePayload nbits (keys.map (mget 0 s.dth.values ·)) else if typ = 3 then s.ctrlPayload rear c.channels else []
  let bs := portPacketBytes typ nbits (line == 0) asks tag (s.reg (R.TG_FRAME_NO n)) line (if typ = 1 then c.channels else 0) payload
  let s := if sends then s.emit (.portPacket nn ⟨typ, bs⟩) else s
  let s := s.each [laneA nn, laneB nn] fun s l => s.laneSlot (s.launchAt n) bs l
  let s := match poll with
    | some p => if asks then { s with adl := { s.adl with polls := mput s.adl.polls (nn / 7) { p with asked := true } } } else s
    | none => s
  let s := if !sends then s
    else if typ = 1 then s.tally (0x4000 + 0x40 * nn + 8 * 5) 1
    else if typ = 2 then s.count (R.ADL_PORT_CNT_REPEAT nn)
    else if typ = 3 then { s with adl := { s.adl with ctrlSent := s.adl.ctrlSent.filter (· != nn) ++ [nn] } }
    else s
  let s := s.readBack nn false (badLanes.contains (laneA nn))
  let s := s.readBack nn true (badLanes.contains (laneB nn))
  if !active || idle then s
  else
    let crc := bs.drop (bs.length - 2)
    let lane := mget 0 s.adl.sigLane nn
    let sigL := if lane = 0 then laneA nn else laneB nn
    let bad := badLanes.contains sigL || (s.lane sigL).stopped
    let wrong := beBytes 2 (Nat.xor (beNat crc) (1 + s.freeVal 16 % 65535))
    let got : List Byte := if lane = 2 then [0, 0] else if bad then wrong else crc
    let s := if bad && lane != 2 then s.useFree else s
    { s with adl := { s.adl with
        sig := mput s.adl.sig n (crcStep (mget 0xFFFFFFFF s.adl.sig n) got)
        ref := mput s.adl.ref n (crcStep (mget 0xFFFFFFFF s.adl.ref n) crc) } }

/-- The frame's signatures are published and frame done is raised (R205, R187). -/
def State.frameDone (s : State) (n : Nat) : State :=
  let sig := Nat.xor (mget 0xFFFFFFFF s.adl.sig n) 0xFFFFFFFF
  let ref := Nat.xor (mget 0xFFFFFFFF s.adl.ref n) 0xFFFFFFFF
  let s := ((s.setReg (R.ADL_SIG n) sig).setReg (R.ADL_REF n) ref).setReg (R.ADL_SIG_FRAME n) (s.reg (R.TG_FRAME_NO n))
  let s := s.putB (if n = 0 then F.ADL_STATUS_SIG_DIFF_F else F.ADL_STATUS_SIG_DIFF_R) (sig != ref)
  s.raise (114 + 4 * n) 0

/-- LINE_SLOT of a layer (R194): one packet per port that is UP or FAILED; an active line that a port cannot send is an
underrun of the generator (R32). The exit buffer gives up the line. -/
def State.lineSlot (s : State) (l : Layer) (badLanes : List Nat) : State :=
  let n := match l with | .front => 0 | .rear => 1
  let r := s.run n
  if !r.on || r.line < r.linesSent then s
  else
    let ports := (s.layerPorts (n == 1)).filter fun nn => 2 ≤ s.portState nn && s.domOn (6 + nn / 7)
    let idle := s.get (if n = 1 then F.TG_PANEL_STATUS_STATE_R else F.TG_PANEL_STATUS_STATE_F) == 1
    let late := r.line < r.vactive && !idle && (ports.filter s.adl.live.contains).any fun nn => !(((s.portCfg nn).keys r.line).all fun k => (mfind s.dth.values k).isSome)
    let s := s.each ports fun s nn => s.portSlot n nn badLanes
    let s := s.countIf late (R.TG_CNT_UNDERRUN n)
    let s := s.raiseIf (late && !r.underrun) (115 + 4 * n) 3
    let s := s.setRun n { s.run n with underrun := r.underrun || late, linesSent := r.line + 1 }
    let gone (k : Nat) : Bool := ((k % 4 == 3) == (n == 1)) && k / 65536 == r.line
    let s := if r.line < r.vactive then { s with dth := { s.dth with values := s.dth.values.filter fun e => !gone e.1 } } else s
    if r.line + 1 = r.vactive then s.frameDone n else s

/-- A port takes a committed configuration (R198, R204, R312): with `EN` = 1 it restarts its bring-up with both lanes in service;
with `EN` = 0 it is OFF. -/
def State.portApply (s : State) (nn old new : Nat) : State :=
  let s := { s with adl := { s.adl with bad := merase (merase s.adl.bad (laneA nn)) (laneB nn) } }
  if bitAt new 31 then
    let s := (s.putB (F.ADL_PORT_STATUS_LANE_OFF_A nn) false).putB (F.ADL_PORT_STATUS_LANE_OFF_B nn) false
    let s := s.each [laneA nn, laneB nn] fun s l => let s := s.laneRestart l; if bitAt old 31 then s else s.laneUse l
    s.setPort nn (if s.domOn (6 + nn / 7) then 1 else 0)
  else (s.each [laneA nn, laneB nn] fun s l => s.laneOut l).setPort nn 0

/-- The rear ports take what was committed since TG1's last frame boundary (R190). -/
def State.rearApply (s : State) : State :=
  let due := s.adl.rearCfg
  ({ s with adl := { s.adl with rearCfg := [] } }).each due fun s e => s.portApply e.1 e.2.toNat (s.reg (R.ADL_PORT_CFG e.1))

/-- The driver link at a frame boundary of TG0 or TG1: signature lanes are chosen, the CRCs start, rear ports take their
committed configuration, ports that have sent `CTRL` send lines from here on (R190, R205, R339, Table 8.5). -/
def State.adlBoundary (s : State) (n : Nat) : State :=
  let s := if n = 1 then s.rearApply else s
  let out (l : Nat) : Bool := s.laneIdle l || s.cal.fallowLanes.contains l
  let choose (nn : Nat) : Nat := if !out (laneA nn) then 0 else if !out (laneB nn) then 1 else 2
  let lanes := (s.layerPorts (n == 1)).foldl (fun m nn => mset 0 m nn (choose nn)) s.adl.sigLane
  let live := s.adl.live ++ (s.layerPorts (n == 1)).filter fun nn => s.adl.ctrlSent.contains nn && !s.adl.live.contains nn
  { s with adl := { s.adl with sigLane := lanes, sig := merase s.adl.sig n, ref := merase s.adl.ref n, live := live } }

/-! ### Status windows (R200 to R203) -/

/-- A poll ends without a good reply (R202). -/
def State.pollFail (s : State) (k : Nat) (p : AdlPoll) : State :=
  let s := { s with adl := { s.adl with polls := merase s.adl.polls k } }
  if p.discard then s else s.count (R.ADL_PORT_CNT_POLL_ERR p.port)

/-- The window ends: polls that no good reply ended are poll errors. -/
def State.windowEnd (s : State) : State :=
  let s := s.each s.adl.polls fun s e => s.pollFail e.1 e.2
  s.each (List.range 8) fun s k => s.putB (F.ADL_FLOCK_STATUS_WINDOW k) false

/-- A window starts for one flock: the next UP port in turn is polled with a new tag. -/
def State.windowFlock (s : State) (k : Nat) : State :=
  let s := if s.domOn (6 + k) then s.putB (F.ADL_FLOCK_STATUS_WINDOW k) true else s
  let next := s.get (F.ADL_FLOCK_STATUS_NEXT k)
  let up (i : Nat) : Bool := s.portState (7 * k + i) == 2
  match ((List.range 7).map (fun i => (next + i) % 7)).find? up with
  | none => s
  | some i =>
    if !s.flag (F.ADL_FLOCK_STATUS_POLLING k) || !s.flag (F.ADL_FLOCK_STATUS_LOCKN k) then s
    else
      let nn := 7 * k + i
      let tag := (mget 0 s.adl.tags nn + 1) % 16
      let s := { s with adl := { s.adl with tags := mset 0 s.adl.tags nn tag, polls := mput s.adl.polls k { port := nn, tag := tag } } }
      s.put (F.ADL_FLOCK_STATUS_NEXT k) ((i + 1) % 7)

/-- TG0 stops, and with its lines a window in progress (R201, R466). -/
def State.windowStop (s : State) : State :=
  if s.adl.windowLeft = 0 then s else { s.windowEnd with adl := { s.windowEnd.adl with windowLeft := 0 } }

/-- Lines of a status window (R201). -/
def windowLines (tnom : Nat) : Nat := if tnom = 0 then 0 else divCeil (60 * usUnit) tnom

/-- A line of TG0 begins (R201): a window in progress loses a line; a window starts in blanking where it fits. -/
def State.adlLineStart (s : State) : State :=
  let r := s.run 0
  let left := s.adl.windowLeft - 1
  let s := if s.adl.windowLeft = 1 then s.windowEnd else s
  let s := { s with adl := { s.adl with windowLeft := left } }
  let w := windowLines r.tnom
  if left = 0 ∧ r.vactive ≤ r.line ∧ r.line + w ≤ r.vtotal ∧ 0 < w then
    let s := { s with adl := { s.adl with windowLeft := w } }
    s.each (List.range 8) fun s k => s.windowFlock k
  else s

/-- What a good reply does (R203). -/
def State.goodReply (s : State) (nn w : Nat) : State :=
  let s := s.setReg (R.ADL_PORT_REPLY nn) (bits w 39 8)
  let s := (s.putB (F.ADL_PORT_STATUS_FAR_A nn) (bitAt w 35)).putB (F.ADL_PORT_STATUS_FAR_B nn) (bitAt w 34)
  let s := (s.putB (F.ADL_PORT_STATUS_POL_A nn) (bitAt w 33)).putB (F.ADL_PORT_STATUS_POL_B nn) (bitAt w 32)
  let s := s.put (F.ADL_PORT_STATUS_TEMP nn) (bits w 15 8)
  let s := if bitAt w 31 then (s.count (R.ADL_PORT_CNT_FAR_ERR nn)).portCause nn 6 else s
  let downIf (s : State) (lock : Bool) (l : Nat) : State :=
    if !lock && !s.laneIdle l && (mfind s.adl.bad l).isNone then s.portCause nn 2 else s
  let s := downIf s (bitAt w 35) (laneA nn)
  let s := downIf s (bitAt w 34) (laneB nn)
  let c := s.portCfg nn
  let ch := bits w 30 21
  if ch = 0x3FF then s
  else if c.channels ≤ ch then s.count (R.ADL_PORT_CNT_POLL_ERR nn)
  else
    let s := s.put (F.ADL_PORT_STATUS_OPEN_CH nn) ch
    let due := if c.rear then (Layer.rear, 0, c.first + ch) else (Layer.front, ch % 3, c.first + ch / 3)
    let s := if s.flag F.PCM_CFG_AUTO_EN then { s with pcm := { s.pcm with autoDue := s.pcm.autoDue ++ [due] } } else s
    s.portCause nn 4

/-- STATUS_REPLY of a flock (R202): what the part sampled of the reply of the polled port, if its start and stop bits were
right. -/
def State.statusReply (s : State) (k : Nat) (reply : Option (BitVec 40)) : State :=
  match mfind s.adl.polls k with
  | none => s
  | some p =>
    if !p.asked then s
    else match reply with
      | none => s.pollFail k p
      | some w =>
        let v := w.toNat
        let good := bits v 39 36 == p.tag && bits v 7 0 == crc8 (beBytes 4 (bits v 39 8)) && s.flag (F.ADL_FLOCK_STATUS_LOCKN k) && !p.discard
        if good then ({ s with adl := { s.adl with polls := merase s.adl.polls k } }).goodReply p.port v else s.pollFail k p

/-- A port in ACQUIRE comes UP; it sends lines once it has sent `CTRL` and a frame boundary has passed (Table 8.5). -/
def State.portUp (s : State) (nn : Nat) : State :=
  if s.portState nn = 1 then
    (let s := { s with adl := { s.adl with ctrlSent := s.adl.ctrlSent.filter (· != nn), live := s.adl.live.filter (· != nn) } }
     s.put (F.ADL_PORT_STATUS_STATE nn) 2)
  else s

/-- PORT_UP of a flock: `LOCKN` has stayed high for 1 ms (R198, R200), or with it high a port enabled later has reached 1 ms after
its t0 (R199). -/
def State.flockUp (s : State) (k : Nat) (port : Option Nat) : State :=
  if !s.domOn (6 + k) || (port.isSome && !s.flag (F.ADL_FLOCK_STATUS_LOCKN k)) then s
  else
    let s := s.putB (F.ADL_FLOCK_STATUS_LOCKN k) true
    let s := s.each (match port with | some nn => [nn] | none => flockPorts k) fun s nn => s.portUp nn
    s.putB (F.ADL_FLOCK_STATUS_POLLING k) ((flockPorts k).any fun nn => s.portState nn == 2)

/-- LOCKN_LOST of a flock (R200): low for 10 µs outside a status window while a port is UP. -/
def State.locknLost (s : State) (k : Nat) : State :=
  let inWindow := decide (0 < s.adl.windowLeft)
  let up := (flockPorts k).any fun nn => s.portState nn == 2
  let s := s.putB (F.ADL_FLOCK_STATUS_LOCKN k) false
  if inWindow || !up then s
  else
    let s := (s.count R.ADL_CNT_LOCKN_LOST).putB (F.ADL_FLOCK_STATUS_POLLING k) false
    match (flockPorts k).find? (fun nn => s.flag (F.ADL_PORT_CFG_EN nn)) with
    | some nn => s.portCause nn 5
    | none => s

/-- LANE_OFF of an output lane (R204): 16 packets in a row have mismatched. -/
def State.laneOff (s : State) (l : Nat) : State :=
  let nn := (l - 32) / 2
  if mget 0 s.adl.bad l < 16 || s.flag (laneOffFlag l) then s
  else ((((s.putB (laneOffFlag l) true).laneStop l).portCause nn 1).laneCause l 4).portFailCheck nn

/-- OUTPUT_SHORT (R312): a transmitter limits its current, or limits no longer; one that has limited for 1 ms stops. -/
def State.outputShort (s : State) (l : Nat) (limiting elapsed : Bool) : State :=
  if !hasTx l || !s.laneSends l then s
  else if !limiting then s.putB (F.LNS_LANE_STATUS_CUR_LIMIT l) false
  else if !elapsed then s.putB (F.LNS_LANE_STATUS_CUR_LIMIT l) true
  else
    let s := ((s.laneStop l).putB (F.LNS_LANE_STATUS_SHORT l) true).laneCause l 3
    if l < 32 then s else s.portFailCheck ((l - 32) / 2)

/-! ### Commits (R206) -/

/-- The configuration of port nn in a snapshot. -/
def Snap.portCfg (p : Snap) (nn : Nat) : PortCfg :=
  PortCfg.ofWord (match mfind p.regs (R.ADL_PORT_CFG nn) with | some w => w.toNat | none => resetOf (R.ADL_PORT_CFG nn))

/-- t_nom of generator n in ns × 2^16. -/
def Snap.tnom (p : Snap) (n : Nat) : Nat := p.get (F.TG_LINE_PERIOD_NS n) * 65536 + p.get (F.TG_LINE_PERIOD_FRAC n)

/-- Whether a port's packet fits its slot (R196): (10 + payload + 16) symbols of 10 bits at the flock's rate, within t_nom. -/
def Snap.slotFits (p : Snap) (nn : Nat) : Bool :=
  let c := p.portCfg nn
  let payload := divCeil (c.channels * p.driverBits c.rear) 8
  -- a symbol lasts 1000 / rate ns, the rate in units of 10 Mbit/s
  (26 + payload) * 1000 * 65536 ≤ p.tnom (if c.rear then 1 else 0) * adlRate (p.get (F.ADL_FLOCK_CFG_RATE (nn / 7)))

/-- Whether two enabled ports share a column, or one extends beyond its layer. -/
def Snap.portsClash (p : Snap) (ports : List Nat) : Bool :=
  ports.any fun a =>
    let ca := p.portCfg a
    let w := p.width (if ca.rear then 1 else 0)
    w < ca.first + ca.pixels || ports.any fun b =>
      let cb := p.portCfg b
      a != b && ca.rear == cb.rear && 0 < ca.pixels && 0 < cb.pixels && ca.first < cb.first + cb.pixels && cb.first < ca.first + ca.pixels

/-- The first failed check of Table 8.8. -/
def Snap.adlReject (p : Snap) : Nat :=
  let ports := upTo 56 fun nn => (p.portCfg nn).en
  let rear := ports.filter fun nn => (p.portCfg nn).rear
  if 48 < ports.length - rear.length ∨ 16 < rear.length ∨ 56 < ports.length then 1
  else if p.portsClash ports then 2
  else if !ports.all p.slotFits then 3
  else if !ports.all (fun nn => 1 ≤ (p.portCfg nn).channels && (p.portCfg nn).channels ≤ 1023) then 4
  else if !rear.isEmpty && !p.flag F.SPL_CFG_REAR_EN then 5
  else 0

/-- Whether some column of an enabled layer has no port (R206): the front layer counts as enabled while `TG0_CFG.EN` = 1, the rear
layer while `SPL_CFG.REAR_EN` = 1. -/
def Snap.adlGaps (p : Snap) : Bool :=
  let ports (rear : Bool) : List PortCfg := ((List.range 56).map p.portCfg).filter fun c => c.en && c.rear == rear
  let grow (l : List PortCfg) (x : Nat) : Nat := l.foldl (fun x c => if c.first ≤ x then max x (c.first + c.pixels) else x) x
  -- the columns from 0 on that ports drive without a gap: a pass over the ports carries them past at least one more port
  let driven (rear : Bool) : Nat := let l := ports rear; l.foldl (fun x _ => grow l x) 0
  (p.flag (F.TG_CFG_EN 0) && driven false < p.width 0) || (p.flag F.SPL_CFG_REAR_EN && driven true < p.width 1)

/-- A committed port configuration. A poll of the port in progress is discarded where the configuration changed (R202). A rear
port sends the TG1 frame in progress as it is (R190). -/
def State.portCommit (s : State) (nn old new : Nat) : State :=
  let s := match mfind s.adl.polls (nn / 7) with
    | some p => if p.port == nn && old != new then { s with adl := { s.adl with polls := mput s.adl.polls (nn / 7) { p with discard := true } } } else s
    | none => s
  if (mfind s.adl.rearCfg nn).isSome then s
  else if (bitAt old 30 || bitAt new 30) && (s.run 1).on then
    { s with adl := { s.adl with rearCfg := mput s.adl.rearCfg nn (BitVec.ofNat 32 old) } }
  else s.portApply nn old new

/-- The commit of `ADL` (R206). -/
def State.adlCommit (s : State) : State :=
  if !s.anyWaiting 8 then s
  else
    let p := s.after (inEngine 8) 8
    let why := p.adlReject
    if why ≠ 0 then (((s.dropRegs (inEngine 8)).putB F.ADL_STATUS_REJECTED true).put F.ADL_STATUS_REJECT_REASON why).raise 49 0
    else
      let was := s
      let ports := upTo 56 fun nn => (mfind s.shadow (R.ADL_PORT_CFG nn)).isSome
      let s := s.applyRegs (inEngine 8)
      let s := (s.putB F.ADL_STATUS_REJECTED false).put F.ADL_STATUS_REJECT_REASON 0
      let s := s.each (upTo 8 fun k => was.get (F.ADL_FLOCK_CFG_RATE k) != s.get (F.ADL_FLOCK_CFG_RATE k)) fun s k => s.pllRate (4 + k)
      s.each ports fun s nn => s.portCommit nn (was.reg (R.ADL_PORT_CFG nn)) (s.reg (R.ADL_PORT_CFG nn))

/-! ### The commands -/

/-- LINE_SLOT (R194). -/
def execLineSlot (l : Layer) (badLanes : List Nat) (s : State) : Host.Outcome State Fault Refusal :=
  checked (.lineSlot l badLanes) s fun s => s.lineSlot l badLanes

/-- PORT_UP (R198). -/
def execPortUp (flock : Nat) (port : Option Nat) (s : State) : Host.Outcome State Fault Refusal :=
  checked (.portUp flock port) s fun s => s.flockUp flock port

/-- LOCKN_LOST (R200). -/
def execLocknLost (flock : Nat) (s : State) : Host.Outcome State Fault Refusal := checked (.locknLost flock) s fun s => s.locknLost flock

/-- STATUS_REPLY (R202). -/
def execStatusReply (flock : Nat) (reply : Option (BitVec 40)) (s : State) : Host.Outcome State Fault Refusal :=
  checked (.statusReply flock reply) s fun s => s.statusReply flock reply

end Sys2Proof.Machine
end

