-- ==== Sys2Proof/Machine/FeMath.lean ====
section
/-! DEFINITION. The arithmetic of the front end on one pixel (R81 to R88), from its parameters alone. -/

namespace Sys2Proof.Machine

/-- Three exact components. -/
abbrev Rat3 := Rat × Rat × Rat

/-- The parameters of one conversion set and of the peak limit that a pixel uses (R83 to R88): the EOTF tables, the HLG
gain table, the weights K and w as 0.16 codes, the matrix as signed 2.14 codes, and the modes. -/
structure FeParams where
  eotf : List Nat
  hlg : Bool
  kr : Nat
  kg : Nat
  kb : Nat
  mat : List Int
  wr : Nat
  wg : Nat
  wb : Nat
  gamut : Nat
  knee : Nat
  mode : Nat
  peak : Nat
  start : Nat
  deriving DecidableEq, Repr

/-- Stage 2 (R84): the luminance as WL16, the gain interpolated in the table g, and the three rounded products. -/
def feHlg (p : FeParams) (g : Nat → Nat) (c : Rgb) : Rgb :=
  let y := wlOf ((p.kr * wlVal c.r + p.kg * wlVal c.g + p.kb * wlVal c.b) / 65536)
  let i := y / 256
  let f := y % 256
  let g0 := wlVal (g i)
  let g1 := wlVal (g (min 255 (i + 1)))
  let gain := wlVal (wlOf (g0 + (g1 - g0) * f / 256))
  ⟨wlOf (wlVal c.r * gain), wlOf (wlVal c.g * gain), wlOf (wlVal c.b * gain)⟩

/-- The matrix (R85): the exact signed components P. -/
def feMatrix (p : FeParams) (c : Rgb) : Rat3 :=
  let row (r : Nat) : Rat :=
    ((p.mat.getD (3 * r) 0 : Rat) * wlVal c.r + (p.mat.getD (3 * r + 1) 0 : Rat) * wlVal c.g
      + (p.mat.getD (3 * r + 2) 0 : Rat) * wlVal c.b) / 16384
  (row 0, row 1, row 2)

/-- The factor k of Table 3.2 for the excursion u (R86, R87). -/
def feGamutK (p : FeParams) (u : Rat) : Rat :=
  match p.gamut with
  | 1 => if u ≤ 1 then 1 else 1 / u
  | 2 =>
    let uk := t16Val p.knee
    if u ≤ uk then 1
    else ((uk + (u - uk) * (1 - uk) / ((u - uk) + (1 - uk))) / u)
  | _ => 1

/-- The gamut rule (R86): the exact components P′, and whether the pixel counts in `FE_CNT_GAMUT`. A pixel with Y ≤ 0 counts even where
its components are 0 already: R86 does not say (DESIGN CHOICE, assumption log 107). -/
def feGamut (p : FeParams) (v : Rat3) : Rat3 × Bool :=
  let y := (p.wr * v.1 + p.wg * v.2.1 + p.wb * v.2.2) / 65536
  if y ≤ 0 then ((0, 0, 0), true)
  else
    let m := min v.1 (min v.2.1 v.2.2)
    let k := feGamutK p ((y - m) / y)
    let f (x : Rat) := y - (y - x) * k
    let (a, b, c) := (f v.1, f v.2.1, f v.2.2)
    ((max a 0, max b 0, max c 0), k ≠ 1 ∨ a < 0 ∨ b < 0 ∨ c < 0)

/-- The peak limit (R88): the scaled exact components, and whether the pixel was scaled. -/
def feLimit (p : FeParams) (v : Rat3) : Rat3 × Bool :=
  let m := max v.1 (max v.2.1 v.2.2)
  let pk := wlVal p.peak
  let k := wlVal p.start
  let scale (m' : Rat) : Rat3 × Bool := ((v.1 * (m' / m), v.2.1 * (m' / m), v.2.2 * (m' / m)), true)
  if p.mode = 0 then (v, false)
  else if p.mode = 2 ∧ k < pk then
    if k < m then scale (k + (m - k) * (pk - k) / ((m - k) + (pk - k))) else (v, false)
  else if pk < m then scale pk else (v, false)

/-- A pixel through the front end (R81): the targets, and whether it counts as gamut-mapped and as limited. The codes index
the EOTF tables of the set; `g` is the set's HLG gain table. -/
def feConvert (p : FeParams) (g : Nat → Nat) : Rgb × Bool × Bool :=
  let s : Rgb := ⟨p.eotf.getD 0 0, p.eotf.getD 1 0, p.eotf.getD 2 0⟩
  let s := if p.hlg then feHlg p g s else s
  let (v, gm) := feGamut p (feMatrix p s)
  let (v, lim) := feLimit p v
  (⟨wlOf v.1, wlOf v.2.1, wlOf v.2.2⟩, gm, lim)

end Sys2Proof.Machine
end

