-- ==== Sys2Proof/Machine/FrontEnd.lean ====
section
/-! DEFINITION. The front end (chapter 3): the command FE_PIXEL, and the commit of `FE`. -/

namespace Sys2Proof.Machine

/-- The number of a pixel position in the maps of the pixel path. -/
def pixKey (x y : Nat) : Nat := y * 16384 + x

/-- The last FE table entry of a conversion set's component (R89). -/
def Snap.eotf (p : Snap) (set c n : Nat) : Nat := tblHalf p.tbl (0x200000 + 0x6000 * set + 0x2000 * c + 2 * n)

/-- HLG gain entry i of a set (R89). -/
def Snap.hlgGain (p : Snap) (set i : Nat) : Nat := tblHalf p.tbl (0x20C000 + 0x200 * set + 2 * i)

/-- Matrix coefficient k = 3 r + j of a set, signed 2.14 (R85). -/
def Snap.matrix (p : Snap) (set k : Nat) : Int :=
  let a := R.FE_SET_MAT set (k / 2)
  signed 16 (p.get (if k % 2 = 0 then ⟨a, 31, 16⟩ else ⟨a, 15, 0⟩))

/-- What a pixel of a set goes through (R83 to R88); its codes index the EOTF tables. -/
def Snap.feParams (p : Snap) (set : Nat) (c : Rgb) : FeParams :=
  { eotf := [p.eotf set 0 c.r, p.eotf set 1 c.g, p.eotf set 2 c.b]
    hlg := p.get (F.FE_SET_CFG_EOTF set) == 1
    kr := p.get (F.FE_SET_HLGY0_KR set), kg := p.get (F.FE_SET_HLGY0_KG set), kb := p.get (F.FE_SET_HLGY1_KB set)
    mat := (List.range 9).map (p.matrix set)
    wr := p.get F.FE_PANEL_Y0_WR, wg := p.get F.FE_PANEL_Y0_WG, wb := p.get F.FE_PANEL_Y1_WB
    gamut := p.get (F.FE_SET_CFG_GAMUT set), knee := p.get (F.FE_SET_CFG_KNEE set)
    mode := p.get F.FE_LIMIT_MODE, peak := p.get F.FE_PEAK_PEAK, start := p.get F.FE_PEAK_START }

/-- The frame format P32 (Table 2.7). -/
def fmtP32 : Nat := 2

/-- The conversion set of a pixel (R82). -/
def Snap.feSet (p : Snap) (fmt flags : Nat) : Nat :=
  if p.flag F.FE_CFG_FLAGS_AS_KEY then (if fmt = fmtP32 then flags % 2 else 0) else p.get F.FE_CFG_SET

/-- The layout of a source buffer that holds a frame. -/
def State.layoutOf (s : State) (b : Nat) : Option BufLayout := mfind s.srf.layouts b

/-- Whether a source buffer holds a frame whose size differs from TG0's active raster (R240). -/
def State.layoutMismatch (s : State) (b : Nat) : Bool :=
  match s.layoutOf b with
  | some l => l.w != s.snapshot.width 0 || l.h != s.snapshot.lines 0
  | none => false

/-- The front end begins a frame (R91): its parameters, and the frame's source, the store-mode reader's or the link's. A source
buffer shows zeros until a frame arrives (chapter 20); a stored frame of another size gives zero samples from here on (R240). -/
def State.feBegin (s : State) : State :=
  let p := s.snapshot
  let store := s.srf.readDue
  let lay := mfind s.srf.layouts s.srf.readBuf
  let fmt := if store then (lay.map (·.fmt)).getD 0 else match s.pil.rx with
    | some f => f.fmt
    | none => (s.pil.prev.map fun f => f.2.2).getD 0
  let blank := store && s.layoutMismatch s.srf.readBuf
  let s := { s with fe := { snap := p, store := store, serial := if store then s.fe.serial else s.pil.serial, ahead := true
                            fmt := fmt, blank := blank, targets := s.fe.targets }
                    srf := { s.srf with readDue := false } }
  s.raiseIf (p.flag F.FE_CFG_FLAGS_AS_KEY && fmt != fmtP32 && !(store && lay.isNone)) 82 0

/-- There is a frame that the front end can begin: the reader's, or one of the link that it has not begun. -/
def State.feCanBegin (s : State) : Bool := s.srf.readDue || s.pil.serial != s.fe.serial

/-- The link has brought a pixel of the front end's frame, or it is concealed (R60, R72). -/
def State.delivered (s : State) (x y : Nat) : Bool :=
  s.pil.serial != s.fe.serial || s.pil.rx.all fun f => y < f.line || (y == f.line && (x < f.col || f.restShown))

/-- The reader has decoded the pixel's block slot; a blank frame, or a buffer that has held no frame, needs none. -/
def State.slotRead (s : State) (x y : Nat) : Bool :=
  s.fe.blank || (s.layoutOf s.srf.readBuf).all fun l => s.srf.readSlots.contains (y / 4 * divCeil l.w 64 + x / 64)

/-- The pixel that the front end takes; none where it has not come yet (Table 1.4, R60). -/
def State.feInput (s : State) (x y : Nat) : Option InPixel :=
  if s.fe.store then (if s.slotRead x y then some (mget ⟨⟨0, 0, 0⟩, 0⟩ s.srf.readPix (pixKey x y)) else none)
  else if !s.delivered x y then none
  else match mfind s.pil.dropped (pixKey x y) with
    | some p => some p
    | none => some (mget ⟨⟨0, 0, 0⟩, 0⟩ s.pil.pixels (pixKey x y))

/-- The front end converts a pixel of the active area (R81 to R88), and counts it (R93). The zeros of a frame that R240 does not show
count by their set (DESIGN CHOICE, assumption log 147). -/
def State.fePixel (s : State) (x y : Nat) (i : InPixel) : State :=
  let p := s.fe.snap
  let set := p.feSet s.fe.fmt i.x
  let (t, gm, lim) := if s.fe.blank then (⟨0, 0, 0⟩, false, false) else feConvert (p.feParams set i.c) (p.hlgGain set)
  let s := s.raiseIf (lim && s.fe.limited == 0) 81 0
  let s := { s with fe := { s.fe with
    targets := mset ⟨0, 0, 0⟩ s.fe.targets (2 * pixKey x y + s.spl.zoneParity) t
    gamut := s.fe.gamut + bit gm, limited := s.fe.limited + bit lim, set1 := s.fe.set1 + set } }
  if x + 1 = p.width 0 ∧ y + 1 = p.lines 0 then
    ((s.latchCount R.FE_CNT_GAMUT s.fe.gamut).latchCount R.FE_CNT_LIMIT s.fe.limited).latchCount R.FE_CNT_SET1 s.fe.set1
  else s

/-- The commit of `FE` (R90). A commit while domain 31 is not ON puts waiting tables in effect too (DESIGN CHOICE, assumption log 148). -/
def State.feCommit (s : State) : State :=
  let tables := !(s.waitingTbl 2).isEmpty
  let s := ((s.applyRegs (inEngine 2)).applyTbl 2).raiseIf tables 80 0
  s.put F.FE_STATUS_ACTIVE_SET (s.get F.FE_CFG_SET)

end Sys2Proof.Machine
end

