-- ==== Sys2Proof/Machine/SrfOps.lean ====
section
/-! DEFINITION. The source buffers, the region updates and the copy engine (chapter 10) as operations. -/

namespace Sys2Proof.Machine

/-! ### Source buffers (R237 to R240) -/

/-- The front buffer. -/
def State.frontBuf (s : State) : Nat := s.get F.SRF_STATUS_FRONT

/-- Self-refresh is active (R241). -/
def State.selfRefresh (s : State) : Bool := s.flag F.SRF_STATUS_ACTIVE

/-- The slot size (R237). -/
def slotSize (comps : Nat) : Nat := if comps = 4 then 1600 else 1216

/-- The block slots of a layout: columns and all. -/
def BufLayout.cols (l : BufLayout) : Nat := divCeil l.w 64

/-- How many block slots a layout has. -/
def BufLayout.slots (l : BufLayout) : Nat := divCeil l.w 64 * divCeil l.h 4

/-- The fold-window address of slot i of source buffer b (R237). -/
def State.slotAddr (s : State) (b comps i : Nat) : Nat :=
  let n := s.get F.SRF_SRC_COUNT
  foldBase (s.get F.SRF_SRC_BASE + b * n + i % n) + slotSize comps * (i / n)

/-- The samples of slot i of a source buffer, if every word it reads is good and it decodes (R240, R254, R272). -/
def State.readSlot (s : State) (b : Nat) (l : BufLayout) (i : Nat) (ecc : EccMap) (cls : Nat) : Option (List (List Nat)) × State :=
  let a := s.slotAddr b l.comps i
  s.ownerSegment 1 l.comps 12 0 a (a + slotSize l.comps) ecc cls

/-- Store an encoded segment in slot i of a source buffer; one stored RAW counts (R237, R289). -/
def State.storeSlot (s : State) (b : Nat) (l : BufLayout) (i : Nat) (seg : List Byte × Bool) : State :=
  (s.ownerWrite 1 (s.slotAddr b l.comps i) seg.1).countIf seg.2 R.CPR_CNT_RAW_SEG

/-- Encode a block into slot i of a source buffer (R287, R288); `wrong` where the encoder finds its CODED segment wrong. -/
def State.writeSlot (s : State) (b : Nat) (l : BufLayout) (i : Nat) (comps : List (List Nat)) (wrong : Bool) : State :=
  let e := s.encodeSegment 12 comps wrong
  e.2.storeSlot b l i e.1

/-- How many bytes a slot has up to its segment's `LENGTH`. -/
def State.slotSpan (s : State) (b comps i : Nat) : Nat :=
  let a := s.slotAddr b comps i
  segSpan s.fst.mem a (a + slotSize comps)

/-- Those bytes. -/
def State.slotBytes (s : State) (b comps i : Nat) : List Byte := memBytes s.fst.mem (s.slotAddr b comps i) (s.slotSpan b comps i)

/-- Copy a slot's segment from one source buffer to the other. One that cannot be read good is not copied (DESIGN CHOICE, assumption
log 105). -/
def State.copySlot (s : State) (src dst comps i : Nat) (ecc : EccMap) : State :=
  let (a, n) := (s.slotAddr src comps i, s.slotSpan src comps i)
  let r := s.ownerRead 1 a n ecc 3
  if r.1 then r.2.ownerWrite 1 (s.slotAddr dst comps i) (s.slotBytes src comps i) else r.2

/-- Some slot of a list waits in a source buffer (R265, R273). -/
def State.slotsWait (s : State) (b comps : Nat) (is : List Nat) : Bool :=
  s.writesWait 1 || is.any fun i => s.rangeWaits 1 (s.slotAddr b comps i) 2

/-- A black pixel. -/
def InPixel.zero : InPixel := ⟨⟨0, 0, 0⟩, 0⟩

/-- The pixel at a position of a decoded block slot (R237). -/
def slotPixel (comps : Nat) (c : List (List Nat)) (x y : Nat) : InPixel :=
  let v (i : Nat) : Nat := segSample c x y i
  ⟨⟨v 0, v 1, v 2⟩, if comps = 4 then v 3 % 4 else 0⟩

/-- The 12-bit components of a pixel in the order of a slot's components. -/
def InPixel.comp (p : InPixel) (c : Nat) : Nat :=
  match c with
  | 0 => p.c.r
  | 1 => p.c.g
  | 2 => p.c.b
  | _ => p.x

/-- A source buffer becomes the front buffer (R238, R253). -/
def State.setFront (s : State) (b : Nat) : State :=
  (s.put F.SRF_STATUS_FRONT b).setReg R.SRF_FRONT_NO (mget 0#32 s.srf.frontNo b).toNat

/-- `SRF_STATUS.LAYOUT_MISMATCH` brought up to date (R240), while `SRF` is ON (R448). -/
def State.noteLayout (s : State) : State :=
  let m := s.layoutMismatch s.frontBuf
  if !s.domOn 33 then s
  else (s.putB F.SRF_STATUS_LAYOUT_MISMATCH m).raiseIf (m && !s.flag F.SRF_STATUS_LAYOUT_MISMATCH) 233 3

/-- `SRC_NEED` (R239): the smallest `COUNT` that holds every slot of TG0's raster. -/
def Snap.srcNeed (p : Snap) : Nat :=
  let n := divCeil (p.width 0) 64 * divCeil (p.lines 0) 4
  divCeil n (2 ^ 24 / slotSize (if p.flag F.FE_CFG_FLAGS_AS_KEY then 4 else 3))

/-! ### The staging ring (R248) -/

/-- The size of the staging ring in bytes. -/
def State.ringSize (s : State) : Nat := s.get F.SRF_STAGE_COUNT * 2 ^ 24

/-- The fold-window address of a position in the ring. -/
def State.ringAddr (s : State) (o : Nat) : Nat := foldBase (s.get F.SRF_STAGE_BASE) + o % s.ringSize

/-- The bytes of a region's line in the ring. -/
def ringRow (w : Nat) : Nat := 9 * divCeil w 2

/-- The bytes that an update of w × h pixels reserves. -/
def ringNeed (w h : Nat) : Nat := divCeil (ringRow w * h) 64 * 64

/-- n bytes of the ring. -/
def State.ringBytes (s : State) (o n : Nat) : List Byte := (List.range n).map fun i => memByte s.fst.mem (s.ringAddr (o + i))

/-- Write bytes to the ring, in pieces that stay within a fold. -/
def State.ringWrite (s : State) (o : Nat) (bs : List Byte) : State :=
  let k := 2 ^ 24 - o % 2 ^ 24
  (s.ownerWrite 2 (s.ringAddr o) (bs.take k)).ownerWrite 2 (s.ringAddr (o + k)) (bs.drop k)

/-- Reserve ring space, if the ring can hold it; the answer is the reservation's start. -/
def State.ringReserve (s : State) (slot : Nat) (tag : Word) (n : Nat) : Option Nat × State :=
  let used := s.srf.ring.foldl (fun (a : Nat) r => a + r.size) 0
  if s.ringSize < used + n then (none, s)
  else
    let o := s.srf.ringNext % s.ringSize
    (some o, { s with srf := { s.srf with ring := s.srf.ring ++ [⟨o, n, slot, tag, false⟩], ringNext := (o + n) % s.ringSize } })

/-- The update of a reservation is final: space is released in reservation order. -/
def State.ringRelease (s : State) (o : Nat) : State :=
  let l := s.srf.ring.map fun r => if r.start = o then { r with final := true } else r
  { s with srf := { s.srf with ring := l.dropWhile (·.final) } }

/-! ### Outcomes (R255) -/

/-- Report a final outcome: a `REGION_RESULT`, or a record of the owner's queue. -/
def State.reportOutcome (s : State) (r : RegionOutcome) : State :=
  match r.owner with
  | none => s.backAll 5 ([r.slot, r.outcome] ++ beNats 4 r.tag.toNat ++ [0, 0])
  | some p =>
    let q := mget ([] : List SrfResult) s.srf.results p.num ++ [(⟨r.slot, r.frame, r.outcome, r.tag⟩ : SrfResult)]
    ({ s with srf := { s.srf with results := mset [] s.srf.results p.num q } }).raise (227 + p.num) 0

/-- Report the final outcomes whose turn it is: an update waits for the earlier-accepted updates of its slot. -/
def State.flushOutcomes (s : State) : State :=
  (s.srf.unreported.foldl (fun (t : State × List Nat) u =>
    let (s, blocked) := t
    if blocked.contains u.2 then t
    else match s.srf.finals.find? (fun r => r.id == u.1) with
      | none => (s, u.2 :: blocked)
      | some r =>
        let s := { s with srf := { s.srf with finals := s.srf.finals.filter (fun v => v.id != u.1)
                                              unreported := s.srf.unreported.filter (fun v => v.1 != u.1) } }
        (s.reportOutcome r, blocked)) (s, [])).1

/-- The credit limit of a slot grows by one (R75). -/
def State.giveCredit (s : State) (slot : Nat) : State :=
  ({ s with pil := { s.pil with credit := mset 0 s.pil.credit slot ((mget 0 s.pil.credit slot + 1) % 65536) } }).sendCredit slot

/-- An update's outcome becomes final (R255, Table 2.11). -/
def State.finishUpdate (s : State) (u : RegionUpd) (outcome : Nat) : State :=
  let s := (s.put (F.SRF_RS_STATUS_LAST_OUTCOME u.slot) outcome).countIf (outcome == 1) R.SRF_CNT_SUPERSEDED
  let s := { s with srf := { s.srf with
    finals := s.srf.finals ++ [(⟨u.id, u.slot, u.owner, u.tag, outcome, s.reg (R.TG_FRAME_NO 0) % 256⟩ : RegionOutcome)] } }
  let s := if u.owner.isNone then (s.ringRelease u.data).giveCredit u.slot else s
  s.flushOutcomes

/-- Take the next place in the acceptance order for an update. -/
def State.takeId (s : State) (u : RegionUpd) : RegionUpd × State :=
  ({ u with id := s.srf.nextId }, { s with srf := { s.srf with
    nextId := s.srf.nextId + 1, unreported := s.srf.unreported ++ [(s.srf.nextId, u.slot)] } })

/-- The update that an open link update stands for. A reservation that the ring refused has no space to release. -/
def OpenUpd.upd (o : OpenUpd) (slot none' : Nat) : RegionUpd :=
  ⟨0, slot, none, o.x, o.y, o.w, o.h, o.tag, o.stage.getD none', 0, 3⟩

/-- A position that no reservation has. -/
def State.noStage (s : State) : Nat := s.ringSize

/-- An open link update ends with an outcome. -/
def State.finishOpen (s : State) (slot : Nat) (o : OpenUpd) (outcome : Nat) : State :=
  let s := { s with srf := { s.srf with opens := merase s.srf.opens slot } }
  let (u, s) := s.takeId (o.upd slot s.noStage)
  s.finishUpdate u outcome

/-- An open link update is settled before its `REGION_COMMIT`, which will meet it no more (log 106). -/
def State.cutOpen (s : State) (slot : Nat) (o : OpenUpd) : State :=
  { s with srf := { s.srf with opens := merase s.srf.opens slot, cut := mput s.srf.cut slot o.tag } }

/-- An open link update ends with the loss of the link: REGION_LOST without a `REGION_RESULT` (R249). -/
def State.loseOpen (s : State) (slot : Nat) (o : OpenUpd) : State :=
  let s := s.cutOpen slot o
  let s := s.put (F.SRF_RS_STATUS_LAST_OUTCOME slot) 3
  (s.ringRelease (o.stage.getD s.noStage)).giveCredit slot

/-! ### Copies (R251 to R254) -/

/-- The slots that an update's rectangle touches. -/
def RegionUpd.slots (u : RegionUpd) (l : BufLayout) : List Nat :=
  (List.range ((u.y + u.h - 1) / 4 + 1 - u.y / 4)).flatMap fun j =>
    (List.range ((u.x + u.w - 1) / 64 + 1 - u.x / 64)).map fun i => (u.y / 4 + j) * l.cols + u.x / 64 + i

/-- Whether two updates share a pixel. -/
def RegionUpd.overlaps (a b : RegionUpd) : Bool :=
  a.x < b.x + b.w && b.x < a.x + a.w && a.y < b.y + b.h && b.y < a.y + a.h

/-- The updates that are running, pending, or complete and not yet shown. -/
def State.unshown (s : State) : List RegionUpd :=
  s.srf.running.map (·.2) ++ s.srf.waiting.map (·.2) ++ s.srf.complete ++ s.srf.swapped

/-- The running update that was accepted first. -/
def State.nextUpdate (s : State) : Option RegionUpd :=
  (s.srf.running.map (·.2)).foldl (fun (m : Option RegionUpd) u => match m with
    | some v => if u.id < v.id then some u else m
    | none => some u) none

/-- The engine starts its next copy (R252). -/
def State.srfKick (s : State) : State :=
  let f := s.srf
  if !s.selfRefresh || f.exiting || f.inFlight.isSome || !s.engineOn 10 then s
  else if f.fillDue && (s.layoutOf s.frontBuf).isSome then { s with srf := { f with fillDue := false, inFlight := some .fill } }
  else
    match f.rollbacks, f.echoes with
    | u :: r, _ => { s with srf := { f with fillDue := false, rollbacks := r, inFlight := some (.rollback u) } }
    | [], us :: r => { s with srf := { f with fillDue := false, echoes := r, inFlight := some (.echo us) } }
    | [], [] => match s.nextUpdate with
      | some u =>
        if f.holdStarts || f.complete.any (fun v => u.overlaps v) then { s with srf := { f with fillDue := false } }
        else { s with srf := { f with fillDue := false, inFlight := some (.update u) } }
      | none => { s with srf := { f with fillDue := false } }

/-- Copy slots of the front buffer to the back buffer; it waits while a fold of theirs does (R265, R273). The answer says whether the
copy has been made. -/
def State.copyFront (s : State) (l : BufLayout) (is : List Nat) (ecc : EccMap) : Bool × State :=
  let (f, b) := (s.frontBuf, 1 - s.frontBuf)
  if s.slotsWait f l.comps is || s.slotsWait b l.comps is then (false, s)
  else (true, s.each is fun s i => s.copySlot f b l.comps i ecc)

/-- Copy the slots that updates touch from the front buffer to the back buffer. -/
def State.copyTouched (s : State) (us : List RegionUpd) (ecc : EccMap) : Bool × State :=
  match s.layoutOf s.frontBuf with
  | none => (true, s)
  | some l => s.copyFront l (us.flatMap (·.slots l)) ecc

/-- The back buffer takes the front buffer's layout and number (R240). -/
def State.takeLayout (s : State) (l : BufLayout) : State :=
  let (f, b) := (s.frontBuf, 1 - s.frontBuf)
  { s with srf := { s.srf with layouts := mput s.srf.layouts b l, frontNo := mput s.srf.frontNo b (mget 0#32 s.srf.frontNo f) } }

/-- The fill copies every slot and gives the back buffer the front buffer's layout (R240, R252). -/
def State.fillBack (s : State) (ecc : EccMap) : Bool × State :=
  match s.layoutOf s.frontBuf with
  | none => (true, s)
  | some l =>
    let r := s.copyFront l (List.range l.slots) ecc
    (r.1, if r.1 then r.2.takeLayout l else r.2)

/-- The copy in flight ends. -/
def State.copyEnds (s : State) : State := { s with srf := { s.srf with inFlight := none } }

/-- The bytes of an update's data from its pixel row to its end. -/
def RegionUpd.rowLen (u : RegionUpd) : Nat := if u.owner.isNone then ringRow u.w else pixelBytes u.fmt u.w

/-- Bytes [o, o + n) of an update's data. -/
def State.updBytes (s : State) (u : RegionUpd) (o n : Nat) : List Byte :=
  if u.owner.isNone then s.ringBytes (u.data + o) n else memBytes s.fst.mem (u.data + o) n

/-- The pixel of an update at a position of its rectangle (R55, R248, Table 2.7). -/
def State.updPixel (s : State) (u : RegionUpd) (x y : Nat) : InPixel :=
  let (o, n, j) := pixelGroup u.fmt (x - u.x)
  let pitch := if u.owner.isNone then ringRow u.w else u.pitch
  unpackPixel u.fmt (beNat (s.updBytes u ((y - u.y) * pitch + o) n)) j

/-- The ranges of the fold window that hold rows of an update's data: a row of the ring may wrap. -/
def State.updRows (s : State) (u : RegionUpd) : List (Nat × Nat) :=
  let n := u.rowLen
  (List.range u.h).flatMap fun j =>
    if u.owner.isNone then
      let o := u.data + n * j
      let k := min n (s.ringSize - o % s.ringSize)
      [(s.ringAddr o, k), (s.ringAddr (o + k), n - k)]
    else [(u.data + u.pitch * j, n)]

/-- Read ranges of an update's data up to the first that is not good: staged data through `SRF`, host data as DMA (R254, R262, R274). -/
def State.readRows (s : State) (staged : Bool) (ecc : EccMap) : List (Nat × Nat) → Bool × State
  | [] => (true, s)
  | r :: rs =>
    let q := if staged then s.ownerRead 2 r.1 r.2 ecc 3 else s.dmaRead r.1 r.2 ecc 3
    if q.1 then q.2.readRows staged ecc rs else (false, q.2)

/-- An access of an update's copy waits for a fold (R265, R273). -/
def State.updateWaits (s : State) (u : RegionUpd) (l : BufLayout) : Bool :=
  s.slotsWait (1 - s.frontBuf) l.comps (u.slots l) || s.writesWait 2
    || (s.updRows u).any fun r => if u.owner.isNone then s.rangeWaits 2 r.1 r.2 else s.dmaWaits r.1 r.2

/-- A block of the back buffer with an update's pixels merged in. -/
def State.mergeBlock (s : State) (u : RegionUpd) (l : BufLayout) (i : Nat) (old : List (List Nat)) : List (List Nat) :=
  (List.range l.comps).map fun c => (List.range 256).map fun k =>
    let (x, y) := (64 * (i % l.cols) + k % 64, 4 * (i / l.cols) + k / 64)
    if u.x ≤ x ∧ x < u.x + u.w ∧ u.y ≤ y ∧ y < u.y + u.h then (s.updPixel u x y).comp c else (old.getD c []).getD k 0

/-- The update copy over a list of slots; the answer says whether every block read and decoded (R252, R254). `wrong` lists the slots
whose new segment the encoder finds wrong (R288). -/
def State.copyBlocks (s : State) (u : RegionUpd) (l : BufLayout) (ecc : EccMap) (wrong : List Nat) : List Nat → Bool × State
  | [] => (true, s)
  | i :: r =>
    let b := 1 - s.frontBuf
    match s.readSlot b l i ecc 3 with
    | (none, s) => (false, s)
    | (some old, s) => (s.writeSlot b l i (s.mergeBlock u l i old) (wrong.contains i)).copyBlocks u l ecc wrong r

/-- An update whose copy has ended: the slot's pending update becomes running (R252). -/
def State.endRunning (s : State) (slot : Nat) : State :=
  let r := merase s.srf.running slot
  { s with srf := { s.srf with
    running := match mfind s.srf.waiting slot with
      | some w => mput r slot w
      | none => r
    waiting := merase s.srf.waiting slot } }

/-- An update's copy has completed: the next swap shows it (R252, R253). -/
def State.updateCopied (s : State) (u : RegionUpd) : State :=
  let s := s.endRunning u.slot
  ({ s with srf := { s.srf with complete := s.srf.complete ++ [u] } }).srfKick

/-- An update's copy has met a memory error: it is lost and its slots are rolled back (R254). -/
def State.updateLost (s : State) (u : RegionUpd) : State :=
  let s := s.endRunning u.slot
  let s := { s with srf := { s.srf with rollbacks := s.srf.rollbacks ++ [u] } }
  (((s.count R.SRF_CNT_LOST).raise 230 3).finishUpdate u 3).srfKick

/-- An update copy ends (R252, R254), unless an access of it waits. -/
def State.updateCopyEnds (s : State) (u : RegionUpd) (ecc : EccMap) (wrong : List Nat) : State :=
  match s.layoutOf (1 - s.frontBuf) with
  | none => s.copyEnds.updateLost u
  | some l =>
    if s.updateWaits u l then s
    else
      let r := s.copyEnds.readRows u.owner.isNone ecc (s.updRows u)
      let q := if r.1 then r.2.copyBlocks u l ecc wrong (u.slots l) else r
      if q.1 then q.2.updateCopied u else q.2.updateLost u

/-! ### Acceptance (R244 to R247) -/

/-- An update is accepted (R244, R245). -/
def State.acceptUpdate (s : State) (u : RegionUpd) : State :=
  let (u, s) := s.takeId u
  if s.unshown.any (fun v => v.owner != u.owner && v.overlaps u) then
    ((s.count R.SRF_CNT_OVERLAP).raise 231 0).finishUpdate u 2
  else match mfind s.srf.running u.slot with
    | none => ({ s with srf := { s.srf with running := mput s.srf.running u.slot u } }).srfKick
    | some _ =>
      let old := mfind s.srf.waiting u.slot
      let s := { s with srf := { s.srf with waiting := mput s.srf.waiting u.slot u } }
      match old with
      | some w => s.finishUpdate w 1
      | none => s

/-- Every accepted update that is not shown, below a place in the acceptance order, is SUPERSEDED in that order (R243, R247). -/
def State.supersede (s : State) (below : Nat) : State :=
  let gone (u : RegionUpd) : Bool := decide (u.id < below)
  let us := s.unshown.filter gone
  let us := us.insertionSort (fun a b => a.id ≤ b.id)
  let s := { s with srf := { s.srf with
    running := s.srf.running.filter (fun e => !gone e.2), waiting := s.srf.waiting.filter (fun e => !gone e.2)
    complete := s.srf.complete.filter (fun u => !gone u), swapped := s.srf.swapped.filter (fun u => !gone u) } }
  let s := s.each (s.srf.waiting.filter (fun e => (mfind s.srf.running e.1).isNone)) fun s e => s.endRunning e.1
  s.each us fun s u => s.finishUpdate u 1

/-! ### Causes, entry and exit (R241 to R243, Table 10.1) -/

/-- The causes that are set: bit 0 SLEEP, 1 LINK, 2 STALL, 3 HOST. -/
def State.causes (s : State) : Nat := s.get F.SRF_STATUS_CAUSE

/-- No exit is under way any more: the frame that stopped the copies is not stored, and the back buffer is filled again. -/
def State.cancelExit (s : State) : State :=
  if !s.srf.exiting then s
  else
    let drop (f : Option RxFrame) : Option RxFrame := f.map fun f => { f with stored := false }
    ({ s with srf := { s.srf with exiting := false, exitReady := false, exitDue := false, fillDue := true }
              pil := { s.pil with rx := drop s.pil.rx, draining := drop s.pil.draining } }).srfKick

/-- A cause is set, while `SRF` is ON (R447, R448). -/
def State.setCause (s : State) (k : Nat) : State :=
  if s.domOn 33 then (s.put F.SRF_STATUS_CAUSE (setBit s.causes k true)).cancelExit else s

/-- A cause is cleared. -/
def State.clearCause (s : State) (k : Nat) : State := s.put F.SRF_STATUS_CAUSE (setBit s.causes k false)

/-- Entry into self-refresh at a TG0 frame boundary (R241): a frame in reception is not stored (R242), the fill starts. -/
def State.srfEntry (s : State) : State :=
  let drop (f : Option RxFrame) : Option RxFrame := f.map fun f => { f with stored := false }
  let s := { s with srf := { s.srf with fillDue := true, holdStarts := false, exiting := false, exitReady := false, exitDue := false }
                    pil := { s.pil with rx := drop s.pil.rx, draining := drop s.pil.draining } }
  (((s.putB F.SRF_STATUS_ACTIVE true).count R.SRF_CNT_ENTER).raise 224 0).srfKick

/-- A good `FRAME_START` while self-refresh has no cause left (R243). -/
def State.srfLeave (s : State) : State :=
  let s := { s with srf := { s.srf with exiting := true, exitReady := false, exitDue := false, inFlight := none
                                        rollbacks := [], echoes := [], fillDue := false, holdStarts := false } }
  s.supersede s.srf.nextId

/-- The end of self-refresh at a TG0 frame boundary (R243). -/
def State.srfEnd (s : State) : State :=
  let s := { s with srf := { s.srf with exiting := false, exitReady := false, exitDue := false } }
  ((s.putB F.SRF_STATUS_ACTIVE false).raise 225 0).noteLayout

/-- The frame boundary of a frame that swapped: each update it took is SHOWN (R253). -/
def State.srfShown (s : State) : State :=
  let us := s.srf.swapped
  let s := { s with srf := { s.srf with swapped := [] } }
  s.each us fun s u => s.finishUpdate u 0

/-! ### Link updates (R74, R75, R248, R249) -/

/-- A slot is assigned to the link. -/
def State.slotLinked (s : State) (slot : Nat) : Bool := s.flag (F.SRF_RS_CFG_EN slot) && s.flag (F.SRF_RS_CFG_SOURCE slot)

/-- A rectangle that is empty or reaches beyond TG0's active area. -/
def State.rectBad (s : State) (x y w h : Nat) : Bool :=
  let p := s.snapshot
  w == 0 || h == 0 || p.width 0 < x + w || p.lines 0 < y + h

/-- A good `REGION_BEGIN` (R74, R75, R248, R249). A `REGION_BEGIN` that failed is not in the number sent, while its update raises the
limit at its good `REGION_COMMIT` (DESIGN CHOICE, assumption log 146). -/
def State.regionBegin (s : State) (slot x y w h : Nat) (tag : Word) : State :=
  let s := match mfind s.srf.opens slot with
    | some o => s.finishOpen slot o 1
    | none => s
  let (limit, sent) := (mget 0 s.pil.credit slot, mget 0 s.pil.sent slot)
  let ahead := (limit + 65536 - sent) % 65536
  let beyond := ahead == 0 || 32768 ≤ ahead
  let s := { s with pil := { s.pil with sent := mset 0 s.pil.sent slot ((sent + 1) % 65536) }
                    srf := { s.srf with cut := merase s.srf.cut slot } }
  let o : OpenUpd := { x := x, y := y, w := w, h := h, tag := tag, stage := none }
  let put (s : State) (o : OpenUpd) : State := { s with srf := { s.srf with opens := mput s.srf.opens slot o } }
  if beyond || !s.slotLinked slot || s.rectBad x y w h then put s { o with bad := some 4 }
  else match s.ringReserve slot tag (ringNeed w h) with
    | (none, s) => put (s.count R.SRF_CNT_LOST) { o with bad := some 3 }
    | (some a, s) => put s { o with stage := some a }

/-- A discarded packet (R72, R73, R78). -/
def State.discard (s : State) : State := (s.count R.PIL_CNT_DISCARD).raise 79 0

/-- A good `REGION_LINE` (R248, R249). -/
def State.regionLine (s : State) (slot line x count fmt : Nat) (lineEnd : Bool) (payload : List Byte) : State :=
  match mfind s.srf.opens slot with
  | none => s.discard
  | some o =>
    let put (s : State) (o : OpenUpd) : State := { s with srf := { s.srf with opens := mput s.srf.opens slot o } }
    match o.bad, o.stage with
    | none, some a =>
      let good := o.line < o.h && line == o.y + o.line && x == o.x + o.col && 1 ≤ count && o.col + count ≤ o.w
        && lineEnd == (o.col + count == o.w) && o.packets < 16
      if !good then put s { o with bad := some 3 }
      else
        let px := (List.range count).map (pixelAt fmt payload)
        let half := if o.col % 2 = 0 then [] else [o.last]
        let s := s.ringWrite (a + ringRow o.w * o.line + 9 * (o.col / 2)) (packRow (half ++ px))
        put s (if lineEnd then { o with line := o.line + 1, col := 0, packets := 0 }
               else { o with col := o.col + count, packets := o.packets + 1, last := pixelAt fmt payload (count - 1) })
    | _, _ => s

/-- A good `REGION_COMMIT` (R75, R244, R249). One without an open update belongs to an update whose `REGION_BEGIN` failed (R73), or to
the one that the link's loss has ended without a report, which it does not revive: that packet is discarded (assumption log 106). -/
def State.regionCommit (s : State) (slot : Nat) (tag : Word) : State :=
  match mfind s.srf.opens slot with
  | none =>
    if mfind s.srf.cut slot = some tag then ({ s with srf := { s.srf with cut := merase s.srf.cut slot } }).discard
    else s.finishOpen slot { x := 0, y := 0, w := 0, h := 0, tag := tag, stage := none } (if s.slotLinked slot then 3 else 4)
  | some o =>
    match o.bad with
    | some c => s.finishOpen slot o c
    | none =>
      if tag != o.tag || o.line != o.h then s.finishOpen slot o 3
      else if s.layoutMismatch s.frontBuf then s.finishOpen slot o 4
      else ({ s with srf := { s.srf with opens := merase s.srf.opens slot } }).acceptUpdate (o.upd slot s.noStage)

/-- A failed region packet makes its update REGION_LOST (R73, R249); a failed `REGION_COMMIT` ends it. -/
def State.regionFailed (s : State) (typ slot : Nat) : State :=
  match mfind s.srf.opens slot with
  | none => s
  | some o =>
    let c := o.bad.getD 3
    if typ = 6 then s.finishOpen slot o c
    else { s with srf := { s.srf with opens := mput s.srf.opens slot { o with bad := some c } } }

/-- The link leaves UP: open updates are lost (R249). -/
def State.regionsLost (s : State) : State := s.each s.srf.opens fun s e => s.loseOpen e.1 e.2

/-! ### Host updates and slot configuration (R246, R250) -/

/-- What a host's `COMMIT` meets (R250): 1 accepted, 2 refused, 3 to be retried. -/
def State.commitVerdict (s : State) (slot : Nat) (owner : Option Port) : Nat :=
  let (x, y) := (s.get (F.SRF_RS_RECT0_X slot), s.get (F.SRF_RS_RECT0_Y slot))
  let (w, h) := (s.get (F.SRF_RS_RECT1_W slot), s.get (F.SRF_RS_RECT1_H slot))
  let (a, pitch) := (s.reg (R.SRF_RS_DATA slot), s.get (F.SRF_RS_FMT_PITCH slot))
  let row := pixelBytes (s.get (F.SRF_RS_FMT_FORMAT slot)) w
  let last := a + pitch * (h - 1) + row - 1
  match owner with
  | none => 2
  | some p =>
    if !s.flag (F.SRF_RS_CFG_EN slot) || s.flag (F.SRF_RS_CFG_SOURCE slot) || s.rectBad x y w h || pitch < row || a < 0x40000000
      || 0x80000000 ≤ last
      || !((List.range (foldOf last + 1 - foldOf a)).all fun i =>
            s.foldOwner (foldOf a + i) == 7 && s.get (F.FST_FOLD_OWNER_HOST_PORT (foldOf a + i)) == p.num)
      || s.layoutMismatch s.frontBuf then 2
    else if s.mgt.regionsPaused || 31 ≤ (mget [] s.srf.results p.num).length then 3
    else 1

/-- A host's write of `SRF_RSss_CMD.COMMIT` (R250); nothing takes it while `SRF` is not ON (R448). -/
def State.hostCommit (s : State) (slot : Nat) (owner : Option Port) : State :=
  let v := s.commitVerdict slot owner
  let on := s.domOn 33
  let s := if on then s.put (F.SRF_RS_STATUS_CMD_RESULT slot) v else s
  if !on then s
  else if v = 1 then
    s.acceptUpdate ⟨0, slot, owner, s.get (F.SRF_RS_RECT0_X slot), s.get (F.SRF_RS_RECT0_Y slot), s.get (F.SRF_RS_RECT1_W slot),
      s.get (F.SRF_RS_RECT1_H slot), BitVec.ofNat 32 (s.reg (R.SRF_RS_TAG slot)), s.reg (R.SRF_RS_DATA slot),
      s.get (F.SRF_RS_FMT_PITCH slot), s.get (F.SRF_RS_FMT_FORMAT slot)⟩
  else (s.count R.SRF_CNT_REFUSED).raiseIf (v == 2) 49 0

/-- A write of `SRF_RSss_CFG` (R246). -/
def State.slotConfig (s : State) (slot v : Nat) : State :=
  let was := s.slotLinked slot
  let (en, src) := (s.flag (F.SRF_RS_CFG_EN slot), s.flag (F.SRF_RS_CFG_SOURCE slot))
  let s := s.setReg (R.SRF_RS_CFG slot) (bits v 31 30 * 2 ^ 30)
  let drop := (en && !s.flag (F.SRF_RS_CFG_EN slot)) || src != s.flag (F.SRF_RS_CFG_SOURCE slot)
  if !drop then s
  else
    let s := match mfind s.srf.waiting slot with
      | some w => ({ s with srf := { s.srf with waiting := merase s.srf.waiting slot } }).finishUpdate w 1
      | none => s
    match mfind s.srf.opens slot with
    | some o => if was then (s.cutOpen slot o).finishOpen slot o 1 else s
    | none => s

/-! ### Commits (R239, R256) -/

/-- Why a commit of `SRF` is refused (Table 10.4); 0 where it is not. -/
def State.srfReject (s : State) (p : Snap) : Nat :=
  let (sb, sc) := (p.get F.SRF_SRC_BASE, p.get F.SRF_SRC_COUNT)
  let (gb, gc) := (p.get F.SRF_STAGE_BASE, p.get F.SRF_STAGE_COUNT)
  let moved := p.get F.SRF_SRC_BASE != s.get F.SRF_SRC_BASE || p.get F.SRF_SRC_COUNT != s.get F.SRF_SRC_COUNT
    || p.get F.SRF_STAGE_BASE != s.get F.SRF_STAGE_BASE || p.get F.SRF_STAGE_COUNT != s.get F.SRF_STAGE_COUNT
  if 64 < sb + 2 * sc || 64 < gb + gc || (0 < gc && gb < sb + 2 * sc && sb < gb + gc) then 1
  else if sc < p.srcNeed then 2
  else if !s.foldsOwned 1 sb (2 * sc) || !s.foldsOwned 2 gb gc then 3
  else if moved && (s.selfRefresh || !s.srf.opens.isEmpty || !s.srf.waiting.isEmpty || !s.srf.running.isEmpty) then 4
  else 0

/-- The commit of `SRF` (R256), after the raster and the front end have committed; `SRC_NEED` follows (R239). -/
def State.srfCommit (s : State) : State :=
  if (s.waitingRegs (inEngine 10)).isEmpty then s
  else
    let why := s.srfReject (s.after (inEngine 10) 10)
    if why ≠ 0 then (((s.dropRegs (inEngine 10)).putB F.SRF_STATUS_REJECTED true).put F.SRF_STATUS_REJECT_REASON why).raise 232 0
    else ((s.applyRegs (inEngine 10)).putB F.SRF_STATUS_REJECTED false).put F.SRF_STATUS_REJECT_REASON 0

/-- What follows a commit that may have changed the raster, `SRF_SRC` or keying (R239, R240). While TG0 runs, its next frame
boundary compares the front buffer with the new raster (R466). -/
def State.srfAfterCommit (s : State) : State :=
  let s := s.put F.SRF_STATUS_SRC_NEED s.snapshot.srcNeed
  if (s.run 0).on then s else s.noteLayout

end Sys2Proof.Machine
end

