-- ==== Sys2Proof/Machine/BleMath.lean ====
section
/-! DEFINITION. The arithmetic of the backlight (R214 to R217, R229), from parameters alone. -/

namespace Sys2Proof.Machine

/-- G_M of a master attenuation A (R215): E[k] = round(65,536 × 2^(−k/256)). -/
def bleMaster (a : Nat) : Nat := if 4096 ≤ a then 0 else divRound (rootSearch 256 (a % 256)) (2 ^ (a / 256))

/-- One step of A towards its target (R215). -/
def bleRamp (a target rate : Nat) : Nat :=
  if rate = 0 then target else if a < target then min target (a + rate) else max target (a - rate)

/-- G_T in units of 2^(−14) (R216): gains t, first point θ_0, step, temperature in °C. -/
def bleTemp (t : Nat → Nat) (base : Int) (step : Nat) (temp : Int) : Rat :=
  let d := temp - base
  if d ≤ 0 then t 0
  else
    let i := d.toNat / step
    if 15 ≤ i then t 15 else t i + ((t (i + 1) : Int) - t i : Int) * ((d.toNat % step : Nat) : Rat) / step

/-- G_age in units of 2^(−14) (R217): the curve Ag, whole seconds H_y, hours per entry. -/
def bleAge (ag : Nat → Nat) (h step : Nat) : Rat :=
  let k := h / (3600 * step)
  if 63 ≤ k then ag 63 else ag k + ((ag (k + 1) : Int) - ag k : Int) * ((h % (3600 * step) : Nat) : Rat) / (3600 * step : Nat)

/-- `PWM` and current scale of a channel word (R214): level L as its value to 65,536, G_M, the gains in units of 2^(−14), the
curve C, `HYBRID`, `PWM_MIN` and `ISCALE`. -/
def bleDrive (l gm : Nat) (gage : Rat) (gloop : Nat) (curve : Nat → Nat) (gt : Rat) (hybrid : Bool) (pwmMin iscale : Nat) : Nat × Nat :=
  let x : Rat := min 1 ((l * gm * gloop : Nat) * gage / (2 ^ 60 : Nat))
  let pos := x * 1023
  let n := pos.floor.toNat
  let f := pos - n
  let d : Rat := if f = 0 then t16 (curve n) else t16 (curve n) + (((t16 (curve (n + 1)) : Int) - t16 (curve n) : Int) : Rat) * f
  let p := min 65535 (d * (gt / 16384) * 65535 / 65536)
  let (p, i) :=
    if hybrid && 0 < p && p < pwmMin then
      let i2 := max 1 (((iscale : Rat) * p / pwmMin).ceil.toNat)
      (p * iscale / i2, i2)
    else (p, iscale)
  ((clampInt 0 0xFFFF (roundUp p)).toNat, i)

/-- A channel word from `PWM`, `I` and `CTL`. -/
def bleWord (pwm i ctl : Nat) : Nat := pwm * 256 + i * 4 + ctl

/-- A gain after an output (R229): K as 0.16, Σm and Σε, and the limits; and whether it was clamped. -/
def bleGain (g k : Nat) (m : Nat) (e : Rat) (gmin gmax : Nat) : Nat × Bool :=
  let v := (g : Int) + roundAway ((t16 k : Rat) * (g * e / m - g) / 65536)
  ((clampInt gmin gmax v).toNat, v < gmin ∨ (gmax : Int) < v)

/-- The time of a transfer in ns (R219). -/
def bleTransferNs (drivers clkdiv : Nat) : Nat := (1176 * drivers + 8) * 10 * (clkdiv + 1)

end Sys2Proof.Machine
end

