-- ==== Sys2Proof/Machine/Ble.lean ====
section
/-! DEFINITION. The backlight engine (chapter 9): zone store, words and transfers, windows, loop tests, sensor loops, VLED. -/

namespace Sys2Proof.Machine

/-! ### Parameters and the channel map -/

/-- A valid map entry (Table 9.2). -/
structure MapEntry where
  zone : Nat
  colour : Nat
  chain : Nat
  driver : Nat
  channel : Nat
  row : Nat
  deriving DecidableEq, Repr

/-- The valid map entries of a set of tables. -/
def bleEntries (t : SMap Word) : List MapEntry :=
  t.filterMap fun e =>
    let w := e.2.toNat
    let o := e.1 - 0x300000
    if 0x300000 ≤ e.1 && e.1 < 0x340000 && o % 16 < 12 && bitAt w 31 then
      some ⟨o / 16, o % 16 / 4, bits w 28 24, bits w 23 18, bits w 17 12, bits w 11 8⟩
    else none

/-- The number of a channel: 48 × (64 × chain + driver) + channel. -/
def chanKey (chain driver channel : Nat) : Nat := 48 * (64 * chain + driver) + channel

/-- The channel of an entry. -/
def MapEntry.key (e : MapEntry) : Nat := chanKey e.chain e.driver e.channel

/-- MUX (R223). -/
def State.bleMux (s : State) : Bool := s.flag F.BLE_SCAN_MUX

/-- Scan rows S. -/
def State.bleRows (s : State) : Nat := s.get F.BLE_SCAN_ROWS + 1

/-- The backlight is lit (R209), unless protection has put it off (Table 7.6, step 1; log 112). -/
def State.bleLit (s : State) : Bool := s.flag F.BLE_CFG_EN && s.get F.TG_PANEL_STATUS_STATE_F == 3 && !s.tg.dark

/-- Chain c. -/
def State.chain (s : State) (c : Nat) : BleChain := mget ({} : BleChain) s.ble.chains c

/-- The state with chain c changed. -/
def State.setChain (s : State) (c : Nat) (v : BleChain) : State :=
  { s with ble := { s.ble with chains := mset ({} : BleChain) s.ble.chains c v } }

/-- The state of a chain: 0 OFF, 1 TEST, 2 RUN, 3 BROKEN. -/
def State.chainState (s : State) (c : Nat) : Nat := s.get (F.BLE_CHAIN_STATUS_STATE c)

/-- The class of a chain cause (Table 9.14). -/
def chainCauseClass (cause : Nat) : Nat := [0, 3, 3, 1, 3, 3, 0, 0].getD cause 0

/-- A chain event (R236). -/
def State.chainCause (s : State) (c cause : Nat) : State :=
  (s.put (F.BLE_CHAIN_STATUS_LAST_CAUSE c) cause).raise (184 + c) (chainCauseClass cause)

/-- Whether the chain counts as broken: BROKEN, or under a test that BROKEN started (R227). -/
def State.chainBroken (s : State) (c : Nat) : Bool := s.chainState c == 3 || (s.chain c).wasBroken

/-- Whether a channel is disabled (R226, R227). -/
def State.chanDisabled (s : State) (e : MapEntry) : Bool := s.ble.disabled.contains e.key || s.chainBroken e.chain

/-! ### Zone store (R119, R212) -/

/-- The active bank. -/
def State.bleBank (s : State) : Nat := s.get F.BLE_STATUS_BANK

/-- The level of a zone-colour in a bank. -/
def State.zoneLevel (s : State) (bank z c : Nat) : Nat := mget 0 s.ble.zones (65536 * bank + 4 * z + c)

/-- A zone store entry as the window reads it: bit 16 `DEAD` while a channel mapped to the zone-colour is disabled. -/
def State.zoneEntry (s : State) (z c : Nat) : Nat :=
  let dead := (bleEntries s.tbl).any fun e => e.zone == z && e.colour == c && s.chanDisabled e
  s.zoneLevel s.bleBank z c + 65536 * bit dead

/-- Write a level into the inactive bank. -/
def State.writeLevel (s : State) (z c l : Nat) : State :=
  { s with ble := { s.ble with zones := mset 0 s.ble.zones (65536 * (1 - s.bleBank) + 4 * z + c) (l % 65536) } }

/-- Rows in the order of R221: the lower `START` first, then the lower row. -/
def State.readyOrder (s : State) (rows : List Nat) : List Nat :=
  rows.insertionSort fun a b =>
    s.get (F.BLE_STROBE_START (a % 16)) < s.get (F.BLE_STROBE_START (b % 16))
      || (s.get (F.BLE_STROBE_START (a % 16)) == s.get (F.BLE_STROBE_START (b % 16)) && a % 16 ≤ b % 16)

/-- The scan rows that a chain serves (R221, R223). -/
def State.chainRows (s : State) (c : Nat) : List Nat :=
  if s.bleMux then List.range s.bleRows else [s.get (F.BLE_CHAIN_CFG_ROW c)]

/-- The chains in use, those under test among them: a test does not put off what becomes ready (R221). -/
def State.liveChains (s : State) : List Nat := upTo 24 fun c => s.chainState c != 0

/-- Rows of a chain become ready; those ready already stay in their place. -/
def State.makeReady (s : State) (c : Nat) (rows : List Nat) : State :=
  let h := s.chain c
  let new := s.readyOrder (rows.filter fun r => !h.ready.contains r)
  s.setChain c { h with ready := h.ready ++ new }

/-- Every row of every chain becomes ready (R218, R221, R232). -/
def State.allReady (s : State) : State := s.each s.liveChains fun s c => s.makeReady c (s.chainRows c)

/-- The banks swap (R119, R212): the rows not sent from the new bank yet become ready; rows that wait stay in their order. -/
def State.bankSwap (s : State) : State :=
  let no := if s.flag F.BLE_CFG_SOURCE then none else some s.spl.swap.no
  let s := (s.put F.BLE_STATUS_BANK (1 - s.bleBank)).count R.BLE_CNT_SWAP
  let s := s.putB F.BLE_STATUS_SWAP_PENDING false
  let s := { s with ble := { s.ble with rowsWritten := [] }, spl := { s.spl with swap := {} } }
  let s := s.each s.liveChains fun s c =>
    let h := s.chain c
    let done := h.served
    let s := s.setChain c { h with ready := h.ready.filterMap (fun r => if 16 ≤ r then some (r - 16) else none), served := [] }
    s.makeReady c ((s.chainRows c).filter fun r => !done.contains r)
  s.talSwap no

/-- The zone rows that a chain's valid entries for row r name (R221). -/
def State.neededRows (s : State) (zc c r : Nat) : List Nat :=
  ((bleEntries s.tbl).filter fun e => e.chain == c && (!s.bleMux || e.row == r)).map fun e => e.zone / (max 1 zc)

/-- The split hands over a zone row of the new frame (R116, R119, R212): levels by zone column and colour. -/
def State.splitWrites (s : State) (zc zy : Nat) (level : Nat → Rgb) : State :=
  if s.flag F.BLE_CFG_SOURCE then s.count R.BLE_CNT_SPL_DROP (3 * zc)
  else
    let s := s.each (List.range zc) fun s zx =>
      let z := zy * zc + zx
      let l := level zx
      ((s.writeLevel z 0 l.r).writeLevel z 1 l.g).writeLevel z 2 l.b
    let s := { s with ble := { s.ble with rowsWritten := zy :: s.ble.rowsWritten } }
    if !s.flag F.BLE_CFG_EARLY then s
    else s.each s.liveChains fun s c =>
      let h := s.chain c
      let rows := (s.chainRows c).filter fun r => !h.served.contains r && !h.ready.contains (16 + r)
        && (s.neededRows zc c r).all fun y => s.ble.rowsWritten.contains y
      s.makeReady c (rows.map (16 + ·))

/-! ### Windows (R222 to R224) -/

/-- Window r. -/
def State.window (s : State) (r : Nat) : BleWindow := mget ({} : BleWindow) s.ble.windows r

/-- The backlight frame has passed its planned length: its stretch lines are dark (R210). -/
def State.bleStretch (s : State) : Bool := decide ((s.run 2).planned ≤ (s.run 2).line)

/-- The window of row r that began under an old pair and runs on beside the row's next one (R224). -/
def State.olderWindow (s : State) (r : Nat) : BleWindow := mget ({} : BleWindow) s.ble.older r

/-- A window of row r is lit. -/
def State.rowLit (s : State) (r : Nat) : Bool := (s.window r).lit || (s.olderWindow r).lit

/-- `BL_SCANr` follows the windows of its row. -/
def State.scanRow (s : State) (r : Nat) : State :=
  { s with ble := { s.ble with scan := (s.ble.scan.filter (· != r)) ++ (if s.rowLit r && !s.bleStretch then [r] else []) } }

/-- The state with window r changed, or with `old` the one under an old pair; `BL_SCANr` follows. -/
def State.setWindow (s : State) (r : Nat) (w : BleWindow) (old : Bool := false) : State :=
  (if old then { s with ble := { s.ble with older := mset ({} : BleWindow) s.ble.older r w } }
   else { s with ble := { s.ble with windows := mset ({} : BleWindow) s.ble.windows r w } }).scanRow r

/-- A suppressed window (R224): counted, and reported once per backlight frame. -/
def State.suppressed (s : State) : State :=
  let s := (s.count R.BLE_CNT_SUPPRESS).raiseIf (!s.ble.suppressRaised) 211 0
  { s with ble := { s.ble with suppressRaised := true } }

/-- The planned length of the backlight frame in units of `now` (R210). -/
def State.blePlanned (s : State) : Nat := (s.run 2).planned * (s.run 2).period

/-- The instant of a frame tick of the backlight frame in progress (R11, R210). -/
def State.bleTick (s : State) (k : Nat) : Nat := (s.run 2).frameStart + (2 * k * s.blePlanned + 4096) / 8192

/-- The tick of the frame in progress at which a window ends; 4,096 or more where it runs on into the next frame (R224). -/
def State.strobeEnd (s : State) (w : BleWindow) : Nat :=
  if w.start < w.stop ∨ w.frame < (s.run 2).frameStart then w.stop else 4096 + w.stop

/-- The chains with a transfer for row r that has started and not latched (R222). -/
def State.rowTransfers (s : State) (r : Nat) : List Nat :=
  upTo 24 fun c => match (s.chain c).running with | some (.words q) => q % 16 == r | _ => false

/-- STROBE_WINDOW_OPEN of a row (R222, R224): the window begins, or waits for the latch of its transfers. -/
def State.strobeOpen (s : State) (r : Nat) : State :=
  let start := s.get (F.BLE_STROBE_START r)
  let stop := s.get (F.BLE_STROBE_STOP r)
  if !s.bleLit || s.bleRows ≤ r || start == stop || !(s.run 2).on || !s.domOn 32 || s.bleStretch then s
  else
    let late := s.rowTransfers r
    let w := s.window r
    let s := s.advanceTo (s.bleTick start)
    let s := if (w.lit || w.waits) && start < s.strobeEnd w then s.setWindow r w true else s
    let s := s.setWindow r ⟨late.isEmpty, !late.isEmpty, start, stop, (s.run 2).frameStart, s.now⟩
    if late.isEmpty then s
    else
      let s := s.count R.BLE_CNT_LATE
      let s := s.each late fun s c => s.count (R.BLE_CHAIN_CNT_LATE c)
      let s := s.raiseIf (!s.ble.lateRaised) 210 3
      { s with ble := { s.ble with lateRaised := true } }

/-- A window of a row, or with `old` the one under an old pair. -/
def State.windowOf (s : State) (r : Nat) (old : Bool) : BleWindow := if old then s.olderWindow r else s.window r

/-- A window ends: one that still waits has no width and is suppressed (R224). -/
def State.windowEnds (s : State) (r : Nat) (old : Bool) : State :=
  let w := s.windowOf r old
  let s := (s.advanceTo (s.bleTick w.stop)).setWindow r {} old
  if w.waits then s.suppressed else s

/-- STROBE_WINDOW_CLOSE of a row (R224): the window that ends first ends. One that runs on into the next frame ends there. -/
def State.strobeClose (s : State) (r : Nat) : State :=
  let open' (old : Bool) : Bool := let w := s.windowOf r old; (w.lit || w.waits) && s.strobeEnd w < 4096
  let old := open' true && !(open' false && s.strobeEnd (s.window r) < s.strobeEnd (s.olderWindow r))
  if s.bleStretch || !open' old then s else s.windowEnds r old

/-- A window that waited begins at the last latch of its row, or is suppressed where less than a tick of it is left. -/
def State.windowBegins (s : State) (r : Nat) (old : Bool) : State :=
  let w := s.windowOf r old
  if !w.waits || !(s.rowTransfers r).isEmpty then s
  else if s.strobeEnd w * s.blePlanned < 4096 * (s.now - (s.run 2).frameStart) + s.blePlanned then (s.setWindow r {} old).suppressed
  else s.setWindow r { w with waits := false, lit := true, litAt := s.now } old

/-- The windows of a row after a latch (R222). -/
def State.windowAfterLatch (s : State) (r : Nat) : State := (s.windowBegins r true).windowBegins r false

/-- Every window closes (R232). -/
def State.closeWindows (s : State) : State := { s with ble := { s.ble with windows := [], older := [], scan := [] } }

/-- A window closes at an early end of the frame (R210); one that has been lit for less than a tick is suppressed (R224). -/
def State.cutWindow (s : State) (at' r : Nat) (old : Bool) : State :=
  let w := s.windowOf r old
  let short := w.waits || (w.lit && decide (4096 * (at' - w.litAt) < s.blePlanned))
  let s := s.setWindow r {} old
  if short then s.suppressed else s

/-- Every window closes at an early end of the frame (R210). -/
def State.cutWindows (s : State) (at' : Nat) : State :=
  let s := s.each (s.ble.older.map (·.1)) fun s r => s.cutWindow at' r true
  s.each (s.ble.windows.map (·.1)) fun s r => s.cutWindow at' r false

/-- `BL_SCANr` follows the open windows: inactive in stretch lines, active again in the next frame (R210, R224). -/
def State.scanFollows (s : State) (dark : Bool) : State :=
  { s with ble := { s.ble with scan := if dark then [] else upTo 16 s.rowLit } }

/-- The backlight goes dark (R232): every `BL_SCANr` inactive, and a transfer of DISABLED words due on every chain. -/
def State.bleDark (s : State) : State := s.closeWindows.allReady

/-! ### Transfers (R213, R214, R219, R221) -/

/-- The gain of a zone and colour by its sensor loop: the lower enabled loop whose area holds the zone (R228). -/
def State.loopOf (s : State) (zx zy : Nat) : Option Nat :=
  (List.range 4).find? fun k => s.flag (F.BLE_LOOP_CFG_EN k)
    && s.get (F.BLE_LOOP_AREA_X0 k) ≤ zx && zx ≤ s.get (F.BLE_LOOP_AREA_X1 k)
    && s.get (F.BLE_LOOP_AREA_Y0 k) ≤ zy && zy ≤ s.get (F.BLE_LOOP_AREA_Y1 k)

/-- A driver's temperature in °C (R216). -/
def State.driverTemp (s : State) (chain d : Nat) : Int :=
  let t := mget 0xFF s.ble.latchedTemp (64 * chain + d)
  (if t = 0xFF then (s.get F.BLE_TCOMP_DEFAULT : Int) else t) - 40

/-- The word of a map entry from a bank (R214). -/
def State.entryWord (s : State) (bank : Nat) (e : MapEntry) : Nat :=
  let zc := max 1 (s.get F.SPL_ZONE_GRID_COLS)
  let (zx, zy) := (e.zone % zc, e.zone / zc)
  let gloop := match s.loopOf zx zy with | some k => mget 0x4000 s.ble.latchedLoop (4 * k + e.colour) | none => 0x4000
  let gt := bleTemp (fun i => tblHalf s.tbl (0x341800 + 0x20 * e.colour + 2 * i)) (signed 8 (s.get F.BLE_TCOMP_BASE))
    (s.get F.BLE_TCOMP_STEP) (s.driverTemp e.chain e.driver)
  let (pwm, i) := bleDrive (t16 (s.zoneLevel bank e.zone e.colour)) (bleMaster s.ble.latchedA) (mget 16384 s.ble.latchedAge zy) gloop
    (fun n => tblHalf s.tbl (0x340000 + 0x800 * e.colour + 2 * n)) gt (s.flag F.BLE_CFG_HYBRID)
    (s.get (F.BLE_COLOUR_PWM_MIN e.colour)) (s.get (F.BLE_COLOUR_ISCALE e.colour))
  let ctl := if s.chanDisabled e || !s.bleLit then 1 else if s.ble.testNext.contains e.key then 2 else 0
  bleWord pwm i ctl

/-- The 49 words of a driver's stage in a transfer of row r (R213, R219). -/
def stageWords (entries : List (MapEntry × Nat)) (control chain d : Nat) : List (BitVec 24) :=
  BitVec.ofNat 24 control :: (List.range 48).map fun ch =>
    match entries.find? fun e => e.1.key == chanKey chain d ch with
    | some e => BitVec.ofNat 24 e.2
    | none => 1

/-- The bits of step 2 of the loop test (Table 9.4). -/
def loopPattern (drivers : Nat) : List Bool := toBits 64 0xC3A55A3C0FF09966 ++ List.replicate (drivers + 8) false

/-- TRANSFER of a chain (R219, R221): the step of a loop test that is due, or the first ready row. -/
def State.transfer (s : State) (c : Nat) : State :=
  let h := s.chain c
  let n := s.get (F.BLE_CHAIN_CFG_DRIVERS c) + 1
  let drivers := (List.range n).reverse
  if !s.domOn 32 || s.chainState c == 0 || h.running.isSome then s
  else if h.testStep = 1 then
    (s.setChain c { h with running := some .bypass, testStep := 2 }).emit
      (.chainWords c (drivers.flatMap fun d => stageWords [] 0x200000 c d))
  else if h.testStep = 2 then
    (s.setChain c { h with running := some .pattern, testStep := 0 }).emit (.chainBits c (loopPattern n))
  else match h.ready with
    | [] => s
    | q :: rest =>
      let r := q % 16
      let bank := if 16 ≤ q then 1 - s.bleBank else s.bleBank
      let es := ((bleEntries s.tbl).filter fun e => e.chain == c && (!s.bleMux || e.row == r)).map fun e => (e, s.entryWord bank e)
      let tested := es.filterMap fun e => if e.2 % 4 = 2 then some e.1.key else none
      let s := s.setChain c { h with
        ready := rest, running := some (.words q), served := if 16 ≤ q then r :: h.served else h.served
        words := es.foldl (fun m e => mset 0 m (4 * e.1.zone + e.1.colour) e.2) [] }
      let s := { s with ble := { s.ble with testNext := s.ble.testNext.filter fun k => !tested.contains k } }
      s.emit (.chainWords c (drivers.flatMap fun d => stageWords es (0x100000 + (if s.bleMux then r else 0) * 65536) c d))

/-- NOP_TRANSFER of a chain in RUN that has made none for 50 ms (R221). -/
def State.nopTransfer (s : State) (c : Nat) : State :=
  let h := s.chain c
  if !s.domOn 32 || s.chainState c != 2 || h.running.isSome || h.testStep != 0 then s
  else
    let drivers := (List.range (s.get (F.BLE_CHAIN_CFG_DRIVERS c) + 1)).reverse
    (s.setChain c { h with running := some .nop }).emit (.chainWords c (drivers.flatMap fun d => stageWords [] 0 c d))

/-! ### Loop tests and status (R225 to R227, Tables 9.4, 9.5) -/

/-- Zone-colours reported dead (R226, R227): R103 acts at the next TG0 boundary. -/
def State.reportDead (s : State) (es : List MapEntry) : State :=
  let s := { s with spl := { s.spl with deadDue := s.spl.deadDue ++ es.map fun e => (e.zone, e.colour) } }
  if es.isEmpty then s else s.count R.BLE_CNT_DEAD es.length

/-- A loop test starts on a chain (Table 9.4). -/
def State.loopTest (s : State) (c : Nat) : State :=
  let h := s.chain c
  (s.setChain c { h with testStep := 1, badStatus := 0, wasBroken := h.wasBroken || s.chainState c == 3 }).put (F.BLE_CHAIN_STATUS_STATE c) 1

/-- The loop test ends with the pattern found after `found` bits, or not at all (steps 4, 4′ and 4″ of Table 9.4). -/
def State.loopResult (s : State) (c : Nat) (found : Option Nat) : State :=
  let h := s.chain c
  let n := s.get (F.BLE_CHAIN_CFG_DRIVERS c) + 1
  let broken (s : State) (cause : Nat) : State :=
    let s := s.setChain c { s.chain c with wasBroken := false }
    let s := (s.put (F.BLE_CHAIN_STATUS_STATE c) 3).putB (F.BLE_CHAIN_STATUS_LOOP_OK c) false
    let s := s.chainCause c cause
    if h.wasBroken then s else s.reportDead ((bleEntries s.tbl).filter fun e => e.chain == c)
  match found with
  | none => broken s 4
  | some f =>
    let s := s.put (F.BLE_CHAIN_STATUS_LEN_FOUND c) (min 63 (f - 1))
    if f = n then
      let s := s.setChain c { h with wasBroken := false, skipMark := true }
      let s := (s.put (F.BLE_CHAIN_STATUS_STATE c) 2).putB (F.BLE_CHAIN_STATUS_LOOP_OK c) true
      let s := if h.wasBroken then s.chainCause c 6 else s
      s.makeReady c (s.chainRows c)
    else broken s 5

/-- A word of a returned status: the stage of driver d stands at index D − 1 − d. -/
def statusWord (status : List (List (BitVec 24))) (n d w : Nat) : Nat := ((status.getD (n - 1 - d) []).getD w 0).toNat

/-- The status shows a flag on a channel (R226). -/
def State.channelFault (s : State) (c d ch : Nat) (short : Bool) : State :=
  let es := (bleEntries s.tbl).filter fun e => e.key == chanKey c d ch
  if es.isEmpty then s.count (R.BLE_CHAIN_CNT_MARK c)
  else if s.ble.disabled.contains (chanKey c d ch) then s
  else
    let s := { s with ble := { s.ble with disabled := s.ble.disabled ++ [chanKey c d ch] } }
    let s := s.setReg (R.BLE_CHAIN_FAULT c) (2 ^ 31 + bit short * 2 ^ 30 + d * 2 ^ 24 + ch)
    let s := s.tally (0x5800 + 0x40 * c + 8 * 3) 1
    (s.chainCause c (if short then 2 else 1)).reportDead es

/-- The status of a transfer in RUN (R225, R226). -/
def State.chainStatus (s : State) (c : Nat) (status : List (List (BitVec 24))) : State :=
  let h := s.chain c
  let n := s.get (F.BLE_CHAIN_CFG_DRIVERS c) + 1
  if s.chainState c != 2 then s
  else if h.skipMark then s.setChain c { h with skipMark := false }
  else
    let w (d i : Nat) : Nat := statusWord status n d i
    let bad := (List.range n).any fun d => bits (w d 0) 23 16 != 0x5A || bitAt (w d 0) 13
    if bad then
      let s := (s.count (R.BLE_CHAIN_CNT_MARK c)).chainCause c 3
      if h.badStatus + 1 = 2 then s.loopTest c else s.setChain c { h with badStatus := h.badStatus + 1 }
    else
      let temps := (List.range n).map fun d => (d, bits (w d 0) 7 0)
      let low := (List.range n).any fun d => bitAt (w d 0) 15 || (List.range 48).any fun ch => bitAt (w d (ch + 1)) 21
      let s := s.setChain c { h with badStatus := 0, lowHead := h.lowHead || low }
      let s := { s with ble := { s.ble with temps := temps.foldl (fun m (t : Nat × Nat) => mset 0xFF m (64 * c + t.1) t.2) s.ble.temps } }
      let known := temps.filter fun t => t.2 != 0xFF
      let s := s.put (F.BLE_CHAIN_STATUS_TEMP_MAX c) (if known.isEmpty then 0xFF else known.foldl (fun m (t : Nat × Nat) => max m t.2) 0)
      let s := if (List.range n).any (fun d => bitAt (w d 0) 14) then s.chainCause c 7 else s
      s.each (List.range n) fun s d => s.each (List.range 48) fun s ch =>
        if bitAt (w d (ch + 1)) 23 then s.channelFault c d ch false
        else if bitAt (w d (ch + 1)) 22 then s.channelFault c d ch true else s

/-- LATCH of a chain (R222, R225): the transfer that runs ends, unless its row's window is in progress. -/
def State.latch (s : State) (c : Nat) (status : List (List (BitVec 24))) (found : Option Nat) : State :=
  let h := s.chain c
  match h.running with
  | none => s
  | some .bypass => s.setChain c { h with running := none }
  | some .pattern => (s.setChain c { h with running := none }).loopResult c found
  | some .nop =>
    ((s.setChain c { h with running := none, swept := true }).tally (0x5800 + 0x40 * c + 8 * 2) 1).chainStatus c status
  | some (.words q) =>
    if s.rowLit (q % 16) then s
    else
      let s := s.setChain c { h with running := none, swept := true, words := [] }
      let s := { s with ble := { s.ble with sent := h.words.foldl (fun m (e : Nat × Nat) => mset 0 m e.1 e.2) s.ble.sent } }
      let s := s.tally (0x5800 + 0x40 * c + 8 * 2) 1
      (s.windowAfterLatch (q % 16)).chainStatus c status

/-- `BLE_CTRL.CLEAR_DEAD` (R226): every disabled channel is enabled again, its first word being TEST. -/
def State.clearDead (s : State) : State :=
  { s with ble := { s.ble with disabled := [], testNext := s.ble.testNext ++ s.ble.disabled.filter fun k => !s.ble.testNext.contains k } }

/-! ### Backlight syncs and frames (R210, R215, R217, R218) -/

/-- The mean drive of a zone row over its valid entries (R217). -/
def State.rowDrive (s : State) (y : Nat) : Rat :=
  let zc := max 1 (s.get F.SPL_ZONE_GRID_COLS)
  let es := (bleEntries s.tbl).filter fun e => e.zone / zc == y
  let sum : Nat := es.foldl (fun a e => let w := mget 0 s.ble.sent (4 * e.zone + e.colour); a + w / 256 * (w / 4 % 64)) 0
  if es.isEmpty then 0 else (sum : Rat) / (65535 * 63 * es.length : Nat)

/-- The drive counters at the end of a backlight frame (R217): its actual duration times each row's mean drive. -/
def State.driveAdd (s : State) (at' : Nat) : State :=
  let dur : Rat := (at' - (s.run 2).frameStart : Nat) / (65536 * 1000000000 : Nat)
  let zc := max 1 (s.get F.SPL_ZONE_GRID_COLS)
  let rows := (bleEntries s.tbl).foldl (fun l e => if l.contains (e.zone / zc) then l else l ++ [e.zone / zc]) []
  s.each rows fun s y => s.driveAddOne y (dur * s.rowDrive y)

/-- A backlight frame ends at an instant (R210); an early end closes every window. -/
def State.bleFrameEnd (s : State) (at' : Nat) (early : Bool) : State :=
  if !s.domOn 32 then s
  else
    let s := s.driveAdd at'
    let s := (if early then s.cutWindows at' else s).scanFollows false
    { s with ble := { s.ble with lateRaised := false, suppressRaised := false } }

/-- The first stretch line of the backlight frame is dark (R210). -/
def State.bleLine (s : State) : State := if s.bleStretch then s.scanFollows true else s

/-- G_age of zone row y, in units of 2^(−14) (R217); 1.0 where the counters wait for their write-back (R413). -/
def State.ageGain (s : State) (y : Nat) : Rat :=
  if s.flag F.BLE_AGE_EN && s.flag F.TAL_LOG_STATUS_DRIVE_LOADED then
    bleAge (fun k => tblHalf s.tbl (0x341900 + 2 * k)) (s.driveSeconds y) (s.get F.BLE_AGE_STEP)
  else 16384

/-- The master attenuation moves (R215). -/
def State.rampStep (s : State) : State :=
  let a := s.reg R.BLE_MASTER_NOW
  let target := s.get F.BLE_MASTER_TARGET
  let a' := bleRamp a target (s.get F.BLE_MASTER_RATE)
  (s.setReg R.BLE_MASTER_NOW a').raiseIf (a != a' && a' == target) 213 0

/-- A backlight sync (R218): `BL_SYNC`, the attenuation, and the latched inputs; a change without a new bank makes every row
ready again. `swapped` says that this sync brought a new bank. -/
def State.bleLatchInputs (s : State) (swapped : Bool) : State :=
  let s := s.rampStep
  let ages := (List.range 128).foldl (fun m y => mset (16384 : Rat) m y (s.ageGain y)) []
  let old := (s.ble.latchedA, s.ble.latchedAge, s.ble.latchedLoop, s.ble.latchedTemp)
  let new := (s.reg R.BLE_MASTER_NOW, ages, s.ble.gains, s.ble.temps)
  let s := { s with ble := { s.ble with
    latchedA := new.1, latchedAge := ages, latchedLoop := new.2.2.1, latchedTemp := new.2.2.2
    syncHigh := s.get F.BLE_SYNC_OUT_WIDTH != 0 } }
  if !swapped && old != new then s.allReady else s

/-- Whether TG2 follows TG0 with a `RATIO` of 2 or more (R120). -/
def State.bleRepeats (s : State) : Bool := s.tgSrc 2 == 3 && s.tgLeader 2 == 0 && 2 ≤ s.tgRatio 2

/-- The nominal frame period of a generator: `VTOTAL` nominal line periods; of a follower that derives its line period, its leader's
by `RATIO` (R120, R180, DEDUCED, assumption log 127). The first operand bounds the chain of leaders. -/
def Snap.nominalFrame (p : Snap) : Nat → Nat → Nat
  | 0, n => p.get (F.TG_RASTER0_VTOTAL n) * p.tnom n
  | k + 1, n =>
    if p.get (F.TG_CFG_LOCK_SRC n) = 3 ∧ p.flag (F.TG_LOCK_DERIVE n) then
      p.nominalFrame k (p.get (F.TG_CFG_LEADER n)) / max 1 (p.get (F.TG_LOCK_RATIO n))
    else p.get (F.TG_RASTER0_VTOTAL n) * p.tnom n

/-- Whether a sync is a swap sync (R120): `restart` where TG2's frame restarted at it. -/
def State.swapSync (s : State) (restart : Bool) : Bool :=
  if s.bleRepeats then restart
  else if s.snapshot.nominalFrame 3 0 ≤ s.snapshot.nominalFrame 3 2 then true
  else s.spl.swap.bankDone

/-- A backlight sync with its bank swap (R119, R120, R212, R218). -/
def State.bleSync (s : State) (restart : Bool) : State :=
  if !s.domOn 32 then s
  else if s.flag F.BLE_CFG_SOURCE then
    if s.flag F.BLE_STATUS_SWAP_PENDING then s.bankSwap.bleLatchInputs true else s.bleLatchInputs false
  else if !s.swapSync restart then s.bleLatchInputs false
  else if s.spl.swap.bankDone then s.bankSwap.bleLatchInputs true
  else
    let s := ({ s with spl := { s.spl with swap := { s.spl.swap with deferred := true } } }).raise 90 0
    (s.count R.SPL_CNT_BL_SWAP).bleLatchInputs false

/-- Whether a natural frame boundary of TG2 is a backlight sync (Table 9.1, R211): with lock source TG only the m − 1 that R120 counts
between two restarts (DEDUCED, assumption log 126). -/
def State.boundarySyncs (s : State) : Bool :=
  if s.get F.BLE_SYNC_SRC = 1 then !s.flag F.BLE_STATUS_SYNC_IN_OK else s.tgSrc 2 != 3 || s.bleRepeats

/-! ### Sensor loops (R228 to R230) -/

/-- Loop k. -/
def State.loop (s : State) (k : Nat) : BleLoop := mget ({} : BleLoop) s.ble.loops k

/-- The state with loop k changed. -/
def State.setLoop (s : State) (k : Nat) (v : BleLoop) : State :=
  { s with ble := { s.ble with loops := mset ({} : BleLoop) s.ble.loops k v } }

/-- A loop's window and output count are cleared (R229). -/
def State.loopClear (s : State) (k : Nat) : State :=
  let s := s.setLoop k { s.loop k with samples := [], count := 0 }
  (s.put (F.BLE_LOOP_STATUS_STATE k) 1).put (F.BLE_LOOP_STATUS_OUTPUTS k) 0

/-- The expected counts ε of loop k (R228). -/
def State.loopExpected (s : State) (k : Nat) : List Rat :=
  let zc := s.get F.SPL_ZONE_GRID_COLS
  let zones := (List.range (zc * s.get F.SPL_ZONE_GRID_ROWS)).filter fun z => s.loopOf (z % zc) (z / zc) == some k
  let gm := bleMaster s.ble.latchedA
  [0, 1, 2].map fun c =>
    let sum : Nat := zones.foldl (fun a z => a + t16 (s.zoneLevel s.bleBank z c) * gm) 0
    let mean : Rat := (sum : Rat) / (65536 * max 1 zones.length : Nat)
    let ref := s.get (if c = 0 then F.BLE_LOOP_REF0_REF_R k else if c = 1 then F.BLE_LOOP_REF0_REF_G k else F.BLE_LOOP_REF1_REF_B k)
    ref * mean / 65536

/-- SENSOR_READ of loop k (R228): the read starts and the expected counts are formed. -/
def State.sensorRead (s : State) (k : Nat) : State :=
  if !s.domOn 32 || !s.flag (F.BLE_LOOP_CFG_EN k) || (s.loop k).reading.isSome then s
  else
    let s := s.setLoop k { s.loop k with reading := some (s.loopExpected k) }
    s.emit (.sensorBus (s.get (F.BLE_LOOP_CFG_ADDR k)) [BitVec.ofNat 8 (s.get (F.BLE_LOOP_CFG_REG k))] 6)

/-- The sensor write of `BLE_SNS_CMD` goes out. -/
def State.snsSend (s : State) : State :=
  ({ s with ble := { s.ble with snsWaits := false } }).emit
    (.sensorBus (s.get F.BLE_SNS_CMD_ADDR) [BitVec.ofNat 8 (s.get F.BLE_SNS_CMD_REG), BitVec.ofNat 8 (s.get F.BLE_SNS_CMD_DATA)] 0)

/-- A decimated output of loop k (R229). -/
def State.loopOutput (s : State) (k : Nat) : State :=
  let outs := min 0xFFFF (s.get (F.BLE_LOOP_STATUS_OUTPUTS k) + 1)
  let s := s.put (F.BLE_LOOP_STATUS_OUTPUTS k) outs
  if outs < 4 then s
  else
    let s := s.put (F.BLE_LOOP_STATUS_STATE k) 2
    let smp := (s.loop k).samples
    let step (st : SMap Nat × Bool) (c : Nat) : SMap Nat × Bool :=
      let m : Nat := smp.foldl (fun a x => a + x.m.getD c 0) 0
      let e : Rat := smp.foldl (fun a x => a + x.e.getD c 0) 0
      if m = 0 then st
      else
        let (g, cl) := bleGain (mget 0x4000 st.1 (4 * k + c)) (s.get (F.BLE_LOOP_REF1_K k)) m e
          (s.get F.BLE_LOOP_LIMITS_GMIN) (s.get F.BLE_LOOP_LIMITS_GMAX)
        (mset 0x4000 st.1 (4 * k + c) g, st.2 || cl)
    let (gains, clamped) := [0, 1, 2].foldl step (s.ble.gains, false)
    ({ s with ble := { s.ble with gains := gains } }).raiseIf clamped 218 0

/-- SENSOR_READ_DONE of loop k (R228 to R230): the six bytes of a good read, or a NACK. -/
def State.sensorDone (s : State) (k : Nat) (counts : Option (List Byte)) : State :=
  match (s.loop k).reading with
  | none => s
  | some e =>
    let s := s.setLoop k { s.loop k with reading := none }
    let s := match counts with
      | none =>
        let fails := min 4 ((s.loop k).fails + 1)
        let s := ((s.setLoop k { s.loop k with fails := fails }).count R.BLE_CNT_SNS_ERR).tally (0x6400 + 0x40 * k + 8) 1
        if fails = 4 ∧ s.get (F.BLE_LOOP_STATUS_STATE k) ≠ 3 then (s.put (F.BLE_LOOP_STATUS_STATE k) 3).raise 217 2 else s
      | some bs =>
        let s := s.tally (0x6400 + 0x40 * k) 1
        let s := s.setLoop k { s.loop k with fails := 0 }
        if s.get (F.BLE_LOOP_STATUS_STATE k) = 3 then s.loopClear k
        else
          let word (i : Nat) : Nat := let b := slice bs (2 * i) 2; if s.flag (F.BLE_LOOP_CFG_LE k) then leNat b else beNat b
          let l := s.loop k
          let s := s.setLoop k { l with samples := (⟨[word 0, word 1, word 2], e⟩ :: l.samples).take 8, count := l.count + 1 }
          if (l.count + 1) % 2 = 0 then s.loopOutput k else s
    if s.ble.snsWaits && (List.range 4).all (fun j => (s.loop j).reading.isNone) then s.snsSend else s

/-- `BLE_SNS_CMD` is written (R230). While a write runs the register keeps its value; while `BLE` is not ON none starts (R448). -/
def State.snsCmd (s : State) (v : Nat) : State :=
  if s.flag F.BLE_SNS_CMD_GO then s
  else
    let go := bitAt v 31 && s.domOn 32
    let s := s.setReg R.BLE_SNS_CMD (bit go * 2 ^ 31 + bits v 30 8 * 256 + s.get F.BLE_SNS_CMD_RESULT)
    if !go then s
    else if (List.range 4).any fun j => (s.loop j).reading.isSome then { s with ble := { s.ble with snsWaits := true } }
    else s.snsSend

/-- BLE_SNS_DONE (R230). -/
def State.snsDone (s : State) (nack : Bool) : State :=
  if !s.flag F.BLE_SNS_CMD_GO || s.ble.snsWaits then s
  else ((s.putB F.BLE_SNS_CMD_GO false).put F.BLE_SNS_CMD_RESULT (bit nack)).raise 219 0

/-- A synchronising reset clears the windows of the loops (R229). -/
def State.bleSyncReset (s : State) : State :=
  if !s.domOn 32 then s
  else s.each (upTo 4 fun k => s.flag (F.BLE_LOOP_CFG_EN k)) fun s k => ((s.loopClear k).count R.BLE_CNT_SETTLE).raise 216 0

/-! ### Adaptive VLED (R231) -/

/-- The `VOUT_COMMAND` code of a voltage in mV (R231, R359): round(V × 2^(−EXP) / 1,000), EXP a signed 5-bit field. -/
def voutCode (mv exp : Nat) : Nat :=
  let e := signed 5 exp
  if e < 0 then divRound (mv * 2 ^ (-e).toNat) 1000 else divRound mv (1000 * 2 ^ e.toNat)

/-- The part commands V to the regulator (R231). -/
def State.vledWrite (s : State) (mv : Nat) : State :=
  s.emit (.pmbus (s.get F.BLE_VLED_CFG_ADDR) (voutCode mv (s.get F.BLE_VLED_CFG_EXP)) (s.flag F.BLE_VLED_CFG_PEC))

/-- Voltage control starts at V = `MAX` (R231). -/
def State.vledStart (s : State) : State :=
  let hi := s.get F.BLE_VLED_LIMITS_MAX
  (s.put F.BLE_VLED_NOW_MV hi).vledWrite hi

/-- VLED_EVALUATION (R231): `ack` is how the regulator answers a write. -/
def State.vledEval (s : State) (ack : Bool) : State :=
  let chains := upTo 24 fun c => s.chainState c == 2
  if !s.domOn 32 || !s.flag F.BLE_VLED_CFG_EN || !chains.all (fun c => (s.chain c).swept) then s
  else
    let v := s.get F.BLE_VLED_NOW_MV
    let hi := s.get F.BLE_VLED_LIMITS_MAX
    let low := chains.any fun c => (s.chain c).lowHead
    let v' := if low then min hi (v + 50) else max (s.get F.BLE_VLED_LIMITS_MIN) (v - 25)
    let s := s.each (List.range 24) fun s c => s.setChain c { s.chain c with swept := false, lowHead := false }
    let s := s.raiseIf (low && v == hi) 215 3
    if v' = v then s
    else
      let s := s.vledWrite v'
      if ack then
        let s := { s with ble := { s.ble with vledFails := 0 } }
        (s.put F.BLE_VLED_NOW_MV v').count (if v < v' then R.BLE_CNT_VLED_UP else R.BLE_CNT_VLED_DOWN)
      else
        let f := min 3 (s.ble.vledFails + 1)
        let s := { s with ble := { s.ble with vledFails := f } }
        if f = 3 ∧ !s.flag F.BLE_VLED_NOW_FAULT then (s.putB F.BLE_VLED_NOW_FAULT true).raise 214 2 else s

/-! ### Commits (R234) -/

/-- Whether the windows of two rows overlap (R223), each a start and a width in ticks of a circle of 4,096. -/
def ticksOverlap (s1 w1 s2 w2 : Nat) : Bool :=
  0 < w1 && 0 < w2 && ((s2 + 4096 - s1) % 4096 < w1 || (s1 + 4096 - s2) % 4096 < w2)

/-- TG2's planned frame length with a set of registers (R210): the line period of a follower that derives it is its leader's by
`RATIO` (R180). -/
def State.bleLength (s : State) (p : Snap) : Nat :=
  let l := s.run (p.get (F.TG_CFG_LEADER 2))
  let vt := p.get (F.TG_RASTER0_VTOTAL 2)
  if p.get (F.TG_CFG_LOCK_SRC 2) = 3 ∧ p.flag (F.TG_LOCK_DERIVE 2) ∧ l.on then
    vt * divRound (l.period * l.vtotal) (p.get (F.TG_LOCK_RATIO 2) * vt)
  else vt * p.tnom 2

/-- The first failed check of Table 9.8, for a planned frame length. -/
def Snap.bleReject (p : Snap) (frame : Nat) : Nat :=
  let mux := p.flag F.BLE_SCAN_MUX
  let rows := p.get F.BLE_SCAN_ROWS + 1
  let chains := upTo 24 fun c => p.flag (F.BLE_CHAIN_CFG_EN c)
  let start (r : Nat) := p.get (F.BLE_STROBE_START r)
  let width (r : Nat) := (p.get (F.BLE_STROBE_STOP r) + 4096 - start r) % 4096
  let es := bleEntries p.tbl
  let zones := p.get F.SPL_ZONE_GRID_COLS * p.get F.SPL_ZONE_GRID_ROWS
  let row (c : Nat) := p.get (F.BLE_CHAIN_CFG_ROW c)
  let badEntry (e : MapEntry) : Bool :=
    !chains.contains e.chain || p.get (F.BLE_CHAIN_CFG_DRIVERS e.chain) < e.driver || rows ≤ e.row || zones ≤ e.zone || 48 ≤ e.channel
      || (!mux && e.row != row e.chain)
      || 1 < (es.filter fun f => f.key == e.key && (!mux || f.row == e.row)).length
  if (if mux then (List.range rows).any (fun a => (List.range a).any fun b => ticksOverlap (start a) (width a) (start b) (width b))
      else chains.any fun c => rows ≤ row c) then 1
  else if es.any badEntry then 2
  else if chains.any (fun c => frame < (if mux then rows else 1) * 65536
      * bleTransferNs (p.get (F.BLE_CHAIN_CFG_DRIVERS c) + 1) (p.get (F.BLE_CHAIN_CFG_CLKDIV c))) then 3
  else if p.flag F.BLE_VLED_CFG_EN && (p.get F.BLE_VLED_LIMITS_MIN == 0 || p.get F.BLE_VLED_LIMITS_MAX < p.get F.BLE_VLED_LIMITS_MIN
      || 0xFFFF < voutCode (p.get F.BLE_VLED_LIMITS_MAX) (p.get F.BLE_VLED_CFG_EXP)) then 4
  else if (List.range 4).any (fun k => p.get (F.BLE_LOOP_AREA_X1 k) < p.get (F.BLE_LOOP_AREA_X0 k)
      || p.get (F.BLE_LOOP_AREA_Y1 k) < p.get (F.BLE_LOOP_AREA_Y0 k)
      || p.get F.SPL_ZONE_GRID_COLS ≤ p.get (F.BLE_LOOP_AREA_X1 k) || p.get F.SPL_ZONE_GRID_ROWS ≤ p.get (F.BLE_LOOP_AREA_Y1 k)) then 5
  else 0

/-- A chain's commit: `EN` from 0 to 1 starts its bring-up (Table 9.4), from 1 to 0 switches it off. -/
def State.chainCommit (s : State) (was now' : Bool) (c : Nat) : State :=
  if was == now' then s
  else if now' then (s.setChain c { testStep := 1 }).put (F.BLE_CHAIN_STATUS_STATE c) 1
  else (s.setChain c {}).put (F.BLE_CHAIN_STATUS_STATE c) 0

/-- What a commit of the `BLE` registers does beside setting them (R215, R229, R231, R232). -/
def State.bleCommitted (s was : State) : State :=
  let en (t : State) := t.flag F.BLE_CFG_EN
  let s := if en s && !en was then { s.setReg R.BLE_MASTER_NOW 4096 with tg := { s.tg with dark := false } }
    else if en was && !en s then s.bleDark else s
  let s := s.each (List.range 24) fun s c => s.chainCommit (was.flag (F.BLE_CHAIN_CFG_EN c)) (s.flag (F.BLE_CHAIN_CFG_EN c)) c
  let s := s.each (List.range 4) fun s k =>
    let (a, b) := (was.flag (F.BLE_LOOP_CFG_EN k), s.flag (F.BLE_LOOP_CFG_EN k))
    if b && !a then s.loopClear k else if a && !b then (s.setLoop k {}).setReg (R.BLE_LOOP_STATUS k) 0 else s
  if s.flag F.BLE_VLED_CFG_EN && !was.flag F.BLE_VLED_CFG_EN then s.vledStart else s

/-- The commit of `BLE` (R233, R234). -/
def State.bleCommit (s : State) : State :=
  if !s.anyWaiting 9 then s
  else
    let p := s.after (inEngine 9) 9
    let why := p.bleReject (s.bleLength p)
    if why ≠ 0 then ((s.putB F.BLE_STATUS_REJECTED true).put F.BLE_STATUS_REJECT_REASON why).raise 209 0
    else
      let was := s
      let tables := !(s.waitingTbl 9).isEmpty
      let s := (s.applyRegs (inEngine 9)).applyTbl 9
      let s := (s.putB F.BLE_STATUS_REJECTED false).put F.BLE_STATUS_REJECT_REASON 0
      (s.raiseIf tables 208 0).bleCommitted was

/-! ### The commands -/

/-- The inactive bank takes a window write while the host is its writer (R212). -/
def State.zoneStoreWrite (s : State) (addr value : Nat) : State :=
  let o := addr - 0x380000
  if !s.flag F.BLE_CFG_SOURCE || addr < 0x380000 || 0x3C0000 ≤ addr || o % 16 = 12 || !s.domOn 32 then s
  else s.writeLevel (o / 16) (o % 16 / 4) value

/-- `BLE_CTRL.SWAP` (R212). -/
def State.bleSwap (s : State) : State := if s.flag F.BLE_CFG_SOURCE && s.domOn 32 then s.putB F.BLE_STATUS_SWAP_PENDING true else s

/-- `BLE_CTRL.LOOP_TEST` (Table 9.11): the loop test on every enabled chain. -/
def State.loopTestAll (s : State) : State := s.each (upTo 24 fun c => s.chainState c != 0) fun s c => s.loopTest c

/-- LOOP_TEST_REPEAT (R227). -/
def State.loopTestRepeat (s : State) (c : Nat) : State := if s.chainState c == 3 then s.loopTest c else s

/-- A write of drive counter H_y takes effect at once (R217). -/
def State.driveWrite (s : State) (y v : Nat) : State :=
  if !s.domOn 32 then s else (s.driveSet (mset (0 : Rat) s.ble.drive y v)).tallyDrives

/-- TRANSFER (R219). -/
def execTransfer (chain : Nat) (s : State) : Host.Outcome State Fault Refusal := checked (.transfer chain) s fun s => s.transfer chain

/-- LATCH (R222). -/
def execLatch (chain : Nat) (status : List (List (BitVec 24))) (found : Option Nat) (s : State) : Host.Outcome State Fault Refusal :=
  checked (.latch chain status found) s fun s => s.latch chain status found

/-- NOP_TRANSFER (R221). -/
def execNopTransfer (chain : Nat) (s : State) : Host.Outcome State Fault Refusal := checked (.nopTransfer chain) s fun s => s.nopTransfer chain

/-- LOOP_TEST_REPEAT (R227). -/
def execLoopTestRepeat (chain : Nat) (s : State) : Host.Outcome State Fault Refusal :=
  checked (.loopTestRepeat chain) s fun s => s.loopTestRepeat chain

/-- STROBE_WINDOW_OPEN (R224). -/
def execStrobeWindowOpen (row : Nat) (s : State) : Host.Outcome State Fault Refusal := checked (.strobeWindowOpen row) s fun s => s.strobeOpen row

/-- STROBE_WINDOW_CLOSE (R224). -/
def execStrobeWindowClose (row : Nat) (s : State) : Host.Outcome State Fault Refusal :=
  checked (.strobeWindowClose row) s fun s => s.strobeClose row

/-- SENSOR_READ (R228). -/
def execSensorRead (k : Nat) (s : State) : Host.Outcome State Fault Refusal := checked (.sensorRead k) s fun s => s.sensorRead k

/-- SENSOR_READ_DONE (R229). -/
def execSensorReadDone (k : Nat) (counts : Option (List Byte)) (s : State) : Host.Outcome State Fault Refusal :=
  checked (.sensorReadDone k counts) s fun s => s.sensorDone k counts

/-- BLE_SNS_DONE (R230). -/
def execBleSnsDone (nack : Bool) (s : State) : Host.Outcome State Fault Refusal := checked (.bleSnsDone nack) s fun s => s.snsDone nack

/-- VLED_EVALUATION (R231). -/
def execVledEvaluation (ack : Bool) (s : State) : Host.Outcome State Fault Refusal := checked (.vledEvaluation ack) s fun s => s.vledEval ack

/-- BL_SYNC_PULSE_END (R210): `BL_SYNC` goes low `OUT_WIDTH` µs after the sync. -/
def execBlSyncPulseEnd (s : State) : Host.Outcome State Fault Refusal :=
  checked .blSyncPulseEnd s fun s => { s with ble := { s.ble with syncHigh := false } }

/-- No `BL_SYNC` edge has been accepted for two nominal frame periods (R211). -/
def State.syncInLost (s : State) : State :=
  if s.get F.BLE_SYNC_SRC = 1 ∧ s.flag F.BLE_STATUS_SYNC_IN_OK ∧ s.domOn 32 then
    (({ s with ble := { s.ble with syncLast := none } }).putB F.BLE_STATUS_SYNC_IN_OK false).raise 212 0
  else s

/-- BLE_SYNC_IN_LOST (R211): no edge accepted for two nominal frame periods. -/
def execBleSyncInLost (s : State) : Host.Outcome State Fault Refusal := checked .bleSyncInLost s State.syncInLost

end Sys2Proof.Machine
end

