-- ==== Sys2Proof/Machine/PcmMath.lean ====
section
/-! DEFINITION. The arithmetic of panel compensation (R130 to R141), from lists and parameters alone. -/

namespace Sys2Proof.Machine

/-- A line-list entry (Table 5.1). -/
structure LineEntry where
  auto : Bool
  rear : Bool
  colour : Nat
  kind : Nat
  index : Nat
  paramA : Nat
  paramB : Nat
  deriving DecidableEq, Repr

/-- The two words of a line-list entry (R130). -/
def LineEntry.ofWords (w0 w1 : Nat) : LineEntry :=
  ⟨bitAt w0 31, bitAt w0 30, bits w0 29 28, bits w0 27 26, bits w0 12 0, bits w1 31 16, bits w1 15 0⟩

/-- A subpixel-list entry (Table 5.3). -/
structure SubEntry where
  sub : Nat
  y : Nat
  x : Nat
  param : Nat
  kind : Nat
  deriving DecidableEq, Repr

/-- The two words of a subpixel-list entry (R131). -/
def SubEntry.ofWords (w0 w1 : Nat) : SubEntry :=
  ⟨bits w0 31 30, bits w0 29 16, bits w0 13 0, bits w1 31 16, bits w1 2 0⟩

/-- The key that orders the subpixel list (R131). -/
def SubEntry.key (e : SubEntry) : Nat := (e.y * 16384 + e.x) * 4 + e.sub

/-- What stage A works with: the lists, the geometry, and the parameters (R132 to R135). -/
structure PcmLists where
  cols : List LineEntry
  rows : List LineEntry
  subs : List SubEntry
  geom : SplGeom
  maskOn : Bool
  kmin : Nat
  ring : Nat
  rearOn : Bool
  deriving DecidableEq, Repr

/-- The entry of a front subpixel or (sub 3) of a rear pixel, if it has one. -/
def PcmLists.own (l : PcmLists) (sub x y : Nat) : Option SubEntry :=
  l.subs.find? fun e => e.sub == sub && e.x == x && e.y == y && 1 ≤ e.kind && e.kind ≤ 3

/-- The DEAD column entry of a layer, colour and index. -/
def PcmLists.deadCol (l : PcmLists) (rear : Bool) (colour x : Nat) : Option LineEntry :=
  l.cols.find? fun e => e.kind == 1 && e.rear == rear && e.colour == colour && e.index == x

/-- The DEAD row entry of a layer and index. -/
def PcmLists.deadRow (l : PcmLists) (rear : Bool) (y : Nat) : Option LineEntry :=
  l.rows.find? fun e => e.kind == 1 && e.rear == rear && e.index == y

/-- The mask factor k(r) of a rear pixel in 0.16, 65,536 for 1 (R132), from the split's T_c of the stuck subpixels. -/
def PcmLists.mask (l : PcmLists) (tc : Nat → Nat → Nat → Nat) (xr yr : Nat) : Option Rat :=
  let es := l.subs.filter fun e => e.kind == 1 && e.sub < 3 && l.geom.rearX e.x == xr && l.geom.rearY e.y == yr
  let f (e : SubEntry) : Rat := if e.param = 0 then 1 else min 1 (t16Val (tc e.sub e.x e.y) / t16Val e.param)
  if es.isEmpty || !l.maskOn then none
  else
    let k := max (t16Val l.kmin) (es.foldl (fun m e => min m (f e)) 1)
    if k < 1 then some k else none

/-- Unit steps along one axis, kept inside 0 to n − 1. -/
def stepIn (n a : Nat) (d : Int) : Option Nat :=
  let v := (a : Int) + d
  if 0 ≤ v ∧ v < n then some v.toNat else none

/-- A neighbour of (x, y) inside a w × h layer. -/
def neighbour (w h x y : Nat) (dx dy : Int) : Option (Nat × Nat) :=
  match stepIn w x dx, stepIn h y dy with
  | some x', some y' => some (x', y')
  | _, _ => none

/-- The four edge neighbours' offsets. -/
def edgeOffsets : List (Int × Int) := [(-1, 0), (1, 0), (0, -1), (0, 1)]

/-- The eight neighbours' offsets. -/
def ringOffsets : List (Int × Int) := edgeOffsets ++ [(-1, -1), (1, -1), (-1, 1), (1, 1)]

/-- Q(r) as an integer to 65,536 and D(r) as a 0.16 code of a rear pixel (R132), and whether D is above 1.0. A neighbour counts as a
masked rear pixel wherever masking applies to it, also where its own entry or a DEAD line decides its case (DEDUCED, assumption log 110).
The code 0xFFFF of a share, of `RING` or of `KMIN` is exactly 1.0 as that of a transmittance is (DESIGN CHOICE, assumption log 153). -/
def PcmLists.rearQD (l : PcmLists) (tc : Nat → Nat → Nat → Nat) (tr : Nat → Nat → Nat) (xr yr : Nat) : Nat × Nat × Bool :=
  let t : Rat := t16 (tr xr yr)
  let dOf (v : Rat) : Nat := t16Of (roundUp v)
  let qOf (v : Rat) : Nat := (clampInt 0 65536 (roundUp v)).toNat
  match l.own 3 xr yr with
  | some e =>
    if e.kind = 1 then (t16 e.param, tr xr yr, false)
    else if e.kind = 2 then (0, tr xr yr, false)
    else (qOf t, dOf (t * e.param / 16384), 65536 < t * e.param / 16384)
  | none =>
    if (l.deadCol true 0 xr).isSome || (l.deadRow true yr).isSome then (0, tr xr yr, false)
    else match l.mask tc xr yr with
      | some k => (qOf (t * k), dOf (t * k), false)
      | none =>
        let at' (o : Int × Int) := neighbour l.geom.wr l.geom.hr xr yr o.1 o.2
        let ringF : Rat := ringOffsets.foldl (fun f o => match at' o with
          | some (a, b) => if (l.mask tc a b).isSome then f * (1 + t16Val l.ring) else f
          | none => f) 1
        let darkF : Rat := edgeOffsets.foldl (fun f o => match at' o with
          | some (a, b) => match l.own 3 a b with
            | some e => if e.kind = 2 then f * (1 + t16Val e.param) else f
            | none => f
          | none => f) 1
        let lineF : Rat := edgeOffsets.foldl (fun f o => match at' o with
          | some (a, b) =>
            match (if o.2 = 0 then l.deadCol true 0 a else l.deadRow true b) with
            | some e => f * (1 + t16Val e.paramB)
            | none => f
          | none => f) 1
        let v := t * ringF * darkF * lineF
        (qOf v, dOf v, 65536 < v)

/-- The product of (1 + s) over the front sources that touch a front subpixel (R134). -/
def PcmLists.frontShare (l : PcmLists) (c x y : Nat) : Rat :=
  let at' (o : Int × Int) := neighbour l.geom.w l.geom.h x y o.1 o.2
  let line (o : Int × Int) (a b : Nat) := if o.2 = 0 then l.deadCol false c a else l.deadRow false b
  edgeOffsets.foldl (fun f o => match at' o with
    | some (a, b) =>
      let f := match l.own c a b with
        | some e => if e.kind = 2 then f * (1 + t16Val e.param) else f
        | none => f
      match line o a b with
      | some e => f * (1 + t16Val e.paramB)
      | none => f
    | none => f) 1

/-- T_c′ of a front subpixel and whether it clips (R134), from T_c, T_eff and T_eff′. -/
def PcmLists.frontT (l : PcmLists) (c x y tc teff teff' : Nat) : Nat × Bool :=
  let own := l.own c x y
  if own.any (fun e => e.kind = 1 ∨ e.kind = 2) || (l.deadCol false c x).isSome || (l.deadRow false y).isSome then (tc, false)
  else
    let g : Rat := match own with
      | some e => if e.kind = 3 then (e.param : Rat) / 16384 else 1
      | none => 1
    if teff' = 0 then (if tc = 0 then (0, false) else (0xFFFF, true))
    else
      let v := (t16 tc : Rat) * ((teff : Rat) / teff') * l.frontShare c x y * g
      (t16Of (roundUp v), 65536 < v)

/-- The mura offset o(c) of an element with knots ks and offsets os (R137). -/
def muraOffset (ks : List Nat) (os : List Int) (c : Nat) : Rat :=
  let k (i : Nat) := ks.getD i 0
  let o (i : Nat) : Int := os.getD i 0
  let seg (i : Nat) : Rat := o i + ((o (i + 1) - o i : Int) : Rat) * (((c : Int) - k i : Int) : Rat) / (((k (i + 1) : Int) - k i : Int) : Rat)
  if c ≤ k 0 then o 0 else if k 3 ≤ c then o 3
  else if c < k 1 then seg 0 else if c < k 2 then seg 1 else seg 2

/-- The gain of an element from the four nodes about it (R138). -/
def gainAt (node : Nat → Nat → Nat) (x y : Nat) : Rat :=
  let (i, j, a, b) := (x / 16, y / 16, x % 16, y % 16)
  ((((16 - a) * (16 - b) * node i j + a * (16 - b) * node (i + 1) j + (16 - a) * b * node i (j + 1)
    + a * b * node (i + 1) (j + 1) : Nat) : Rat)) / (256 * 16384)

/-- A GAIN_OFFSET entry on a code (Table 5.2). -/
def LineEntry.apply (e : LineEntry) (v : Rat) : Rat := v * e.paramA / 16384 + signed 16 e.paramB

/-- Stage B of an element (R139): the output code, and whether it saturated. `nbits` is N of the layer's drivers and `d` the
unit's D; `mura` and `gain` are given where the plane enables them. -/
def stageBCode (l : PcmLists) (rear : Bool) (colour x y c nbits d : Nat) (mura gain : Option Rat) : Nat × Bool :=
  match l.deadCol rear colour x with
  | some e => (e.paramA, false)
  | none => match l.deadRow rear y with
    | some e => (e.paramA, false)
    | none =>
      let v : Rat := c
      let v := match mura with
        | some o => v + o * (2 ^ (16 - nbits) : Nat) / d
        | none => v
      let v := match gain with
        | some g => v * g
        | none => v
      let v := match l.cols.find? (fun e => e.kind == 2 && e.rear == rear && e.colour == colour && e.index == x) with
        | some e => e.apply v
        | none => v
      let v := match l.rows.find? (fun e => e.kind == 2 && e.rear == rear && e.index == y) with
        | some e => e.apply v
        | none => v
      let r := roundAway v
      ((clampInt 0 0xFFFF r).toNat, r < 0 ∨ 0xFFFF < r)

/-- The non-empty subpixel entries are a block in ascending order of their keys (R131, check 5 of Table 5.7). -/
def subsOrdered : List SubEntry → Bool
  | [] => true
  | e :: es =>
    (if e.kind = 0 then es.all (fun f => f.kind == 0)
     else match es with
       | f :: _ => f.kind = 0 || e.key < f.key
       | [] => true) && subsOrdered es

/-- At most 64 non-empty entries name one row of a layer (R131, check 6). -/
def subsPerRow (subs : List SubEntry) : Bool :=
  let es := subs.filter fun e => e.kind != 0
  es.all fun e => (es.filter fun f => f.y == e.y && (f.sub == 3) == (e.sub == 3)).length ≤ 64

/-- Checks 4 of Table 5.7 on the line list. -/
def linesValid (cols rows : List LineEntry) (g : SplGeom) : Bool :=
  let live (es : List LineEntry) := es.filter fun e => e.kind != 0
  let once (es : List LineEntry) := (live es).all fun e =>
    ((live es).filter fun f => f.rear == e.rear && f.colour == e.colour && f.index == e.index).length == 1
  (live cols).all (fun e => e.kind != 3 && e.colour != 3 && (!e.rear || e.colour == 0) && e.index < (if e.rear then g.wr else g.w))
    && (live rows).all (fun e => e.kind != 3 && e.colour == 0 && e.index < (if e.rear then g.hr else g.h))
    && once cols && once rows

/-- Check 5 of Table 5.7: kinds, coordinates and order of the subpixel list. -/
def subsValid (subs : List SubEntry) (g : SplGeom) : Bool :=
  subs.all (fun e => e.kind = 0 || (e.kind ≤ 3 && (if e.sub = 3 then e.x < g.wr && e.y < g.hr else e.x < g.w && e.y < g.h)))
    && subsOrdered subs

end Sys2Proof.Machine
end

