-- ==== Sys2Proof/Machine/Split.lean ====
section
/-! DEFINITION. The split (chapter 4): the commands FE_PIXEL, ZONE_ROW_DECIDED and SPLIT_PIXEL, the synchronising reset, and
the commit of `SPL`. -/

namespace Sys2Proof.Machine

/-! ### Parameters -/

/-- The backlight mode of a frame: 0 LOCAL, 1 GLOBAL, 2 FIXED (Table 4.10); an invalid raster makes it FIXED (R99). -/
def Snap.splMode (p : Snap) (bad : Bool) : Nat := if bad then 2 else p.get F.SPL_CFG_BL_MODE

/-- The mode of the frame in the zone processor: that of the moment at which it began (R99, R125). -/
def State.splMode (s : State) (p : Snap) : Nat := p.splMode s.spl.zoneFixed

/-- The gain code of a zone and colour (Table 4.2). -/
def Snap.zoneGain (p : Snap) (z c : Nat) : Nat := tblHalf p.tbl (0x220000 + 8 * z + 2 * c)

/-- PSF kernel entry q (Table 4.2). -/
def Snap.psf (p : Snap) (q : Nat) : Nat := tblHalf p.tbl (0x210000 + 2 * q)

/-- Entry n of the rear curve (R111). -/
def Snap.rearCurve (p : Snap) (n : Nat) : Nat := splRear (p.get F.SPL_REAR_BETA) n

/-- The peak P_c of a colour. -/
def Snap.peak (p : Snap) (c : Nat) : Nat :=
  match c with
  | 0 => p.get F.SPL_PEAK0_PEAK_R
  | 1 => p.get F.SPL_PEAK0_PEAK_G
  | _ => p.get F.SPL_PEAK1_PEAK_B

/-- A component of a triple. -/
def Rgb.comp (v : Rgb) (c : Nat) : Nat := match c with | 0 => v.r | 1 => v.g | _ => v.b

/-- A triple from its components. -/
def Rgb.of (f : Nat → Nat) : Rgb := ⟨f 0, f 1, f 2⟩

/-- The luminance of a triple of WL16 values by the panel weights (R96, R109). -/
def Snap.luminance (p : Snap) (v : Rgb) : Nat := splLum (p.get F.FE_PANEL_Y0_WR) (p.get F.FE_PANEL_Y0_WG) (p.get F.FE_PANEL_Y1_WB) v

/-- The scaled target of a front pixel of the frame of a parity (R96). -/
def State.scaled (s : State) (p : Snap) (parity x y : Nat) : Rgb :=
  let t := mget ⟨0, 0, 0⟩ s.fe.targets (2 * pixKey x y + parity)
  Rgb.of fun c => splScale (p.get F.SPL_USER_BRIGHT) (t.comp c)

/-! ### The zone processor -/

/-- The scaled targets of a colour over a rectangle of front pixels. -/
def State.scaledOver (s : State) (p : Snap) (c x0 x1 y0 y1 : Nat) : List Nat :=
  (List.range (y1 + 1 - y0)).flatMap fun j => (List.range (x1 + 1 - x0)).map fun i => (s.scaled p s.spl.zoneParity (x0 + i) (y0 + j)).comp c

/-- The statistic of a zone in a colour, over the lines received (R100). A dead neighbour in the zone row below may lack lines when
R102 asks for its statistic: their targets count 0 in the maximum and in the mean (DESIGN CHOICE, assumption log 108). -/
def State.zoneStat (s : State) (p : Snap) (c zx zy : Nat) : Nat :=
  let g := p.geom
  splStat (p.get F.SPL_STAT_MIX)
    (s.scaledOver p c (g.x0 zx - g.dilX) (min (g.w - 1) (g.x1 zx + g.dilX)) (g.y0 zy - g.dilY) (min (g.h - 1) (g.y1 zy + g.dilY)))
    (s.scaledOver p c (g.x0 zx) (g.x1 zx) (g.y0 zy) (g.y1 zy))

/-- The up to eight neighbours of a zone. -/
def SplGeom.zoneNeighbours (g : SplGeom) (zx zy : Nat) : List (Nat × Nat) := ringOffsets.filterMap fun o => neighbour g.zc g.zr zx zy o.1 o.2

/-- The statistic and the upper limit of a live zone: a dead neighbour raises them (R102). -/
def State.boostedStat (s : State) (p : Snap) (c zx zy : Nat) : Nat × Nat :=
  let g := p.geom
  let dead := (g.zoneNeighbours zx zy).filter fun n => p.zoneGain (n.2 * g.zc + n.1) c == 0
  let own := s.zoneStat p c zx zy
  if dead.isEmpty then (own, p.get F.SPL_LEVEL_MAX)
  else (dead.foldl (fun m n => max m (wlOf (wlVal (s.zoneStat p c n.1 n.2) * p.get F.SPL_HEAD_DEAD_BOOST / 4096))) own, 0xFFFF)

/-- The level λ of a zone in a colour before the filter (R101). -/
def State.zoneLambda (s : State) (p : Snap) (c zx zy : Nat) : Nat :=
  let g := p.zoneGain (zy * p.geom.zc + zx) c
  if g = 0 then 0
  else
    let (st, hi) := s.boostedStat p c zx zy
    splLevel st (p.peak c) g (p.get F.SPL_HEAD_HR) (p.get F.SPL_LEVEL_MIN) hi

/-- One step of the filter for a zone and colour (R104): the level, and the state with the filter moved. -/
def State.zoneFilter (s : State) (p : Snap) (lambda z c : Nat) : Nat × State :=
  let (f, l) := splFilter s.spl.seeding (p.zoneGain z c != 0) lambda (p.get F.SPL_FILTER_ATTACK) (p.get F.SPL_FILTER_DECAY)
    (mget 0 s.spl.filter (4 * z + c))
  (l, { s with spl := { s.spl with filter := mset 0 s.spl.filter (4 * z + c) f } })

/-- The level of a zone in a colour by the mode (R101 to R104, R122, R123). -/
def State.decideLevel (s : State) (p : Snap) (zx zy c : Nat) : Nat × State :=
  let z := zy * p.geom.zc + zx
  match s.splMode p with
  | 0 => s.zoneFilter p (s.zoneLambda p c zx zy) z c
  | 1 => (if p.zoneGain z c = 0 then 0 else s.spl.globalLevel.comp c, s)
  | _ => (if p.zoneGain z c = 0 then 0 else p.get F.SPL_PEAK1_FIXED, s)

/-- The levels of a zone. -/
def State.decideZone (s : State) (p : Snap) (zx zy : Nat) : State :=
  let (r, s) := s.decideLevel p zx zy 0
  let (g, s) := s.decideLevel p zx zy 1
  let (b, s) := s.decideLevel p zx zy 2
  { s with spl := { s.spl with levels := mset ⟨0, 0, 0⟩ s.spl.levels (2 * (zy * p.geom.zc + zx) + s.spl.zoneParity) ⟨r, g, b⟩ } }

/-- The level of a zone of the frame in the zone processor. -/
def State.zoneNow (s : State) (z : Nat) : Rgb := mget ⟨0, 0, 0⟩ s.spl.levels (2 * z + s.spl.zoneParity)

/-- The key of field cell (i, j) of a frame's parity. -/
def cellKey (parity i j : Nat) : Nat := 2 * (j * 4096 + i) + parity

/-- The light field of a cell from the zone rows decided so far (R108). -/
def State.cellValue (s : State) (p : Snap) (rows i j : Nat) : Rgb :=
  let g := p.geom
  let near := (List.range rows).flatMap fun zy =>
    let dy := sqDist (g.cy zy) (g.cell j)
    if g.reach2 ≤ dy then [] else (List.range g.zc).filterMap fun zx =>
      let d := sqDist (g.cx zx) (g.cell i) + dy
      if d < g.reach2 then some (zy * g.zc + zx, p.psf (d / 2 ^ g.shift)) else none
  Rgb.of fun c => splField (p.peak c) (near.map fun (e : Nat × Nat) => ((s.zoneNow e.1).comp c, p.zoneGain e.1 c, e.2))

/-- Every field cell that a zone row affects is brought up to date (R116). -/
def State.fieldUpdate (s : State) (p : Snap) (zy : Nat) : State :=
  let g := p.geom
  let js := upTo g.rows fun j => sqDist (g.cy zy) (g.cell j) < g.reach2
  let f := js.foldl (fun f j => (List.range g.cols).foldl (fun f i =>
    mset ⟨0, 0, 0⟩ f (cellKey s.spl.zoneParity i j) (s.cellValue p (zy + 1) i j)) f) s.spl.field
  { s with spl := { s.spl with field := f } }

/-- The field grid is written to the lowest fold that `SPL` owns (R263), row by row, each value least significant byte first. -/
def State.fieldCapture (s : State) (p : Snap) : State :=
  match (List.range 64).find? (fun nn => s.foldOwner nn == 5) with
  | none => s
  | some nn =>
    let g := p.geom
    s.each (List.range g.rows) fun s j =>
      if 0x1000000 < 6 * (j + 1) * g.cols then s
      else s.ownerWrite 5 (foldBase nn + 6 * j * g.cols) ((List.range g.cols).flatMap fun i =>
        let v := mget ⟨0, 0, 0⟩ s.spl.field (cellKey s.spl.zoneParity i j)
        leBytes 2 v.r ++ leBytes 2 v.g ++ leBytes 2 v.b)

/-- Whether the split hands its levels to a backlight that takes them (R212). -/
def State.splitFeeds (s : State) : Bool := s.domOn 32 && !s.flag F.BLE_CFG_SOURCE

/-- The first zone row of the next frame finds the swap still due: it takes place at once (R119). -/
def State.swapLate (s : State) : State :=
  if s.spl.swap.bankDone && s.splitFeeds then (s.bankSwap.count R.SPL_CNT_BL_SWAP).raise 89 3 else s

/-- The bank of the frame is complete (R119); a deferred swap takes place now. -/
def State.bankComplete (s : State) : State :=
  if !s.splitFeeds then s
  else
    let s := { s with spl := { s.spl with swap := { s.spl.swap with no := s.spl.zoneNo } } }
    if s.spl.swap.deferred then s.bankSwap
    else { s with spl := { s.spl with swap := { s.spl.swap with bankDone := true } } }

/-- The input line that decides a zone row in a frame of a mode: in GLOBAL and FIXED modes line 0 (R116, R117). -/
def Snap.decidedAt (p : Snap) (bad : Bool) (zy : Nat) : Nat := if p.splMode bad != 0 then 0 else p.geom.decides zy

/-- The zone processor has received the input line that decides a zone row (R116). -/
def State.zoneRowDue (s : State) (zy : Nat) : Bool := s.spl.zoneSnap.decidedAt s.spl.zoneFixed zy < s.spl.lines

/-- ZONE_ROW_DECIDED (R116): the next zone row of the frame in the zone processor is decided, once its last input line is in. -/
def State.zoneRowDecided (s : State) (zy : Nat) : State :=
  let p := s.spl.zoneSnap
  let g := p.geom
  if !s.domOn 31 || zy != s.spl.zonesDecided || g.zr ≤ zy || !s.zoneRowDue zy then s
  else
    let s := if zy = 0 then s.swapLate else s
    let s := s.each (List.range g.zc) fun s zx => s.decideZone p zx zy
    let s := { s with spl := { s.spl with zonesDecided := zy + 1 } }
    let s := if s.domOn 32 then s.splitWrites g.zc zy (fun zx => s.zoneNow (zy * g.zc + zx)) else s
    let s := s.fieldUpdate p zy
    if zy + 1 < g.zr then s
    else
      let s := s.fieldCapture p
      let last := (List.range (g.zc * g.zr)).foldl (fun m z => mset ⟨0, 0, 0⟩ m z (s.zoneNow z)) []
      ({ s with spl := { s.spl with lastLevels := last } }).bankComplete

/-- The level of GLOBAL mode for the frame that begins (R122). Where `BL_MODE` turns to GLOBAL with no synchronising reset, the filter
goes on from what it held (DESIGN CHOICE, assumption log 152). -/
def State.globalStep (s : State) (p : Snap) : State :=
  let step (c : Nat) : Nat × Nat :=
    let seed := s.spl.seeding || s.spl.globalStat.isNone
    let lambda := match s.spl.globalStat with
      | some st => if s.spl.seeding then p.get F.SPL_LEVEL_MAX
          else splLevel (st.comp c) (p.peak c) 0x8000 (p.get F.SPL_HEAD_HR) (p.get F.SPL_LEVEL_MIN) (p.get F.SPL_LEVEL_MAX)
      | none => p.get F.SPL_LEVEL_MAX
    splFilter seed true lambda (p.get F.SPL_FILTER_ATTACK) (p.get F.SPL_FILTER_DECAY) (mget 0 s.spl.globalFilter c)
  { s with spl := { s.spl with
      globalFilter := (List.range 3).foldl (fun m c => mset 0 m c (step c).1) []
      globalLevel := Rgb.of fun c => (step c).2 } }

/-- Drop the entries of a parity. -/
def dropParity {α : Type} (m : SMap α) (parity : Nat) : SMap α := m.filter fun e => e.1 % 2 != parity

/-- The zone processor begins a frame (R105, R125). `SEEDED` shows the seeding frame after the domain's return to ON too: R105 calls it
the same seeding (DEDUCED, assumption log 109). -/
def State.zoneBegin (s : State) : State :=
  let p := s.snapshot
  let par := 1 - s.spl.zoneParity
  let s := { s with
    spl := { s.spl with zoneSnap := p, zoneFixed := s.spl.badRaster, zoneParity := par, zonesDecided := 0, lines := 0
                        zoneNo := (s.reg (R.TG_FRAME_NO 0) + 1) % 2 ^ 32
                        zonesWas := s.spl.zonesDecided, linesWas := s.spl.lines, seeding := s.spl.seedNext, seedNext := false
                        levels := dropParity s.spl.levels par, field := dropParity s.spl.field par }
    fe := { s.fe with targets := dropParity s.fe.targets par } }
  let s := s.putB F.SPL_STATUS_SEEDED s.spl.seeding
  if s.splMode p = 1 then s.globalStep p else s

/-- The statistic of the whole source frame (R122). -/
def State.frameStat (s : State) : State :=
  let p := s.spl.zoneSnap
  let g := p.geom
  let f (c : Nat) : Nat :=
    let l := s.scaledOver p c 0 (g.w - 1) 0 (g.h - 1)
    splStat (p.get F.SPL_STAT_MIX) l l
  { s with spl := { s.spl with globalStat := some (Rgb.of f) } }

/-- A commit's restart of a history falls due with the frame to which the commit applies (R91, R164). -/
def OdrHistory.renewed (h : OdrHistory) : OdrHistory := { h with restart := h.restart || h.renew, renew := false }

/-- Both layers' restarts that commits have asked for fall due. -/
def State.odrRenewed (s : State) : State :=
  { s with odr := { s.odr with front := s.odr.front.renewed, rear := s.odr.rear.renewed } }

/-- A frame begins in the front end and in the zone processor. -/
def State.frameBegins (s : State) : State := ((s.feBegin.zoneBegin).odrRenewed).talBegin 5

/-- The zone processor takes a pixel of the front end: the last one of a line gives it that line, the last one of all the frame. -/
def State.zonePixel (s : State) (x y : Nat) : State :=
  let s := if x + 1 = s.fe.snap.width 0 then { s with spl := { s.spl with lines := max s.spl.lines (y + 1) } } else s
  if x + 1 = s.fe.snap.width 0 ∧ y + 1 = s.fe.snap.lines 0 then s.frameStat else s

/-- FE_PIXEL (R81): the front end converts one pixel; line 0 of a frame begins it in the front end and in the zone processor. A pixel
that has not come leaves the slice without input: it waits (R60, Table 1.4). -/
def State.frontEnd (s : State) (x y : Nat) : State :=
  let first := x = 0 ∧ y = 0
  if !s.domOn 31 || s.snapshot.width 0 = 0 || (first && !s.feCanBegin) then s
  else
    let t := if first then s.frameBegins else s
    if t.fe.snap.width 0 ≤ x || t.fe.snap.lines 0 ≤ y then s
    else match t.feInput x y with
      | none => s
      | some i => (t.fePixel x y i).zonePixel x y

/-! ### Pixels -/

/-- The field of a rear pixel (R109), of the frame in the split's tiles. -/
def State.rearField (s : State) (xr yr : Nat) : Rgb :=
  let g := s.spl.pixSnap.geom
  Rgb.of fun c => splUpsample g (fun i j => (mget ⟨0, 0, 0⟩ s.spl.field (cellKey s.spl.pixParity i j)).comp c) xr yr

/-- The rear target: the largest target luminance of the front pixels that map to a rear pixel. -/
def State.rearTarget (s : State) (xr yr : Nat) : Nat :=
  let p := s.spl.pixSnap
  let g := p.geom
  let cols := (List.range (g.w / max 1 g.wr + 2)).filterMap fun i =>
    let x := xr * g.w / max 1 g.wr + i
    if x < g.w && g.rearX x == xr then some x else none
  let lines := (List.range (g.h / max 1 g.hr + 2)).filterMap fun j =>
    let y := yr * g.h / max 1 g.hr + j
    if y < g.h && g.rearY y == yr then some y else none
  lines.foldl (fun m y => cols.foldl (fun m x => max m (p.luminance (s.scaled p s.spl.pixParity x y))) m) 0

/-- T_rear of a rear pixel (R112), and whether `TMIN` raised it. -/
def State.rearT (s : State) (xr yr : Nat) : Nat × Bool :=
  let p := s.spl.pixSnap
  splTRear p.rearCurve (p.get F.SPL_REAR_TMIN) (p.luminance (s.rearField xr yr)) (s.rearTarget xr yr)

/-- The blur of R113 at a front pixel over rear transmittances given as integers to 65,536; 1.0 without a rear layer. -/
def Snap.blur (p : Snap) (tr : Nat → Nat → Nat) (x y : Nat) : Nat :=
  let g := p.geom
  if !p.flag F.SPL_CFG_REAR_EN then 65536
  else splBlur (p.get F.SPL_BLUR0_K0) (p.get F.SPL_BLUR0_K1) (p.get F.SPL_BLUR1_K2) fun dx dy =>
    let x' := (clampInt 0 ((g.w : Int) - 1) (x + dx)).toNat
    let y' := (clampInt 0 ((g.h : Int) - 1) (y + dy)).toNat
    tr (g.rearX x') (g.rearY y')

/-- T_eff of a front pixel, to 65,536 (R113). -/
def State.teff (s : State) (x y : Nat) : Nat := s.spl.pixSnap.blur (fun xr yr => t16 (s.rearT xr yr).1) x y

/-- The front transmittances of a pixel (R113), and whether one clips. -/
def State.frontT (s : State) (x y : Nat) : Rgb × Bool :=
  let p := s.spl.pixSnap
  let g := p.geom
  let f := s.rearField (g.rearX x) (g.rearY y)
  let t := s.scaled p s.spl.pixParity x y
  let e := s.teff x y
  let v (c : Nat) := splFront (t.comp c) (f.comp c) e
  (Rgb.of fun c => (v c).1, (v 0).2 || (v 1).2 || (v 2).2)

/-- The front transmittances of a pixel of a band on the bypass path (R124). -/
def State.bypassT (s : State) (x y : Nat) : Rgb :=
  let p := s.spl.pixSnap
  let g := p.geom
  let f := s.rearField (g.rearX x) (g.rearY y)
  let t := s.scaled p s.spl.pixParity x y
  Rgb.of fun c => splBypass (t.comp c) (f.comp c)

/-- The rear pixel of a front pixel is computed with the first front pixel that maps to it. -/
def SplGeom.firstOf (g : SplGeom) (x y : Nat) : Bool :=
  (x == 0 || g.rearX (x - 1) != g.rearX x) && (y == 0 || g.rearY (y - 1) != g.rearY y)

/-- The rear pixel that a front pixel is the first to map to (R112). -/
def State.splitRear (s : State) (x y : Nat) : State :=
  let p := s.spl.pixSnap
  let g := p.geom
  if !p.flag F.SPL_CFG_REAR_EN || !g.firstOf x y then s
  else
    let (xr, yr) := (g.rearX x, g.rearY y)
    let (t, raised) := s.rearT xr yr
    { s with spl := { s.spl with
        tRear := mset 0 s.spl.tRear (pixKey xr yr) t
        tmin := s.spl.tmin + bit (raised && !s.bypassed (bandOf g.wr xr)) } }

/-- Whether masking works with a set of parameters: on, and with a rear layer of at least half the front resolution on each axis (R135).
With `REAR_EN` = 0 it does not, so `MASK_EN` = 1 is then unavailable masking (DESIGN CHOICE, assumption log 154). -/
def Snap.masks (p : Snap) : Bool :=
  let g := p.geom
  p.flag F.PCM_CFG_MASK_EN && p.flag F.SPL_CFG_REAR_EN && g.w ≤ 2 * g.wr && g.h ≤ 2 * g.hr

/-- The look-ahead in effect with a set of parameters (R117, R135): L_min, and L_eff. L_min of a raster that is not valid is capped at
511, the largest value of its field (DESIGN CHOICE, assumption log 151). -/
def Snap.lookahead (p : Snap) (bad : Bool) : Nat × Nat :=
  let la := min 511 (max (p.geom.laMin (p.splMode bad != 0)) (if p.masks then 7 else 0))
  (la, max (p.get F.SPL_CFG_LOOKAHEAD) la)

/-- The split begins the frame that the zone processor holds, and with it `SPL` its work on that frame (R406). -/
def State.splitBegins (s : State) : State :=
  ({ s with spl := { s.spl with
    pixSnap := s.spl.zoneSnap, pixFixed := s.spl.zoneFixed, pixParity := s.spl.zoneParity, clip := 0, tmin := 0 } }).talBegin 6

/-- Front line y of the frame in the split can be processed (R118): input line min(H − 1, y + L_eff) is in, and every zone row that it
decides is decided. -/
def State.splitDue (s : State) (y : Nat) : Bool :=
  let p := s.spl.pixSnap
  let g := p.geom
  let need := min (g.h - 1) (y + (p.lookahead s.spl.pixFixed).2)
  let (lines, rows) := if s.spl.pixParity = s.spl.zoneParity then (s.spl.lines, s.spl.zonesDecided) else (s.spl.linesWas, s.spl.zonesWas)
  need < lines && (List.range g.zr).all fun zy => zy < rows || need < p.decidedAt s.spl.pixFixed zy

/-- SPLIT_PIXEL (R112, R113, R114): the transmittances of a front pixel, and of the rear pixel that it is the first of. A band on
the bypass path takes those of R124 in stage 10; its neighbours' slices still compute these (R25), and nothing of it is counted. -/
def State.splitOne (s : State) (x y : Nat) : State :=
  let p := s.spl.pixSnap
  let g := p.geom
  let s := s.splitRear x y
  let by' := s.bypassed (bandOf g.w x)
  let (t, clips) := s.frontT x y
  let clips := clips && !by'
  let s := s.raiseIf (clips && s.spl.clip == 0) 85 0
  let s := { s with spl := { s.spl with tFront := mset ⟨0, 0, 0⟩ s.spl.tFront (pixKey x y) t, clip := s.spl.clip + bit clips } }
  if x + 1 = g.w ∧ y + 1 = g.h then (s.latchCount R.SPL_CNT_CLIP s.spl.clip).latchCount R.SPL_CNT_TMIN s.spl.tmin else s

/-- SPLIT_PIXEL: the first pixel begins a frame; where the field of the line is not ready the slice waits (R118, Table 1.4). -/
def State.splitPixel (s : State) (x y : Nat) : State :=
  let t := if x = 0 ∧ y = 0 then s.splitBegins else s
  let g := t.spl.pixSnap.geom
  if !s.domOn 31 || g.w ≤ x || g.h ≤ y || !t.splitDue y then s else t.splitOne x y

/-! ### Frame boundaries and commits -/

/-- The split's part of a synchronising reset (R105): the next frame that the zone processor begins is frame 1. -/
def State.splSyncReset (s : State) : State :=
  let s := { s with spl := { s.spl with seedNext := true, syncPending := false } }
  (s.count R.SPL_CNT_SYNC).raise 84 0

/-- A word with one of its half-words set to 0. -/
def clearHalf (w : Word) (a : Nat) : Word := if a % 4 = 0 then BitVec.ofNat 32 (w.toNat / 65536 * 65536) else BitVec.ofNat 32 (w.toNat % 65536)

/-- Zone-colours whose active gain is 0. -/
def deadCount (t : SMap Word) : Nat :=
  (t.filter fun e => 0x220000 ≤ e.1 && e.1 < 0x240000).foldl (fun n (e : Nat × Word) =>
    n + bit (e.2.toNat % 65536 == 0) + bit (e.1 % 8 == 0 && e.2.toNat / 65536 == 0)) 0

/-- R103 for one zone-colour: its gain is 0 in both tables. -/
def State.zoneDead (s : State) (z c : Nat) : State :=
  let a := 0x220000 + 8 * z + 2 * c
  let w := a / 4 * 4
  let s := { s with
    tbl := tblSet s.tbl w (clearHalf (tblWord s.tbl w) a)
    tblShadow := match mfind s.tblShadow w with | some v => mput s.tblShadow w (clearHalf v a) | none => s.tblShadow
    spl := { s.spl with filter := merase s.spl.filter (4 * z + c) } }
  let s := (s.put F.SPL_DEAD_COLOUR c).put F.SPL_DEAD_ZONE z
  (s.put F.SPL_DEAD_COUNT (deadCount s.tbl)).raise 88 3

/-- The zones that `BLE` has reported become dead at a TG0 boundary (R103). -/
def State.splBoundary (s : State) : State :=
  if !s.domOn 31 then s
  else
    let due := s.spl.deadDue
    ({ s with spl := { s.spl with deadDue := [] } }).each due fun s d => s.zoneDead d.1 d.2

/-- `LA_MIN` and `LA_EFF` show the look-ahead of the parameters in effect (R117). -/
def State.splShowLa (s : State) : State :=
  let l := s.snapshot.lookahead s.spl.badRaster
  (s.put F.SPL_STATUS_LA_MIN l.1).put F.SPL_STATUS_LA_EFF l.2

/-- The look-ahead in effect after a check (R117, R135). -/
def State.splLookahead (s : State) : State :=
  s.splShowLa.raiseIf ((s.snapshot.lookahead s.spl.badRaster).2 != s.get F.SPL_CFG_LOOKAHEAD) 86 0

/-- The `SPL` global domain reaches ON: its status shows the geometry and the look-ahead in effect again (R99, R117). -/
def State.splOn (s : State) : State := (s.putB F.SPL_STATUS_GEOM_REJECTED s.spl.badRaster).splShowLa

/-- The check of the geometry and of the look-ahead in effect (R98, R99, R117). `rejected` where the same commit was. A check that passes
clears `GEOM_REJECTED`, whatever commit asked for it (DESIGN CHOICE, assumption log 149). -/
def State.splCheck (s : State) (rejected : Bool) : State :=
  let p := s.snapshot
  let g := p.geom
  let ok := g.valid (p.get F.SPL_CFG_BL_MODE != 0)
  let s := { s with spl := { s.spl with badRaster := !ok } }
  ((s.putB F.SPL_STATUS_GEOM_REJECTED (rejected || !ok)).raiseIf (!ok) 87 3).splLookahead

/-- The registers whose change is checked (R98, R99). -/
def splGeomRegs : List Nat := [R.SPL_ZONE_GRID, R.SPL_CFG, R.SPL_STAT]

/-- The commit of `SPL` (R98, R99, R125); `raster` where the same commit changed the active raster of TG0 or TG1. A rejected geometry is
dropped. It leaves `LA_MIN`, `LA_EFF` and event 86 alone (DESIGN CHOICE, assumption log 150). -/
def State.splCommit (s : State) (raster : Bool) : State :=
  let touched := splGeomRegs.any fun a => s.regW a != s.reg a
  let p := s.after (inEngine 3) 3
  let bad := touched && !p.geom.valid (p.get F.SPL_CFG_BL_MODE != 0)
  let tables := !(s.waitingTbl 3).isEmpty
  let s := ((s.applyRegs fun a => inEngine 3 a && !(bad && splGeomRegs.contains a)).applyTbl 3).raiseIf tables 83 0
  let s := if tables then s.put F.SPL_DEAD_COUNT (deadCount s.tbl) else s
  let s := if bad then ((s.dropRegs splGeomRegs.contains).putB F.SPL_STATUS_GEOM_REJECTED true).raise 87 0 else s
  if raster || (touched && !bad) then s.splCheck bad else s

/-! ### The commands -/

/-- FE_PIXEL (R81). -/
def execFePixel (x y : Nat) (s : State) : Host.Outcome State Fault Refusal := checked (.fePixel x y) s fun s => s.frontEnd x y

/-- ZONE_ROW_DECIDED (R116). -/
def execZoneRowDecided (zy : Nat) (s : State) : Host.Outcome State Fault Refusal :=
  checked (.zoneRowDecided zy) s fun s => s.zoneRowDecided zy

/-- SPLIT_PIXEL (R113). -/
def execSplitPixel (x y : Nat) (s : State) : Host.Outcome State Fault Refusal := checked (.splitPixel x y) s fun s => s.splitPixel x y

end Sys2Proof.Machine
end

