-- ==== Sys2Proof/Machine/Compensation.lean ====
section
/-! DEFINITION. Panel compensation (chapter 5): the commands STAGE_A and STAGE_B, and what a TG0 frame boundary and a commit
do to the engine. -/

namespace Sys2Proof.Machine

/-! ### Parameters and lists -/

/-- A column entry, and a row entry, of a set of tables (Table 5.6). -/
def pcmColumn (t : SMap Word) (i : Nat) : LineEntry :=
  LineEntry.ofWords (tblWord t (0x240000 + 8 * i)).toNat (tblWord t (0x240004 + 8 * i)).toNat

/-- A row entry of a set of tables (Table 5.6). -/
def pcmRow (t : SMap Word) (i : Nat) : LineEntry :=
  LineEntry.ofWords (tblWord t (0x240200 + 8 * i)).toNat (tblWord t (0x240204 + 8 * i)).toNat

/-- A subpixel entry of a set of tables (Table 5.6). -/
def pcmSub (t : SMap Word) (e : Nat) : SubEntry :=
  SubEntry.ofWords (tblWord t (0x248000 + 8 * e)).toNat (tblWord t (0x248004 + 8 * e)).toNat

/-- The non-empty subpixel entries: those whose second word is listed with a kind. -/
def pcmSubs (t : SMap Word) : List SubEntry :=
  (t.filter fun e => 0x248000 ≤ e.1 && e.1 < 0x250000 && e.1 % 8 == 4 && e.2.toNat % 8 != 0).map fun e =>
    SubEntry.ofWords (tblWord t (e.1 - 4)).toNat e.2.toNat

/-- The parameters of a frame in the compensation tiles: those of the tiles' own commits, with the `SPL` registers that the frame is
split with (R125, R129, R146). -/
def Snap.withSplit (p pix : Snap) : Snap :=
  { p with regs := (pix.regs.filter fun x => inEngine 3 x.1).foldl (fun m x => mput m x.1 x.2) (p.regs.filter fun x => !inEngine 3 x.1) }

/-- The parameters of the frame in the tiles. -/
def State.pcmSnap (s : State) : Snap := s.pcm.snap.withSplit s.spl.pixSnap

/-- What stage A works with (R129, R132): rear entries only with a rear layer. -/
def Snap.pcmLists (p : Snap) : PcmLists :=
  let rear := p.flag F.SPL_CFG_REAR_EN
  let lines (f : Nat → LineEntry) := ((List.range 64).map f).filter fun e => e.kind != 0 && (rear || !e.rear)
  { cols := lines (pcmColumn p.tbl), rows := lines (pcmRow p.tbl)
    subs := (pcmSubs p.tbl).filter fun e => rear || e.sub != 3
    geom := p.geom, maskOn := p.masks, kmin := p.get F.PCM_MASK_KMIN, ring := p.get F.PCM_MASK_RING, rearOn := rear }

/-- Whether compensation works on an element of band k (R129). -/
def State.pcmOn (s : State) (k : Nat) : Bool := s.pcm.snap.flag F.PCM_CFG_EN && !s.bypassed k

/-- An element is clipped or saturated (R134): it counts once. -/
def State.pcmClip (s : State) (key : Nat) : State :=
  if s.pcm.clippedAt.contains key then s
  else
    let s := s.raiseIf s.pcm.clippedAt.isEmpty 100 0
    { s with pcm := { s.pcm with clippedAt := key :: s.pcm.clippedAt, clip := s.pcm.clip + 1 } }

/-! ### STAGE_A -/

/-- The split's T_c of a front subpixel. -/
def State.splitTc (s : State) (c x y : Nat) : Nat := (mget ⟨0, 0, 0⟩ s.spl.tFront (pixKey x y)).comp c

/-- The split's T_rear of a rear pixel. -/
def State.splitTr (s : State) (xr yr : Nat) : Nat := mget 0 s.spl.tRear (pixKey xr yr)

/-- Stage A of a front subpixel (R133, R134): its transmittance and whether it clips. -/
def State.stageAFront (s : State) (l : PcmLists) (c x y : Nat) : Nat × Bool :=
  let p := s.spl.pixSnap
  let teff := p.blur (fun xr yr => t16 (s.splitTr xr yr)) x y
  let teff' := p.blur (fun xr yr => (l.rearQD s.splitTc s.splitTr xr yr).1) x y
  l.frontT c x y (s.splitTc c x y) teff teff'

/-- STAGE_A of an element (R128, R129, R132, R134): its transmittance edited, then mapped to a code (R115). -/
def State.stageA (s : State) (x y plane : Nat) : State :=
  let p := s.pcmSnap
  let rear := plane == 3
  let (w, h, _) := p.geom.layer rear
  let key := elemKey plane x y
  let k := bandOf w x
  if !s.domOn 31 || w ≤ x || h ≤ y || (rear && !p.flag F.SPL_CFG_REAR_EN) then s
  else
    let l := p.pcmLists
    let (t, clips, masked) :=
      if s.bypassed k then ((if rear then 0xFFFF else (s.bypassT x y).comp plane), false, false)
      else if !s.pcmOn k then ((if rear then s.splitTr x y else s.splitTc plane x y), false, false)
      else if rear then
        let (_, d, c) := l.rearQD s.splitTc s.splitTr x y
        (d, c, (l.mask s.splitTc x y).isSome)
      else
        let (t, c) := s.stageAFront l plane x y
        (t, c, false)
    let s := { s with pcm := { s.pcm with
      codeA := mset 0 s.pcm.codeA key (splResponse (s.spl.pixSnap.response plane) t), masked := s.pcm.masked + bit masked } }
    if clips then s.pcmClip key else s

/-! ### STAGE_B -/

/-- The first fold-window address of the active table set. -/
def Snap.pcmBase (p : Snap) : Nat := foldBase (p.get (F.PCM_SET_BASE (p.get F.PCM_TABLES_SET)))

/-- The offset and the length of stream e of the table set at an address (Table 5.5). -/
def pcmStream (m : List Host.Cell) (base e : Nat) : Nat × Nat :=
  (beNat (memBytes m (base + 16 + 8 * e) 4), beNat (memBytes m (base + 20 + 8 * e) 4))

/-- The columns that R25 assigns to band k's slice, as a half-open range: 8 front columns on each side, or the rear columns
that they map to. -/
def SplGeom.sliceCols (g : SplGeom) (rear : Bool) (k : Nat) : Nat × Nat :=
  let lo := bandStart g.w k - 8
  let hi := min g.w (bandStart g.w (k + 1) + 8)
  if rear then (g.rearX lo, g.rearX (hi - 1) + 1) else (lo, hi)

/-- A stream of the active set has failed in a band (R143). -/
def State.pcmFail (s : State) (k t : Nat) : State :=
  (({ s with pcm := { s.pcm with failed := (k, t) :: s.pcm.failed } }).count R.PCM_CNT_DECODE_ERR).raise 101 3

/-- A stream of a table set (R141): its table, how many components of how many bits, its first column, its columns and lines, the
values that its samples may take, and the segments that an element needs. -/
structure PcmStream where
  t : Nat
  n : Nat
  b : Nat
  lo : Nat
  w : Nat
  h : Nat
  min : Nat
  max : Nat
  deriving DecidableEq, Repr

/-- The mura stream of a plane in band k. -/
def Snap.muraStream (p : Snap) (plane k : Nat) : PcmStream :=
  let c := p.geom.sliceCols (plane == 3) k
  ⟨plane, 4, 10, c.1, c.2 - c.1, (p.geom.layer (plane == 3)).2.1, 384, 639⟩

/-- The gain stream of a plane in band k. -/
def Snap.gainStream (p : Snap) (plane k : Nat) : PcmStream :=
  let c := p.geom.sliceCols (plane == 3) k
  ⟨4 + plane, 1, 16, c.1 / 16, (c.2 - 1) / 16 + 2 - c.1 / 16, ((p.geom.layer (plane == 3)).2.1 - 1) / 16 + 2, 0, 0xFFFF⟩

/-- Segment k of a stream: its samples that lie in the image are in range (R141). -/
def PcmStream.inRange (st : PcmStream) (k : Nat) (cs : List (List Nat)) : Bool :=
  (List.range 256).all fun i =>
    st.w ≤ 64 * (k % divCeil st.w 64) + i % 64 || st.h ≤ 4 * (k / divCeil st.w 64) + i / 64
      || cs.all fun c => st.min ≤ c.getD i 0 && c.getD i 0 ≤ st.max

/-- Read a stream from its start through segment k + j, where k segments lie before an address: the first segment that fails, or segment
k + j: where it lies, how long it is, and its components where it decodes in range. -/
def PcmStream.scan (st : PcmStream) (m : List Host.Cell) : Nat → Nat → Nat → Nat → Nat × Nat × Option (List (List Nat))
  | 0, k, addr, limit => (addr, segSpan m addr limit, match segAt m st.n st.b addr limit with
    | .error _ => none
    | .ok (cs, _) => if st.inRange k cs then some cs else none)
  | j + 1, k, addr, limit => match segAt m st.n st.b addr limit with
    | .error _ => (addr, segSpan m addr limit, none)
    | .ok (cs, len) => if st.inRange k cs then st.scan m j (k + 1) (addr + len) limit else (addr, len, none)

/-- Where band k's stream of the active set begins, and what the reader has reached with the segment of (x, y). -/
def State.pcmScan (s : State) (st : PcmStream) (k x y : Nat) : Nat × Nat × Nat × Option (List (List Nat)) :=
  let base := s.pcm.snap.pcmBase
  let e := pcmStream s.fst.mem base (16 * st.t + k)
  (base + e.1, st.scan s.fst.mem (segIndex st.w (x - st.lo) y) 0 (base + e.1) (base + e.1 + e.2))

/-- Where the directory entry of a stream lies. -/
def State.pcmEntryAddr (s : State) (st : PcmStream) (k : Nat) : Nat := s.pcm.snap.pcmBase + 16 + 8 * (16 * st.t + k)

/-- A read that an element needs of a stream waits for a fold (R265, R273). -/
def State.pcmReadWaits (s : State) (st : PcmStream) (k x y : Nat) : Bool :=
  let r := s.pcmScan st k x y
  !s.pcm.failed.contains (k, st.t) && (s.rangeWaits 4 (s.pcmEntryAddr st k) 8 || s.rangeWaits 4 r.2.1 r.2.2.1)

/-- The samples at a position of a stream in band k, one per component; `none` where the stream has failed in this frame, or fails now
(R143): an access that is not good, an uncorrectable word on the way, a segment up to the position's that does not decode, or a sample
out of range. -/
def State.pcmSamples (s : State) (st : PcmStream) (k x y : Nat) (ecc : EccMap) : Option (List Nat) × State :=
  if s.pcm.failed.contains (k, st.t) then (none, s)
  else
    let r := s.pcmScan st k x y
    let d := s.ownerRead 4 (s.pcmEntryAddr st k) 8 ecc 3
    let q := if d.1 then d.2.ownerRead 4 r.2.1 r.2.2.1 [] 3 else d
    let c := if q.1 then q.2.checkWords r.1 (r.2.1 + r.2.2.1) ecc 3 else q
    match c.1, r.2.2.2 with
    | true, some cs => (some ((List.range st.n).map (segSample cs (x - st.lo) y)), c.2)
    | _, _ => (none, c.2.pcmFail k st.t)

/-- The mura offset of an element with stage A code c (R137, R141), `none` where the plane has none. -/
def State.pcmMura (s : State) (k plane x y c : Nat) (ecc : EccMap) : Option Rat × State :=
  let p := s.pcmSnap
  if !p.flag (F.PCM_PLANE_CFG_MURA_EN plane) then (none, s)
  else
    let (v, s) := s.pcmSamples (p.muraStream plane k) k x y ecc
    let ks := [p.get (F.PCM_PLANE_KNOT01_K0 plane), p.get (F.PCM_PLANE_KNOT01_K1 plane), p.get (F.PCM_PLANE_KNOT23_K2 plane),
      p.get (F.PCM_PLANE_KNOT23_K3 plane)]
    (v.map fun o => muraOffset ks (o.map fun (i : Nat) => (i : Int) - 512) c, s)

/-- The gain of an element (R138, R141), `none` where the plane has none. The read of the last of its four nodes is the one that gets
furthest in the stream; the words that the check finds are met there. -/
def State.pcmGain (s : State) (k plane x y : Nat) (ecc : EccMap) : Option Rat × State :=
  let p := s.pcmSnap
  if !p.flag (F.PCM_PLANE_CFG_GAIN_EN plane) then (none, s)
  else
    let st := p.gainStream plane k
    let (i, j) := (x / 16, y / 16)
    let (d, s) := s.pcmSamples st k (i + 1) (j + 1) ecc
    let (a, s) := s.pcmSamples st k i j []
    let (b, s) := s.pcmSamples st k (i + 1) j []
    let (c, s) := s.pcmSamples st k i (j + 1) []
    match a, b, c, d with
    | some a, some b, some c, some d =>
      let g (i' j' : Nat) : Nat := if i' = i then (if j' = j then a else c).headD 0 else (if j' = j then b else d).headD 0
      (some (gainAt g x y), s)
    | _, _, _, _ => (none, s)

/-- The counts of the frame are latched once the last elements of its layers have left the tiles (R148). -/
def State.pcmLast (s : State) (rear both : Bool) : State :=
  let me := if rear then 2 else 1
  if !both || (s.pcm.half != 0 && s.pcm.half != me) then
    let s := ((s.latchCount R.PCM_CNT_CLIP s.pcm.clip).latchCount R.PCM_CNT_MASKED s.pcm.masked).latchCount R.PCM_CNT_UNMASKED s.pcm.unmasked
    { s with pcm := { s.pcm with half := 0 } }
  else { s with pcm := { s.pcm with half := me } }

/-- An element lies on a DEAD line of its layer. -/
def PcmLists.onDead (l : PcmLists) (plane x y : Nat) : Bool :=
  (l.deadCol (plane == 3) (plane % 3) x).isSome || (l.deadRow (plane == 3) y).isSome

/-- Some read that STAGE_B of an element needs waits for a fold (R265, R273). -/
def State.stageBWaits (s : State) (x y plane k : Nat) : Bool :=
  let p := s.pcmSnap
  s.pcmOn k && !p.pcmLists.onDead plane x y
    && ((p.flag (F.PCM_PLANE_CFG_MURA_EN plane) && s.pcmReadWaits (p.muraStream plane k) k x y)
      || (p.flag (F.PCM_PLANE_CFG_GAIN_EN plane) && s.pcmReadWaits (p.gainStream plane k) k (x / 16 + 1) (y / 16 + 1)))

/-- STAGE_B of an element (R129, R139). -/
def State.stageB (s : State) (x y plane : Nat) (ecc : EccMap) : State :=
  let p := s.pcmSnap
  let rear := plane == 3
  let (w, h, _) := p.geom.layer rear
  let key := elemKey plane x y
  let k := bandOf w x
  if !s.domOn 31 || w ≤ x || h ≤ y || (rear && !p.flag F.SPL_CFG_REAR_EN) || s.stageBWaits x y plane k then s
  else
    let c := mget 0 s.pcm.codeA key
    let l := p.pcmLists
    let dead := l.onDead plane x y
    let (out, sat, s) :=
      if !s.pcmOn k then (c, false, s)
      else
        let (mura, s) := if dead then (none, s) else s.pcmMura k plane x y c ecc
        let (gain, s) := if dead then (none, s) else s.pcmGain k plane x y ecc
        let (v, sat) := stageBCode l rear (plane % 3) x y c (p.driverBits rear) (64 / 4 ^ p.get (F.PCM_PLANE_CFG_UNIT plane)) mura gain
        (v, sat, s)
    let s := { s with pcm := { s.pcm with codeB := mset 0 s.pcm.codeB key out } }
    let s := if sat then s.pcmClip key else s
    if x + 1 = w ∧ y + 1 = h ∧ 2 ≤ plane then s.pcmLast rear (p.flag F.SPL_CFG_REAR_EN) else s

/-! ### Frame boundaries and commits -/

/-- The two words of an automatic entry (R136). -/
def autoWords (rear : Bool) (colour index share : Nat) : Word × Word :=
  (BitVec.ofNat 32 (2 ^ 31 + bit rear * 2 ^ 30 + colour * 2 ^ 28 + 2 ^ 26 + index), BitVec.ofNat 32 share)

/-- A word written into the active and the shadow copy of a table. -/
def State.tblBoth (s : State) (a : Nat) (w : Word) : State :=
  { s with tbl := tblSet s.tbl a w, tblShadow := if (mfind s.tblShadow a).isSome then mput s.tblShadow a w else s.tblShadow }

/-- A table with the shadows that wait (R90). -/
def State.tblShadowed (s : State) (e : Nat) : SMap Word := (s.waitingTbl e).foldl (fun m x => tblSet m x.1 x.2) s.tbl

/-- One automatic dead column (R136). -/
def State.autoColumn (s : State) (layer : Layer) (colour index : Nat) : State :=
  let rear := layer == .rear
  let sh := s.tblShadowed 4
  let same (e : LineEntry) : Bool := e.kind != 0 && e.rear == rear && e.colour == colour && e.index == index
  let slot := match (List.range 64).find? fun i => same (pcmColumn s.tbl i) || same (pcmColumn sh i) with
    | some i => some i
    | none => (List.range 64).find? fun i => (pcmColumn s.tbl i).kind == 0 && (pcmColumn sh i).kind == 0
  match slot with
  | none => (s.putB F.PCM_STATUS_LIST_FULL true).raise 99 3
  | some i =>
    let (w0, w1) := autoWords rear colour index (s.get F.PCM_AUTO_SHARE)
    let s := (s.tblBoth (0x240000 + 8 * i) w0).tblBoth (0x240004 + 8 * i) w1
    let s := (s.count R.PCM_CNT_AUTO).putB F.PCM_LAST_AUTO_VALID true
    let s := ((s.putB F.PCM_LAST_AUTO_LAYER rear).put F.PCM_LAST_AUTO_COLOUR colour).put F.PCM_LAST_AUTO_SLOT i
    (s.put F.PCM_LAST_AUTO_INDEX index).raise 98 3

/-- The automatic entries of the reports since the last TG0 boundary (R136). -/
def State.pcmAuto (s : State) : State :=
  let due := s.pcm.autoDue
  let s := { s with pcm := { s.pcm with autoDue := [] } }
  if !s.domOn 31 || !s.flag F.PCM_CFG_AUTO_EN then s
  else s.each due fun s d => s.autoColumn d.1 d.2.1 d.2.2

/-- The compensation tiles begin a frame at a TG0 boundary (R146, R148). `PCM_CNT_UNMASKED` counts with `PCM_CFG.EN` = 0 too, and entries
of bands on the bypass path (DESIGN CHOICE, assumption log 155). -/
def State.pcmBoundary (s : State) (p : Snap) : State :=
  if !s.domOn 31 then s
  else
    let bright := ((pcmSubs p.tbl).filter fun e => e.kind == 1 && e.sub < 3).length
    let q := if s.fe.ahead then p.withSplit s.spl.zoneSnap else p
    { s with pcm := { s.pcm with
        snap := p, failed := [], clip := 0, masked := 0, clippedAt := [], half := 0
        unmasked := if q.flag F.PCM_CFG_MASK_EN && !q.masks then bright else 0 } }

/-- Whether table t is enabled: mura of plane t, gain of plane t − 4; the rear planes only with a rear layer (R129). -/
def Snap.pcmTable (p : Snap) (t : Nat) : Bool :=
  (t % 4 < 3 || p.flag F.SPL_CFG_REAR_EN) && p.flag (if t < 4 then F.PCM_PLANE_CFG_MURA_EN t else F.PCM_PLANE_CFG_GAIN_EN (t - 4))

/-- Check 1 of Table 5.7: the directory of the set in use. -/
def pcmDirectoryOk (m : List Host.Cell) (p : Snap) : Bool :=
  let base := p.pcmBase
  let count := p.get (F.PCM_SET_COUNT (p.get F.PCM_TABLES_SET))
  let word (o : Nat) := beNat (memBytes m (base + o) 2)
  let rearUsed := p.pcmTable 3 || p.pcmTable 7
  memBytes m base 4 == [0x50, 0x43, 0x4D, 0x54] && word 4 == 1
    && word 8 == p.width 0 && word 10 == p.lines 0
    && ((word 12 == p.width 1 && word 14 == p.lines 1) || (word 12 == 0 && word 14 == 0 && !rearUsed))
    && (List.range 8).all fun t => (List.range 16).all fun b =>
      let (off, len) := pcmStream m base (16 * t + b)
      (len != 0 || !p.pcmTable t) && (len == 0 || off + len ≤ count * 0x1000000)

/-- The rear entries that REAR_EN = 0 makes the part ignore are left out of a list (R129). -/
def Snap.heeded {α : Type} (p : Snap) (rear : α → Bool) (l : List α) : List α := l.filter fun e => p.flag F.SPL_CFG_REAR_EN || !rear e

/-- Some plane of a set of parameters uses a table (R142). -/
def Snap.pcmUsed (p : Snap) : Bool := (List.range 8).any p.pcmTable

/-- The first failed check of Table 5.7; `dir` says whether the directory of the set in use can be read and is right. A directory whose
fold is not owned or not ON cannot be right: its check fails first (DEDUCED, assumption log 156). -/
def State.pcmReject (s : State) (p : Snap) (dir : Bool) : Nat :=
  let set := p.get F.PCM_TABLES_SET
  let (base, count) := (p.get (F.PCM_SET_BASE set), p.get (F.PCM_SET_COUNT set))
  let used := p.pcmUsed
  let knots (q : Nat) : Bool :=
    p.get (F.PCM_PLANE_KNOT01_K0 q) < p.get (F.PCM_PLANE_KNOT01_K1 q) && p.get (F.PCM_PLANE_KNOT01_K1 q) < p.get (F.PCM_PLANE_KNOT23_K2 q)
      && p.get (F.PCM_PLANE_KNOT23_K2 q) < p.get (F.PCM_PLANE_KNOT23_K3 q)
  let subs := p.heeded (·.sub == 3) ((List.range 4096).map (pcmSub p.tbl))
  let lines (f : Nat → LineEntry) := p.heeded (·.rear) ((List.range 64).map f)
  if used && !dir then 1
  else if used && (64 < base + count || !s.foldsOwned 4 base count) then 2
  else if (List.range 4).any (fun q => (p.pcmTable q || p.pcmTable (4 + q)) && !knots q) then 3
  else if !linesValid (lines (pcmColumn p.tbl)) (lines (pcmRow p.tbl)) p.geom then 4
  else if !subsValid subs p.geom then 5
  else if !subsPerRow subs then 6
  else 0

/-- A commit reads the directory of the set that would be in use (R140, R145, R266, R269, R270, R274). Which of its words are in error is
a free value. -/
def State.pcmReadDir (s : State) (p : Snap) : Bool × State :=
  if !p.pcmUsed then (true, s)
  else
    let r := s.useFree.ownerRead 4 p.pcmBase 1040 s.freeEcc 3
    (r.1 && pcmDirectoryOk s.fst.mem p, r.2)

/-- That read waits for a fold (R265, R273). -/
def State.pcmDirWaits (s : State) (p : Snap) : Bool := p.pcmUsed && s.rangeWaits 4 p.pcmBase 1040

/-- The commit of `PCM` (R145). A rejected commit keeps its shadows waiting, and so does one whose directory waits for a fold: the next
commit point makes it (DESIGN CHOICE, assumption log 141). -/
def State.pcmCommit (s : State) : State :=
  if !s.anyWaiting 4 || s.pcmDirWaits (s.after (inEngine 4) 4) then s
  else
    let p := s.after (inEngine 4) 4
    let (dir, s) := s.pcmReadDir p
    let why := s.pcmReject p dir
    if why ≠ 0 then ((s.putB F.PCM_STATUS_REJECTED true).put F.PCM_STATUS_REJECT_REASON why).raise 97 0
    else
      let masked := s.snapshot.masks
      let s := (s.applyRegs (inEngine 4)).applyTbl 4
      let s := ((s.putB F.PCM_STATUS_REJECTED false).put F.PCM_STATUS_REJECT_REASON 0).raise 96 0
      let s := s.put F.PCM_STATUS_ACTIVE_SET (s.get F.PCM_TABLES_SET)
      let s := if (List.range 64).any (fun i => (pcmColumn s.tbl i).kind == 0) then s.putB F.PCM_STATUS_LIST_FULL false else s
      if s.snapshot.masks != masked then s.splLookahead else s

/-- Masking is on and unavailable (R135). -/
def State.pcmUnmasked (s : State) : Bool := s.snapshot.flag F.PCM_CFG_MASK_EN && !s.snapshot.masks

/-- `MASK_UNAVAIL` after a commit of `PCM`, `SPL` or a raster (R135). -/
def State.pcmMaskCheck (s : State) : State :=
  (s.raiseIf (s.pcmUnmasked && !s.flag F.PCM_STATUS_MASK_UNAVAIL) 102 0).putB F.PCM_STATUS_MASK_UNAVAIL s.pcmUnmasked

/-! ### The commands -/

/-- STAGE_A (R134). -/
def execStageA (x y plane : Nat) (s : State) : Host.Outcome State Fault Refusal :=
  checked (.stageA x y plane) s fun s => s.stageA x y plane

/-- STAGE_B (R139). -/
def execStageB (x y plane : Nat) (ecc : EccMap) (s : State) : Host.Outcome State Fault Refusal :=
  checked (.stageB x y plane ecc) s fun s => s.stageB x y plane ecc

end Sys2Proof.Machine
end

