-- ==== Sys2Proof/Machine/OdrMath.lean ====
section
/-! DEFINITION. The arithmetic of overdrive and dither (R151 to R167), from parameters alone. -/

namespace Sys2Proof.Machine

/-- The history value of a code (R151). -/
def odrHist (c : Nat) : Nat := min 4095 ((c + 8) / 16)

/-- The transition result O_τ of an element (R153), exact; `node it i1 i2` gives a table's nodes. -/
def odrTransition (node : Nat → Nat → Nat → Nat) (c h1 h2 : Nat) : Rat :=
  let (it, ft) := (c / 4096, c % 4096)
  let (i1, f1) := (h1 / 256, h1 % 256)
  let (i2, f2) := (h2 / 512, h2 % 512)
  let sum : Nat := [0, 1].foldl (fun o a => [0, 1].foldl (fun o b => [0, 1].foldl (fun o d =>
    let wa := if a = 1 then ft else 4096 - ft
    let wb := if b = 1 then f1 else 256 - f1
    let wd := if d = 1 then f2 else 512 - f2
    o + wa * wb * wd * node (it + a) (i1 + b) (i2 + d)) o) o) 0
  (sum : Rat) / (4096 * 256 * 512)

/-- The hold table's result (R165), exact. -/
def odrHold (h : Nat → Nat) (c : Nat) : Rat :=
  let (it, ft) := (c / 4096, c % 4096)
  h it + ((h (it + 1) : Int) - h it : Int) * (ft : Rat) / 4096

/-- The blend over the temperature points θ_0 … θ_P (R154), rounded once, half up. -/
def odrBlend (theta : Nat → Int) (p : Nat) (o : Nat → Rat) (t : Int) : Nat :=
  let v : Rat :=
    if t ≤ theta 0 then o 0
    else if theta p ≤ t then o p
    else match (List.range p).find? (fun i => theta i ≤ t && t < theta (i + 1)) with
      | some i =>
        let f : Rat := ((t - theta i : Int) : Rat) / ((theta (i + 1) - theta i : Int) : Rat)
        (1 - f) * o i + f * o (i + 1)
      | none => o p
  (clampInt 0 0xFFFF (roundUp v)).toNat

/-- The temperature of a mean code through the thermistor curve E (R155), in 1/16 °C. -/
def odrCurve (e : Nat → Int) (a : Nat) : Int :=
  let (i, f) := (a / 64, a % 64)
  roundAway (e i + ((e (i + 1) - e i : Int) : Rat) * f / 64)

/-- The mean of codes, rounded half up (R155). -/
def odrMean (codes : List Nat) : Nat := divRound (codes.foldl (· + ·) 0) (max 1 codes.length)

/-- The temperatures of the thermistor grid's nodes (R156): nodes without a valid input take the mean of the others, or the
default where no input is valid. -/
def odrNodes (dflt : Int) (nodes : List (Option Int)) : List Int :=
  let good := nodes.filterMap id
  let sub : Int := if good.isEmpty then dflt else roundAway (((good.foldl (· + ·) 0 : Int) : Rat) / good.length)
  nodes.map fun n => n.getD sub

/-- The position on an axis of n nodes over m + 1 pixels: the lower node and the fraction above it (R156). -/
def odrAxis (n m : Nat) (p : Rat) : Nat × Rat :=
  if n ≤ 1 ∨ m = 0 then (0, 0)
  else
    let u := p * (n - 1 : Nat) / m
    let i := min (n - 2) u.floor.toNat
    (i, min 1 (u - i))

/-- The field at a point (R156), exact, from the nodes row by row. -/
def odrField (cols rows w h : Nat) (t : List Int) (x y : Rat) : Rat :=
  let (a, fx) := odrAxis cols (w - 1) x
  let (b, fy) := odrAxis rows (h - 1) y
  let at' (i j : Nat) : Rat := (t.getD (min j (rows - 1) * cols + min i (cols - 1)) 0 : Int)
  (1 - fx) * (1 - fy) * at' a b + fx * (1 - fy) * at' (a + 1) b + (1 - fx) * fy * at' a (b + 1) + fx * fy * at' (a + 1) (b + 1)

/-- One update of a heat state (R157), from the three levels of the zone; a dead colour's level is 0. -/
def odrHeat (alpha e : Nat) (levels : Rgb) : Nat :=
  let p : Rat := ((t16 levels.r + t16 levels.g + t16 levels.b) * 256 : Nat) / 3
  (clampInt 0 16777216 (e + roundAway ((t16 alpha : Rat) * (p - e) / 65536))).toNat

/-- Δ_z of a heat state (R157), in 1/16 °C. -/
def odrRise (coef e : Nat) : Nat := divRound (e * coef) 16777216

/-- T_z (R158): the field at the centre of the zone, rounded once, plus Δ_z, saturated at signed 16 bits. -/
def odrZone (field : Rat) (rise : Nat) : Int := clampInt (-32768) 32767 (roundAway field + rise)

/-- `HIST_NEED` of a layer (R160), from its widest band, its height and its components. -/
def odrNeed (bandWidth height comps : Nat) : Nat :=
  divCeil (divCeil bandWidth 64 * divCeil height 4 * (2 + 384 * comps)) 1048576

/-- The dither matrix (Table 6.1). -/
def ditherM (row col : Nat) : Nat :=
  [0, 8, 2, 10, 12, 4, 14, 6, 3, 11, 1, 9, 15, 7, 13, 5].getD (row % 4 * 4 + col % 4) 0

/-- Dither (R166): the N-bit value and whether it saturated. Mode 0 rounds, 1 takes the matrix, 2 the tile; (x, y) are
the element's coordinates with the plane's offsets added. -/
def ditherCode (n mode phase : Nat) (tile : Nat → Nat → Nat) (x y v : Nat) : Nat × Bool :=
  let f := 16 - n
  let q := v / 2 ^ f
  let r8 := v % 2 ^ f * 2 ^ (8 - f)
  let v' :=
    if mode = 0 then (v + 2 ^ (f - 1)) / 2 ^ f
    else
      let theta := if mode = 1 then 16 * ((ditherM y x + 4 * phase) % 16) + 8 else (tile (y % 64) (x % 64) + 64 * phase) % 256
      q + bit (theta < r8)
  (min (2 ^ n - 1) v', 2 ^ n - 1 < v')

end Sys2Proof.Machine
end

