-- ==== Sys2Proof/Machine/OverdriveDither.lean ====
section
/-! DEFINITION. Overdrive and dither (chapter 6): the commands OVERDRIVE, DITHER and THERMISTOR_CONVERSION, and what a TG0
frame boundary and a commit do to the two engines. -/

namespace Sys2Proof.Machine

/-! ### Parameters -/

/-- Temperature point θ_i (R154). -/
def Snap.theta (p : Snap) (i : Nat) : Int :=
  signed 16 (p.get (if i % 2 = 0 then F.ODR_TEMP_LO (i / 2) else F.ODR_TEMP_HI (i / 2)))

/-- A transition node (Table 6.2). -/
def Snap.odrNode (p : Snap) (set tau it i1 i2 : Nat) : Nat :=
  tblHalf p.tbl (0x280000 + 0x2000 * (8 * set + tau) + 2 * ((17 * i2 + i1) * 17 + it))

/-- A hold node (Table 6.2). -/
def Snap.odrHoldNode (p : Snap) (set tau i : Nat) : Nat := tblHalf p.tbl (0x2C0000 + 0x40 * (8 * set + tau) + 2 * i)

/-- Whether overdrive of a layer is enabled. -/
def Snap.odrOn (p : Snap) (rear : Bool) : Bool := p.flag (if rear then F.ODR_CFG_REAR_EN else F.ODR_CFG_FRONT_EN)

/-- `BASE` and `COUNT` of a layer's history (R159). -/
def Snap.odrFolds (p : Snap) (rear : Bool) : Nat × Nat :=
  if rear then (p.get F.ODR_HIST_R_BASE, p.get F.ODR_HIST_R_COUNT) else (p.get F.ODR_HIST_F_BASE, p.get F.ODR_HIST_F_COUNT)

/-- The fold-window address and the end of the slot of band k in buffer b (R159). -/
def Snap.odrSlot (p : Snap) (rear : Bool) (b k : Nat) : Nat × Nat :=
  let (base, count) := p.odrFolds rear
  let a := foldBase (base + b * count) + k * count * 1048576
  (a, a + count * 1048576)

/-- The set of an element's plane (R152). -/
def Snap.odrSet (p : Snap) (plane : Nat) : Nat := if plane = 3 then 3 else if p.flag F.ODR_CFG_PER_COLOUR then plane else 0

/-- The input of grid node n (Table 6.7). -/
def Snap.odrMap (p : Snap) (n : Nat) : Nat :=
  if n < 8 then bits (p.get F.ODR_TMAP0_NODES) (4 * n + 3) (4 * n) else bits (p.get F.ODR_TMAP1_NODES) (4 * (n - 8) + 3) (4 * (n - 8))

/-! ### Thermistors (R155) -/

/-- The inputs that the grid maps. -/
def Snap.odrInputs (p : Snap) : List Nat :=
  (List.range (p.get F.ODR_TGRID_COLS * p.get F.ODR_TGRID_ROWS)).map p.odrMap

/-- Whether an input is valid: converted and not excluded. -/
def State.thValid (s : State) (k : Nat) : Bool := s.flag (F.ODR_TH_READ_VALID k)

/-- A conversion of thermistor k gives a code (R155). -/
def State.thermistor (s : State) (k code : Nat) : State :=
  if !s.domOn 31 then s
  else
    let t := mget {} s.odr.inputs k
    let inside := s.get F.ODR_TH_LIMITS_LO ≤ code && code ≤ s.get F.ODR_TH_LIMITS_HI
    let good := if inside then min 16 (t.good + 1) else 0
    let excluded := if inside then t.excluded && good < 16 else true
    let t' : Thermistor := ⟨if inside then (code :: t.codes).take 16 else t.codes, excluded, good⟩
    let s := { s with odr := { s.odr with inputs := mset ({} : Thermistor) s.odr.inputs k t' } }
    let s := if excluded then s.putB (F.ODR_TH_READ_VALID k) false
      else
        let a := odrMean t'.codes
        let e (i : Nat) : Int := signed 16 (tblHalf s.tbl (0x2C1000 + 2 * i))
        ((s.put (F.ODR_TH_READ_ADC k) a).put (F.ODR_TH_READ_TEMP k) (signedSat 16 (odrCurve e a))).putB (F.ODR_TH_READ_VALID k) true
    let s := s.countIf (excluded && !t.excluded) R.ODR_CNT_TH_EXCL
    let none' := s.snapshot.odrInputs.all fun i => (mget ({} : Thermistor) s.odr.inputs i).excluded
    s.raiseIf (excluded != t.excluded) 108 (if excluded && none' then 3 else 2)

/-! ### What a TG0 frame boundary does -/

/-- Whether generator n's frame period for its frame is longer than 1/48 s (R165). -/
def State.runsSlow (s : State) (n : Nat) : Bool :=
  let r := mget ({} : TgRun) s.tg.runs n
  r.on && decide (1000000000 * 65536 < 48 * (r.planned * r.period))

/-- The instant at which the frame in progress ends at its planned length. -/
def TgRun.plannedEnd (r : TgRun) : Nat := r.lineStart + r.planned * r.period - r.line * r.period

/-- Generator n's frame in progress ends at this very instant, by its length or by a restart. -/
def State.endsNow (s : State) (n : Nat) : Bool :=
  let r := mget ({} : TgRun) s.tg.runs n
  r.on && (r.plannedEnd == s.now || r.targets.any (·.2 == s.now))

/-- The frame of TG0 in progress uses a hold table (R165), or has a frozen layer (R167): it counts once. A frame of the rear layer
counts with the TG0 frame that it shares more than an instant with (DEDUCED, assumption log 138). -/
def State.slowCount (s : State) : State :=
  let rear := !s.endsNow 1
  let h := s.flag F.ODR_STATUS_HOLD_F || (rear && s.flag F.ODR_STATUS_HOLD_R)
  let f := s.flag F.DTH_STATUS_FROZEN_F || (rear && s.flag F.DTH_STATUS_FROZEN_R)
  if !s.domOn 31 then s
  else
    let s := (s.countIf (h && !s.odr.holdCounted) R.ODR_CNT_HOLD).countIf (f && !s.dth.frozenCounted) R.DTH_CNT_FROZEN
    { s with odr := { s.odr with holdCounted := s.odr.holdCounted || h }, dth := { s.dth with frozenCounted := s.dth.frozenCounted || f } }

/-- What a layer's frame of generator n that begins makes of `ODR_STATUS.HOLD` and `DTH_STATUS.FROZEN` of the layer (R165, R167). -/
def State.slowLayer (s : State) (rear : Bool) : State :=
  if !s.domOn 31 then s
  else
    let slow := s.runsSlow (if rear then 1 else 0)
    let (hold, frozen) := if rear then (F.ODR_STATUS_HOLD_R, F.DTH_STATUS_FROZEN_R) else (F.ODR_STATUS_HOLD_F, F.DTH_STATUS_FROZEN_F)
    let h := s.odr.snap.flag F.ODR_CFG_HOLD_EN && s.odr.snap.odrOn rear && slow
    let s := (s.raiseIf (h != s.flag hold) 109 0).putB hold h
    (s.raiseIf (slow != s.flag frozen) 111 0).putB frozen slow

/-- The heat states after one boundary (R157). -/
def State.heatStep (s : State) (p : Snap) : SMap Nat :=
  let g := p.geom
  (List.range (g.zc * g.zr)).foldl (fun m z =>
    mset 0 m z (odrHeat (p.get F.ODR_HEAT_ALPHA) (mget 0 s.odr.heat z) (mget ⟨0, 0, 0⟩ s.spl.lastLevels z))) []

/-- The grid's node temperatures (R156). -/
def State.thNodes (s : State) (p : Snap) : List Int :=
  odrNodes (signed 16 (p.get F.ODR_TGRID_DEFAULT))
    (p.odrInputs.map fun i => if s.thValid i then some (signed 16 (s.get (F.ODR_TH_READ_TEMP i))) else none)

/-- The zone temperatures of the frame (R158). -/
def State.zoneTemps (s : State) (p : Snap) (heat : SMap Nat) : SMap Int :=
  let g := p.geom
  let nodes := s.thNodes p
  (List.range (g.zc * g.zr)).foldl (fun m z =>
    let (zx, zy) := (z % g.zc, z / g.zc)
    let f := odrField (p.get F.ODR_TGRID_COLS) (p.get F.ODR_TGRID_ROWS) g.w g.h nodes
      (((g.x0 zx + g.x1 zx : Nat) : Rat) / 2) (((g.y0 zy + g.y1 zy : Nat) : Rat) / 2)
    mset 0 m z (odrZone f (odrRise (p.get F.ODR_HEAT_COEF) (mget 0 heat z)))) []

/-- A layer's history at a boundary: the frame count since the restart, and the buffer index (R159, R164). -/
def OdrHistory.next (h : OdrHistory) (on : Bool) : OdrHistory :=
  { h with frame := if !on then 0 else if h.restart then 1 else min 3 (h.frame + 1)
           restart := h.restart && !on
           index := (h.index + 1) % 3, failed1 := [], failed2 := [], samples := [], badSegs := [] }

/-- Overdrive at a TG0 frame boundary (R157 to R165); `p` holds the parameters of the frame that begins. -/
def State.odrBoundary (s : State) (p : Snap) : State :=
  if !s.domOn 31 then s
  else
    let heat := s.heatStep p
    let f := s.odr.front.next (p.odrOn false)
    let r := s.odr.rear.next (p.odrOn true)
    let s := { s with odr := { s.odr with
      snap := p, heat := heat, temps := s.zoneTemps p heat, front := f, rear := r, fullRaised := false } }
    let s := s.slowLayer false
    let s := if s.endsNow 1 then s else s.slowLayer true
    (s.put F.ODR_STATUS_HIST_F f.frame).put F.ODR_STATUS_HIST_R r.frame

/-- The histories of both layers restart at the next boundary (R164). -/
def State.odrRestart (s : State) (front rear : Bool) : State :=
  { s with odr := { s.odr with
      front := { s.odr.front with restart := s.odr.front.restart || front }
      rear := { s.odr.rear with restart := s.odr.rear.restart || rear } } }

/-- A commit asks for restarts (R164). -/
def State.odrAskRestart (s : State) (front rear : Bool) : State :=
  { s with odr := { s.odr with
      front := { s.odr.front with renew := s.odr.front.renew || front }
      rear := { s.odr.rear with renew := s.odr.rear.renew || rear } } }

/-- A synchronising reset (R164, R167). -/
def State.odrSyncReset (s : State) : State :=
  let s := (s.odrRestart true true).count R.ODR_CNT_SYNC
  let s := s.raise 106 0
  let s := s.count R.DTH_CNT_RESTART
  { s with dth := { s.dth with restart := true } }

/-- Dither at a TG0 frame boundary (R167): what the front exit buffer still holds is of the frame that ended. -/
def State.dthBoundary (s : State) (p : Snap) : State :=
  if !s.domOn 31 then s
  else
    let ff := s.flag F.DTH_STATUS_FROZEN_F
    let zero := s.dth.restart || !p.flag F.DTH_CFG_TEMPORAL_EN || ff || s.dth.wasSlow
    let s := s.put F.DTH_STATUS_PHASE (if zero then 0 else (s.get F.DTH_STATUS_PHASE + 1) % 4)
    let s := { s with
      odr := { s.odr with holdCounted := false }
      dth := { s.dth with
        snap := p, wasSlow := ff, frozenCounted := false, restart := false, sat := 0, half := 0
        values := s.dth.values.filter fun e => e.1 % 4 = 3 } }
    s.slowCount

/-! ### OVERDRIVE -/

/-- The history of a layer. -/
def State.odrHistory (s : State) (rear : Bool) : OdrHistory := if rear then s.odr.rear else s.odr.front

/-- The state with the history of a layer changed. -/
def State.setHistory (s : State) (rear : Bool) (h : OdrHistory) : State :=
  { s with odr := if rear then { s.odr with rear := h } else { s.odr with front := h } }

/-- What a read of the history of frame N − back (1 or 2) at (x, y) of band k needs: the segment's number, its components, and the
slot's first address and end. -/
structure OdrAsk where
  seg : Nat
  n : Nat
  addr : Nat
  limit : Nat
  /-- The stream ended before it (R161). -/
  gone : Bool
  deriving DecidableEq, Repr

/-- That read of the history of a layer. -/
def State.odrAsk (s : State) (rear : Bool) (back k x y : Nat) : OdrAsk :=
  let p := s.odr.snap
  let (w, _, n) := p.geom.layer rear
  let h := s.odrHistory rear
  let b := (h.index + 3 - back) % 3
  let seg := segIndex (bandStart w (k + 1) - bandStart w k) (x - bandStart w k) y
  let slot := p.odrSlot rear b k
  ⟨seg, n, slot.1, slot.2, match mfind h.stored (16 * b + k) with | some m => m ≤ seg | none => false⟩

/-- Read a history value of frame N − back at column x of band k (R162): `none` where the read fails. -/
def State.odrRead (s : State) (rear : Bool) (back k x y comp : Nat) (ecc : EccMap) : Option Nat × State :=
  let q := s.odrAsk rear back k x y
  if q.gone then (none, s)
  else
    let r := s.ownerSegment 3 q.n 12 q.seg q.addr q.limit ecc 3
    (r.1.map fun cs => segSample cs (x - bandStart (s.odr.snap.geom.layer rear).1 k) y comp, r.2)

/-- That read waits for a fold (R265, R273). -/
def State.odrReadWaits (s : State) (rear : Bool) (back k x y : Nat) : Bool :=
  let q := s.odrAsk rear back k x y
  !q.gone && s.segmentWaits 3 q.n 12 q.seg q.addr q.limit

/-- A history read has failed in band k (R162). -/
def State.odrFail (s : State) (rear : Bool) (back k : Nat) : State :=
  let h := s.odrHistory rear
  let new := !(h.failed1 ++ h.failed2).contains k
  let s := s.setHistory rear (if back = 1 then { h with failed1 := k :: h.failed1 } else { h with failed2 := k :: h.failed2 })
  (s.countIf new R.ODR_CNT_HIST_ERR).raiseIf new 107 3

/-- A history read that OVERDRIVE of an element makes waits. -/
def State.odrWaits (s : State) (rear : Bool) (k x y : Nat) : Bool :=
  let h := s.odrHistory rear
  2 ≤ h.frame && !s.bypassed k && !h.failed1.contains k
    && (s.odrReadWaits rear 1 k x y || (h.frame = 3 && !h.failed2.contains k && s.odrReadWaits rear 2 k x y))

/-- h1 and h2 of an element with history value h (R162, R164). -/
def State.odrHistories (s : State) (rear : Bool) (k x y comp h : Nat) (ecc : EccMap) : Nat × Nat × State :=
  let hist := s.odrHistory rear
  if hist.frame < 2 then (h, h, s)
  else
    let (r1, s) := if hist.failed1.contains k then (none, s) else s.odrRead rear 1 k x y comp ecc
    match r1 with
    | none => (h, h, if hist.failed1.contains k then s else s.odrFail rear 1 k)
    | some h1 =>
      if hist.frame < 3 || hist.failed2.contains k then (h1, h1, s)
      else
        let (r2, s) := s.odrRead rear 2 k x y comp ecc
        match r2 with
        | none => (h1, h1, s.odrFail rear 2 k)
        | some h2 => (h1, h2, s)

/-- The temperature of an element (R158). -/
def State.elemTemp (s : State) (rear : Bool) (x y : Nat) : Int :=
  let g := s.odr.snap.geom
  let (xf, yf) := if rear then (x * g.w / g.wr, y * g.h / g.hr) else (x, y)
  mget 0 s.odr.temps (g.zoneAt xf yf)

/-- The output code of an element (R153, R154, R165). -/
def State.odrOutput (s : State) (plane x y c h1 h2 : Nat) : Nat :=
  let p := s.odr.snap
  let rear := plane == 3
  let set := p.odrSet plane
  let hold := s.flag (if rear then F.ODR_STATUS_HOLD_R else F.ODR_STATUS_HOLD_F)
  let o (tau : Nat) : Rat := if hold then odrHold (p.odrHoldNode set tau) c else odrTransition (p.odrNode set tau) c h1 h2
  odrBlend p.theta (p.get F.ODR_CFG_NTEMP) o (s.elemTemp rear x y)

/-- The blocks of band k's history of the frame in progress (R159). -/
def State.odrBlocks (s : State) (rear : Bool) (k : Nat) : List (List (List Nat)) :=
  let (w, h, n) := s.odr.snap.geom.layer rear
  let x0 := bandStart w k
  imageBlocks (bandStart w (k + 1) - x0) h n fun x y c =>
    mget 0 (s.odrHistory rear).samples (elemKey (if rear then 3 else c) (x0 + x) y)

/-- The encoder has ended the segment that an element completes and found it wrong: it reports that, and the stream will hold the
segment RAW (R288). -/
def State.odrVerify (s : State) (rear : Bool) (x y plane : Nat) : State :=
  let (w, h, _) := s.odr.snap.geom.layer rear
  let k := bandOf w x
  let (xb, bw) := (x - bandStart w k, bandStart w (k + 1) - bandStart w k)
  let i := segIndex bw xb y
  if plane < 2 || !(xb % 64 = 63 || xb + 1 = bw) || !(y % 4 = 3 || y + 1 = h) || (segEncode 12 ((s.odrBlocks rear k).getD i [])).2 then s
  else
    let hist := s.odrHistory rear
    ((s.setHistory rear { hist with badSegs := (k, i) :: hist.badSegs }).count R.CPR_CNT_VERIFY).raise 254 1

/-- The streams of a layer's history are written when its frame's last element has passed (R159, R161). -/
def State.odrStore (s : State) (rear : Bool) : State :=
  let p := s.odr.snap
  (List.range 16).foldl (fun s k =>
    let hist := s.odrHistory rear
    let blocks := s.odrBlocks rear k
    let (addr, limit) := p.odrSlot rear hist.index k
    let (s, done) := s.writeSegments 3 limit 12 (fun i => hist.badSegs.contains (k, i)) blocks addr 0
    let full := done < blocks.length
    let key := 16 * hist.index + k
    let s := s.setHistory rear { hist with stored := if full then mput hist.stored key done else merase hist.stored key }
    let s := s.countIf full R.ODR_CNT_HIST_FULL
    let s := s.raiseIf (full && !s.odr.fullRaised) 107 3
    { s with odr := { s.odr with fullRaised := s.odr.fullRaised || full } }) s

/-- OVERDRIVE of an element (R150 to R154, R162): its code from the compensation tile becomes its overdriven code. `mismatch` says
that the history encoder ends a segment with the element and finds its CODED form wrong (R288). -/
def State.overdrive (s : State) (x y plane : Nat) (ecc : EccMap) (mismatch : Bool) : State :=
  let p := s.odr.snap
  let rear := plane == 3
  let (w, h, _) := p.geom.layer rear
  let key := elemKey plane x y
  let c := mget 0 s.pcm.codeB key
  if w ≤ x || h ≤ y || !s.domOn 31 then s
  else if !p.odrOn rear then { s with odr := { s.odr with codes := mset 0 s.odr.codes key c } }
  else if s.odrWaits rear (bandOf w x) x y then s
  else
    let k := bandOf w x
    let hv := odrHist c
    let (out, s) :=
      if s.bypassed k then (c, s)
      else
        let (h1, h2, s) := s.odrHistories rear k x y (if rear then 0 else plane) hv ecc
        (s.odrOutput plane x y c h1 h2, s)
    let hist := s.odrHistory rear
    let s := s.setHistory rear { hist with samples := mset 0 hist.samples key hv }
    let s := { s with odr := { s.odr with codes := mset 0 s.odr.codes key out } }
    let s := if mismatch then s.odrVerify rear x y plane else s
    if x + 1 = w ∧ y + 1 = h ∧ 2 ≤ plane then s.odrStore rear else s

/-! ### DITHER -/

/-- The saturations of the frame are latched once the last elements of its layers have left the tiles (R171). -/
def State.dthLast (s : State) (rear both : Bool) : State :=
  let me := if rear then 2 else 1
  if !both || (s.dth.half != 0 && s.dth.half != me) then
    let s := s.latchCount R.DTH_CNT_SAT s.dth.sat
    { s with dth := { s.dth with sat := 0, half := 0 } }
  else { s with dth := { s.dth with half := me } }

/-- The code that dither takes: the overdriven code, or in a black frame the response table's code for transmittance 0
(Table 7.5). -/
def State.dthInput (s : State) (plane key : Nat) : Nat :=
  let seq := if plane = 3 then s.tg.rear else s.tg.front
  if seq.black then splResponse (s.dth.snap.response plane) 0 else mget 0 s.odr.codes key

/-- DITHER of an element (R166): its code becomes the N-bit value of its exit buffer. -/
def State.dither (s : State) (x y plane : Nat) : State :=
  let p := s.dth.snap
  let rear := plane == 3
  let (w, h, _) := p.geom.layer rear
  if w ≤ x || h ≤ y || !s.domOn 31 then s
  else
    let key := elemKey plane x y
    let mode := p.get (if rear then F.DTH_CFG_REAR_MODE else F.DTH_CFG_FRONT_MODE)
    let phase := if rear && s.flag F.DTH_STATUS_FROZEN_R then 0 else s.get F.DTH_STATUS_PHASE
    let (v, sat) := ditherCode (p.driverBits rear) mode phase (fun ty tx => tblByte p.tbl (0x2D0000 + 64 * ty + tx))
      (x + p.get (F.DTH_PLANE_OFS_OX plane)) (y + p.get (F.DTH_PLANE_OFS_OY plane)) (s.dthInput plane key)
    let s := { s with dth := { s.dth with values := mput s.dth.values key v, sat := s.dth.sat + bit sat } }
    if x + 1 = w ∧ y + 1 = h ∧ 2 ≤ plane then s.dthLast rear (p.flag F.SPL_CFG_REAR_EN) else s

/-! ### Commits (R168, R169) -/

/-- Whether two lists share an element. -/
def shares (a b : List Nat) : Bool := a.any fun x => b.contains x

/-- The first failed check of Table 6.3, 0 where all pass; `p` is what the commit would put in effect. -/
def State.odrReject (s : State) (p : Snap) : Nat :=
  let ranges (rear : Bool) : Nat × Nat := let (b, c) := p.odrFolds rear; (b, 3 * c)
  let (bf, nf) := ranges false
  let (br, nr) := ranges true
  let on := p.odrOn
  let inputs := p.odrInputs
  if !(List.range (p.get F.ODR_CFG_NTEMP)).all (fun i => p.theta i < p.theta (i + 1)) then 1
  else if (on false && 64 < bf + nf) || (on true && 64 < br + nr) || (on false && on true && bf < br + nr && br < bf + nf) then 2
  else if (on false && !s.foldsOwned 3 bf nf) || (on true && !s.foldsOwned 3 br nr) then 3
  else if p.get F.ODR_TH_LIMITS_HI ≤ p.get F.ODR_TH_LIMITS_LO || !inputs.Nodup then 4
  else 0

/-- `HIST_NEED` of both layers (R160). -/
def State.odrNeeds (s : State) : State :=
  let g := s.snapshot.geom
  (s.put F.ODR_STATUS_HIST_NEED_F (odrNeed (widestBand g.w) g.h 3)).put F.ODR_STATUS_HIST_NEED_R (odrNeed (widestBand g.wr) g.hr 1)

/-- The commit of `ODR` (R169); `raster` where the same commit changed TG0's or TG1's raster. -/
def State.odrCommit (s : State) : State :=
  if !s.anyWaiting 5 then s
  else
    let p := s.after (inEngine 5) 5
    let why := s.odrReject p
    if why ≠ 0 then
      ((s.putB F.ODR_STATUS_REJECTED true).put F.ODR_STATUS_REJECT_REASON why).raise 105 0
    else
      let old := s.snapshot
      let tables := !(s.waitingTbl 5).isEmpty
      let fresh (rear : Bool) := (p.odrOn rear && !old.odrOn rear) || p.odrFolds rear != old.odrFolds rear
      let s := (s.applyRegs (inEngine 5)).applyTbl 5
      let s := (s.putB F.ODR_STATUS_REJECTED false).put F.ODR_STATUS_REJECT_REASON 0
      let s := s.raiseIf tables 104 0
      (s.odrAskRestart (fresh false) (fresh true)).odrNeeds

/-- The commit of `DTH` (R168). -/
def State.dthCommit (s : State) : State :=
  let tables := !(s.waitingTbl 6).isEmpty
  ((s.applyRegs (inEngine 6)).applyTbl 6).raiseIf tables 110 0

/-! ### The commands -/

/-- OVERDRIVE (R153). -/
def execOverdrive (x y plane : Nat) (ecc : EccMap) (mismatch : Bool) (s : State) : Host.Outcome State Fault Refusal :=
  checked (.overdrive x y plane ecc mismatch) s fun s => s.overdrive x y plane ecc mismatch

/-- DITHER (R166). -/
def execDither (x y plane : Nat) (s : State) : Host.Outcome State Fault Refusal :=
  checked (.dither x y plane) s fun s => s.dither x y plane

/-- THERMISTOR_CONVERSION (R155). -/
def execThermistorConversion (k code : Nat) (s : State) : Host.Outcome State Fault Refusal :=
  checked (.thermistorConversion k code) s fun s => s.thermistor k code

end Sys2Proof.Machine
end

