-- ==== Sys2Proof/Machine/TimingGen.lean ====
section
/-! DEFINITION. The timing generators, the gate pads and the panel sequences (chapter 7), as one generator or one layer sees
them. What a frame boundary does in the other engines stands in Boundary.lean. -/

namespace Sys2Proof.Machine

/-! ### Lock sources and targets (R176 to R180, Table 7.1) -/

/-- The lock state of a generator: 0 OFF, 1 FREE, 2 ACQUIRE, 3 LOCKED, 4 HOLDOVER (Table 7.2). -/
def State.lockState (s : State) (n : Nat) : Nat := s.get (F.TG_STATUS_LOCK_STATE n)

/-- `TGn_LOCK_OFS` in 2^(−16) ns for lock sources INPUT and HOUSE. -/
def State.tgOfs (s : State) (n : Nat) : Int := signed 32 (s.reg (R.TG_LOCK_OFS n)) * 65536

/-- The nominal frame duration T_f of a generator (R178), by the raster of the frame in progress. -/
def State.tgTf (s : State) (n : Nat) : Nat := (s.run n).vtotal * (s.run n).tnom

/-- Alignment point k of a rate NUM / DEN, in 2^(−16) ns after the epoch (R176). -/
def alignPoint (num den : Nat) (k : Int) : Int := roundUp ((k : Rat) * den * (65536000000000 : Nat) / num)

/-- The index of the first alignment point that is not before an instant of house time. -/
def firstAlign (num den : Nat) (t : Int) : Int :=
  let k := Int.fdiv (t * num) (den * 65536000000000) - 1
  if t ≤ alignPoint num den k then k else if t ≤ alignPoint num den (k + 1) then k + 1 else k + 2

/-- House time at an instant of the nanosecond scale. -/
def State.houseAt (s : State) (t : Int) : Int := s.house.toUnits + (t - s.now)

/-- The first HOUSE target at or after an instant, and the one before it. -/
def State.houseTargets (s : State) (n : Nat) (t : Int) : Int × Int :=
  let (num, den) := (s.get (F.TG_HOUSE_RATE_NUM n), s.get (F.TG_HOUSE_RATE_DEN n))
  let k := firstAlign num den (s.houseAt t - s.tgOfs n)
  let back (v : Int) : Int := v + s.tgOfs n - s.houseAt t + t
  (back (alignPoint num den k), back (alignPoint num den (k - 1)))

/-- Whether two instants lie as near to a third. -/
def nearer (t a b : Int) : Int := if (a - t).natAbs ≤ (b - t).natAbs then a else b

/-- The target of an R59 edge (Table 7.1, R177), by the offset and the L_eff of now: a commit that changes L_eff moves it. -/
def State.edgeTarget (s : State) (n edge : Nat) : Int :=
  edge + s.tgOfs n + (if n = 0 then (2 + s.get F.SPL_STATUS_LA_EFF) * (s.run 0).tnom else 0 : Nat)

/-- The target that a boundary at an instant is measured against (R178): the nearest one, of lock source INPUT once an edge has
come since the last measurement (log 113); in HOLDOVER one of lock source HOUSE that returns within half a frame of it (log 139). -/
def State.measureTarget (s : State) (n inst : Nat) : Option Int :=
  match s.tgSrc n with
  | 1 =>
    let r := s.run n
    if r.fresh then ((r.edges.map (s.edgeTarget n)).foldl (fun m t => some (m.elim t (nearer inst · t))) none) else none
  | 2 =>
    let (a, b) := s.houseTargets n inst
    let t := nearer inst b a
    if s.lockState n = 4 && s.tgTf n < 2 * ((inst : Int) - t).natAbs then none else some t
  | _ => none

/-- The last reference instant that a generator has received since its lock source was acquired anew (Table 7.2). -/
def State.lastRef (s : State) (n : Nat) : Option Nat :=
  let r := s.run n
  match s.tgSrc n with
  | 1 => r.refAt
  | 2 =>
    let (a, b) := s.houseTargets n s.now
    let t := if a ≤ s.now then a else b
    if (r.lockAt : Int) ≤ t then some t.toNat else none
  | _ => none

/-- Tick 0 of line `VACTIVE` of the frame in progress. -/
def TgRun.vstart (r : TgRun) : Nat := r.lineStart + r.vactive * r.period - r.line * r.period

/-- The target that the generator's jump is placed on, if one is wanted and known (R179). -/
def State.jumpTarget (s : State) (n : Nat) : Option Nat :=
  let r := s.run n
  if !r.on || !r.may || s.lockState n != 2 then none
  else match s.tgSrc n with
    | 1 => ((r.edges.map (s.edgeTarget n)).find? fun t => (r.vstart : Int) ≤ t && (s.now : Int) ≤ t).map Int.toNat
    | 2 => some (s.houseTargets n r.vstart).1.toNat
    | _ => none

/-- The next restart instant of a follower (R180). -/
def State.restartTarget (s : State) (n : Nat) : Option Nat :=
  let r := s.run n
  if !r.on || s.tgSrc n != 3 then none
  else (r.targets.map (·.2)).foldl (fun m t => match m with | some v => some (min v t) | none => some t) none

/-- Whether a follower steps with its leader (R181): its `RATIO` is 1, and the frame of either is a stepped one. -/
def State.stepsAlong (s : State) (n : Nat) : Bool :=
  s.tgSrc n == 3 && s.tgRatio n == 1 && (s.get (F.TG_STATUS_STEP n) != 0 || s.get (F.TG_STATUS_STEP (s.tgLeader n)) != 0)

/-- A frame in progress runs on past its planned end: a jump is placed later (R179), a restart follows within a line (R180), or
the leader that it steps with goes on (R181). -/
def State.stretches (s : State) (n : Nat) : Bool :=
  let r := s.run n
  (s.jumpTarget n).any (fun t => r.plannedEnd ≤ t)
    || (s.restartTarget n).any (fun t => r.plannedEnd ≤ t && (t < r.plannedEnd + r.period || s.stepsAlong n))

/-- The R59 edge of a source frame at an instant gives every generator on lock source INPUT its target (Table 7.1, R177). -/
def State.inputEdge (s : State) (edge : Nat) : State :=
  s.each [0, 1, 2, 3] fun s n =>
    let r := s.run n
    if !r.on || s.tgSrc n != 1 then s else s.setRun n { r with edges := r.edges ++ [edge], fresh := true, refAt := some edge }

/-! ### Lock states and the servo (R178, Table 7.2) -/

/-- Followers show the state of their leader, however long the chain. -/
def State.followStates (s : State) : State :=
  s.each ([0, 1, 2, 3] ++ [0, 1, 2, 3] ++ [0, 1, 2, 3]) fun s n =>
    if (s.run n).on && s.tgSrc n == 3 then s.put (F.TG_STATUS_LOCK_STATE n) (s.lockState (s.tgLeader n)) else s

/-- The state with the lock state of a generator set, and those of its followers. -/
def State.setLock (s : State) (n st : Nat) : State := (s.put (F.TG_STATUS_LOCK_STATE n) st).followStates

/-- ACQUIRE: a jump is wanted in a frame that begins later (R179). The last servo period stays, for HOLDOVER (Table 7.2). -/
def State.tgAcquire (s : State) (n : Nat) : State :=
  (s.setRun n { s.run n with want := true, may := false, inWindow := 0 }).setLock n 2

/-- The servo of R178: the integrator and the next line period from the phase error, in 2^(−16) ns. -/
def tgServo (integ e : Rat) (tf tnom pull : Nat) : Rat × Nat :=
  let p : Rat := pull / 1000000
  let lim := 64 * p * tf
  let i := max (-lim) (min lim (integ + e))
  let c := max (-p) (min p ((e / 4 + i / 64) / tf))
  (i, (roundUp (tnom * (1 - c))).toNat)

/-- A phase error wrapped into (−T_f / 2, T_f / 2]. -/
def wrapError (e : Int) (tf : Nat) : Int := let x := e % tf; if tf < 2 * x then x - tf else x

/-- `TGn_PHASE_ERR` while there is no measurement. -/
def noPhase : Nat := 0x80000000

/-- The lock state after a measured phase error (Table 7.2), by the window and the nominal period of the frame that ends. -/
def State.tgJudge (s : State) (n : Nat) (e : Int) : State :=
  let r := s.run n
  let out := r.lockField (F.TG_LOCK_WINDOW n) * r.tnom < e.natAbs
  if s.lockState n = 2 then
    if r.want then s
    else if out then s.tgAcquire n
    else
      let k := if 16 * e.natAbs ≤ r.tnom then r.inWindow + 1 else 0
      let s := s.setRun n { r with inWindow := k }
      if 4 ≤ k then s.setLock n 3 else s
  else if out then s.tgAcquire n
  else s.setLock n 3

/-- The measurement at a frame boundary (R178), by the values of the frame that ends: the phase error and the lock state. The
edges whose targets have passed are done with. -/
def State.tgMeasure (s : State) (n inst : Nat) : State × Option Int :=
  if s.tgSrc n = 0 ∨ s.tgSrc n = 3 then (s.setReg (R.TG_PHASE_ERR n) noPhase, none)
  else match s.measureTarget n inst with
    | none => (s, none)
    | some t =>
      let e := wrapError (inst - t) (s.tgTf n)
      let s := s.setReg (R.TG_PHASE_ERR n) (unsigned 32 (clampInt (-0x7FFFFFFF) 0x7FFFFFFF (roundAway ((e : Rat) / 65536))))
      let r := s.run n
      let s := s.setRun n { r with edges := r.edges.filter fun x => (inst : Int) ≤ s.edgeTarget n x, fresh := false }
      (s.tgJudge n e, some e)

/-- The servo in LOCKED (R178): the line period of the frame that begins, by the values committed at its boundary. -/
def State.tgServoStep (s : State) (n : Nat) (e : Option Int) : State :=
  match e with
  | some e =>
    if s.lockState n != 3 then s
    else
      let tnom := s.snapshot.tnom n
      let (i, p) := tgServo (s.run n).integ e (s.get (F.TG_RASTER0_VTOTAL n) * tnom) tnom (s.get (F.TG_LOCK_PULL n))
      s.setRun n { s.run n with integ := i, servo := p }
  | none => s

/-- TG_HOLDOVER (R178, Table 7.2): no reference instant for two frame periods, after one was received. -/
def State.tgHoldover (s : State) (n : Nat) : State :=
  let st := s.lockState n
  let missing := (s.lastRef n).any fun t => t + 2 * s.tgTf n ≤ s.now
  if (s.run n).on && (st == 2 || st == 3) && missing then s.setLock n 4 else s

/-! ### Static refresh step-down (R181, R182) -/

/-- The rates of the levels of Table 7.3 in Hz; the nominal level has none. -/
def stepRate (level : Nat) : Nat := [0, 60, 48, 24].getD level 0

/-- The frame's length at a level: how many nominal frames on a reference's cadence, or how many lines. -/
def State.stepLength (s : State) (n level : Nat) : Nat :=
  let tnom := s.snapshot.tnom n
  let vt := s.get (F.TG_RASTER0_VTOTAL n)
  if s.lockState n = 3 ∧ (s.tgSrc n = 1 ∨ s.tgSrc n = 2) then
    vt * (if level = 0 then 1 else max 1 (65536000000000 / (stepRate level * vt * tnom)))
  else if level = 0 then vt else max vt (65536000000000 / (stepRate level * tnom))

/-- The next level below one that is not skipped, down to `MIN`. -/
def State.nextLevel (s : State) (n level : Nat) : Nat :=
  ((List.range 4).find? fun l => level < l && l ≤ s.get (F.TG_STEP_MIN n) + 1 && s.stepLength n l != s.stepLength n (l - 1)).getD level

/-- TG0's level at a boundary, from what the frame that ends there was (R181). -/
def State.tgStep (s : State) : State :=
  let r := s.run 0
  let level := s.get (F.TG_STATUS_STEP 0)
  let active := s.flag F.SRF_STATUS_ACTIVE
  let allow := match s.get (F.TG_STEP_ALLOW 0) with
    | 1 => active
    | 2 => true
    | _ => false
  if !(r.same && !r.changed) then (s.setRun 0 { r with statics := 0 }).put (F.TG_STATUS_STEP 0) 0
  else
    let k := min 255 (r.statics + 1)
    if s.get (F.TG_STEP_STATIC_N 0) ≤ k && allow && s.nextLevel 0 level != level then
      (s.setRun 0 { r with statics := 0 }).put (F.TG_STATUS_STEP 0) (s.nextLevel 0 level)
    else s.setRun 0 { r with statics := k }

/-! ### Frames -/

/-- The line period of a follower with a number of lines per frame from its leader (R180). -/
def State.derivedPeriod (s : State) (n vtotal : Nat) : Nat :=
  let l := s.run (s.tgLeader n)
  divRound (l.period * l.vtotal) (s.tgRatio n * vtotal)

/-- Whether a follower derives its line period from its leader (R180). -/
def State.tgDerives (s : State) (n : Nat) : Bool :=
  (s.run n).lockField (F.TG_LOCK_DERIVE n) != 0 && (s.run (s.tgLeader n)).on

/-- The line period of a frame that begins (R175, R178, R180). -/
def State.framePeriod (s : State) (n : Nat) : Nat :=
  let r := s.run n
  let st := s.lockState n
  let tnom := s.snapshot.tnom n
  if s.tgSrc n = 3 then (if s.tgDerives n then s.derivedPeriod n (s.get (F.TG_RASTER0_VTOTAL n)) else tnom)
  else if (st = 3 ∨ st = 4) ∧ r.servo ≠ 0 then r.servo else tnom

/-- A follower's next target from its leader's planned frame end (R180). -/
def State.followTarget (s : State) (n base now' period : Nat) : Nat :=
  let off := roundUp ((signed 32 (s.reg (R.TG_LOCK_OFS n)) : Rat) * period / 4096)
  let t : Int := base + off
  if t < now' then base else t.toNat

/-- A leader's frame begins at an instant that ended the frame before it: its followers compute their targets, those computed
from another end again (R180). -/
def State.leadFollowers (s : State) (n oldEnd inst : Nat) : State :=
  let l := s.run n
  s.each ((List.range 4).filter fun f => (s.run f).on && s.tgSrc f == 3 && s.tgLeader f == n) fun s f =>
    let r := s.run f
    let ts := if oldEnd = inst then r.targets
      else r.targets.filter (fun t => t.1 != oldEnd) ++ [(inst, s.followTarget f inst inst l.period)]
    let ts := ts ++ [(l.told, s.followTarget f l.told inst l.period)]
    s.setRun f { r with targets := ts, period := if s.tgDerives f then s.derivedPeriod f r.vtotal else r.period }

/-- The planned lines of a frame with a period at a level (R181, R182, R210): TG0's by its level, those of a follower that steps
with its leader as long as the leader's, all others' `VTOTAL`. -/
def State.plannedLines (s : State) (n level period : Nat) : Nat :=
  let vt := s.get (F.TG_RASTER0_VTOTAL n)
  let l := s.run (s.tgLeader n)
  if n = 0 then s.stepLength 0 level else if level = 0 then vt else max vt (l.planned * l.period / max 1 period)

/-- A new frame of a generator begins at an instant, with the committed raster (R173, R466). -/
def State.tgFrame (s : State) (n inst : Nat) : State :=
  let r := s.run n
  let level := if n = 0 then s.get (F.TG_STATUS_STEP 0)
    else if s.tgSrc n = 3 ∧ s.tgRatio n = 1 then s.get (F.TG_STATUS_STEP (s.tgLeader n)) else 0
  let s := s.put (F.TG_STATUS_STEP n) level
  let period := s.framePeriod n
  let s := s.setRun n { r with
    on := true, vtotal := s.get (F.TG_RASTER0_VTOTAL n), vactive := s.get (F.TG_RASTER0_VACTIVE n), tnom := s.snapshot.tnom n
    period := period, line := 0, frameStart := inst, lineStart := inst, planned := s.plannedLines n level period
    unpaired := upTo 16 fun g => s.tg.unpaired.contains (16 * n + g)
    may := r.want, changed := false, underrun := false, linesSent := 0 }
  let s := s.setRun n { s.run n with told := (s.run n).plannedEnd }
  let s := s.countIf (level != 0) (R.TG_CNT_STEP n)
  s.leadFollowers n r.told inst

/-! ### Gate pads (R183 to R185) -/

/-- The generator of a layer. -/
def layerTg : Layer → Nat | .front => 0 | .rear => 1

/-- The panel sequence of a layer. -/
def State.panel (s : State) (l : Layer) : PanelSeq := match l with | .front => s.tg.front | .rear => s.tg.rear

/-- The state with the panel sequence of a layer changed. -/
def State.setPanel (s : State) (l : Layer) (p : PanelSeq) : State :=
  { s with tg := match l with | .front => { s.tg with front := p } | .rear => { s.tg with rear := p } }

/-- Gate pad `sig` of a layer. -/
def State.pad (s : State) (l : Layer) (sig : Nat) : GatePad := mget ({} : GatePad) s.tg.pads (16 * layerTg l + sig)

/-- The state with a gate pad changed. -/
def State.setPad (s : State) (l : Layer) (sig : Nat) (p : GatePad) : State :=
  { s with tg := { s.tg with pads := mset ({} : GatePad) s.tg.pads (16 * layerTg l + sig) p } }

/-- The level that the part drives on a gate pad; `none` at high impedance (R183, Tables 7.5, 7.6, R466). -/
def State.padLevel (s : State) (l : Layer) (sig : Nat) : Option Bool :=
  let p := s.pad l sig
  let n := layerTg l
  if p.hiZ then none
  else match (s.panel l).gates with
    | .discharge => some (s.flag (F.TG_GATE_CFG_DISCH n sig))
    | .park => some (s.flag (F.TG_GATE_CFG_PARK n sig))
    | .pattern => some (if (s.run n).on then p.pulse != s.flag (F.TG_GATE_CFG_POL n sig) else s.flag (F.TG_GATE_CFG_PARK n sig))

/-- Whether line l of the frame in progress carries a pulse of a signal by its lines (R183). -/
def State.gateLine (s : State) (n sig l : Nat) : Bool :=
  let first := s.get (F.TG_GATE_LINES_FIRST n sig)
  first ≤ l && l ≤ s.get (F.TG_GATE_LINES_LAST n sig) && (l - first) % (max 1 (s.get (F.TG_GATE_CFG_STEP n sig))) == 0 && l < (s.run n).vtotal

/-- Whether a signal's committed pair is reversed (R184). -/
def Snap.reversed (p : Snap) (n sig : Nat) : Bool := decide (p.get (F.TG_GATE_EDGE_STOP n sig) < p.get (F.TG_GATE_EDGE_START n sig))

/-- The width of a signal's pulse in ticks, 0 where its pair has none: equal edges, or a reversed pair without `WRAP_EN`, or one
left from before `WRAP_EN` was cleared (R183, R184). -/
def State.gateWidth (s : State) (n sig : Nat) : Nat :=
  let (a, b) := (s.get (F.TG_GATE_EDGE_START n sig), s.get (F.TG_GATE_EDGE_STOP n sig))
  let r := s.run n
  if b < a ∧ (r.cfgField (F.TG_CFG_WRAP_EN n) = 0 ∨ r.unpaired.contains sig) then 0 else (b + 4096 - a) % 4096

/-- What a commit does to the reversed pairs (R184): those that it writes are pairs again, and where it clears `WRAP_EN` each
reversed pair in effect loses its pulses, from the next frame on (R466). -/
def State.pairsCommit (s : State) (n : Nat) (old : Snap) (written : List Nat) : State :=
  let kept := s.tg.unpaired.filter fun k => !(k / 16 == n && written.contains (k % 16))
  let cleared := old.flag (F.TG_CFG_WRAP_EN n) && !s.flag (F.TG_CFG_WRAP_EN n)
  let lost := if cleared then (upTo 16 (s.snapshot.reversed n)).map (16 * n + ·) else []
  let s := { s with tg := { s.tg with unpaired := kept ++ lost.filter fun k => !kept.contains k } }
  s.setRun n { s.run n with unpaired := (s.run n).unpaired.filter fun g => !written.contains g }

/-- A generator's pulses end (R179, R466). -/
def State.endPulses (s : State) (n : Nat) : State :=
  if n = 0 then s.each (List.range 16) fun s g => s.setPad .front g { s.pad .front g with pulse := false }
  else if n = 1 then s.each (List.range 16) fun s g => s.setPad .rear g { s.pad .rear g with pulse := false }
  else s

/-- The pulses of a generator's line that a restart cuts end with it; one that wraps runs on into the next line (R183, R184). -/
def State.endLine (s : State) (n : Nat) : State :=
  if 2 ≤ n then s
  else
    let l : Layer := if n = 0 then .front else .rear
    s.each (upTo 16 fun g => !s.snapshot.reversed n g) fun s g => s.setPad l g { s.pad l g with pulse := false }

/-- The instant of a tick of the line in progress (R175). -/
def TgRun.tick (r : TgRun) (k : Nat) : Nat := r.lineStart + (2 * k * r.period + 4096) / 8192

/-- GATE_PULSE_EDGE (R183, R184): a gate output goes to or leaves its active level. -/
def State.gateEdge (s : State) (n sig : Nat) (stop : Bool) : State :=
  let l : Layer := if n = 0 then .front else .rear
  let r := s.run n
  let p := s.pad l sig
  if !r.on || (s.panel l).gates != .pattern then s
  else if stop then
    (if p.pulse then (s.advanceTo (r.tick (s.get (F.TG_GATE_EDGE_STOP n sig)))).setPad l sig { p with pulse := false } else s)
  else if s.gateLine n sig r.line && 16 ≤ s.gateWidth n sig then
    (s.advanceTo (r.tick (s.get (F.TG_GATE_EDGE_START n sig)))).setPad l sig { p with pulse := true }
  else s

/-- The suppressed pulses of a line that begins (R184). -/
def State.gateSuppress (s : State) (n : Nat) : State :=
  let gates := if n < 2 then (List.range 16).filter fun g => 0 < s.gateWidth n g && s.gateWidth n g < 16 && s.gateLine n g (s.run n).line else []
  if gates.isEmpty then s else s.count (R.TG_CNT_SUPPRESS n) gates.length

/-- A jump at an instant (R179): pulses end, the integrator starts anew and the jump is counted. The edges whose targets have
passed are done with. -/
def State.tgJump (s : State) (n inst : Nat) : State :=
  let s := (s.endPulses n).setReg (R.TG_PHASE_ERR n) 0
  let r := s.run n
  let s := s.setRun n { r with
    integ := 0, inWindow := 0, want := false, may := false, edges := r.edges.filter fun x => (inst : Int) < s.edgeTarget n x
    fresh := false }
  s.count (R.TG_CNT_RELOCK n)

/-! ### Lines (R175, R187) -/

/-- What the beginning of a line does in its generator: the raster events and the suppressed pulses. -/
def State.tgLine (s : State) (n : Nat) : State :=
  let r := s.run n
  let s := s.raiseIf (r.line == r.vactive) (112 + 4 * n) 0
  let s := s.raiseIf (r.line == s.get (F.TG_LINE_MATCH_LINE n)) (113 + 4 * n) 0
  s.gateSuppress n

/-- LINE_START (R175): the generator begins its next line, up to its planned length or through stretch lines. -/
def State.lineStart (s : State) (n : Nat) : State :=
  let r := s.run n
  if !r.on || (r.planned ≤ r.line + 1 && !s.stretches n) then s
  else
    let t := r.lineStart + r.period
    let s := (s.advanceTo t).setRun n { r with line := r.line + 1, lineStart := t }
    let s := s.tgLine n
    if n = 0 then s.adlLineStart else s

/-! ### Panel power (R186, Tables 7.5 and 7.6) -/

/-- The `STATE` field of a layer. -/
def panelField (l : Layer) : FRef := match l with | .front => F.TG_PANEL_STATUS_STATE_F | .rear => F.TG_PANEL_STATUS_STATE_R

/-- The `ON` bit of a layer. -/
def panelOnField (l : Layer) : FRef := match l with | .front => F.TG_PANEL_CTRL_ON_F | .rear => F.TG_PANEL_CTRL_ON_R

/-- The bits of `TG_GATE_SHORT` of a layer. -/
def panelShortField (l : Layer) : FRef := match l with | .front => F.TG_GATE_SHORT_FRONT | .rear => F.TG_GATE_SHORT_REAR

/-- The state of a layer: 0 OFF, 1 POWERING_ON, 2 BLACK, 3 ON, 4 POWERING_OFF, 5 DISCHARGING, 6 PROTECTED. -/
def State.panelState (s : State) (l : Layer) : Nat := s.get (panelField l)

/-- A panel state; the backlight goes dark when the front layer leaves ON (R232), and may be lit again when it comes to ON. -/
def State.setPanelState (s : State) (l : Layer) (st : Nat) : State :=
  let lit := s.bleLit
  let s := s.put (panelField l) st
  let s := if l = .front ∧ st = 3 then { s with tg := { s.tg with dark := false } } else s
  if lit && !s.bleLit then s.bleDark else s

/-- Power-on starts (Table 7.5, step 1). -/
def State.panelStart (s : State) (l : Layer) : State :=
  let s := s.setPanel l {}
  let s := s.each (List.range 16) fun s g => s.setPad l g {}
  let s := if l = .rear then { s with tg := { s.tg with dark := false } } else s
  s.setPanelState l 1

/-- The enables of a layer. -/
def State.panelEnables (s : State) (l : Layer) : List Nat := upTo 4 fun k => s.flag (F.TG_PANEL_EN_CFG_LAYER k) == (l == .rear)

/-- Discharge starts (Table 7.6, step 3). -/
def State.panelDischarge (s : State) (l : Layer) : State :=
  (s.setPanel l { s.panel l with gates := .discharge, blackLeft := 0, black := false, released := [] }).setPanelState l 5

/-- Orderly power-off of one layer starts (Table 7.6); without frame boundaries step 3 follows at once. -/
def State.panelOffOne (s : State) (l : Layer) : State :=
  let s := s.putB (panelOnField l) false
  let s := (s.setPanel l { s.panel l with heldOn := false, blackLeft := 0 }).setPanelState l 4
  if (s.run (layerTg l)).on then s else s.panelDischarge l

/-- The backlight goes off at the start of a protection sequence of either layer (Table 7.6, step 1; log 112). -/
def State.backlightOff (s : State) : State :=
  let lit := s.bleLit
  let s := { s with tg := { s.tg with dark := true } }
  if lit then s.bleDark else s

/-- Protection of one layer starts (Table 7.6). -/
def State.protectOne (s : State) (l : Layer) : State :=
  let s := s.putB (panelOnField l) false
  let s := s.setPanel l
    { s.panel l with heldOn := false, blackLeft := 0, black := false, gates := .discharge, released := [], protectDone := false }
  (s.setPanelState l 6).backlightOff

/-- Orderly power-off of a layer; the rear layer follows the front (R186). -/
def State.panelDown (s : State) (l : Layer) : State :=
  let s := s.panelOffOne l
  if l = .front ∧ 1 ≤ s.panelState .rear ∧ s.panelState .rear ≤ 3 then s.panelOffOne .rear else s

/-- A rear layer that is neither OFF nor PROTECTED follows the front layer into protection (R186). -/
def State.protectRear (s : State) : State :=
  if 1 ≤ s.panelState .rear ∧ s.panelState .rear ≤ 5 then s.protectOne .rear else s

/-- Protection of a layer; the rear layer follows the front (R186). -/
def State.protect (s : State) (l : Layer) : State :=
  let s := s.protectOne l
  if l = .front then s.protectRear else s

/-- A fresh write of `ON` = 1 (R186). -/
def State.panelOnWrite (s : State) (l : Layer) : State :=
  match s.panelState l with
  | 0 => s.panelStart l
  | 6 =>
    let s := s.put (panelShortField l) 0
    if (s.panel l).protectDone then s.panelStart l else s.setPanel l { s.panel l with heldOn := true }
  | 4 | 5 => s.setPanel l { s.panel l with heldOn := true }
  | _ => s

/-- A write of `ON` = 0 (R186). -/
def State.panelOffWrite (s : State) (l : Layer) : State :=
  match s.panelState l with
  | 1 | 2 | 3 => s.panelDown l
  | _ => s.setPanel l { s.panel l with heldOn := false }

/-- A write of `TG_PANEL_CTRL`: what the changed bits do (R186). -/
def State.panelCtrl (s : State) (v : Nat) : State :=
  let old := s.reg R.TG_PANEL_CTRL
  let s := s.setReg R.TG_PANEL_CTRL (v % 4)
  let one (s : State) (l : Layer) (b : Nat) : State :=
    if bitAt v b && !bitAt old b then s.panelOnWrite l else if bitAt old b && !bitAt v b then s.panelOffWrite l else s
  one (one s .front 0) .rear 1

/-- ON_DELAY_ELAPSED (Table 7.5, step 2). -/
def State.onDelay (s : State) (k : Nat) : State :=
  let l : Layer := if s.flag (F.TG_PANEL_EN_CFG_LAYER k) then .rear else .front
  if 1 ≤ s.panelState l && s.panelState l ≤ 3 then { s with tg := { s.tg with enables := mset false s.tg.enables k true } } else s

/-- GATE_DELAY_ELAPSED (Table 7.5, step 3). -/
def State.gateDelay (s : State) (l : Layer) : State :=
  if s.panelState l = 1 then s.setPanel l { s.panel l with gateDelayDone := true } else s

/-- The last enable of a layer is released (Table 7.6, step 5). -/
def State.panelReleased (s : State) (l : Layer) : State :=
  let p := s.panel l
  let s := s.setPanel l { p with gates := .park, protectDone := true, heldOn := false }
  let s := if s.panelState l = 5 then s.setPanelState l 0 else s
  if p.heldOn then s.panelStart l else s

/-- PANEL_ENABLE_RELEASE (Table 7.6, steps 4 and 5); `none` where no enable belongs to the layer. -/
def State.panelRelease (s : State) (l : Layer) (k : Option Nat) : State :=
  if !(s.panelState l == 5 || (s.panelState l == 6 && !(s.panel l).protectDone)) then s
  else match k with
    | none => if (s.panelEnables l).isEmpty then s.panelReleased l else s
    | some k =>
      if !(s.panelEnables l).contains k then s
      else
        let s := { s with tg := { s.tg with enables := mset false s.tg.enables k false } }
        let s := s.setPanel l { s.panel l with released := k :: (s.panel l).released.erase k }
        if (s.panelEnables l).all (s.panel l).released.contains then s.panelReleased l else s

/-- A layer at its frame boundary (R186, Tables 7.5, 7.6). -/
def State.panelBoundary (s : State) (l : Layer) : State :=
  let p := s.panel l
  let n := s.get F.TG_PANEL_TIMING_BLACK_FRAMES
  match s.panelState l with
  | 1 =>
    if !p.gateDelayDone then s
    else if n = 0 then (s.setPanel l { p with gates := .pattern }).setPanelState l 3
    else (s.setPanel l { p with gates := .pattern, blackLeft := n, black := true }).setPanelState l 2
  | 2 =>
    if p.blackLeft ≤ 1 then (s.setPanel l { p with blackLeft := 0, black := false }).setPanelState l 3
    else s.setPanel l { p with blackLeft := p.blackLeft - 1 }
  | 4 =>
    if p.blackLeft = 0 then
      (if n = 0 then s.panelDischarge l else s.setPanel l { p with blackLeft := n, black := true })
    else if p.blackLeft = 1 then s.panelDischarge l
    else s.setPanel l { p with blackLeft := p.blackLeft - 1 }
  | _ => s

/-- A short of a gate pad (R185): recorded, the pad at high impedance, and protection unless it runs already. The pad must be
driven. -/
def State.gateShorted (s : State) (l : Layer) (sig : Nat) : State :=
  let f := panelShortField l
  let s := s.put f (setBit (s.get f) sig true)
  let s := s.setPad l sig { s.pad l sig with hiZ := true, pulse := false }
  let s := s.raise (if l = .front then 14 else 15) 4
  if s.panelState l = 6 then s else s.protect l

/-! ### Start, stop and commits (R174, R466) -/

/-- A generator stops (R466). -/
def State.tgStop (s : State) (n : Nat) : State :=
  let s := (s.endPulses n).setRun n {}
  let s := ((s.put (F.TG_STATUS_LOCK_STATE n) 0).put (F.TG_STATUS_STEP n) 0).setReg (R.TG_PHASE_ERR n) noPhase
  let s := s.followStates
  let s := if n = 0 then s.windowStop.put F.DEV_PATH_STATUS_MODE 0 else s
  let down (s : State) (l : Layer) : State := if layerTg l = n ∧ s.panelState l = 4 then s.panelDischarge l else s
  down (down s .front) .rear

/-- The registers of generator n. -/
def tgRegs (n a : Nat) : Bool := a / 0x400 == 0x70 + n

/-- The five registers that a raster check rejects together (R174). -/
def tgFive (n : Nat) : List Nat := [R.TG_RASTER0 n, R.TG_RASTER1 n, R.TG_LINE_PERIOD n, R.TG_CFG n, R.TG_LOCK n]

/-- The signals of generator n whose edge pair a commit writes. -/
def State.pairsWaiting (s : State) (n : Nat) : List Nat := upTo 16 fun g => (mfind s.shadow (R.TG_GATE_EDGE n g)).isSome

/-- Whether the leaders of generators on lock source TG form a loop that n is on (R174). -/
def Snap.tgLoop (p : Snap) (n : Nat) : Nat → Nat → Bool
  | 0, _ => false
  | fuel + 1, m =>
    p.get (F.TG_CFG_LOCK_SRC m) == 3 && (p.get (F.TG_CFG_LEADER m) == n || p.tgLoop n fuel (p.get (F.TG_CFG_LEADER m)))

/-- The checks of R174 on generator n. -/
def Snap.tgReject (p : Snap) (n : Nat) : Bool :=
  let (va, vt, t, w) := (p.lines n, p.get (F.TG_RASTER0_VTOTAL n), p.tnom n, p.width n)
  va == 0 || vt ≤ va || t < 0x03415556
    || (n == 0 && (w < 256 || 7680 < w || 4320 < va || 4 * vt * t < w * va * 65536))
    || (n == 1 && (p.width 0 < w || p.lines 0 < va))
    || p.tgLoop n 4 n

/-- A generator's lock source or leader has changed, or it has started with one (Table 7.2). -/
def State.tgRelock (s : State) (n inst : Nat) : State :=
  let s := s.setReg (R.TG_PHASE_ERR n) noPhase
  let s := s.setRun n { s.run n with
    integ := 0, inWindow := 0, lockAt := inst, refAt := none, edges := [], fresh := false, want := false, may := false, targets := [] }
  match s.tgSrc n with
  | 0 => s.setLock n 1
  | 3 =>
    let l := s.run (s.tgLeader n)
    let s := if l.on then s.setRun n { s.run n with targets := [(l.told, s.followTarget n l.told inst l.period)] } else s
    (s.put (F.TG_STATUS_LOCK_STATE n) (s.lockState (s.tgLeader n))).followStates
  | _ => s.tgAcquire n

/-- The frame that begins takes `TGn_CFG` and `TGn_LOCK` as committed (R466); a new lock source or leader is acquired
(Table 7.2). -/
def State.tgTake (s : State) (n inst : Nat) : State :=
  let r := s.run n
  let old := (s.tgSrc n, if s.tgSrc n = 3 then s.tgLeader n else 0)
  let s := s.setRun n { r with cfg := s.reg (R.TG_CFG n), lock := s.reg (R.TG_LOCK n) }
  if r.on && (s.tgSrc n, if s.tgSrc n = 3 then s.tgLeader n else 0) == old then s else s.tgRelock n inst

/-- Generator n commits one of its five raster registers (R174). -/
def State.tgFiveWaits (s : State) (n : Nat) : Bool := (tgFive n).any fun a => (mfind s.shadow a).isSome

/-- The generators whose raster a commit rejects (R174). Each is checked against what the commit leaves of the others: those found
rejected keep their values, and as this can make another check fail, the checks run again until none is added (log 114). -/
def State.tgRejected (s : State) : List Nat :=
  let left (bad : List Nat) : Snap := s.after (fun a => inEngine 7 a && !bad.any fun m => (tgFive m).contains a) 7
  (List.range 16).foldl (fun bad i =>
    let n := i % 4
    if !bad.contains n && s.tgFiveWaits n && (left bad).tgReject n then bad ++ [n] else bad) []

/-- The commit of generator n's registers (R173, R174), its raster dropped where it is rejected. The result says whether the
active raster of a layer has changed. -/
def State.tgCommitRegs (s : State) (n : Nat) (rejected : List Nat) : State × Bool :=
  let five := s.tgFiveWaits n
  let bad := five && rejected.contains n
  let old := s.snapshot
  let pairs := s.pairsWaiting n
  let s := s.applyRegs fun a => tgRegs n a && !(bad && (tgFive n).contains a)
  let s := if bad then s.dropRegs (tgFive n).contains else s
  let s := if five then s.putB (F.TG_STATUS_RASTER_REJECTED n) bad else s
  let s := s.pairsCommit n old pairs
  (s, n < 2 && (old.width n != s.snapshot.width n || old.lines n != s.snapshot.lines n))

end Sys2Proof.Machine
end

