-- ==== Sys2Proof/Machine/SelfRefresh.lean ====
section
/-! DEFINITION. The commands of self-refresh, of the store-mode reader and of the copy engine (chapter 10, R31, R272). -/

namespace Sys2Proof.Machine

/-- A write of `SRF_CTRL` (Table 10.6): ENTER, then EXIT. -/
def State.srfCtrl (s : State) (v : Nat) : State :=
  let s := if bitAt v 0 then s.setCause 3 else s
  if bitAt v 1 then s.clearCause 3 else s

/-- SRF_ENTER (R241): a write of `SRF_CTRL.ENTER` sets the cause HOST. -/
def execSrfEnter (ag : Agent) (s : State) : Host.Outcome State Fault Refusal :=
  checked (.srfEnter ag) s fun s => s.asWrite ag R.SRF_CTRL fun s => s.srfCtrl 1

/-- SRF_EXIT (R241): a write of `SRF_CTRL.EXIT` clears the cause HOST. -/
def execSrfExit (ag : Agent) (s : State) : Host.Outcome State Fault Refusal :=
  checked (.srfExit ag) s fun s => s.asWrite ag R.SRF_CTRL fun s => s.srfCtrl 2

/-- TG0's frame in progress is in its last line: its end is a boundary at which a cause that is set here counts (R241). -/
def State.frameEnding (s : State) : Bool := (s.run 0).on && decide ((s.run 0).planned ≤ (s.run 0).line + 1)

/-- STALL (Table 10.1): no `FRAME_START` for `IDLE_FRAMES` TG0 frames while the link is UP, the frame that ends now included. -/
def State.stall (s : State) : State :=
  let n := s.get F.SRF_CFG_IDLE_FRAMES
  let seen := s.pil.idleFrames + (if s.frameEnding then 1 else 0)
  if 0 < n && s.linkState == 2 && !s.pil.startSeen && n ≤ seen then s.setCause 2 else s

/-- STALL. -/
def execStall (s : State) : Host.Outcome State Fault Refusal := checked .stall s State.stall

/-- The owner of a region slot (Table 17.4). -/
def State.slotOwner (s : State) (slot : Nat) : Option Port := Port.ofNum (s.scopeOf (R.SRF_RS_CFG slot))

/-- SLOT_CFG_WRITE (R246). -/
def execSlotCfgWrite (ag : Agent) (slot : Nat) (v : Word) (s : State) : Host.Outcome State Fault Refusal :=
  checked (.slotCfgWrite ag slot v) s fun s => s.asWrite ag (R.SRF_RS_CFG slot) fun s => s.slotConfig slot v.toNat

/-- A fill, an echo or a rollback has run: unless it waited for a fold, it ends and the engine goes on (R252). -/
def State.copyRan (r : Bool × State) : State := if r.1 then r.2.useFree.copyEnds.srfKick else r.2

/-- FILL_COMPLETE (R252). -/
def execFillComplete (s : State) : Host.Outcome State Fault Refusal :=
  checked .fillComplete s fun s => match s.srf.inFlight with
    | some .fill => State.copyRan (s.fillBack s.freeEcc)
    | _ => s

/-- UPDATE_COPY_COMPLETE (R252, R254). -/
def execUpdateCopyComplete (x : CopyCheck) (s : State) : Host.Outcome State Fault Refusal :=
  checked (.updateCopyComplete x) s fun s => match s.srf.inFlight with
    | some (.update u) => s.updateCopyEnds u x.ecc x.mismatch
    | _ => s

/-- ECHO_COMPLETE (R252). -/
def execEchoComplete (s : State) : Host.Outcome State Fault Refusal :=
  checked .echoComplete s fun s => match s.srf.inFlight with
    | some (.echo us) => State.copyRan (s.copyTouched us s.freeEcc)
    | _ => s

/-- ROLLBACK_COMPLETE (R252, R254). -/
def execRollbackComplete (s : State) : Host.Outcome State Fault Refusal :=
  checked .rollbackComplete s fun s => match s.srf.inFlight with
    | some (.rollback u) => State.copyRan (s.copyTouched [u] s.freeEcc)
    | _ => s

/-- What a read start in self-refresh decides (R253). -/
def State.swapOrHold (s : State) : State :=
  if s.srf.complete.isEmpty then s
  else if s.srf.inFlight.isSome then
    (({ s with srf := { s.srf with holdStarts := true } }).count R.SRF_CNT_SWAP_WAIT).raise 226 0
  else
    let us := s.srf.complete
    let s := (s.setFront (1 - s.frontBuf)).count R.SRF_CNT_SWAP
    ({ s with srf := { s.srf with complete := [], swapped := s.srf.swapped ++ us, echoes := s.srf.echoes ++ [us], holdStarts := false } }).srfKick

/-- The read start of an output frame (R31, R253): the reader takes the front buffer; a frame that shows what the one before it
showed is held. -/
def State.readStart (s : State) : State :=
  if !(s.run 0).on then s
  else
    let s := if s.selfRefresh && !s.srf.exiting then s.swapOrHold else s
    let this := (s.frontBuf, mget 0#32 s.srf.frontNo s.frontBuf)
    let held := s.srf.lastRead == some this
    let s := s.countIf held R.SRF_CNT_HELD
    { s with srf := { s.srf with readBuf := s.frontBuf, readDue := true, lastRead := some this, readHeld := held, readPix := [], readSlots := []
                                 exitDue := s.srf.exitDue || (s.srf.exiting && s.srf.exitReady) } }

/-- READ_START. -/
def execReadStart (s : State) : Host.Outcome State Fault Refusal := checked .readStart s State.readStart

/-- The samples of a slot of one layout as those of another: a component that the other lacks is dropped, one that this lacks
is 0. -/
def fitComps (n : Nat) (c : List (List Nat)) : List (List Nat) := (List.range n).map fun i => c.getD i (List.replicate 256 0)

/-- The slot of the buffer not being read that lies at block (bx, by), with that buffer's layout. -/
def State.substitute (s : State) (bx bY : Nat) : Option (BufLayout × Nat) :=
  (s.layoutOf (1 - s.srf.readBuf)).bind fun lb =>
    if lb.cols ≤ bx ∨ lb.slots ≤ bY * lb.cols + bx then none else some (lb, bY * lb.cols + bx)

/-- A failed slot of the buffer being read is concealed from the other buffer (R272). -/
def State.concealSlot (s : State) (l : BufLayout) (bx bY i : Nat) (ecc : EccMap) : List (List Nat) × State :=
  let (f, b) := (s.srf.readBuf, 1 - s.srf.readBuf)
  let s := (s.count R.FST_CNT_CONCEAL).raise 242 3
  match s.substitute bx bY with
  | none => ([], s)
  | some (lb, j) => match s.readSlot b lb j ecc 3 with
    | (none, s) => ([], s)
    | (some c, s) =>
      (c, if lb.comps = l.comps && lb.cols = l.cols then s.ownerWrite 1 (s.slotAddr f l.comps i) (s.slotBytes b l.comps i)
        else s.writeSlot f l i (fitComps l.comps c) false)

/-- The substitute of a failed slot waits for its fold (R265, R272, R273). -/
def State.substituteWaits (s : State) (bx bY : Nat) : Bool :=
  (s.substitute bx bY).any fun r => s.slotsWait (1 - s.srf.readBuf) r.1.comps [r.2]

/-- The reader takes the samples of a block slot. -/
def State.readBlock (s : State) (l : BufLayout) (bx bY i : Nat) (c : List (List Nat)) : State :=
  let px := (List.range 256).foldl (fun (m : SMap InPixel) v =>
    let (x, y) := (64 * bx + v % 64, 4 * bY + v / 64)
    if x < l.w ∧ y < l.h then mset .zero m (pixKey x y) (slotPixel l.comps c x y) else m) s.srf.readPix
  { s with srf := { s.srf with readPix := px, readSlots := i :: s.srf.readSlots } }

/-- STORE_MODE_READ (R31, R237, R240, R272): the reader decodes a block slot of the frame it reads. A read that waits is made again, with
all that it meets, when the command comes again. -/
def State.storeRead (s : State) (bx bY : Nat) (ecc : EccMap) : State :=
  match s.layoutOf s.srf.readBuf with
  | none => s
  | some l =>
    let i := bY * l.cols + bx
    if l.cols ≤ bx ∨ l.slots ≤ i ∨ s.slotsWait s.srf.readBuf l.comps [i] then s
    else match s.readSlot s.srf.readBuf l i ecc 3 with
      | (some c, s) => s.readBlock l bx bY i c
      | (none, t) =>
        if s.substituteWaits bx bY then s
        else
          let r := t.concealSlot l bx bY i ecc
          r.2.readBlock l bx bY i r.1

/-- STORE_MODE_READ. -/
def execStoreModeRead (bx bY : Nat) (ecc eccBack : EccMap) (s : State) : Host.Outcome State Fault Refusal :=
  checked (.storeModeRead bx bY ecc eccBack) s fun s => s.storeRead bx bY (ecc ++ eccBack)

/-- A good read of `SRF_Hn_RESULT_LO` by a port (R255, R382): the word read, and the state. -/
def State.popResult (s : State) (p : Port) (n : Nat) : Nat × State :=
  if p.num ≠ n then (0, s)
  else match mget ([] : List SrfResult) s.srf.results n with
    | [] => (0, s)
    | r :: q =>
      (2 ^ 31 + q.length * 2 ^ 24 + r.slot * 2 ^ 20 + r.frame * 256 + r.outcome,
        ({ s with srf := { s.srf with results := mset [] s.srf.results n q } }).setReg (R.SRF_H_RESULT_HI n) r.tag.toNat)

/-- SRF_RESULT_POP (R255). -/
def execSrfResultPop (p : Port) (n : Nat) (s : State) : Host.Outcome State Fault Refusal :=
  checked (.srfResultPop p n) s fun s => s.answer p (s.popResult p n)

end Sys2Proof.Machine
end

