-- ==== Sys2Proof/Machine/Events.lean ====
section
/-! DEFINITION. What hosts do to events (chapter 18): pops, masks, routes, `PEND` and the interrupt pins. -/

namespace Sys2Proof.Machine

/-- Whether the oldest record of a target has been in its queue for `TIME` µs (R401). -/
def State.evtOld (s : State) (n : Nat) (t : EvtTarget) : Bool :=
  t.queue.head?.any fun r => r.entered + s.get (F.EVT_H_CFG_TIME n) * usUnit ≤ s.now

/-- The held counts in the order in which they are enqueued (R397): ascending source, the masked count first. -/
def evtHeldOrder (l : List EvtHeld) : List EvtHeld :=
  l.insertionSort fun a b => a.src < b.src || (a.src == b.src && (a.masked || !b.masked))

/-- The held counts that fit become records (R397); the result says how many did. -/
def State.evtRefill (s : State) (t : EvtTarget) : EvtTarget × Nat :=
  let fit := (evtHeldOrder t.held).take (256 - t.queue.length)
  let rec' (h : EvtHeld) : EvtRecord := ⟨h.src, h.count, h.cls, h.masked, true, h.stamp, s.now⟩
  ({ t with queue := t.queue ++ fit.map rec', held := (evtHeldOrder t.held).drop (256 - t.queue.length)
            urgentSeen := t.urgentSeen || fit.any fun h => s.flag (F.EVT_SRC_CFG_URGENT h.src) }, fit.length)

/-- The word of `EVT_Hn_POP` for a record with `left` records after it (Table 18.4). -/
def EvtRecord.word (r : EvtRecord) (left : Nat) : Nat :=
  2 ^ 31 + bit r.masked * 2 ^ 30 + bit r.overflow * 2 ^ 29 + r.src % 512 * 2 ^ 20 + r.count % 256 * 2 ^ 12 + r.cls % 8 * 2 ^ 9 + min 255 left

/-- The oldest record of target n leaves its queue, and held counts enter it (R397, R398): the record with the number that it left, if
there was one, and the state after it. -/
def State.popTarget (s : State) (n : Nat) : Option (EvtRecord × Nat) × State :=
  match (s.target n).queue with
  | [] => (none, s)
  | r :: q =>
    let (t, k) := s.evtRefill { s.target n with queue := q }
    (some (r, q.length), (s.setTarget n { t with timeDue := s.evtOld n t }).each (List.range k) fun s _ => s.evtCount n 0)

/-- A pop of target n's queue by port p (R382, R397, R398): the word read and the state after it. -/
def State.popEvt (s : State) (p : Port) (n : Nat) : Nat × State :=
  if p.num ≠ n then (0, s)
  else match s.popTarget n with
    | (none, s) => (0, s)
    | (some (r, left), s) => (r.word left, s.setReg (R.EVT_H_POP_HI n) r.stamp)

/-- A pop by an agent (R398). The core's own queue, target 3, has the same rules: the core pops it where it works; what it reads leaves
by no ball (DESIGN CHOICE, assumption log 129). -/
def State.agentPop (s : State) (ag : Agent) (n : Nat) : State :=
  match ag with
  | .host p => s.answer p (s.popEvt p n)
  | _ => if s.coreRuns then (s.popTarget 3).2 else s

/-- EVT_POP. -/
def execEvtPop (ag : Agent) (n : Nat) (s : State) : Host.Outcome State Fault Refusal :=
  checked (.evtPop ag n) s fun s => s.agentPop ag n

/-- The unmasked held count of a source goes into its masked one (R397). -/
def evtMergeHeld (held : List EvtHeld) (src : Nat) : List EvtHeld :=
  match held.find? (fun h => h.src == src && !h.masked) with
  | none => held
  | some u =>
    let rest := held.filter fun h => !(h.src == src && !h.masked)
    if rest.any (fun h => h.src == src) then
      rest.map fun h => if h.src = src then { h with count := min 255 (h.count + u.count), cls := max h.cls u.cls } else h
    else rest ++ [{ u with masked := true }]

/-- `MASK` of a source goes from 0 to 1 (R399): its records and held counts are marked in every queue. -/
def State.markMasked (s : State) (src : Nat) : State :=
  let mark (t : EvtTarget) : EvtTarget :=
    { t with queue := t.queue.map fun r => if r.src = src then { r with masked := true } else r, held := evtMergeHeld t.held src }
  { s with evt := { s.evt with targets := s.evt.targets.map fun e => (e.1, mark e.2), maskedAt := mput s.evt.maskedAt src s.now } }

/-- A write of `EVT_SRCnnn_CFG` (R395, R399, R400); `PEND` stays where an occurrence sets it in the cycle of the write (R15). -/
def State.srcConfig (s : State) (src v : Nat) : State :=
  let (mask, route) := (s.flag (F.EVT_SRC_CFG_MASK src), s.get (F.EVT_SRC_CFG_ROUTE src))
  let s := s.setReg (R.EVT_SRC_CFG src) (v % 16)
  let s := if route ≠ v % 4 then { s with evt := { s.evt with routeWas := mput s.evt.routeWas src (route, s.now) } } else s
  let s := if bitAt v 2 && !mask then s.markMasked src
    else if mask && !bitAt v 2 then { s with evt := { s.evt with maskedAt := merase s.evt.maskedAt src } }
    else s
  if bitAt v 31 && !s.sameCycle then { s with evt := { s.evt with pend := merase s.evt.pend src } } else s

/-- A write of one bit of a source's configuration. -/
def State.srcWrite (s : State) (ag : Agent) (src v : Nat) : State :=
  s.asWrite ag (R.EVT_SRC_CFG src) fun s => s.srcConfig src v

/-- MASK_SET (R399). -/
def execMaskSet (ag : Agent) (src : Nat) (s : State) : Host.Outcome State Fault Refusal :=
  checked (.maskSet ag src) s fun s => s.srcWrite ag src (setBit (s.reg (R.EVT_SRC_CFG src)) 2 true)

/-- MASK_CLEAR (R400). -/
def execMaskClear (ag : Agent) (src : Nat) (s : State) : Host.Outcome State Fault Refusal :=
  checked (.maskClear ag src) s fun s => s.srcWrite ag src (setBit (s.reg (R.EVT_SRC_CFG src)) 2 false)

/-- ROUTE_CHANGE (R395). -/
def execRouteChange (ag : Agent) (src route : Nat) (s : State) : Host.Outcome State Fault Refusal :=
  checked (.routeChange ag src route) s fun s => s.srcWrite ag src (putBits (s.reg (R.EVT_SRC_CFG src)) 1 0 route)

/-- PEND_CLEAR (R400, R15). -/
def execPendClear (ag : Agent) (src : Nat) (same : Bool) (s : State) : Host.Outcome State Fault Refusal :=
  checked (.pendClear ag src same) s fun s => (s.cycle same).srcWrite ag src (setBit (s.reg (R.EVT_SRC_CFG src)) 31 true)

/-- A write of `EVT_Hn_CFG` (R401): `COUNT` and `TIME` 0 are reserved. -/
def State.targetConfig (s : State) (n v : Nat) : State :=
  if bits v 23 16 = 0 ∨ bits v 15 0 = 0 then s.refuseWord
  else
    let keep := s.get (F.EVT_H_CFG_TIME n) == bits v 15 0
    let s := s.setReg (R.EVT_H_CFG n) (bits v 31 31 * 2 ^ 31 + v % 2 ^ 24)
    let t := s.target n
    s.setTarget n { t with timeDue := (t.timeDue && keep) || s.evtOld n t }

/-- INTN_EN_WRITE (R401). -/
def execIntnEnWrite (ag : Agent) (n : Nat) (en : Bool) (s : State) : Host.Outcome State Fault Refusal :=
  checked (.intnEnWrite ag n en) s fun s =>
    s.asWrite ag (R.EVT_H_CFG n) fun s => s.targetConfig n (setBit (s.reg (R.EVT_H_CFG n)) 31 en)

/-- COALESCE_TIME (R401): where the oldest record of a target has been in the queue for `TIME` µs, that is so from now on. -/
def execCoalesceTime (n : Nat) (s : State) : Host.Outcome State Fault Refusal :=
  checked (.coalesceTime n) s fun s =>
    let t := s.target n
    if s.evtOld n t then s.setTarget n { t with timeDue := true } else s

end Sys2Proof.Machine
end

