-- ==== Sys2Proof/Machine/House.lean ====
section
/-! DEFINITION. House time: its steps, the PTP and PPS servo, the states and the network commands (chapter 14). -/

namespace Sys2Proof.Machine

/-- The state with the servo's memory changed. -/
def State.setHtm (s : State) (h : HtmState) : State := { s with htm := h }

/-- The source of house time: 0 PTP, 1 PPS, 2 NONE. -/
def State.htmSrc (s : State) : Nat := s.get F.HTM_CFG_SRC

/-- House time changes state (R324): 0 FREERUN, 1 ACQUIRE, 2 LOCKED, 3 HOLDOVER. -/
def State.htmGo (s : State) (st : Nat) : State :=
  if s.get F.HTM_STATUS_STATE = st then s
  else ((s.put F.HTM_STATUS_STATE st).countIf (st == 3) R.HTM_CNT_HOLDOVER).raise 417 (if st = 3 then 2 else 0)

/-- House time in ns with its fraction kept, moved by whole nanoseconds (R317). -/
def HouseTime.step (t : HouseTime) (d : Int) : HouseTime :=
  let n : Int := (t.sec * 1000000000 + t.ns : Nat) + d
  if n < 0 then {} else { t with sec := (n / 1000000000).toNat % 2 ^ 48, ns := (n % 1000000000).toNat }

/-- A step of house time (R317, Table 14.3). -/
def State.houseStep (s : State) (d : Int) : State :=
  let s := (({ s with house := s.house.step d }).count R.HTM_CNT_STEP).raise 418 0
  let s := s.setHtm { s.htm with freshServo := true, inLock := 0 }
  if s.htmSrc = 2 || !s.coreRuns then s else s.htmGo 1

/-- A write of `HTM_STEP_NS` (R317). -/
def State.stepWord (s : State) (v : Nat) : State :=
  s.houseStep (signed 32 (s.reg R.HTM_STEP_SEC) * 1000000000 + signed 32 v)

/-- HTM_STEP. -/
def execHtmStep (ag : Agent) (v : Word) (s : State) : Host.Outcome State Fault Refusal :=
  checked (.htmStep ag v) s fun s => s.asWrite ag R.HTM_STEP_NS fun s => s.stepWord v.toNat

/-- HTM_NOW_LATCH (R316): a port's read of `HTM_NOW_NS` latches seconds and fraction for that port. -/
def State.nowLatch (s : State) (p : Port) : State :=
  let t := s.house
  { s with hpt := mupd ({} : HptPort) s.hpt p.num fun h => { h with
      nowLo := some (BitVec.ofNat 32 t.sec), nowHi := some (BitVec.ofNat 32 (t.frac * 65536 + t.sec / 2 ^ 32 % 65536)) } }

/-- HTM_NOW_LATCH. -/
def execHtmNowLatch (p : Port) (s : State) : Host.Outcome State Fault Refusal :=
  checked (.htmNowLatch p) s fun s => s.answer p (s.house.ns, s.nowLatch p)

/-! ### The servo (R323) -/

/-- An instant of 2^(−16) ns in ns. -/
def nsOf (u : Int) : Rat := (u : Rat) / 65536

/-- A signed register value in ns, rounded and saturating below the code that means none. -/
def nsField (v : Rat) : Nat := unsigned 32 (clampInt (-0x7FFFFFFF) 0x7FFFFFFF (roundAway v))

/-- One turn of the servo from an offset o in ns and an interval T in seconds. -/
def State.servo (s : State) (o t : Rat) : State :=
  let s := s.setReg R.HTM_OFFSET (nsField o)
  let lim := s.reg R.HTM_STEP_LIMIT
  if lim ≠ 0 && (lim : Rat) < |o| then s.houseStep (-roundAway o)
  else
    let y := o / t
    let i := s.htm.integrator - s.get F.HTM_SERVO_KI * y / 4096
    let f := max (-32768) (min (32767 + 65535 / 65536 : Rat) (i - s.get F.HTM_SERVO_KP * y / 256))
    let k := if |o| ≤ s.get F.HTM_SERVO_LOCK_NS then min 16 (s.htm.inLock + 1) else 0
    let s := s.setHtm { s.htm with integrator := i, inLock := k, freshServo := false }
    let s := s.setReg R.HTM_FREQ (unsigned 32 (roundAway (f * 65536)))
    let s := if s.get F.HTM_STATUS_STATE = 0 ∨ s.get F.HTM_STATUS_STATE = 3 then s.htmGo 1 else s
    if s.get F.HTM_STATUS_STATE = 1 ∧ k = 16 then s.htmGo 2 else s

/-- A `Sync` of the selected master with its origin time (R319, R323): the servo runs once a path delay is known. -/
def State.useSync (s : State) (t1 t2 corr logInterval : Int) : State :=
  let h := s.htm
  let raw : Rat := match h.lastT1 with
    | some p => if h.freshServo then (2 : Rat) ^ logInterval else nsOf (t1 - p) / 1000000000
    | none => (2 : Rat) ^ logInterval
  let t := max (1 / 128) (min 16 raw)
  let s := s.setHtm { h with lastT1 := some t1, syncTimes := some (t1, t2, corr), pendingSync := none }
  match h.pathDelay with
  | none => s
  | some d => (s.count R.HTM_CNT_SYNC).servo (nsOf (t2 - t1 - corr) - d) t

/-- A timestamp in 2^(−16) ns. -/
def ptpUnits (t : PtpTime) : Int := ((t.sec * 1000000000 + t.ns) * 65536 : Nat)

/-- The stamp that the part takes now (R321, R326): house time at a resolution of 2 ns, the last point of the grid (DESIGN CHOICE,
assumption log 128). -/
def State.stamp (s : State) : Int := s.house.toUnits / 131072 * 131072

/-- The PTP servo listens: source PTP, the core runs. -/
def State.ptpOn (s : State) : Bool := s.htmSrc == 0 && s.coreRuns

/-- A dropped message or frame (R320). -/
def State.dropFrame (s : State) : State := s.count R.HTM_CNT_DROP

/-- The VLAN tag of the frames that the port accepts and sends (R320). -/
def State.netTag (s : State) : Option Nat := if s.flag F.HTM_NET_VLAN_EN then some (s.get F.HTM_NET_VID) else none

/-- A frame arrives at the network port: silent while `MGT` is not ON, it drops and counts every frame with another tag (R320). -/
def State.netTake (s : State) (vlan : Option Nat) (f : State → State) : State :=
  if !s.domOn 1 then s else if vlan = s.netTag then f s else s.dropFrame

/-- A PTP message arrives: one of another domain or with a wrong checksum is dropped (R320). -/
def State.ptpTake (s : State) (h : PtpHeader) (f : State → State) : State :=
  s.netTake h.vlan fun s => if h.domain = s.get F.HTM_CFG_DOMAIN ∧ h.sums then f s else s.dropFrame

/-- SYNC (R319, R321, R323). -/
def State.syncMsg (s : State) (sender seqId : Nat) (twoStep : Bool) (t1 : PtpTime) (corr logInterval : Int) : State :=
  if !s.ptpOn || s.htm.selected != some sender then s
  else
    let t2 := s.stamp - s.get F.HTM_LAT_RX * 65536
    let s := (s.putB F.HTM_STATUS_TWO_STEP twoStep).setHtm { s.htm with logSync := some logInterval, syncHeard := s.now }
    if twoStep then s.setHtm { s.htm with pendingSync := some ⟨sender, seqId, t2, corr, logInterval⟩ }
    else s.useSync (ptpUnits t1) t2 corr logInterval

/-- SYNC. -/
def execSync (h : PtpHeader) (sender seqId : Nat) (twoStep : Bool) (t1 : PtpTime) (corr li : Int) (s : State) :
    Host.Outcome State Fault Refusal :=
  checked (.sync h sender seqId twoStep t1 corr li) s fun s => s.ptpTake h fun s => s.syncMsg sender seqId twoStep t1 corr li

/-- FOLLOW_UP (R319): the origin time and the second correction of the `Sync` that waits. -/
def State.followUp (s : State) (sender seqId : Nat) (t1 : PtpTime) (corr : Int) : State :=
  match s.htm.pendingSync with
  | some w =>
    if s.ptpOn && w.sender == sender && w.seqId == seqId && s.htm.selected == some sender then
      s.useSync (ptpUnits t1) w.t2 (w.corr + corr) w.logInterval
    else s
  | none => s

/-- FOLLOW_UP. -/
def execFollowUp (h : PtpHeader) (sender seqId : Nat) (t1 : PtpStamp) (s : State) : Host.Outcome State Fault Refusal :=
  checked (.followUp h sender seqId t1) s fun s => s.ptpTake h fun s => s.followUp sender seqId t1.time t1.corr

/-- The part's MAC address (Table 14.4). -/
def State.macAddress (s : State) : Nat := s.reg R.HTM_MAC_HI % 65536 * 2 ^ 32 + s.reg R.HTM_MAC_LO

/-- The part's port identity: the EUI-64 of its MAC address, then port 1 (IEEE 1588-2019). -/
def State.portIdentity (s : State) : Nat :=
  let mac := s.macAddress
  ((mac / 2 ^ 24 * 65536 + 0xFFFE) * 2 ^ 24 + mac % 2 ^ 24) * 65536 + 1

/-- DELAY_REQ (R320 to R322): sent to the selected master, while `HTM_IP` is set (R427), and stamped. -/
def State.sendDelayReq (s : State) : State :=
  if !s.ptpOn || s.htm.selected.isNone || s.reg R.HTM_IP == 0 then s
  else
    let q := (s.htm.delayReqSeq + 1) % 65536
    (s.setHtm { s.htm with delayReqSeq := q, delayReqT3 := some (s.stamp + s.get F.HTM_LAT_TX * 65536) }).emit
      (.delayReq s.netTag (s.reg R.HTM_IP) (s.get F.HTM_NET_DSCP) q)

/-- DELAY_REQ. -/
def execDelayReq (b : Blank) (s : State) : Host.Outcome State Fault Refusal := checked (.delayReq b) s State.sendDelayReq

/-- DELAY_RESP (R322): it completes an exchange and averages the path delay. -/
def State.delayResp (s : State) (sender reqPort seqId : Nat) (t4 : PtpTime) (corr logMin : Int) : State :=
  if !s.ptpOn then s
  else match s.htm.delayReqT3 with
    | none => s.dropFrame
    | some t3 =>
      if s.htm.selected != some sender || reqPort != s.portIdentity || seqId != s.htm.delayReqSeq then s.dropFrame
      else
        let s := s.count R.HTM_CNT_DELAY
        let h := { s.htm with delayReqT3 := none, logMinDelayReq := some logMin }
        match h.syncTimes with
        | none => s.setHtm h
        | some (t1, t2, cs) =>
          let d := nsOf ((t2 - t1 - cs) + (ptpUnits t4 - t3 - corr)) / 2
          let d' := match h.pathDelay with
            | none => d
            | some p => p + (d - p) / 8
          (s.setHtm { h with pathDelay := some d' }).setReg R.HTM_PATH_DELAY (nsField d')

/-- DELAY_RESP. -/
def execDelayResp (h : PtpHeader) (sender rp q : Nat) (t4 : PtpStamp) (li : Int) (s : State) : Host.Outcome State Fault Refusal :=
  checked (.delayResp h sender rp q t4 li) s fun s => s.ptpTake h fun s => s.delayResp sender rp q t4.time t4.corr li

/-! ### Masters (R322, R324) -/

/-- The data-set comparison of IEEE 1588-2019: the key that orders masters of different grandmasters. -/
def announceKey (m : AnnounceMsg) : List Nat :=
  [m.priority1.toNat, m.clockClass.toNat, m.accuracy.toNat, m.variance, m.priority2.toNat, m.gmId.toNat, m.stepsRemoved, m.sender]

/-- Whether a key comes before another. -/
def keyLess : List Nat → List Nat → Bool
  | a :: r, b :: q => if a = b then keyLess r q else a < b
  | _, _ => false

/-- Of two masters the better one: by data set, or by steps and sender where they have one grandmaster. -/
def betterMaster (a b : ForeignMaster) : ForeignMaster :=
  let cut (m : AnnounceMsg) : List Nat := if a.last.gmId = b.last.gmId then (announceKey m).drop 6 else (announceKey m)
  if keyLess (cut b.last) (cut a.last) then b else a

/-- The best master. -/
def bestMaster (l : List ForeignMaster) : Option ForeignMaster :=
  l.foldl (fun (m : Option ForeignMaster) f => match m with
    | some b => some (betterMaster b f)
    | none => some f) none

/-- The announce interval of the profile, and its sync interval (Table 14.2). -/
def State.announceInterval (s : State) : Nat := if s.get F.HTM_CFG_PROFILE = 0 then 250000 * usUnit else 2000000 * usUnit
def State.syncInterval (s : State) : Nat := if s.get F.HTM_CFG_PROFILE = 0 then 125000 * usUnit else 1000000 * usUnit

/-- A master has been silent for the announce timeout, or, where it is the selected one, no `Sync` of it has come for 16 sync intervals
(Table 14.2). -/
def State.masterSilent (s : State) (f : ForeignMaster) : Bool :=
  f.heard + 3 * s.announceInterval ≤ s.now || (s.htm.selected == some f.sender && s.htm.syncHeard + 16 * s.syncInterval ≤ s.now)

/-- Whether a master may be selected (R322): it has qualified, and it is not silent. -/
def State.masterStands (s : State) (f : ForeignMaster) : Bool := f.qualified && !s.masterSilent f

/-- The registers that show the selected master's data set. -/
def State.showMaster (s : State) (m : AnnounceMsg) : State :=
  let s := (s.setReg R.HTM_GM_ID_LO (m.gmId.toNat % 2 ^ 32)).setReg R.HTM_GM_ID_HI (m.gmId.toNat / 2 ^ 32)
  let s := s.setReg R.HTM_GM_CLASS (m.priority1.toNat * 2 ^ 24 + m.clockClass.toNat * 65536 + m.accuracy.toNat * 256 + m.priority2.toNat)
  let s := s.setReg R.HTM_UTC (bit m.utcValid * 65536 + m.utcOffset.toNat)
  s.putB F.HTM_STATUS_PTP_TIMESCALE m.ptpTimescale

/-- No master is selected any more, which event 419 reports (R322). -/
def State.dropMaster (s : State) : State :=
  (s.setHtm { s.htm with selected := none, pendingSync := none, syncTimes := none, delayReqT3 := none, logSync := none }).raiseIf
    s.htm.selected.isSome 419 0

/-- The core selects among the masters heard (R322, R324). -/
def State.selectMaster (s : State) : State :=
  match bestMaster (s.htm.foreign.filter s.masterStands) with
  | some m =>
    let change := s.htm.selected != some m.sender
    let s := s.showMaster m.last
    if !change then s
    else
      let s := s.setHtm { s.htm with selected := some m.sender, freshServo := true, inLock := 0, pendingSync := none
                                     syncTimes := none, delayReqT3 := none, logSync := none, syncHeard := s.now }
      (s.raise 419 0).htmGo 1
  | none =>
    if s.htm.selected.isNone then s
    else if s.get F.HTM_STATUS_STATE = 1 ∨ s.get F.HTM_STATUS_STATE = 2 then s.dropMaster.htmGo 3 else s.dropMaster

/-- ANNOUNCE (R319, R322): a second message within four intervals qualifies its sender. -/
def State.announce (s : State) (m : AnnounceMsg) : State :=
  if !s.ptpOn then s
  else
    let q := (s.htm.foreign.find? fun f => f.sender == m.sender).any fun f => decide (s.now ≤ f.heard + 4 * s.announceInterval)
    let l := s.htm.foreign.filter (fun f => f.sender != m.sender) ++ [(⟨m.sender, m, s.now, q⟩ : ForeignMaster)]
    (s.setHtm { s.htm with foreign := l }).selectMaster

/-- ANNOUNCE. -/
def execAnnounce (m : AnnounceMsg) (s : State) : Host.Outcome State Fault Refusal :=
  checked (.announce m) s fun s => s.ptpTake m.head fun s => s.announce m

/-- ANNOUNCE_TIMEOUT (R324, Table 14.2): the masters that have been silent for their timeouts are lost. -/
def State.masterLost (s : State) : State :=
  if !s.ptpOn then s else (s.setHtm { s.htm with foreign := s.htm.foreign.filter fun f => !s.masterSilent f }).selectMaster

/-- ANNOUNCE_TIMEOUT. -/
def execAnnounceTimeout (s : State) : Host.Outcome State Fault Refusal := checked .announceTimeout s State.masterLost

/-- A write of `HTM_CFG` (R319, R324): a change of source starts from FREERUN, a change of domain loses the masters. -/
def State.htmConfig (s : State) (v : Nat) : State :=
  if bits v 19 18 ≥ 2 ∨ bits v 17 16 = 3 then s.refuseWord
  else
    let (src, dom) := (s.htmSrc, s.get F.HTM_CFG_DOMAIN)
    let s := s.setReg R.HTM_CFG (bits v 31 24 * 2 ^ 24 + bits v 19 16 * 65536)
    let s := if s.htmSrc = 1 then s.setHtm { s.htm with ppsLast := none, ppsSince := some s.now } else s
    if src ≠ s.htmSrc then
      let s := s.dropMaster
      let s := s.setHtm { s.htm with foreign := [], inLock := 0, freshServo := true, lastT1 := none }
      s.htmGo 0
    else if dom ≠ s.get F.HTM_CFG_DOMAIN then (s.setHtm { s.htm with foreign := [] }).selectMaster
    else s

/-- The core stops (R325, R445): house time goes to HOLDOVER, and the core forgets its masters. -/
def State.htmHold (s : State) : State :=
  let s := s.dropMaster
  let s := s.setHtm { s.htm with foreign := [], pathDelay := none, lastT1 := none, freshServo := true, inLock := 0 }
  s.htmGo 3

/-! ### The network port (R320) -/

/-- DROPPED_FRAME. -/
def execDroppedFrame (s : State) : Host.Outcome State Fault Refusal :=
  checked .droppedFrame s fun s => if s.domOn 1 then s.dropFrame else s

/-- ARP_REQUEST. -/
def execArpRequest (vlan : Option Nat) (target : Word) (sender : ArpSender) (s : State) : Host.Outcome State Fault Refusal :=
  checked (.arpRequest vlan target sender) s fun s => s.netTake vlan fun s =>
    if target.toNat = s.reg R.HTM_IP then s.emit (.arpReply s.netTag sender.mac sender.ip s.macAddress (s.reg R.HTM_IP)) else s.dropFrame

/-- IGMP_QUERY: a general query in a frame that the port accepts; in any other frame it is a DROPPED_FRAME (R320). -/
def execIgmpQuery (s : State) : Host.Outcome State Fault Refusal :=
  checked .igmpQuery s fun s => s.netTake s.netTag fun s => s.emit (.igmpReport s.netTag)

/-- PHY_POLL: the part reads PHY register 1 and shows its link bit. -/
def State.phyPoll (s : State) (linkBit : Bool) : State :=
  if !s.domOn 1 then s
  else
    let s := s.emit (.mdio (s.get F.HTM_NET_PHY_ADDR) 1 none)
    if s.flag F.HTM_STATUS_LINK = linkBit then s
    else
      let s := (s.putB F.HTM_STATUS_LINK linkBit).raise 421 0
      if linkBit then s.emit (.igmpReport s.netTag) else s

/-- PHY_POLL. -/
def execPhyPoll (b : Bool) (s : State) : Host.Outcome State Fault Refusal := checked (.phyPoll b) s fun s => s.phyPoll b

/-- A write of `HTM_MDIO`; one that comes while an operation runs is ignored. -/
def State.mdioWord (s : State) (v : Nat) : State :=
  if s.flag F.HTM_MDIO_GO then s
  else
    let go := bitAt v 31 && s.domOn 1
    let s := s.setReg R.HTM_MDIO (bit go * 2 ^ 31 + bits v 30 20 * 2 ^ 20 + bits v 15 0)
    if go then s.emit (.mdio (bits v 29 25) (bits v 24 20) (if bitAt v 30 then some (bits v 15 0) else none)) else s

/-- MDIO_GO. -/
def execMdioGo (ag : Agent) (v : Word) (s : State) : Host.Outcome State Fault Refusal :=
  checked (.mdioGo ag v) s fun s => s.asWrite ag R.HTM_MDIO fun s => s.mdioWord v.toNat

/-- MDIO_DONE: `GO` clears, with the data of a read. -/
def execMdioDone (d : BitVec 16) (s : State) : Host.Outcome State Fault Refusal :=
  checked (.mdioDone d) s fun s =>
    if !s.flag F.HTM_MDIO_GO then s
    else
      let s := s.putB F.HTM_MDIO_GO false
      if s.flag F.HTM_MDIO_WRITE then s else s.put F.HTM_MDIO_DATA d.toNat

/-! ### PPS (R326) -/

/-- The distance of a stamp from the whole second at `HTM_PPS_OFS`, wrapped into ±0.5 s, in ns. -/
def State.ppsOffset (s : State) (stamp : Int) : Rat :=
  let sec : Int := 65536000000000
  let x := (stamp - signed 32 (s.reg R.HTM_PPS_OFS) * 65536) % sec
  nsOf (if sec < 2 * x then x - sec else x)

/-- PPS_EDGE (R326): an accepted edge takes an armed seconds value, then feeds the servo with T = 1 s. Without the core house time
stays in HOLDOVER (R325). -/
def State.ppsEdge (s : State) : State :=
  if s.htmSrc ≠ 1 then s
  else
    let half : Nat := 500000 * usUnit
    let good := s.htm.ppsLast.all fun l => decide (l + half ≤ s.now ∧ s.now ≤ l + 3 * half)
    if !good then s.count R.HTM_CNT_PPS_IGN
    else
      let o := s.ppsOffset s.stamp
      let armed := s.htm.ppsArmed
      let s := s.setHtm { s.htm with ppsLast := some s.now, ppsSince := some s.now, ppsArmed := false }
      let s := if s.coreRuns && (s.get F.HTM_STATUS_STATE == 0 || s.get F.HTM_STATUS_STATE == 3) then s.htmGo 1 else s
      let v : Nat := s.reg R.HTM_PPS_TOD_HI % 65536 * 2 ^ 32 + s.reg R.HTM_PPS_TOD_LO
      let s := if armed then s.houseStep (((v : Int) - s.house.sec) * 1000000000) else s
      if s.coreRuns then s.servo o 1 else s

/-- PPS_EDGE. -/
def execPpsEdge (b : Blank) (s : State) : Host.Outcome State Fault Refusal := checked (.ppsEdge b) s State.ppsEdge

/-- HTM_PPS_LOST (R326): no edge has been accepted for 2 s, which is reported once. -/
def State.ppsLost (s : State) : State :=
  if s.htmSrc ≠ 1 || !s.htm.ppsSince.any (fun t => decide (t + 2000000 * usUnit ≤ s.now)) then s
  else
    let s := (s.setHtm { s.htm with ppsSince := none }).raise 420 2
    if s.get F.HTM_STATUS_STATE = 1 ∨ s.get F.HTM_STATUS_STATE = 2 then s.htmGo 3 else s

/-- HTM_PPS_LOST. -/
def execHtmPpsLost (s : State) : Host.Outcome State Fault Refusal := checked .htmPpsLost s State.ppsLost

/-- A write of `HTM_PPS_TOD_HI` arms the seconds value (R326). -/
def State.todWord (s : State) (v : Nat) : State :=
  (s.setReg R.HTM_PPS_TOD_HI (v % 65536)).setHtm { s.htm with ppsArmed := true }

/-- PPS_TOD_ARM. -/
def execPpsTodArm (ag : Agent) (v : Word) (s : State) : Host.Outcome State Fault Refusal :=
  checked (.ppsTodArm ag v) s fun s => s.asWrite ag R.HTM_PPS_TOD_HI fun s => s.todWord v.toNat

end Sys2Proof.Machine
end

