-- ==== Sys2Proof/Machine/Lanes.lean ====
section
/-! DEFINITION. The commands of the lane physical layer (chapter 13). -/

namespace Sys2Proof.Machine

/-- A receiver's state (Table 13.2): 0 OFF, 1 PLL, 2 CDR, 3 ALIGN, 4 ALIGNED, 5 TEST. -/
def State.rxState (s : State) (l : Nat) : Nat := s.get (F.LNS_LANE_STATUS_STATE l)

/-- Set a receiver's state. -/
def State.setRx (s : State) (l v : Nat) : State := s.put (F.LNS_LANE_STATUS_STATE l) v

/-! ### PLLs (R301) -/

/-- The raw group that a receiver in TEST shows when it enters TEST or moves its boundary: what arrives is not the part's to say
(R304, assumption log 4). -/
def State.rawGroup (s : State) (l : Nat) : State := (s.put (F.LNS_LANE_STATUS_CODE l) (s.freeVal 10)).useFree

/-- A receiver leaves state PLL: to TEST where `TEST` is 1 (R304), else to CDR (Table 13.2). -/
def State.leavePll (s : State) (l : Nat) : State :=
  if s.rxState l ≠ 1 then s
  else if l < 32 && s.flag (F.LNS_LANE_CFG_TEST l) then (s.setRx l 5).rawGroup l
  else s.setRx l 2

/-- PLL_LOCK: a flock's PLL locks, its receivers leave state PLL, and its transmitters leave electrical idle (R301, R302). -/
def State.pllLocks (s : State) (p : Nat) : State :=
  if !s.domOn (pllDomain p) || s.pllLocked p then s
  else (s.setPll p true).each (pllLanes p) fun s l => (s.leavePll l).txStart l

/-- PLL_LOCK. -/
def execPllLock (p : Nat) (s : State) : Host.Outcome State Fault Refusal := checked (.pllLock p) s fun s => s.pllLocks p

/-- PLL_UNLOCK: a locked PLL loses lock, and its lowest lane raises cause PLL_UNLOCK. -/
def State.pllUnlocks (s : State) (p : Nat) : State :=
  if !s.pllLocked p then s else (s.pllDrop p).laneCause ((pllLanes p).headD 0) 7

/-- PLL_UNLOCK. -/
def execPllUnlock (p : Nat) (s : State) : Host.Outcome State Fault Refusal := checked (.pllUnlock p) s fun s => s.pllUnlocks p

/-! ### Clock recovery and alignment (R303, R304) -/

/-- CDR_LOCK (R303). -/
def execCdrLock (l : Nat) (s : State) : Host.Outcome State Fault Refusal :=
  checked (.cdrLock l) s fun s => if s.rxState l = 2 then (s.setRx l 3).setLane l { s.lane l with comma := none } else s

/-- SIGNAL_LOSS (R303): the signal itself disappears. -/
def execSignalLoss (l : Nat) (s : State) : Host.Outcome State Fault Refusal :=
  checked (.signalLoss l) s fun s => if s.rxState l = 3 ∨ s.rxState l = 4 then s.setRx l 2 else s

/-- An invalid symbol on a lane (R61, R302): on an input lane its markers start again, and `LANE_STATUS` shows it. -/
def State.symbolBad (s : State) (l : Nat) : State :=
  if l < 32 then
    { s with pil := { s.pil with lanes := mupd ({} : PilLane) s.pil.lanes l fun p => { p with marked := false, invalidSeen := true } } }
  else s

/-- COMMA_ALIGNED (R303): a comma at position `pos`, `gap` symbol times after the comma before it. The first comma of a search sets
the boundary; a second one there within 2,048 symbol times aligns the receiver; any other restarts the search. In ALIGNED a comma at
another boundary is an invalid symbol. -/
def State.commaFound (s : State) (l pos gap : Nat) : State :=
  if s.rxState l = 3 then
    let s' := s.put (F.LNS_LANE_STATUS_BIT_POS l) pos
    if (s.lane l).comma = some pos ∧ gap ≤ 2048 then
      ((s'.setLane l { s.lane l with comma := none }).setRx l 4).putB (F.LNS_LANE_EYE_VALID l) false
    else s'.setLane l { s.lane l with comma := some pos }
  else if s.rxState l = 4 && s.get (F.LNS_LANE_STATUS_BIT_POS l) != pos then (s.count (R.LNS_LANE_CNT_SYM l)).symbolBad l
  else s

/-- COMMA_ALIGNED. -/
def execCommaAligned (l : Nat) (c : CommaAt) (s : State) : Host.Outcome State Fault Refusal :=
  checked (.commaAligned l c) s fun s => s.commaFound l c.pos c.gap

/-- The running disparity of the receiver of lane l, true positive (`STATUS.RD`). -/
def State.rxRd (s : State) (l : Nat) : Bool := s.flag (F.LNS_LANE_STATUS_RD l)

/-- The receiver of lane l has a new running disparity. -/
def State.setRd (s : State) (l : Nat) (b : Bool) : State := s.putB (F.LNS_LANE_STATUS_RD l) b

/-- Characters that an aligned receiver has taken move its running disparity (R302). -/
def State.rxSyms (s : State) (l : Nat) (cs : List Sym) : State := s.setRd l (symsDisparity (s.rxRd l) cs)

/-- A group whose disparity the receiver cannot use leaves the one that the group implies: a balanced group implies that of the form
in which the table has it (R302). -/
def impliedRd (rd : Bool) (g : Nat) : Bool := groupDisparity (!rd) g

/-- INVALID_SYMBOL (R46, R302): a group arrives at a receiver. A group that is not in the table counts in `CNT_SYM`; one that
conflicts with the running disparity counts in `CNT_DISP` and sets the disparity that it implies; a K28.2 on a forward lane counts in
neither. All three are invalid symbols; any other group passes and moves the disparity. In TEST `CODE` shows the group (R304). -/
def State.invalidSym (s : State) (l : Nat) (g : Nat) : State :=
  if s.rxState l = 5 then s.put (F.LNS_LANE_STATUS_CODE l) g
  else if s.rxState l ≠ 4 then s
  else match decodeGroup (s.rxRd l) g with
    | .invalid => (s.count (R.LNS_LANE_CNT_SYM l)).symbolBad l
    | .disparity _ => ((s.count (R.LNS_LANE_CNT_DISP l)).setRd l (impliedRd (s.rxRd l) g)).symbolBad l
    | .good c =>
      let s := s.setRd l (groupDisparity (s.rxRd l) g)
      if c = symK28_2 ∧ l < 32 then s.symbolBad l else s

/-- INVALID_SYMBOL. -/
def execInvalidSymbol (l : Nat) (six : BitVec 6) (four : BitVec 4) (s : State) : Host.Outcome State Fault Refusal :=
  checked (.invalidSymbol l six four) s fun s => s.invalidSym l (six.toNat * 16 + four.toNat)

/-- The mirror of an input lane's polarity in `PIL_FLOCKk_STATUS` (R63). -/
def State.setPolarity (s : State) (l : Nat) (b : Bool) : State :=
  let s := s.putB (F.LNS_LANE_STATUS_POL_INV l) b
  let f := F.PIL_FLOCK_STATUS_POL_INV (l / 8)
  s.put f (setBit (s.get f) (l % 8) b)

/-- POLARITY_INVERT (R63, R308). -/
def State.invertPolarity (s : State) (l : Nat) : State :=
  if 32 ≤ l || s.rxState l != 4 || s.get (F.LNS_LANE_CFG_POL l) != 0 || s.flag (F.LNS_LANE_STATUS_POL_INV l) then s
  else ((s.setPolarity l true).laneCause l 2).raise 67 1

/-- POLARITY_INVERT. -/
def execPolarityInvert (l : Nat) (s : State) : Host.Outcome State Fault Refusal :=
  checked (.polarityInvert l) s fun s => s.invertPolarity l

/-- A write of `SLIP` = 1 (R304). -/
def State.slipWord (s : State) (l : Nat) : State :=
  if s.rxState l ≠ 5 then s.refuseWord
  else (s.put (F.LNS_LANE_STATUS_BIT_POS l) ((s.get (F.LNS_LANE_STATUS_BIT_POS l) + 1) % 10)).rawGroup l

/-- SLIP. -/
def execSlip (ag : Agent) (l : Nat) (s : State) : Host.Outcome State Fault Refusal :=
  checked (.slip ag l) s fun s => s.asWrite ag (R.LNS_LANE_SLIP l) fun s => s.slipWord l

/-! ### Configuration of a lane (R304 to R308) -/

/-- An input lane enters or leaves TEST (R304): it needs its flock's domain, and it waits in PLL while its PLL is unlocked (R301). -/
def State.testState (s : State) (l : Nat) : State :=
  if l < 32 && !bitAt (s.get F.PIL_CFG_FLOCK_EN) (l / 8) then
    (if s.flag (F.LNS_LANE_CFG_TEST l) && s.domOn (laneDomain l) then
      (if s.rxState l = 5 then s
       else if s.pllLocked (pllOf l) then (s.setRx l 5).rawGroup l
       else s.setRx l 1)
    else (s.setRx l 0).codeOff l)
  else s

/-- The polarity that `POL` gives a receiver of an input lane whose flock is ON (R308). -/
def State.takePolarity (s : State) (l : Nat) : State :=
  if 32 ≤ l || !s.domOn (laneDomain l) then s
  else if s.get (F.LNS_LANE_CFG_POL l) = 1 then s.setPolarity l false
  else if s.get (F.LNS_LANE_CFG_POL l) = 2 then s.setPolarity l true
  else s

/-- A write of `LNS_LANEnnn_CFG` (R304, R305, R308). -/
def State.laneConfig (s : State) (l v : Nat) : State :=
  if bits v 5 4 = 3 then s.refuseWord
  else if bitAt v 2 && (32 ≤ l || bitAt (s.get F.PIL_CFG_FLOCK_EN) (l / 8)) then s.refuseWord
  else
    let s := s.setReg (R.LNS_LANE_CFG l) (bit (bitAt v 7) * 128 + bits v 5 4 * 16 + (if hasTx l then bit (bitAt v 3) * 8 else 0) + bit (bitAt v 2) * 4)
    (s.takePolarity l).testState l

/-- A write of `LNS_LANEnnn_TX` (R305): `PRE` + `POST` above 32 is a reserved encoding. -/
def State.laneTx (s : State) (l v : Nat) : State :=
  if !hasTx l then s
  else if 32 < bits v 12 8 + bits v 3 0 then s.refuseWord
  else s.setReg (R.LNS_LANE_TX l) (bits v 23 20 * 2 ^ 20 + bits v 12 8 * 256 + bits v 3 0)

/-- A write of `LNS_LANEnnn_RX` (R307). -/
def State.laneRx (s : State) (l v : Nat) : State :=
  let s := s.setReg (R.LNS_LANE_RX l) (bit (bitAt v 15) * 32768 + bits v 11 8 * 256)
  if bitAt v 15 || !s.domOn (laneDomain l) then s else s.put (F.LNS_LANE_DFE_CTLE_NOW l) (bits v 11 8)

/-- A step of at most one in the direction of a sign. -/
def stepTo (n : Nat) (v : Nat) (d : Int) : Nat := signedSat n (signed n v + d.sign)

/-- ADAPT_STEP (R307): each tap moves by at most one step; the CTLE by at most one code with `CTLE_AUTO`. -/
def State.adapt (s : State) (l : Nat) (taps : List Int) (ctle : Int) : State :=
  if s.rxState l ≠ 4 ∨ s.flag (F.LNS_LANE_CFG_FREEZE l) then s
  else
    let mv (s : State) (f : FRef) (n i : Nat) : State := s.put f (stepTo n (s.get f) (taps.getD i 0))
    let s := mv s (F.LNS_LANE_DFE_H1 l) 6 0
    let s := mv s (F.LNS_LANE_DFE_H2 l) 6 1
    let s := mv s (F.LNS_LANE_DFE_H3 l) 5 2
    let s := mv s (F.LNS_LANE_DFE_H4 l) 5 3
    let s := mv s (F.LNS_LANE_DFE_H5 l) 5 4
    let now := s.get (F.LNS_LANE_DFE_CTLE_NOW l)
    s.put (F.LNS_LANE_DFE_CTLE_NOW l)
      (if s.flag (F.LNS_LANE_RX_CTLE_AUTO l) then (clampInt 0 15 (now + ctle.sign)).toNat else s.get (F.LNS_LANE_RX_CTLE l))

/-- ADAPT_STEP. -/
def execAdaptStep (l : Nat) (taps : List Int) (ctle : Int) (s : State) : Host.Outcome State Fault Refusal :=
  checked (.adaptStep l taps ctle) s fun s => s.adapt l taps ctle

/-! ### The eye monitor and host scans (R309 to R311) -/

/-- Calibration has a lane's receiver (R311). -/
def State.laneFallow (s : State) (l : Nat) : Bool := s.cal.fallowLanes.contains l

/-- EYE_MONITOR (R310): the monitor starts on a receiver that is ALIGNED and that no one else uses. -/
def State.eyeStart (s : State) (l : Nat) : State :=
  if s.get F.LNS_CFG_MON_MS = 0 ∨ s.rxState l ≠ 4 ∨ s.laneFallow l ∨ s.flag (F.LNS_LANE_SCAN_GO l) then s
  else s.setLane l { s.lane l with monitoring := true }

/-- EYE_MONITOR. -/
def execEyeMonitor (l : Nat) (s : State) : Host.Outcome State Fault Refusal := checked (.eyeMonitor l) s fun s => s.eyeStart l

/-- The open points of the contiguous run that contains a point. -/
def openRun (pts : List Bool) (at' : Nat) : Nat :=
  if pts.getD at' false then ((pts.take at').reverse.takeWhile id).length + ((pts.drop at').takeWhile id).length else 0

/-- EYE_MEASUREMENT_DONE (R310): width, height and residual are published together. `phases` are the open points at v = 64,
`volts` those at p = 32. -/
def State.eyeDone (s : State) (l : Nat) (phases volts : List Bool) (residual : Nat) : State :=
  if !(s.lane l).monitoring || s.flag (F.LNS_LANE_SCAN_GO l) || s.laneFallow l then s
  else if s.rxState l ≠ 4 then s.setLane l { s.lane l with monitoring := false }
  else
    let open' := phases.getD 32 false && volts.getD 64 false
    let w := if open' then openRun phases 32 else 0
    let h := if open' then openRun volts 64 else 0
    let low := w < s.get F.LNS_CFG_EYE_MIN_W || h < s.get F.LNS_CFG_EYE_MIN_H
    let was := (s.lane l).eyeLow
    let s := s.setLane l { s.lane l with monitoring := false, eyeLow := low }
    let s := s.setReg (R.LNS_LANE_EYE l) (2 ^ 31 + w * 2 ^ 24 + divRound (5 * h) 2 * 2 ^ 15 + min 255 residual * 128)
    let s := s.logAdd ((if l < 32 then 420 else 488) + 4 * min 16 (w / 4)) 1
    if low && !was then (s.laneCause l 5).tally (0x1000 + 0x40 * l + 32) 1 else s

/-- EYE_MEASUREMENT_DONE. -/
def execEyeMeasurementDone (l : Nat) (ph v : List Bool) (r : Nat) (s : State) : Host.Outcome State Fault Refusal :=
  checked (.eyeMeasurementDone l ph v r) s fun s => s.eyeDone l ph v r

/-- A write of `LNS_LANEnnn_SCAN` (R309, R311): `GO` sets the offset sampler to the point that the word names, for the bits that
`DWELL` gives. -/
def State.scanWord (s : State) (l v : Nat) : State :=
  let go := s.flag (F.LNS_LANE_SCAN_GO l)
  if bitAt v 31 && go then s
  else
    let s := s.setReg (R.LNS_LANE_SCAN l) (bit (bitAt v 31 || go) * 2 ^ 31 + bits v 21 16 * 65536 + bits v 6 0)
    if bitAt v 31 then
      (s.putB (F.LNS_LANE_SCAN_RESULT_DONE l) false).setLane l
        { s.lane l with scanWaits := s.laneFallow l, point := some (bits v 21 16, bits v 6 0, s.get F.LNS_CFG_DWELL) }
    else s

/-- The bits over which a point is measured (R309). -/
def pointBits (dwell : Nat) : Nat := 2 ^ (16 + dwell)

/-- SCAN_GO. -/
def execScanGo (ag : Agent) (l : Nat) (v : Word) (s : State) : Host.Outcome State Fault Refusal :=
  checked (.scanGo ag l v) s fun s => s.asWrite ag (R.LNS_LANE_SCAN l) fun s => s.scanWord l v.toNat

/-- SCAN_DONE (R309, R311): the point (p, v) has been measured; `disagree` bits differed, of those that the point's `DWELL` gives.
Only the point in progress ends, on a receiver whose flock is ON and whose sampler is the scan's. -/
def State.scanEnds (s : State) (l p v disagree : Nat) : State :=
  match (s.lane l).point with
  | none => s
  | some (q, u, dwell) =>
    if !s.flag (F.LNS_LANE_SCAN_GO l) || s.laneFallow l || !s.domOn (laneDomain l) || p != q || v != u then s
    else
      let w := (s.lane l).scanWaits
      let s := (s.setLane l { s.lane l with scanWaits := false, point := none }).putB (F.LNS_LANE_SCAN_GO l) false
      (s.setReg (R.LNS_LANE_SCAN_RESULT l) (2 ^ 31 + bit w * 2 ^ 30 + min 0xFFFFFF (min (pointBits dwell) disagree))).laneCause l 6

/-- SCAN_DONE. -/
def execScanDone (l : Nat) (p : ScanPoint) (s : State) : Host.Outcome State Fault Refusal :=
  checked (.scanDone l p) s fun s => s.scanEnds l p.phase p.volt p.disagree

end Sys2Proof.Machine
end

