-- ==== Sys2Proof/Machine/Calibration.lean ====
section
/-! DEFINITION. Calibration, pasture rotation, shadow checking and retirement (chapter 15), the roles of the slices (R35, R38,
R468), and what a double fault recalls (R362). -/

namespace Sys2Proof.Machine

/-! ### The rotation handshake (R67, Table 2.10) -/

/-- `ROT_STATE` of a flock: 0 IDLE, 1 REQUESTED, 2 COMPARING, 3 SWITCHED, 4 RETURNING, 5 EMERGENCY, 6 NO_COOP. -/
def State.rotState (s : State) (k : Nat) : Nat := s.get (F.PIL_FLOCK_STATUS_ROT_STATE k)

/-- The rotation of a flock. -/
def State.rot (s : State) (k : Nat) : PilRot := mget ({} : PilRot) s.pil.rot k

/-- The state with the rotation of a flock changed. -/
def State.setRot (s : State) (k : Nat) (r : PilRot) : State := { s with pil := { s.pil with rot := mset ({} : PilRot) s.pil.rot k r } }

/-- An input lane. -/
def State.pilLane (s : State) (l : Nat) : PilLane := mget ({} : PilLane) s.pil.lanes l

/-- The state with an input lane changed. -/
def State.setPilLane (s : State) (l : Nat) (p : PilLane) : State := { s with pil := { s.pil with lanes := mset ({} : PilLane) s.pil.lanes l p } }

/-- The physical lane (0 to 7) that carries a lane ID of a flock (R64). -/
def State.physOf (s : State) (k i : Nat) : Nat := bits (s.reg (R.PIL_FLOCK_MAP k)) (3 * i + 2) (3 * i)

/-- The lane ID that a physical lane of a flock carries (R64). -/
def State.laneIdOf (s : State) (l : Nat) : Nat := ((List.range 8).find? fun i => s.physOf (l / 8) i == l % 8).getD (l % 8)

/-- `ROT_DUP` for working lane j of a flock (R67), in state REQUESTED or EMERGENCY. -/
def State.rotRequest (s : State) (k j st : Nat) : State :=
  ((s.setRot k { lane := j, sends := 1 }).put (F.PIL_FLOCK_STATUS_ROT_STATE k) st).backSend k 2 [k, j, 0, 0, 0, 0, 0, 0]

/-- `ROT_RELEASE` of a flock's spare (R67). -/
def State.rotRelease (s : State) (k st : Nat) : State :=
  (((s.setRot k {}).put (F.PIL_FLOCK_STATUS_ROT_STATE k) st).put (F.PIL_FLOCK_STATUS_SPARE_SERVES k) 7).backSend k 3 [k, 0, 0, 0, 0, 0, 0, 0]

/-- The lanes of flock k. -/
def flockLanes (k : Nat) : List Nat := (List.range 8).map (8 * k + ·)

/-- P1 and P3 of `LANE_STATUS` (Table 2.9): the lock mask, and what the spare's markers show. -/
def State.statusNow (s : State) (k : Nat) : Nat × Nat :=
  let p := s.pilLane (8 * k + s.physOf k 7)
  (s.get (F.PIL_FLOCK_STATUS_LOCK k), if p.locked && p.dup && !p.foreign then 128 + p.id else 7)

/-- Send `LANE_STATUS` on the bellwether lane of flock k (R65). -/
def State.sendLaneStatus (s : State) (k : Nat) : State :=
  if !s.backOn k then s
  else
    let (p1, p3) := s.statusNow k
    let bad := ofBits 8 fun j => (s.pilLane (8 * k + j)).invalidSeen
    let s := s.backSend k 1 [k, p1, bad, p3, s.linkState, 0, 0, 0]
    let s := s.each (flockLanes k) fun s l => s.setPilLane l { s.pilLane l with invalidSeen := false }
    { s with pil := { s.pil with lastStatus := mput s.pil.lastStatus k (p1, p3) } }

/-- `LANE_STATUS` goes out at each change of P1 or P3 (Table 2.9). -/
def State.noteStatus (s : State) : State :=
  s.each s.linkFlocks fun s k => if (mfind s.pil.lastStatus k).getD (0, 7) = s.statusNow k then s else s.sendLaneStatus k

/-- A receiver starts again at CDR (R303). -/
def State.rxRelock (s : State) (l : Nat) : State := if s.rxState l = 3 ∨ s.rxState l = 4 then s.setRx l 2 else s

/-- An input lane's receiver starts again at CDR, and its lock with it (R303, R340). -/
def State.laneRelock (s : State) (l : Nat) : State :=
  let s := s.rxRelock l
  let s := s.setPilLane l {}
  let f := F.PIL_FLOCK_STATUS_LOCK (l / 8)
  (s.put f (setBit (s.get f) (l % 8) false)).noteStatus

/-! ### Slices (R35, R347, R468) -/

/-- A slice's role (Table 15.9): 0 SERVING, 1 IDLE, 2 SHADOWING, 3 FALLOW, 4 STANDING_IN, 5 RETIRED, 6 BIST, 7 UNPOWERED. -/
def State.role (s : State) (k : Nat) : Nat := s.get (F.SLC_SLICE_STATUS_ROLE k)

/-- The band a slice serves, shadows or covers. -/
def State.sliceBand (s : State) (k : Nat) : Nat := s.get (F.SLC_SLICE_STATUS_BAND k)

/-- A slice's role and band. -/
def State.setRole (s : State) (k role band : Nat) : State :=
  (s.put (F.SLC_SLICE_STATUS_ROLE k) role).put (F.SLC_SLICE_STATUS_BAND k) (if role = 1 ∨ role = 5 ∨ role = 7 then 0 else band)

/-- The class of a slice cause (Table 15.9). -/
def sliceCauseClass (cause : Nat) : Nat := [0, 1, 2, 3, 3, 2].getD cause 0

/-- A slice event (R347). -/
def State.sliceCause (s : State) (k cause : Nat) : State :=
  (s.put (F.SLC_SLICE_STATUS_LAST_CAUSE k) cause).raise (400 + k) (sliceCauseClass cause)

/-- A retirement enters the lifetime log (Table 19.4): the count at an offset, and one of the last sixteen. -/
def State.logRetire (s : State) (off unit : Nat) : State :=
  let f (o : Nat) : Nat := mget 0 s.tal.log.fields o
  let i := (f 568 + f 572) % 16
  let s := s.logAdd off 1
  { s with tal := { s.tal with log := { s.tal.log with
      fields := mset 0 (mset 0 s.tal.log.fields (576 + 8 * i) unit) (580 + 8 * i) (s.house.sec % 2 ^ 32) } } }

/-- A slice is retired (R343, R345). -/
def State.retire (s : State) (k cause : Nat) : State :=
  let s := (((s.setRole k 5 0).sliceCause k cause).count R.CAL_CNT_RETIRE).logRetire 568 k
  if k = 16 then { s with cal := { s.cal with permanent := false } } else s

/-! ### Units (R329 to R332) -/

/-- The redundancy group of a unit code: 0 the slices, 1 + k input flock k, 16 + nn port nn. -/
def unitGroup (u : Nat) : Nat := if u < 17 then 0 else if u < 0x40 then 1 + (u - 0x20) / 8 else 16 + (u - 0x40)

/-- The nearest on-die sensor of a unit (Table 15.2). -/
def unitSensor (u : Nat) : Nat :=
  if u < 17 then u else if u < 0x30 then 17 else if u < 0x40 then 18 else 19 + (u - 0x40) / 14

/-- Whether a unit code is valid (Table 15.8). -/
def validUnit (u : Nat) : Bool := u ≤ 0x10 || (0x20 ≤ u && u ≤ 0x3F) || (0x40 ≤ u && u ≤ 0x77)

/-- The state with calibration changed. -/
def State.setCal (s : State) (c : CalState) : State := { s with cal := c }

/-- The calibration of a unit in progress. -/
def State.calRun (s : State) (u : Nat) : Option CalRun := s.cal.runs.find? fun r => r.unit == u

/-- The state with a calibration in progress put in its place. -/
def State.putRun (s : State) (r : CalRun) : State :=
  s.setCal { s.cal with runs := s.cal.runs.map fun o => if o.unit = r.unit then r else o }

/-- The state without the calibration of a unit. -/
def State.dropRun (s : State) (u : Nat) : State := s.setCal { s.cal with runs := s.cal.runs.filter fun o => o.unit != u }

/-- A lane's sampler is calibration's, or is so no longer; a host scan in progress waits meanwhile (R311). -/
def State.setFallow (s : State) (l : Nat) (b : Bool) : State :=
  let s := if b && s.flag (F.LNS_LANE_SCAN_GO l) then s.setLane l { s.lane l with scanWaits := true } else s
  s.setCal { s.cal with fallowLanes := if b then s.cal.fallowLanes ++ [l] else s.cal.fallowLanes.filter (· != l) }

/-- Calibration gives an output lane's read-back receiver back, whose sampler input it had at zero: it starts again at CDR (R303, R333). -/
def State.laneResume (s : State) (l : Nat) : State := if s.laneFallow l then (s.setFallow l false).rxRelock l else s

/-- A trigger makes a unit due (R330): ignored while a calibration serves it, which a slice that only takes its band back has not
(R343); merged with an earlier one. -/
def State.makeDue (s : State) (u trigger : Nat) : State :=
  if (s.calRun u).any (fun r => !r.bare) || s.cal.due.any (fun d => d.unit == u) then s
  else s.setCal { s.cal with
    due := s.cal.due ++ [({ unit := u, trigger := trigger, order := s.cal.dueNext } : CalDue)]
    dueNext := s.cal.dueNext + 1, recalled := s.cal.recalled.filter fun x => x.1 != u }

/-- Whether a unit is in use: a powered slice that is not retired, a lane of an enabled flock, an enabled port. -/
def State.unitUsed (s : State) (u : Nat) : Bool :=
  if u < 17 then s.role u != 5 && s.role u != 7
  else if u < 0x40 then bitAt (s.get F.PIL_CFG_FLOCK_EN) ((u - 0x20) / 8) && s.domOn (2 + (u - 0x20) / 8)
  else (s.portCfg (u - 0x40)).en && s.domOn (6 + (u - 0x40) / 7)

/-- SL16 is idle: it shadows no band for a calibration, covers none and runs no test (R332). -/
def State.spareIdle (s : State) : Bool :=
  (s.role 16 == 1 || s.role 16 == 2) && !s.cal.permanent && s.cal.bist.isNone && s.cal.bistNext.isNone && s.cal.takeover.isNone
    && !s.cal.runs.any fun r => r.unit < 17

/-- Whether a unit has a stand-in to go fallow behind (R332, R36). -/
def State.hasStandIn (s : State) (u : Nat) : Bool :=
  if u < 16 then s.spareIdle && s.role u == 0
  else if u = 16 then s.spareIdle
  else if u < 0x40 then
    let l := u - 0x20
    let k := l / 8
    if s.laneIdOf l = 7 then s.backOn k && (s.rotState k == 0 || s.rotState k == 6)
    else bitAt (s.get F.PIL_CFG_SPARE_EN) k && bitAt (s.get F.PIL_STATUS_FLOCK_UP) k && s.rotState k == 0 && s.backOn k
  else
    let nn := u - 0x40
    s.portState nn == 2 && !s.flag (F.ADL_PORT_STATUS_LANE_OFF_A nn) && !s.flag (F.ADL_PORT_STATUS_LANE_OFF_B nn)

/-- Every unit code, ascending. -/
def allUnits : List Nat := List.range 17 ++ (List.range 32).map (0x20 + ·) ++ (List.range 56).map (0x40 + ·)

/-- The recalled units whose group has a stand-in again are due (R340). -/
def State.calRescan (s : State) : State := s.each s.cal.recalled fun s x => if s.hasStandIn x.1 then s.makeDue x.1 x.2 else s

/-- The INITIAL trigger (R330): units in use whose trims are the baselines. It is looked for wherever units come into use, and before
any other trigger. -/
def State.calScan (s : State) : State :=
  s.calRescan.each (allUnits.filter fun u => s.unitUsed u && (mfind s.cal.endedAt u).isNone && !s.cal.recalled.any (fun x => x.1 == u))
    fun s u => s.makeDue u 0

/-- Whether the limits of R37 let a unit go fallow. -/
def State.calRoom (s : State) (u : Nat) : Bool :=
  if u < 0x40 then !s.cal.runs.any fun r => unitGroup r.unit == unitGroup u
  else (s.cal.runs.filter fun r => 0x40 ≤ r.unit).length < 4

/-- Calibration is frozen (R340, Table 16.7). -/
def State.calFrozen (s : State) : Bool := s.mgt.calFrozen || s.cal.frozenFront || s.cal.frozenRear

/-- The state after a change that may freeze calibration or thaw it: event 426 at entry and at exit. -/
def State.calFreeze (s s' : State) : State := s'.raiseIf (s.calFrozen != s'.calFrozen) 426 0

/-! ### Trims and runs (R333 to R337, R341) -/

/-- Six-bit fields of a slice word, FE first. -/
def tapsWord (l : List Nat) : Nat := l.foldl (fun a v => a * 64 + v % 64) 0

/-- The trim of a tile kind from its lowest passing tap (R333), before the cap at 63. -/
def tapTrim (tmin margin : Nat) : Nat := divCeil (tmin * (100 + margin)) 100

/-- Agreed trims take effect (R336): the field delta is the difference to the baseline, saturated to its field. -/
def State.applyTrims (s : State) (u : Nat) (agreed : List Int) : State :=
  if agreed.isEmpty then s
  else if u < 17 then
    let f := (List.range 5).map fun i =>
      let b : Int := bits Config.sliceBaseline (29 - 6 * i) (24 - 6 * i)
      (b, clampInt (-32) 31 (agreed.getD i 0 - b))
    let s := s.setReg (R.SLC_SLICE_TAPS u) (tapsWord (f.map fun x => (clampInt 0 63 (x.1 + x.2)).toNat))
    s.setReg (R.SLC_SLICE_FIELD u) (tapsWord (f.map fun x => unsigned 6 x.2))
  else
    let lanes := if u < 0x40 then [u - 0x20] else [laneA (u - 0x40), laneB (u - 0x40)]
    s.each (lanes.zip agreed) fun s x =>
      let d := clampInt (-128) 127 (x.2 - Config.laneBaseline)
      (s.put (F.LNS_LANE_TRIM_FIELD x.1) (unsigned 8 d)).put (F.LNS_LANE_TRIM_TOTAL x.1) (signedSat 8 (Config.laneBaseline + d))

/-- A port keeps its previous trims (R335, R340): lane A takes back those that it had before this calibration. -/
def State.portTrims (s : State) (r : CalRun) : State :=
  match r.saved with
  | some w => if 0x40 ≤ r.unit then s.setReg (R.LNS_LANE_TRIM (laneA (r.unit - 0x40))) w else s
  | none => s

/-- The tolerance of two runs (Table 15.1). -/
def unitTolerance (u : Nat) : Nat := if u < 17 then 1 else 2

/-- Whether two trims lie within a tolerance. -/
def within (tol : Nat) (a b : Int) : Bool := (a - b).natAbs ≤ tol

/-- The outcome of the runs so far (R334): `none` a further run, `some none` unstable, else the agreed trims. -/
def calAgree (tol : Nat) : List (List Int) → Option (Option (List Int))
  | [a, b] =>
    if (a.zip b).all (fun x => within tol x.1 x.2) then some (some ((a.zip b).map fun x => roundAway (((x.1 + x.2 : Int) : Rat) / 2))) else none
  | [a, b, c] =>
    let t := a.zip (b.zip c)
    if t.all (fun x => within tol x.1 x.2.1 || within tol x.1 x.2.2 || within tol x.2.1 x.2.2) then
      some (some (t.map fun x => x.1 + x.2.1 + x.2.2 - max x.1 (max x.2.1 x.2.2) - min x.1 (min x.2.1 x.2.2)))
    else some none
  | _ => none

/-- The pace margin of a slice by its quality walk (R337), saturated to its field; a tile kind whose lowest tap is 0 has no stated
margin, and a free value stands for it. -/
def State.paceMargin (s : State) (trims tmins : List Int) : Nat :=
  (trims.zip tmins).foldl (fun m x => min m (if x.2 ≤ 0 then s.freeVal 8 else min 255 ((100 * (x.1 - x.2)) / x.2).toNat)) 255

/-- What `CAL_LAST_Q` publishes (Table 15.5): the pace margin of a slice, or the eye of the worse lane. -/
def State.calQuality (s : State) (r : CalRun) : Nat :=
  if r.unit < 17 then s.paceMargin r.agreed r.quality
  else (r.quality.foldl (fun (m : Option Int) q => match m with | some v => some (min v q) | none => some q) none |>.getD 0).toNat % 2 ^ 24 * 128

/-- `CAL_LAST` (Table 15.6): 1 AGREED, 2 UNSTABLE, 3 RECALLED. -/
def State.calLast (s : State) (r : CalRun) (result : Nat) : State :=
  s.setReg R.CAL_LAST (r.unit * 2 ^ 24 + result * 2 ^ 22 + min 3 (max r.made r.runs.length) * 2 ^ 20 + r.trigger * 2 ^ 18)

/-- The reference temperature and time of a unit after a calibration (R330, R335). -/
def State.calNote (s : State) (u : Nat) : State :=
  let t := mget 0 s.cal.sensors (unitSensor u)
  let s := s.setCal { s.cal with refTemp := mput s.cal.refTemp u t, endedAt := mput s.cal.endedAt u s.now }
  if u < 17 then s.put (F.SLC_SLICE_CAL_REF_T u) (unsigned 16 t) else s

/-- A calibration ends with its unit back (R337). -/
def State.calDone (s : State) (r : CalRun) : State :=
  let s := s.dropRun r.unit
  if r.bare || r.unstable then s
  else
    let s := (s.calLast r 1).setReg R.CAL_LAST_Q (s.calQuality r)
    let s := if r.unit < 17 ∧ r.quality.any (· ≤ 0) then s.useFree else s
    let s := if r.unit < 17 then s.putB (F.SLC_SLICE_STATUS_UNSTABLE r.unit) false else s
    ((s.calNote r.unit).count R.CAL_CNT_DONE).raise 422 0

/-- A calibration does not agree (R335, R68). -/
def State.calUnstable (s : State) (r : CalRun) : State :=
  let s := if r.unit < 17 then s.putB (F.SLC_SLICE_STATUS_UNSTABLE r.unit) true else s
  (((s.calLast r 2).calNote r.unit).count R.CAL_CNT_UNSTABLE).raise 423 0

/-- A rotation that no calibration asked for has failed its comparisons (R68, R335). -/
def State.rotUnstable (s : State) : State := (s.count R.CAL_CNT_UNSTABLE).raise 423 0

/-! ### Recall (R340, R362) -/

/-- The unit of a calibration has left its work: it is fallow, or on its way back. -/
def CalRun.away (r : CalRun) : Bool := r.phase != .waiting && r.phase != .parallel

/-- `VDD_CORE` is held (R338): a slice is fallow, or a calibration has not yet given it its band back (Table 15.3, steps 2 to 7). -/
def State.avsHeld (s : State) : Bool :=
  (List.range 17).any (fun k => s.role k == 3) || s.cal.runs.any fun r => r.unit < 17 && r.away && !r.bare

/-- The unit of a run comes back at once (R340): its runs are discarded and its saved trims stay. A unit that still waits for its
stand-in is due again. -/
def State.calRecall (s : State) (r : CalRun) : State :=
  let s := s.dropRun r.unit
  let s := if r.bare then s
    else if !r.away then s.makeDue r.unit r.trigger
    else
      let s := s.setCal { s.cal with recalled := s.cal.recalled.filter (fun x => x.1 != r.unit) ++ [(r.unit, r.trigger)] }
      ((s.calLast r 3).count R.CAL_CNT_RECALL).raise 425 0
  let s := s.portTrims r
  if r.unit < 16 then
    (match r.phase with
     | .waiting => s
     | .parallel => s.setRole 16 1 0
     | _ => s.setCal { s.cal with takeBack := some r.unit })
  else if r.unit = 16 then (if s.role 16 = 3 then s.setRole 16 1 0 else s)
  else if r.unit < 0x40 then
    let l := r.unit - 0x20
    let k := l / 8
    if s.laneIdOf l = 7 then (s.setFallow l false).laneRelock l
    else match r.phase with
      | .fallow | .applying => (s.setFallow l false).laneRelock l
      | .returning =>
        let s := s.setFallow l false
        if (s.pilLane l).locked then s.rotRelease k 0 else s.put (F.PIL_FLOCK_STATUS_ROT_STATE k) 3
      | _ => s.rotRelease k 0
  else (s.laneResume (laneA (r.unit - 0x40))).laneResume (laneB (r.unit - 0x40))

/-- Every fallow unit is recalled. -/
def State.recallAll (s : State) : State := s.each s.cal.runs fun s r => s.calRecall r

/-- A fault touches the group of a recovery in progress, or of a fallow unit (R362, steps 2 and 3): the core plans anew. -/
def State.replan (s : State) (g : Nat) (fallow : Bool) : State :=
  let busy := s.mgt.recovering.any (·.group == g)
  if !(busy || fallow) || !s.coreRuns then s
  else
    let s := if busy then { s with mgt := { s.mgt with combine := s.mgt.recovering, recovering := none } } else s
    (s.count R.MGT_CNT_REPLAN).raise 36 0

/-- A fault touches a redundancy group (R362): the fallow unit of the group is recalled, and the core plans anew. -/
def State.doubleFault (s : State) (g : Nat) : State :=
  let rs := s.cal.runs.filter fun r => unitGroup r.unit == g
  (s.each rs fun s r => s.calRecall r).replan g (rs.any (·.away))

/-! ### Slice faults (R343 to R345, Table 16.7) -/

/-- A band is on the bypass path before the next boundary (Table 16.7). -/
def State.bypassAt (s : State) (k : Nat) : State := s.setCal { s.cal with bypassNow := setBit s.cal.bypassNow k true }

/-- The tests of a slice that works no more, or of which the band's own slice works no more, are dropped: the one in progress, and the
one that the next boundary would start. -/
def State.dropBist (s : State) (k : Nat) : State :=
  s.setCal { s.cal with
    bist := s.cal.bist.filter fun b => b.slice != k
    bistNext := s.cal.bistNext.filter fun b => b.slice != k && b.home != k }

/-- A slice that REVIVE_UNIT has brought back and that is an idle stand-in of its group (R354). -/
def State.revived (s : State) : Option Nat :=
  (List.range 16).find? fun r => s.role r == 1 && (s.calRun r).isNone && s.cal.takeBack != some r && !s.cal.covers.any (·.1 == r)
    && s.cal.bist.all (·.home != r) && s.cal.bistNext.all (·.home != r)

/-- A tile fault of slice k (R345, R38, R354, Table 16.7): the slice is retired; SL16 takes its band, or a revived slice that is idle,
or the band is on bypass. -/
def State.sliceFails (s : State) (k : Nat) : State :=
  let run := s.cal.runs.find? fun r => r.unit < 17
  let s := s.dropBist k
  match s.role k with
  | 5 | 7 => s
  | 4 =>
    let b := s.sliceBand k
    let s := s.doubleFault 0
    let s := s.retire k 5
    if s.role b = 5 ∨ s.role b = 4 then s.sliceCause b 3
    else ((s.bypassAt b).sliceCause b 3).setCal { s.cal with takeBack := some b, takeover := none, bypassNow := setBit s.cal.bypassNow b true }
  | 0 =>
    let fallow := match run with | some r => decide (r.unit < 16) && r.away | none => false
    let s := s.doubleFault 0
    if s.cal.takeover = some k then s.retire k 5
    else if (s.spareIdle || (fallow && !s.cal.permanent)) && s.role 16 != 5 && s.role 16 != 7 then
      let s := if fallow then (s.bypassAt k).sliceCause k 3 else s
      (s.retire k 5).setCal { (s.retire k 5).cal with takeover := some k }
    else match s.revived with
      | some r => (s.retire k 5).setCal { (s.retire k 5).cal with covers := s.cal.covers ++ [(r, k)] }
      | none => s.retire k 3
  | _ =>
    -- a slice that covers no band: SL16 keeps the band where it stands in for this slice
    let standing := decide (k < 16) && s.role 16 == 4 && s.sliceBand 16 == k
    let bare := s.cal.covers.filter (·.1 == k)
    let s := (s.dropRun k).setCal { (s.dropRun k).cal with
      takeBack := if s.cal.takeBack = some k then none else s.cal.takeBack
      takeover := if k = 16 then none else s.cal.takeover
      covers := s.cal.covers.filter (·.1 != k) }
    let s := if k = 16 then s.each (s.cal.runs.filter fun r => r.unit < 16) fun s r => (s.dropRun r.unit).makeDue r.unit r.trigger else s
    let s := (s.retire k 5).each bare fun s x => s.sliceCause x.2 3
    if standing then s.setCal { s.cal with permanent := true } else s

/-- What SL16 compares with (R35, R342): the slice of the band, and whether it is the parallel frame of a return. -/
def State.comparing (s : State) : Option (Nat × Bool) :=
  match s.cal.runs.find? (fun r => decide (r.unit < 16) && (r.phase == .parallel || r.phase == .returning)) with
  | some r => some (r.unit, r.phase == .returning)
  | none => if s.role 16 = 2 then some (s.sliceBand 16, false) else none

/-- A tally-only counter of a slice (Table 19.1): 0 lines processed, 1 lines compared, 2 mismatches, 3 fallow frames, 4 standing-in
frames, 5 bypass lines. -/
def State.sliceTally (s : State) (k c : Nat) : State := s.tally (0x5000 + 0x40 * k + 8 * c) 1

/-- SL16 has other work: the slices that wait for it or that it shadows for their calibration are due again, and so is SL16 where it
waits for its own (R343, R345). -/
def State.slicesWait (s : State) : State :=
  s.each (s.cal.runs.filter fun r => decide (r.unit < 17) && (r.phase == .waiting || r.phase == .parallel)) fun s r =>
    (s.dropRun r.unit).makeDue r.unit r.trigger

/-- SLICE_LINE_COMPARE (R343, step 1): a line that differs. In the comparison of a return the two phases run in the other direction
(R35): the slice that comes back takes SL16's part, since SL16 drives the band (DEDUCED, assumption log 102). -/
def State.lineCompare (s : State) (equal : Bool) : State :=
  match s.comparing with
    | none => s
    | some (h, back) =>
      let s := (s.sliceTally 16 1).sliceTally h 1
      if equal then s
      else
      let s := ((s.count R.CAL_CNT_MISMATCH).sliceTally 16 2).sliceTally h 2
      let s := if back then
          (match s.calRun h with
           | some r => s.calDone r
           | none => s)
        else s.slicesWait
      let t := if back then h else 16
      (s.setRole t 6 h).setCal { (s.setRole t 6 h).cal with bist := some ⟨t, h, false, back⟩ }

/-- A mismatch that both slices passed (R343, step 5, R344); the result says whether it is the second within 600 s. -/
def State.transient (s : State) (h : Nat) : Bool × State :=
  let again := match mfind s.cal.transientAt h with
    | some t => decide (s.now ≤ t + 600 * 1000000 * usUnit)
    | none => false
  (again, (s.setCal { s.cal with transientAt := mput s.cal.transientAt h s.now }).sliceCause h 1)

/-- A slice is retired by step 4 of R343: the lines of the band from the first differing line on are reported as F3. -/
def State.retireBand (s : State) (slice band : Nat) : State := (s.retire slice 2).raise (400 + band) 3

/-- SLICE_BIST_COMPLETE (R343, R344). A fault that it shows may be the second of its group (R362). -/
def State.bistEnds (s : State) (slice : Nat) (pass : Bool) : State :=
  match s.cal.bist with
  | none => s
  | some b =>
    if b.slice ≠ slice then s
    else
      let s := s.setCal { s.cal with bist := none }
      let s := if !pass || b.second then s.doubleFault 0 else s
      let next (t : State) : State := t.setCal { t.cal with bistNext := some ⟨if b.back then 16 else b.home, b.home, true, b.back⟩ }
      let keep (t : State) : State := t.setCal { t.cal with permanent := true }
      match b.second, b.back with
      | false, false =>
        if pass then next ((s.setRole 16 1 0).setCal { (s.setRole 16 1 0).cal with takeover := some b.home }) else s.retire 16 2
      | false, true =>
        if pass then next ((s.setRole b.home 1 0).setCal { (s.setRole b.home 1 0).cal with takeBack := some b.home })
        else keep (s.retire b.home 2)
      | true, false =>
        if !pass then keep (s.retireBand b.home b.home)
        else
          let (again, s) := s.transient b.home
          if again then keep (s.retireBand b.home b.home)
          else (s.setRole b.home 1 0).setCal { (s.setRole b.home 1 0).cal with
            runs := s.cal.runs ++ [({ unit := b.home, trigger := 0, phase := .applying, bare := true } : CalRun)] }
      | true, true =>
        if !pass then s.retireBand 16 b.home
        else
          let (again, s) := s.transient b.home
          let s := s.setRole 16 1 0
          if again && s.role b.home != 5 then
            (s.retireBand b.home b.home).setCal { (s.retireBand b.home b.home).cal with takeover := some b.home }
          else s

/-! ### A unit goes fallow and comes back (R331 to R337) -/

/-- A unit starts its calibration: slices wait for the TG0 boundary, an input lane asks for its rotation. -/
def State.calStart (s : State) (d : CalDue) : State :=
  let u := d.unit
  let s := s.setCal { s.cal with due := s.cal.due.filter fun o => o.unit != u }
  let add (s : State) (ph : CalPhase) : State :=
    s.setCal { s.cal with runs := s.cal.runs ++ [({ unit := u, trigger := d.trigger, phase := ph } : CalRun)] }
  if u < 16 then add s .waiting
  else if u = 16 then (if (s.run 0).on then add s .waiting else (add s .fallow).setRole 16 3 0)
  else if u < 0x40 then
    let l := u - 0x20
    if s.laneIdOf l = 7 then (add s .fallow).setFallow l true
    else (add s .parallel).rotRequest (l / 8) (s.laneIdOf l) 1
  else (add s .fallow).setFallow (laneA (u - 0x40)) true

/-- The units that a load above the core's lets wait (R340, R351): each postponement counts. -/
def State.calPostpone (s : State) (us : List Nat) : State :=
  us.foldl (fun s u => (s.setCal { s.cal with due := s.cal.due.map fun o => if o.unit = u then { o with postponed := some s.now } else o }).count
    R.CAL_CNT_POSTPONE) s

/-- A due unit is tried (R331, R332): it starts, or it is skipped. -/
def State.calTry (s : State) (d : CalDue) : State :=
  if s.hasStandIn d.unit then s.calStart d
  else
    let s := s.setCal { s.cal with due := s.cal.due.map fun o => if o.unit = d.unit then { o with skipped := true, postponed := none } else o }
    (s.count R.CAL_CNT_SKIP).raise 424 0

/-- Whether calibrations start (R340): `CAL_CFG.EN`, the core works, and calibration is not frozen. -/
def State.calMay (s : State) : Bool := s.flag F.CAL_CFG_EN && s.coreRuns && !s.calFrozen

/-- CAL_UNIT_START (R331, R351): the next due unit, in the order of triggers and of becoming due. -/
def State.calUnitStart (s : State) : State :=
  if !s.calMay then s
  else
    let s := s.calScan
    let may := s.cal.due.filter fun d => !d.skipped && s.calRoom d.unit
    let held := s.get F.MGT_STATUS_DEFER == 3
    let ready := may.filter fun d => !held || d.postponed.any fun t => t + 10000000 * usUnit ≤ s.now
    let best := ready.foldl (fun (m : Option CalDue) d => match m with
      | some b => if d.trigger < b.trigger ∨ (d.trigger = b.trigger ∧ d.order < b.order) then some d else some b
      | none => some d) none
    let s := if held then s.calPostpone ((may.filter fun d => d.postponed.isNone).map (·.unit))
      else s.setCal { s.cal with due := s.cal.due.map fun o => { o with postponed := none } }
    match best with
    | none => s
    | some d => s.calTry d

/-- CAL_SKIP_RETRY (R332). -/
def State.calRetry (s : State) (u : Nat) : State :=
  match s.cal.due.find? fun d => d.unit == u && d.skipped with
  | none => s
  | some d =>
    if !s.calMay || !s.calRoom u then s
    else
      let s := s.setCal { s.cal with due := s.cal.due.map fun o => if o.unit = u then { o with skipped := false } else o }
      if s.get F.MGT_STATUS_DEFER ≠ 3 ∨ d.postponed.any (fun t => t + 10000000 * usUnit ≤ s.now) then s.calTry { d with skipped := false }
      else if d.postponed.isSome then s
      else s.calPostpone [u]

/-- The measurement of an element is over, and it waits for its frame boundary; a unit that does not agree keeps its previous trims
(R335). -/
def State.calMeasured (s : State) (r : CalRun) : State :=
  let r := { r with made := max r.made r.runs.length, agreed := if r.unstable then [] else r.agreed, phase := .applying }
  (if r.unstable then s.calUnstable r else s).putRun r

/-- CAL_RUN_COMPLETE (R333 to R335): the lowest passing taps of a slice, or the trim of a lane, with the unit's quality. -/
def State.calRunEnds (s : State) (u : Nat) (values quality : List Int) : State :=
  match s.calRun u with
  | none => s
  | some r =>
    if r.phase = .returning ∧ 0x20 ≤ u ∧ u < 0x40 then s.putRun { r with quality := quality }
    else if r.phase ≠ .fallow then s
    else if u < 17 && values.any (fun v => decide (63 < v)) then s.sliceFails u
    else
      let m := s.get F.CAL_CFG_MARGIN
      let raw := values.map fun v => (tapTrim v.toNat m : Int)
      let s := if u < 17 then s.each (raw.filter (63 < ·)) fun s _ => s.raise 427 0 else s
      let trims := if u < 17 then raw.map (min 63) else values.map (clampInt (-128) 127)
      let r := { r with runs := r.runs ++ [trims] }
      match calAgree (unitTolerance u) r.runs with
      | none => s.putRun r
      | some none => s.calMeasured { r with unstable := true }
      | some (some a) => s.calMeasured { r with agreed := r.agreed ++ a, quality := r.quality ++ quality }

/-- The read-back of a port's lane resumes with its agreed trim (R336): after lane A lane B goes fallow; after lane B the calibration
ends. A unit that does not agree ends with its previous trims (R335). -/
def State.portAdvance (s : State) (r : CalRun) : State :=
  let a := laneA (r.unit - 0x40)
  let b := laneB (r.unit - 0x40)
  let s := (s.laneResume a).laneResume b
  if r.unstable then (s.portTrims r).calDone r
  else
    let saved := s.reg (R.LNS_LANE_TRIM a)
    let s := s.applyTrims r.unit r.agreed
    if r.lane = 0 then (s.setFallow b true).putRun { r with phase := .fallow, lane := 1, runs := [], saved := some saved } else s.calDone r

/-- The calibrations at a TG0 frame boundary (R35, R336): slices change hands, agreed trims take effect. -/
def State.calAdvance (s : State) (r : CalRun) : State :=
  let u := r.unit
  if u < 16 then
    match r.phase with
    | .waiting => if s.role 16 = 1 ∨ s.role 16 = 2 then (s.setRole 16 2 u).putRun { r with phase := .parallel } else s
    | .parallel => (((s.setRole 16 4 u).setRole u 3 u).logAdd 556 1).putRun { r with phase := .fallow }
    | .applying => ((s.applyTrims u r.agreed).setRole u 2 u).putRun { r with phase := .returning }
    | .returning => ((s.setRole u 0 u).setRole 16 1 0).calDone r
    | .fallow => s
  else if u = 16 then
    match r.phase with
    | .waiting => (s.setRole 16 3 0).putRun { r with phase := .fallow }
    | .applying => ((s.applyTrims u r.agreed).setRole 16 1 0).calDone r
    | _ => s
  else match r.phase with
    | .applying =>
      if 0x40 ≤ u then s.portAdvance r
      else
        let l := u - 0x20
        let s := (s.applyTrims u r.agreed).laneRelock l
        if s.laneIdOf l = 7 then (s.setFallow l false).calDone r
        else
          let k := l / 8
          let s := (s.setRot k { s.rot k with agreed := 0, fails := 0 }).put (F.PIL_FLOCK_STATUS_ROT_STATE k) 4
          s.putRun { r with phase := .returning, quality := [] }
    | _ => s

/-- An idle SL16 shadows the next band that is neither fallow nor on the bypass path (R342). -/
def State.grazeNext (s : State) : State :=
  if !s.spareIdle then s
  else if !s.flag F.CAL_CFG_SHADOW_EN then s.setRole 16 1 0
  else
    match ((List.range 16).map fun i => (s.cal.nextBand + i) % 16).find? fun k => s.role k == 0 with
    | some k => (s.setRole 16 2 k).setCal { (s.setRole 16 2 k).cal with nextBand := (k + 1) % 16 }
    | none => s.setRole 16 1 0

/-- Bands change hands at a TG0 frame boundary after faults (R343, R345, R362). -/
def State.handBands (s : State) : State :=
  let s := match s.cal.takeBack with
    | none => s
    | some h =>
      let s := s.setCal { s.cal with takeBack := none }
      let s := if s.role 16 = 4 ∧ s.sliceBand 16 = h then s.setRole 16 1 0 else s
      if s.role h = 5 ∨ s.role h = 7 then s else s.setRole h 0 h
  let s := match s.cal.takeover with
    | none => s
    | some h =>
      let s := s.setCal { s.cal with takeover := none }
      if s.role 16 = 5 ∨ s.role 16 = 7 then s
      else
        let s := (s.setRole 16 4 h).logAdd 556 1
        if s.role h = 5 then s.setCal { s.cal with permanent := true } else s
  let s := (s.setCal { s.cal with covers := [] }).each s.cal.covers fun s x =>
    if s.role x.1 = 1 then (s.setRole x.1 4 x.2).logAdd 556 1 else s
  match s.cal.bistNext with
  | none => s
  | some b =>
    let s := s.setCal { s.cal with bistNext := none }
    if s.role b.slice = 5 ∨ s.role b.slice = 7 then s else (s.setRole b.slice 6 b.home).setCal { (s.setRole b.slice 6 b.home).cal with bist := some b }

/-- The revived slice that drives a band (R354). -/
def State.coveredBy (s : State) (k : Nat) : Option Nat := (List.range 16).find? fun r => s.role r == 4 && s.sliceBand r == k

/-- Band k has no slice, where SL16 drives band `spare`: its own is retired, or came back from REVIVE_UNIT as an idle stand-in, which
takes no band of its own accord, or drives another (R38, R354). -/
def State.uncovered (s : State) (k spare : Nat) : Bool :=
  (s.role k == 5 || s.role k == 1 || s.role k == 4) && spare != k && (s.coveredBy k).isNone

/-- The slices and calibrations at a TG0 frame boundary (R29, R35, R43). -/
def State.calBoundary (s : State) : State :=
  let s := s.handBands
  let s := s.each s.cal.runs fun s r => s.calAdvance r
  let s := s.grazeNext.calRescan
  let spare := if s.role 16 = 4 then s.sliceBand 16 else 0x1F
  let s := (s.put F.DEV_PATH_STATUS_SPARE_BAND spare).put F.DEV_PATH_STATUS_BYPASS_BANDS (ofBits 16 fun k => s.uncovered k spare)
  let s := s.setCal { s.cal with bypassNow := 0 }
  s.each (List.range 17) fun s k => if s.role k = 3 then s.sliceTally k 3 else if s.role k = 4 then s.sliceTally k 4 else s

/-- An active line of TG0 passes through the slices (Table 19.1). -/
def State.sliceLine (s : State) : State :=
  let s := s.each (List.range 17) fun s k => if s.role k = 0 ∨ s.role k = 2 ∨ s.role k = 4 then s.sliceTally k 0 else s
  s.each (upTo 16 s.bypassed) fun s k => s.sliceTally k 5

/-- A slice's domain reaches ON, or leaves it (R444, R468). -/
def State.slicePower (s : State) (k : Nat) (on : Bool) : State :=
  if s.role k = 5 then s
  else if on then
    (if k = 16 then s.setRole 16 1 0
     else if s.role 16 = 4 ∧ s.sliceBand 16 = k then (s.setRole k 1 0).setCal { (s.setRole k 1 0).cal with takeBack := some k }
     else s.setRole k 0 k).calScan
  else
    let s := s.each (s.cal.runs.filter fun r => r.unit == k || (k == 16 && r.unit < 16)) fun s r => s.calRecall r
    let s := s.dropBist k
    let s := s.setCal { s.cal with
      takeover := if k = 16 then none else s.cal.takeover
      covers := s.cal.covers.filter (·.1 != k)
      permanent := s.cal.permanent && k != 16 }
    s.setRole k 7 0

/-- A gate short while a unit is fallow (Table 16.7): every fallow unit is recalled, and calibration stays frozen until the layer
is ON. -/
def State.calGateShort (s : State) (l : Layer) : State :=
  if s.cal.runs.isEmpty then s
  else
    let t := s.recallAll
    s.calFreeze (t.setCal (match l with | .front => { t.cal with frozenFront := true } | .rear => { t.cal with frozenRear := true }))

/-- A layer that is ON ends the freeze of its gate short. -/
def State.calThaw (s : State) : State :=
  s.calFreeze (s.setCal { s.cal with
    frozenFront := s.cal.frozenFront && s.panelState .front != 3, frozenRear := s.cal.frozenRear && s.panelState .rear != 3 })

/-! ### Triggers (R330) -/

/-- A write of `CAL_REQ` (R330). -/
def State.calRequest (s : State) (v : Nat) : State :=
  if !validUnit (v % 256) then s.refuseWord else s.calScan.makeDue (v % 256) 1

/-- CAL_TEMP: a sensor reads, in 1/16 °C. -/
def State.calTemp (s : State) (n : Nat) (t : Int) : State :=
  let s := s.setCal { s.cal with sensors := mput s.cal.sensors n t }
  s.each s.cal.refTemp fun s x =>
    if unitSensor x.1 = n ∧ 16 * s.get F.CAL_CFG_DELTA_T < (t - x.2).natAbs then s.makeDue x.1 2 else s

/-- CAL_INTERVAL: `INTERVAL` seconds have passed since a unit's calibration. -/
def State.calInterval (s : State) (u : Nat) : State :=
  let n := s.get F.CAL_CFG_INTERVAL
  match mfind s.cal.endedAt u with
  | some t => if n = 0 ∨ s.now < t + n * 1000000 * usUnit then s else s.makeDue u 3
  | none => s

/-! ### Commands -/

/-- CAL_REQ. -/
def execCalReq (ag : Agent) (v : Word) (s : State) : Host.Outcome State Fault Refusal :=
  checked (.calReq ag v) s fun s => s.asWrite ag R.CAL_REQ fun s => s.calRequest v.toNat

/-- CAL_TEMP. -/
def execCalTemp (n : Nat) (t : Int) (s : State) : Host.Outcome State Fault Refusal := checked (.calTemp n t) s fun s => s.calTemp n t

/-- CAL_INTERVAL. -/
def execCalInterval (u : Nat) (s : State) : Host.Outcome State Fault Refusal := checked (.calInterval u) s fun s => s.calInterval u

/-- CAL_UNIT_START. -/
def execCalUnitStart (s : State) : Host.Outcome State Fault Refusal := checked .calUnitStart s State.calUnitStart

/-- CAL_SKIP_RETRY. -/
def execCalSkipRetry (u : Nat) (s : State) : Host.Outcome State Fault Refusal := checked (.calSkipRetry u) s fun s => s.calRetry u

/-- CAL_RUN_COMPLETE. -/
def execCalRunComplete (u : Nat) (v q : List Int) (s : State) : Host.Outcome State Fault Refusal :=
  checked (.calRunComplete u v q) s fun s => s.calRunEnds u v q

/-- SLICE_LINE_COMPARE. -/
def execSliceLineCompare (line : Nat) (equal : Bool) (s : State) : Host.Outcome State Fault Refusal :=
  checked (.sliceLineCompare line equal) s fun s => s.lineCompare equal

/-- SLICE_BIST_COMPLETE. -/
def execSliceBistComplete (k : Nat) (pass : Bool) (s : State) : Host.Outcome State Fault Refusal :=
  checked (.sliceBistComplete k pass) s fun s => s.bistEnds k pass

/-- TILE_FAULT (R345). -/
def execTileFault (k : Nat) (s : State) : Host.Outcome State Fault Refusal := checked (.tileFault k) s fun s => s.sliceFails k

/-- OUTPUT_SHORT (R312); a transmitter of a port that stops is a fault of its group: the port's fallow read-back is recalled (R340,
Table 16.7). -/
def execOutputShort (x : ShortReport) (s : State) : Host.Outcome State Fault Refusal :=
  checked (.outputShort x) s fun s =>
    let s' := s.outputShort x.lane x.limiting x.elapsed
    if 32 ≤ x.lane && s.laneSends x.lane && (s'.lane x.lane).stopped then s'.doubleFault (16 + (x.lane - 32) / 2) else s'

/-- LANE_OFF (R204): the port's fallow read-back is recalled (Table 16.7), and the retirement is logged. -/
def execLaneOff (l : Nat) (s : State) : Host.Outcome State Fault Refusal :=
  checked (.laneOff l) s fun s =>
    let s' := s.laneOff l
    if s'.occ = s.occ then s' else (s'.doubleFault (16 + (l - 32) / 2)).logRetire 572 (0x40 + (l - 32) / 2)

end Sys2Proof.Machine
end

