-- ==== Sys2Proof/Machine/Packet.lean ====
section
/-! DEFINITION. The packets of the input link (R49 to R53, Tables 2.4 to 2.6): how the bytes of the lanes form a stream, what the
header says, when a packet fails, and what the payload of each type holds. -/

namespace Sys2Proof.Machine

/-! ### Striping (R49) -/

/-- The unit-times that n bytes take on L logical lanes. -/
def unitTimes (lanes n : Nat) : Nat := divCeil n (4 * lanes)

/-- Unit u of a packet on L logical lanes: the four bytes that lane u mod L carries in unit-time u / L. -/
def laneUnit (lanes : List (List Byte)) (u : Nat) : List Byte := slice (lanes.getD (u % lanes.length) []) (4 * (u / lanes.length)) 4

/-- The byte stream of a packet whose lanes carry t unit-times each. -/
def unstripe (lanes : List (List Byte)) (t : Nat) : List Byte := (List.range (t * lanes.length)).flatMap (laneUnit lanes)

/-- What the source sends on L logical lanes for a byte stream: whole unit-times, padded with 0x00. -/
def stripe (n : Nat) (bs : List Byte) : List (List Byte) :=
  (List.range n).map fun i => (List.range (unitTimes n bs.length)).flatMap fun t => slice bs (4 * (t * n + i)) 4

/-! ### Packets (R50 to R53) -/

/-- A packet: the fields of its header (Table 2.4) and its payload. -/
structure LinkPacket where
  typ : Nat
  lineEnd : Bool
  id : Nat
  line : Nat
  firstX : Nat
  count : Nat
  fmt : Nat
  payload : List Byte
  deriving DecidableEq, Repr

/-- The header and payload of a byte stream; reserved bits are ignored (R50, R53). -/
def LinkPacket.ofBytes (bs : List Byte) : LinkPacket :=
  let b0 := (bs.getD 0 0).toNat
  { typ := b0 / 16, lineEnd := bitAt b0 0, id := (bs.getD 1 0).toNat, line := beNat (slice bs 4 2), firstX := beNat (slice bs 6 2)
    count := beNat (slice bs 8 2), fmt := (bs.getD 10 0).toNat % 4, payload := (bs.drop 12).take (beNat (slice bs 2 2)) }

/-- A packet as the source sends it (R50, R51): header, payload, CRC-16. -/
def LinkPacket.toBytes (p : LinkPacket) : List Byte :=
  let h : List Byte := [BitVec.ofNat 8 (p.typ * 16 + bit p.lineEnd), BitVec.ofNat 8 p.id] ++ beBytes 2 p.payload.length
    ++ beBytes 2 p.line ++ beBytes 2 p.firstX ++ beBytes 2 p.count ++ [BitVec.ofNat 8 p.fmt, 0]
  h ++ p.payload ++ beBytes 2 (crc16 (h ++ p.payload))

/-- Whether a type is one of Table 2.5. -/
def linkType (typ : Nat) : Bool := 1 ≤ typ && typ ≤ 10

/-- Whether a type belongs to a region slot. -/
def regionType (typ : Nat) : Bool := 4 ≤ typ && typ ≤ 6

/-- Whether a payload has the length that the packet's type requires (Table 2.5, R54). -/
def LinkPacket.lengthOk (p : LinkPacket) : Bool :=
  let n := p.payload.length
  match p.typ with
  | 1 => n == 20
  | 2 | 5 => n == pixelBytes p.fmt p.count
  | 4 => n == 12
  | 9 => n == 28
  | 10 => 1 ≤ n && n ≤ 64
  | _ => n == 4

/-- The logical lanes of the link (R44). -/
def State.logicalLanes (s : State) : Nat := 7 * s.linkFlocks.length

/-- The bytes that a packet's lanes carry. -/
def rxStream (rx : LinkRx) : List Byte := unstripe rx.lanes ((rx.lanes.headD []).length / 4)

/-- The packet that the lanes bring, right or wrong. -/
def rxPacket (rx : LinkRx) : LinkPacket := LinkPacket.ofBytes (rxStream rx)

/-- Whether a received packet is good (R52, R53): every lane of the link carries as many units as the length asks for and the end
unit-time follows, no lane has lost lock, type, length and ID are as Table 2.5 requires, and the CRC-16 is right. -/
def State.rxGood (s : State) (rx : LinkRx) : Bool :=
  let bs := rxStream rx
  let p := rxPacket rx
  let len := beNat (slice bs 2 2)
  rx.ended && !rx.lockLost && rx.lanes.length == s.logicalLanes && decide (0 < s.logicalLanes)
    && rx.lanes.all (fun l => l.length == 4 * unitTimes s.logicalLanes (14 + len))
    && linkType p.typ && p.lengthOk && (regionType p.typ || p.id == 0)
    && beNat (slice bs (12 + len) 2) == crc16 (bs.take (12 + len))

/-! ### Payloads (Table 2.6) -/

/-- A `FRAME_START`: number, stamp in seconds and nanoseconds, W, H and format; bytes 4 to 13 all zero mean no stamp. -/
structure FrameHead where
  no : Word
  stamp : Option (Nat × Nat)
  w : Nat
  h : Nat
  fmt : Nat
  deriving DecidableEq, Repr

/-- A 32-bit number at the start of a payload. -/
def LinkPacket.word (p : LinkPacket) : Word := BitVec.ofNat 32 (beNat (slice p.payload 0 4))

/-- The fields of a `FRAME_START`. -/
def LinkPacket.frameHead (p : LinkPacket) : FrameHead :=
  let f (o n : Nat) : Nat := beNat (slice p.payload o n)
  { no := p.word, stamp := if f 4 10 = 0 then none else some (f 4 6, f 10 4), w := f 14 2, h := f 16 2, fmt := f 18 1 % 4 }

/-- The fields of a `REGION_BEGIN`: x, y, width, height and tag. -/
def LinkPacket.rect (p : LinkPacket) : Nat × Nat × Nat × Nat × Word :=
  let f (o n : Nat) : Nat := beNat (slice p.payload o n)
  (f 0 2, f 2 2, f 4 2, f 6 2, BitVec.ofNat 32 (f 8 4))

end Sys2Proof.Machine
end

