-- ==== Sys2Proof/Machine/Link.lean ====
section
/-! DEFINITION. The commands of the Paith input link (chapter 2): lanes, rotation with the source, packets and frames, sleep,
and what a frame does to the source buffers (R31, R238) and to the region updates (R73 to R75, R247). -/

namespace Sys2Proof.Machine

/-- The source has been told that it may stop (R76). -/
def State.sleepAcked (s : State) : Bool := s.get F.PIL_STATUS_SLEEP == 2

/-! ### Concealment (R71, R72) -/

/-- `PIL` reads columns [x0, x1) of a line of the last complete source frame from the folds (R71, R240, R266, R269, R274): every block slot
that holds some of them once. The answer is their pixels: zero where there is no such frame since the last synchronising reset, and where
a slot cannot be used, of which the spec says nothing for this reader (DESIGN CHOICE, assumption logs 70, 140). -/
def State.frontLine (s : State) (ecc : EccMap) (y x0 x1 : Nat) : (Nat → InPixel) × State :=
  match s.layoutOf s.frontBuf with
  | none => (fun _ => .zero, s)
  | some l =>
    if !s.pil.haveFront || l.h ≤ y || x1 ≤ x0 then (fun _ => .zero, s)
    else
      let bx := x0 / 64
      let r := (List.range (divCeil (min x1 l.w) 64 - bx)).foldl (fun (r : SMap (List (List Nat)) × State) i =>
        match r.2.readSlot s.frontBuf l (y / 4 * l.cols + bx + i) ecc 3 with
        | (some c, s) => (mput r.1 (bx + i) c, s)
        | (none, s) => (r.1, s)) ([], s)
      (fun x => match mfind r.1 (x / 64) with
        | some c => if x < l.w then slotPixel l.comps c x y else .zero
        | none => .zero, r.2)

/-- Put a pixel of the frame in reception. -/
def putPixel (m : SMap InPixel) (x y : Nat) (p : InPixel) : SMap InPixel := mset ⟨⟨0, 0, 0⟩, 0⟩ m (pixKey x y) p

/-- Columns [x0, x1) of a line of the frame in reception take new pixels. -/
def State.putCols (s : State) (y x0 x1 : Nat) (p : Nat → InPixel) : State :=
  let px := (List.range (x1 - x0)).foldl (fun (m : SMap InPixel) i => putPixel m (x0 + i) y (p (x0 + i))) s.pil.pixels
  let old (k : Nat) : Bool := pixKey x0 y ≤ k && k < pixKey x1 y
  { s with pil := { s.pil with pixels := px, dropped := s.pil.dropped.filter fun e => !old e.1 } }

/-- Columns [x0, x1) of a line come from the last complete frame. -/
def State.concealCols (s : State) (ecc : EccMap) (y x0 x1 : Nat) : State :=
  let r := s.frontLine ecc y x0 x1
  r.2.putCols y x0 x1 r.1

/-- An entry buffer drops columns [x0, x1) of a line: the slices take the last complete frame's (R33). -/
def State.dropCols (s : State) (ecc : EccMap) (y x0 x1 : Nat) : State :=
  let r := s.frontLine ecc y x0 x1
  let px := (List.range (x1 - x0)).foldl (fun (m : SMap InPixel) i => mput m (pixKey (x0 + i) y) (r.1 (x0 + i))) s.pil.dropped
  { r.2 with pil := { r.2.pil with dropped := px } }

/-- A span of the line that the frame expects is concealed; a line counts once, a frame reports once (R71). A frame that is not TG0's
raster has nothing stored (R57), and its missing lines count none: the spec does not say whether they do (DESIGN CHOICE, assumption
log 117). -/
def State.concealLine (s : State) (ecc : EccMap) (f : RxFrame) (x0 x1 : Nat) : State × RxFrame :=
  if f.mismatch || x1 ≤ x0 then (s, f)
  else
    let s := (s.concealCols ecc f.line x0 x1).countIf (!f.lineConcealed) R.PIL_CNT_CONCEAL
    (s.raiseIf (!f.concealed) 70 3, { f with lineConcealed := true, concealed := true })

/-- The frame goes on to the next line; what its entry buffers dropped ends with the line (R33). -/
def RxFrame.next (f : RxFrame) : RxFrame := { f with line := f.line + 1, col := 0, lineConcealed := false, restShown := false, dropBands := [] }

/-- The lines from the expected position up to a line are concealed. -/
def State.concealLines (s : State) (ecc : EccMap) (f : RxFrame) : Nat → State × RxFrame
  | 0 => (s, f)
  | n + 1 =>
    let (s, f) := s.concealLine ecc f f.col f.w
    s.concealLines ecc f.next n

/-- Everything between the expected position and a later one is concealed (R72). -/
def State.concealTo (s : State) (ecc : EccMap) (f : RxFrame) (line col : Nat) : State × RxFrame :=
  let (s, f) := s.concealLines ecc f (line - f.line)
  let (s, f) := s.concealLine ecc f f.col col
  (s, { f with col := max f.col col })

/-- Block slot i of the frame in reception (R237, R279). -/
def State.frameBlock (s : State) (f : RxFrame) (i : Nat) : List (List Nat) :=
  let v (x y c : Nat) : Nat := (mget ⟨⟨0, 0, 0⟩, 0⟩ s.pil.pixels (pixKey x y)).comp c
  let cols := divCeil f.w 64
  blockOf f.w f.h f.comps v (i % cols) (i / cols)

/-- Block slot i of a frame is whole at its expected position: its last pixel has come or is concealed. -/
def RxFrame.whole (f : RxFrame) (i : Nat) : Bool :=
  let cols := divCeil f.w 64
  let last := min (4 * (i / cols) + 3) (f.h - 1)
  i / cols < divCeil f.h 4 && (last < f.line || (last == f.line && min (64 * (i % cols) + 63) (f.w - 1) < f.col))

/-- The encoder checks the block slots that have become whole since the frame was `f0` (R288): one whose CODED segment is wrong counts,
is reported, and goes RAW. -/
def State.verifySlots (s : State) (f0 f : RxFrame) (wrong : List Nat) : State × RxFrame :=
  let bad := wrong.eraseDups.filter fun i =>
    f.stored && f.whole i && !f0.whole i && !f.badSegs.contains i && !(segEncode 12 (s.frameBlock f i)).2
  (s.each bad fun s _ => (s.count R.CPR_CNT_VERIFY).raise 254 1, { f with badSegs := f.badSegs ++ bad })

/-- A packet has failed (R72): the rest of the line at the expected position is concealed, once. The position stays, and a good
packet there still delivers its pixels (DEDUCED, assumption log 115). On a DEGRADED link no good packet comes: the frame goes on to
the next line (R70, R363). -/
def State.concealFailed (s : State) (x : CopyCheck) : State :=
  match s.pil.rx with
  | none => s
  | some f0 =>
    let lost := s.linkState == 3
    if (f0.restShown && !lost) || f0.h ≤ f0.line then s
    else
      let (s, f) := s.concealLine x.ecc f0 f0.col f0.w
      let (s, f) := if lost then s.verifySlots f0 f.next x.mismatch else (s, { f with restShown := true })
      { s with pil := { s.pil with rx := some f } }

/-- TG0's frame ends on a DEGRADED link whose video nothing has replaced (R70, R363): what is left of the open frame is concealed; with
a whole TG0 frame of that, every line of a source frame was. -/
def State.concealDegraded (s : State) : State :=
  if s.linkState ≠ 3 || s.selfRefresh || s.sleepAcked then s
  else if s.pil.degradedFrames = 0 then
    match s.pil.rx with
    | none => s
    | some f =>
      let (s, f) := s.useFree.concealTo s.freeEcc f f.h 0
      { s with pil := { s.pil with rx := some f } }
  else if s.pil.prev.isNone then s
  else (s.count R.PIL_CNT_CONCEAL (s.snapshot.lines 0)).raise 70 3

/-! ### Sleep (R76) -/

/-- A `SLEEP` that waits is answered once its frame is complete, or once that cannot happen (R76): while the named frame is open, also
after its `FRAME_END` has failed, the answer waits for the packet that closes it (DEDUCED, assumption log 116). -/
def State.sleepCheck (s : State) : State :=
  match s.pil.sleepWant with
  | none => s
  | some want =>
    let comes (f : Option RxFrame) : Bool := f.any fun f => f.stored && f.no == want
    let hold := if s.pil.lastComplete = some want then some want
      else if comes s.pil.rx || comes s.pil.draining then none
      else s.pil.lastComplete
    match hold with
    | none => s
    | some n =>
      let s := ({ s with pil := { s.pil with sleepWant := none } }).put F.PIL_STATUS_SLEEP 2
      (s.backAll 6 (beNats 4 n.toNat ++ [0, 0, 0, 0])).setCause 0

/-! ### Carriers and the state of the link (R48, R61 to R64, R70, Table 2.14) -/

/-- A lane's markers show a lane ID that the link can use (R48, R61, R64). -/
def State.laneUsable (s : State) (l : Nat) : Bool :=
  let p := s.pilLane l
  p.locked && !p.outside && !p.foreign && !s.laneFallow l

/-- The spare of a flock carries working lane i. -/
def State.spareCarries (s : State) (k i : Nat) : Bool :=
  let l := 8 * k + s.physOf k 7
  let p := s.pilLane l
  s.get (F.PIL_FLOCK_STATUS_SPARE_SERVES k) == i && s.laneUsable l && p.dup && p.id == i

/-- Working lane i of a flock has a carrier of its own. -/
def State.ownCarries (s : State) (k i : Nat) : Bool :=
  let l := 8 * k + s.physOf k i
  let p := s.pilLane l
  s.laneUsable l && !p.dup && p.id == i

/-- Working lane i of a flock has a carrier. -/
def State.hasCarrier (s : State) (k i : Nat) : Bool := s.ownCarries k i || s.spareCarries k i

/-- The link is lost: the frame in reception is cut short (R241). What is missing of it is concealed (R70), it never completes, and a
`SLEEP` that waits for it is answered (R76). -/
def State.linkCut (s : State) : State :=
  match s.pil.rx with
  | none => s
  | some f =>
    let (s, _) := s.useFree.concealTo s.freeEcc f f.h 0
    let s := { s with pil := { s.pil with rx := none } }
    let s := if s.srf.exiting && !s.srf.exitReady && s.pil.draining.isNone then s.cancelExit else s
    s.sleepCheck

/-- The link carries the source no more: LINK_DOWN, and the cause LINK (R76, Table 10.1). -/
def State.linkDown (s : State) : State :=
  let acked := s.sleepAcked
  let s := s.linkCut.raise 65 (if acked then 0 else 3)
  if s.flag F.SRF_CFG_LINK_EN && !acked then s.setCause 1 else s

/-- The link enters UP (R61, R75, Table 10.1). -/
def State.linkUp (s : State) (fresh : Bool) : State :=
  let s := (s.raise 64 0).clearCause 1
  if !fresh then s
  else
    let old := s.pil.credit
    let s := { s with pil := { s.pil with credit := (List.range 16).map fun i => (i, 3), sent := [] } }
    s.each ((List.range 16).filter fun i => mget 0 old i != 3) fun s i => s.sendCredit i

/-- `LINK_STATE` takes a value (Table 2.14). -/
def State.setLinkState (s : State) (v : Nat) : State :=
  let old := s.linkState
  let s := s.put F.PIL_STATUS_LINK_STATE v
  if old = v then s
  else
    let s := { s with pil := { s.pil with degradedFrames := 0, prev := if old = 0 then none else s.pil.prev } }
    let s := if old = 2 then s.regionsLost else s
    let s := if 2 ≤ old ∧ v < 2 then s.linkDown else s
    if v = 2 then s.linkUp (decide (old < 2)) else s

/-- The carriers and `LINK_STATE` follow the lanes (R48, R62, R70). -/
def State.linkUpdate (s : State) : State :=
  let ks := s.linkFlocks
  let up (k : Nat) : Bool := (List.range 7).all fun i => s.hasCarrier k i
  let s' := s.put F.PIL_STATUS_FLOCK_UP (ofBits 4 fun k => ks.contains k && up k)
  let any := ks.any fun k => s.get (F.PIL_FLOCK_STATUS_LOCK k) != 0
  let v := if ks.isEmpty || !any then 0 else if ks.all up then 2 else if 2 ≤ s.linkState then 3 else 1
  (s'.setLinkState v).noteStatus

/-! ### Rotation with the source (R67 to R69, Table 2.10) -/

/-- The calibration in progress of working lane i of a flock. -/
def State.laneRun (s : State) (k i : Nat) : Option CalRun := s.calRun (0x20 + 8 * k + s.physOf k i)

/-- A calibration of a lane whose rotation has ended goes back to the units that are due. -/
def State.runAgain (s : State) (r : CalRun) : State := ((s.dropRun r.unit).setFallow (r.unit - 0x20) false).makeDue r.unit r.trigger

/-- A tally-only counter of an input flock (Table 19.1): 0 packets, 1 rotations, 2 emergency rotations. -/
def State.flockTally (s : State) (k c : Nat) : State := s.tally (0x6200 + 0x40 * k + 8 * c) 1

/-- The spare takes logical lane j for a calibration (Table 2.10, step 4). -/
def State.rotSwitch (s : State) (k : Nat) : State :=
  let j := (s.rot k).lane
  let l := 8 * k + s.physOf k j
  let s := (s.put (F.PIL_FLOCK_STATUS_SPARE_SERVES k) j).put (F.PIL_FLOCK_STATUS_ROT_STATE k) 3
  let s := (s.setRot k { s.rot k with agreed := 0, fails := 0 }).setFallow l true
  let s := match s.laneRun k j with
    | some r => s.putRun { r with phase := .fallow }
    | none => s
  ((s.raise 73 0).flockTally k 1).logAdd 560 1

/-- The spare takes a lost logical lane (R69). -/
def State.rotEmergency (s : State) (k : Nat) : State :=
  let s := s.put (F.PIL_FLOCK_STATUS_SPARE_SERVES k) (s.rot k).lane
  ((s.raise 73 2).flockTally k 2).logAdd 564 1

/-- The spare of a flock can take a working lane (R36, R69): it is in use, locked and of this flock, the source can be asked, and it
has not been told that it may stop (R76). -/
def State.spareReady (s : State) (k : Nat) : Bool :=
  let p := s.pilLane (8 * k + s.physOf k 7)
  bitAt (s.get F.PIL_CFG_SPARE_EN) k && p.locked && !p.foreign && s.backOn k && !s.sleepAcked

/-- Working lane i of a flock counts as lost (R61, R64, R69): it had lock and has lost it; or every lane of the flock is locked, and none
gives its ID, the one that should being unused. That a lane outside the deskew window, or one with the number of another flock, counts as
lost is a DESIGN CHOICE (assumption log 145): the rule says so of an unused twin only. -/
def State.laneMissing (s : State) (k i : Nat) : Bool :=
  !s.hasCarrier k i && ((s.pilLane (8 * k + s.physOf k i)).lost || (flockLanes k).all fun l => (s.pilLane l).locked)

/-- EMERGENCY_ROTATION (R69): a working lane counts as lost and the spare is idle. -/
def State.emergency (s : State) (k : Nat) : State :=
  if s.rotState k ≠ 0 || !s.spareReady k then s
  else match (List.range 7).find? (s.laneMissing k) with
    | some i => s.rotRequest k i 5
    | none => s

/-- Three comparisons have failed (R68): the rotation is abandoned and reported, that of a return after an emergency too (DEDUCED,
assumption log 123). -/
def State.rotAbandon (s : State) (k : Nat) : State :=
  let r := s.laneRun k (s.rot k).lane
  let s := s.rotRelease k 0
  let s := match r with
    | some r => ((s.calUnstable r).dropRun r.unit).setFallow (r.unit - 0x20) false
    | none => s.rotUnstable
  s.emergency k

/-- The working lane carries its logical lane again (Table 2.10, steps 6 and 7), once the measurement of step 6 has been made: none is
for a unit that keeps its trims, nor where no calibration runs (R337). -/
def State.rotBack (s : State) (k : Nat) : State :=
  let r := s.laneRun k (s.rot k).lane
  if r.any fun r => !r.unstable && r.quality.isEmpty then s
  else
  let s := s.rotRelease k 0
  let s := match r with
    | some r => (s.calDone r).setFallow (r.unit - 0x20) false
    | none => s
  s.emergency k

/-- A full marker interval of the spare and lane j has been compared. The second that agrees ends at a marker unit-time, and that is
the one at which the carrier changes (DESIGN CHOICE, assumption log 118). -/
def State.rotCompare (s : State) (k : Nat) (agree : Bool) (done : State → State) : State :=
  let r := s.rot k
  if agree then
    (if 1 ≤ r.agreed then done s else s.setRot k { r with agreed := r.agreed + 1 })
  else if 2 ≤ r.fails then s.rotAbandon k
  else s.setRot k { r with agreed := 0, fails := r.fails + 1 }

/-- What a valid marker of the spare does to the rotation of its flock; `agree` is the comparison of the interval that it ends. -/
def State.rotMarker (s : State) (k : Nat) (agree : Bool) : State :=
  let r := s.rot k
  let p := s.pilLane (8 * k + s.physOf k 7)
  let shows := p.dup && p.id == r.lane
  match s.rotState k with
  | 1 => if shows then (s.setRot k { r with agreed := 0, fails := 0, dupSeen := 1 }).put (F.PIL_FLOCK_STATUS_ROT_STATE k) 2 else s
  | 2 => if shows then s.rotCompare k agree fun s => if s.backOn k then s.rotSwitch k else s else s
  | 4 => if shows && (s.pilLane (8 * k + s.physOf k r.lane)).locked then s.rotCompare k agree fun s => s.rotBack k else s
  | 5 =>
    if s.get (F.PIL_FLOCK_STATUS_SPARE_SERVES k) = r.lane then s
    else if !shows then s.setRot k { r with dupSeen := 0 }
    else if 1 ≤ r.dupSeen then (s.setRot k { r with dupSeen := 2 }).rotEmergency k
    else s.setRot k { r with dupSeen := 1 }
  | _ => s

/-- A recalled lane that has locked again takes its logical lane back, and the spare is released (R340). -/
def State.rotRecalled (s : State) (k : Nat) : State :=
  let i := s.get (F.PIL_FLOCK_STATUS_SPARE_SERVES k)
  if i = 7 || (s.laneRun k i).isSome || !s.ownCarries k i then s
  else match s.rotState k with
    | 3 => s.rotRelease k 0
    | 5 => if (s.rot k).lane = i then s else s.put (F.PIL_FLOCK_STATUS_SPARE_SERVES k) 7
    | _ => s

/-! ### Lane markers (R47, R48, R61, R64) -/

/-- Whether a marker's bytes are right (Table 2.3). -/
def markerGood (id seq chk : Byte) : Bool := chk == id ^^^ seq ^^^ 0xA5#8 && id.toNat / 8 % 4 == 0

/-- The symbol positions of the lanes of the link that have shown marker count q. -/
def State.markerPositions (s : State) (ls : List Nat) (q : Nat) : List Nat :=
  (ls.filter fun l => let p := s.pilLane l; p.locked && !p.foreign && p.seq == q).map fun l => (s.pilLane l).pos

/-- The lanes of the enabled flocks. -/
def State.linkLanes (s : State) : List Nat := s.linkFlocks.flatMap flockLanes

/-- The deskew of lane l after its marker (R48): its place in the window, and `SKEW` of its flock. -/
def State.deskew (s : State) (l : Nat) : State :=
  let p := s.pilLane l
  let first := (s.markerPositions s.linkLanes p.seq).foldl min p.pos
  let s := s.setPilLane l { p with outside := decide (first + 64 < p.pos) }
  let k := l / 8
  let far := (flockLanes k).any fun j => (s.pilLane j).locked && (s.pilLane j).outside
  let last := (s.markerPositions (flockLanes k) p.seq).foldl max first
  s.put (F.PIL_FLOCK_STATUS_SKEW k) (if far then 0xFF else last - first)

/-- The lowest lane of a flock whose markers give lane ID i (R64). -/
def State.giver (s : State) (k i : Nat) : Option Nat :=
  (List.range 8).find? fun j => let p := s.pilLane (8 * k + j); p.locked && !p.dup && !p.foreign && p.id == i

/-- The routing of a flock after a marker of lane l (R64). `was` is the lane before it. -/
def State.remap (s : State) (l : Nat) (was : PilLane) : State :=
  let k := l / 8
  let old := s.reg (R.PIL_FLOCK_MAP k)
  let new := (List.range 8).foldl (fun m i => match s.giver k i with
    | some j => putBits m (3 * i + 2) (3 * i) j
    | none => m) old
  let p := s.pilLane l
  let twin := p.locked && !p.dup && !p.foreign && (flockLanes k).any fun o =>
    o != l && (let q := s.pilLane o; q.locked && !q.dup && !q.foreign && q.id == p.id)
  let fresh := !was.locked || was.id != p.id || was.dup || was.foreign
  let s := s.setReg (R.PIL_FLOCK_MAP k) new
  s.raiseIf ((new != old && new != resetOf (R.PIL_FLOCK_MAP k)) || (twin && fresh)) 68 1

/-- A valid marker of lane l (R48, R61, R64). -/
def State.markerValid (s : State) (l : Nat) (id seq : Byte) (pos : Nat) (agree : Bool) : State :=
  let was := s.pilLane l
  let k := l / 8
  let locked := was.locked || (was.marked && pos == was.pos + 4096)
  let s := s.setPilLane l { was with
    marked := true, pos := pos, seq := seq.toNat, id := id.toNat % 8, dup := bitAt id.toNat 5, foreign := id.toNat / 64 != k, locked := locked
    lost := was.lost && !locked }
  let f := F.PIL_FLOCK_STATUS_LOCK k
  let s := s.put f (setBit (s.get f) (l % 8) locked)
  let s := if locked then (s.deskew l).remap l was else s
  let s := if locked && l % 8 == s.physOf k 7 then s.rotMarker k agree else s
  ((s.rotRecalled k).linkUpdate).emergency k

/-- A discarded marker: it counts (R48). It raises `PKT_DISCARD` as a discarded packet does, which the spec does not say of a marker
(DESIGN CHOICE, assumption log 119). -/
def State.markerBad (s : State) : State := s.discard

/-- LANE_MARKER. -/
def State.laneMarker (s : State) (k j : Nat) (id seq chk : Byte) (pos : Nat) (agree : Bool) : State :=
  let l := 8 * k + j
  if !bitAt (s.get F.PIL_CFG_FLOCK_EN) k || s.rxState l != 4 then s
  else
    let s := s.rxSyms l (symK28_0 :: [id, seq, chk].map dSym)
    if !markerGood id seq chk then s.markerBad else s.markerValid l id seq pos agree

/-- LANE_MARKER. -/
def execLaneMarker (k j : Nat) (id seq chk : Byte) (pos : Nat) (agree : Bool) (s : State) : Host.Outcome State Fault Refusal :=
  checked (.laneMarker k j id seq chk pos agree) s fun s => s.laneMarker k j id seq chk pos agree

/-! ### Lane loss (R61, R69, R76, R303, Table 16.7) -/

/-- The spare of a flock is lost while a rotation uses it (R68, Table 16.7). -/
def State.spareLost (s : State) (k : Nat) : State :=
  let s := s.doubleFault (1 + k)
  let st := s.rotState k
  if 1 ≤ st ∧ st ≤ 5 then
    (let r := s.laneRun k (s.rot k).lane
     let s := s.rotRelease k 0
     match r with
     | some r => s.runAgain r
     | none => s)
  else s

/-- A working lane i of a flock is lost (R69, Table 16.7). -/
def State.workingLost (s : State) (k i : Nat) : State :=
  let st := s.rotState k
  if 1 ≤ st ∧ st ≤ 5 ∧ (s.rot k).lane = i then
    -- the lane that is being duplicated: the spare has it, or has been asked for it
    (let s := s.replan (1 + k) ((s.laneRun k i).any (·.away))
     let s := match s.laneRun k i with
       | some r => s.runAgain r
       | none => s
     if st = 1 then s.put (F.PIL_FLOCK_STATUS_ROT_STATE k) 5
     else if st = 2 ∨ st = 4 then (s.put (F.PIL_FLOCK_STATUS_ROT_STATE k) 5).rotEmergency k
     else s)
  else
    let s := s.doubleFault (1 + k)
    if st ≠ 5 && s.rotState k != 6 && s.spareReady k then s.rotRequest k i 5 else s

/-- Calibration has a lane away from its work: fallow, and not yet on its way back with lock (R337). -/
def State.laneAway (s : State) (l : Nat) : Bool := s.laneFallow l && !(s.pilLane l).locked

/-- A lane of the input link is lost (R61, R69, R76). -/
def State.linkLaneLost (s : State) (l : Nat) : State :=
  let (k, j) := (l / 8, l % 8)
  let was := (s.pilLane l).locked
  let acked := s.sleepAcked
  let cls := if acked then 0 else 2
  let i := s.laneIdOf l
  let f := F.PIL_FLOCK_STATUS_LOCK k
  let s := (s.setPilLane l { invalidSeen := true, lost := was }).put f (setBit (s.get f) j false)
  let s := ((s.count R.PIL_CNT_LANE_LOSS).raise 66 cls).laneRaise l 1 cls
  let s := if acked || !was then s else if i = 7 then s.spareLost k else s.workingLost k i
  s.linkUpdate

/-- LANE_LOST (R61, R303): 64 consecutive invalid symbols. The receiver goes back to ALIGN and the loss counts; a lane of the input link
is lost to the link. -/
def State.laneLost (s : State) (l : Nat) : State :=
  let linked := l < 32 && bitAt (s.get F.PIL_CFG_FLOCK_EN) (l / 8)
  let at' := s.rxState l = 4
  if (l < 32 && !linked) || s.laneAway l || !(at' || (linked && (s.pilLane l).locked)) then s
  else
    let s := if at' then (s.setRx l 3).setLane l { s.lane l with comma := none } else s
    let s := s.count (R.LNS_LANE_CNT_LOSS l)
    if linked then s.linkLaneLost l else s

/-- LANE_LOST. -/
def execLaneLost (l : Nat) (b : Blank) (s : State) : Host.Outcome State Fault Refusal := checked (.laneLost l b) s fun s => s.laneLost l

/-! ### Timed back-channel work (R65, R67 to R69, R75) -/

/-- LANE_STATUS: every 1 ms; the lanes' time in ALIGNED is tallied with it (Table 19.1). -/
def State.laneStatus (s : State) : State :=
  let s := s.each (upTo 144 fun l => s.rxState l == 4) fun s l => s.tally (0x1000 + 0x40 * l + 24) 1
  s.each s.linkFlocks fun s k => s.sendLaneStatus k

/-- LANE_STATUS. -/
def execLaneStatus (s : State) : Host.Outcome State Fault Refusal := checked .laneStatus s State.laneStatus

/-- CREDIT_PERIODIC (R75). -/
def execCreditPeriodic (s : State) : Host.Outcome State Fault Refusal :=
  checked .creditPeriodic s fun s => s.each (List.range 16) fun s i => s.sendCredit i

/-- ROT_DUP_REPEAT (Table 2.10, step 1). -/
def State.rotDupRepeat (s : State) (k : Nat) : State :=
  let r := s.rot k
  let st := s.rotState k
  if (st = 1 ∨ (st = 5 ∧ s.get (F.PIL_FLOCK_STATUS_SPARE_SERVES k) ≠ r.lane)) ∧ r.dupSeen = 0 ∧ r.sends ≤ 10 then
    (s.setRot k { r with sends := r.sends + 1 }).backSend k 2 [k, r.lane, 0, 0, 0, 0, 0, 0]
  else s

/-- ROT_DUP_REPEAT. -/
def execRotDupRepeat (k : Nat) (s : State) : Host.Outcome State Fault Refusal :=
  checked (.rotDupRepeat k) s fun s => s.rotDupRepeat k

/-- ROT_NO_COOP (R68). -/
def State.rotNoCoop (s : State) (k : Nat) : State :=
  let r := s.rot k
  let st := s.rotState k
  if (st = 1 ∨ (st = 5 ∧ s.get (F.PIL_FLOCK_STATUS_SPARE_SERVES k) ≠ r.lane)) ∧ r.dupSeen = 0 then
    (let run := s.laneRun k r.lane
     let s := (s.rotRelease k 6).raise 74 2
     let s := match run with
       | some c => s.runAgain c
       | none => s
     s.linkUpdate)
  else s

/-- ROT_NO_COOP. -/
def execRotNoCoop (k : Nat) (s : State) : Host.Outcome State Fault Refusal := checked (.rotNoCoop k) s fun s => s.rotNoCoop k

/-- ROT_RETURN (R69): lane j has agreed with the spare for 1 s. -/
def State.rotReturn (s : State) (k : Nat) : State :=
  let r := s.rot k
  if s.rotState k = 5 && s.get (F.PIL_FLOCK_STATUS_SPARE_SERVES k) == r.lane && (s.pilLane (8 * k + s.physOf k r.lane)).locked then
    (s.setRot k { r with agreed := 0, fails := 0 }).put (F.PIL_FLOCK_STATUS_ROT_STATE k) 4
  else s

/-- ROT_RETURN. -/
def execRotReturn (k : Nat) (s : State) : Host.Outcome State Fault Refusal := checked (.rotReturn k) s fun s => s.rotReturn k

/-- DEGRADED_LINK_LOSS (R70): one whole TG0 frame in DEGRADED, the frame that ends now included. -/
def State.degradedLoss (s : State) : State :=
  if s.linkState = 3 ∧ 2 ≤ s.pil.degradedFrames + (if s.frameEnding then 1 else 0) ∧ s.flag F.SRF_CFG_LINK_EN ∧ !s.sleepAcked then s.linkCut.setCause 1 else s

/-- DEGRADED_LINK_LOSS. -/
def execDegradedLinkLoss (s : State) : Host.Outcome State Fault Refusal := checked .degradedLinkLoss s State.degradedLoss

/-! ### Configuration (R62, R301, R304) -/

/-- Bring-up of a flock starts from nothing (Table 2.8, step 1). -/
def State.flockRestart (s : State) (k : Nat) : State :=
  let s := s.each (s.cal.runs.filter fun r => unitGroup r.unit == 1 + k) fun s r => s.runAgain r
  let s := s.each (flockLanes k) fun s l => s.setPilLane l {}
  let s := s.setRot k {}
  let inv := s.get (F.PIL_FLOCK_STATUS_POL_INV k)
  ((s.setReg (R.PIL_FLOCK_STATUS k) (resetOf (R.PIL_FLOCK_STATUS k))).put (F.PIL_FLOCK_STATUS_POL_INV k) inv).setReg
    (R.PIL_FLOCK_MAP k) (resetOf (R.PIL_FLOCK_MAP k))

/-- The receivers of a flock come into use or go out of it (Table 13.2, R304); its bellwether returns to service (R312), and leaves
electrical idle where the flock is newly enabled (Table 2.8, R302). -/
def State.flockUse (s : State) (k : Nat) (fresh : Bool) : State :=
  let s := if fresh then (s.laneStop (8 * k)).laneRestart (8 * k) else s.laneRestart (8 * k)
  if bitAt (s.get F.PIL_CFG_FLOCK_EN) k then
    s.each (flockLanes k) fun s l => ((s.putB (F.LNS_LANE_CFG_TEST l) false).codeOff l).laneUse l
  else s.each (flockLanes k) fun s l => s.testState l

/-- A write of `PIL_CFG` (R62, R301, R304, R307, R312, R330). -/
def State.pilConfig (s : State) (v : Nat) : State :=
  let rate := s.get F.PIL_CFG_RATE
  let used := s.get F.PIL_CFG_FLOCK_EN
  let s := s.each (List.range 4) fun s k => s.flockRestart k
  let s := s.setReg R.PIL_CFG (bits v 27 24 * 2 ^ 24 + bits v 19 16 * 65536 + v % 8)
  let s := s.setLinkState 0
  let s := s.put F.PIL_STATUS_FLOCK_UP 0
  let s := if rate = s.get F.PIL_CFG_RATE then s else s.each (List.range 4) fun s k => s.pllRate k
  let s := s.each (List.range 4) fun s k => s.flockUse k (!bitAt used k)
  (s.noteStatus).calScan

/-- PIL_CFG_WRITE. -/
def execPilCfgWrite (ag : Agent) (v : Word) (s : State) : Host.Outcome State Fault Refusal :=
  checked (.pilCfgWrite ag v) s fun s => s.asWrite ag R.PIL_CFG fun s => s.pilConfig v.toNat

/-! ### Packets (R46, R49 to R53, R62, R70, R72, R73) -/

/-- The symbols of a packet pass the receivers that carry the logical lanes and move their disparity (R302): the start unit, the data,
the end unit. -/
def State.rxTake (s : State) (rx : LinkRx) : State :=
  let ks := s.linkFlocks
  s.each (List.range rx.lanes.length) fun s i =>
    match ks[i / 7]? with
    | none => s
    | some k =>
      let l := 8 * k + s.physOf k (if s.spareCarries k (i % 7) then 7 else i % 7)
      s.rxSyms l (List.replicate 4 symK27_7 ++ (rx.lanes.getD i []).map dSym ++ (if rx.ended then List.replicate 4 symK29_7 else []))

/-- A failed packet: counted, reported once per frame, attributed to the expected position; one that shows the type of a region packet
takes its update with it (R52, R72, R73). -/
def State.failedPacket (s : State) (p : LinkPacket) (x : CopyCheck) : State :=
  let s := (s.count R.PIL_CNT_CRC).raiseIf (!s.pil.crcSeen) 69 0
  let s := ({ s with pil := { s.pil with crcSeen := true } }).concealFailed x
  if regionType p.typ && p.id < 16 then s.regionFailed p.typ p.id else s

/-- Whether the part takes a packet as good: it is right, and the link is UP. On a DEGRADED link every packet fails (R70). -/
def State.packetGood (s : State) (rx : LinkRx) : Bool := s.linkState == 2 && s.rxGood rx

/-- A packet reaches the part (R62). A good one of the row's type has its effect, one of another type is not this row's; a packet that
fails is handled alike under every row, since its type cannot be told (R72). The flocks tally it after its effect, with the frame that it
may begin (R406). -/
def State.packet (s : State) (typ : Nat) (rx : LinkRx) (eff : LinkPacket → State → State) : State :=
  let p := rxPacket rx
  if !s.linkWorks then s
  else if !s.packetGood rx then (s.rxTake rx).failedPacket p rx.check
  else if p.typ ≠ typ then s
  else (eff p (s.rxTake rx)).each s.linkFlocks fun s k => s.flockTally k 0

/-- FAILED_PACKET (R73). -/
def State.failure (s : State) (rx : LinkRx) : State :=
  if s.linkWorks && !s.packetGood rx then (s.rxTake rx).failedPacket (rxPacket rx) rx.check else s

/-- FAILED_PACKET. -/
def execFailedPacket (rx : LinkRx) (b : Blank) (s : State) : Host.Outcome State Fault Refusal := checked (.failedPacket rx b) s fun s => s.failure rx

/-! ### Frames (R56 to R59, R73, R78) -/

/-- Every pixel of a frame as bytes, for its CRC (R181). -/
def State.frameBytes (s : State) (w h : Nat) : List Byte :=
  (List.range h).flatMap fun y => packRow ((List.range w).map fun x => mget ⟨⟨0, 0, 0⟩, 0⟩ s.pil.pixels (pixKey x y))

/-- The blocks of a frame go to the buffer that does not hold the last complete frame (R237, R238); those whose CODED segment the
encoder found wrong go RAW (R288). -/
def State.writeFrame (s : State) (f : RxFrame) : State :=
  let l : BufLayout := ⟨f.w, f.h, f.comps, f.fmt⟩
  s.each (List.range l.slots) fun s i => s.storeSlot (1 - s.frontBuf) l i (rawWhere 12 (s.frameBlock f i) (f.badSegs.contains i))

/-- The open frame ends: what was not delivered is concealed, and its fold write drains (R31, R72). -/
def State.closeFrame (s : State) (x : CopyCheck) : State :=
  match s.pil.rx with
  | none => s
  | some f0 =>
    let (s, f) := s.concealTo x.ecc f0 f0.h 0
    let (s, f) := s.verifySlots f0 f x.mismatch
    let s := { s with pil := { s.pil with rx := none } }
    if !f.stored then s
    else
      let s := { s with pil := { s.pil with crcNow := crc32c (s.frameBytes f.w f.h), draining := some f } }
      s.writeFrame f

/-- `PIL_FS_OFFSET` (Table 2.16). -/
def State.stampOffset (s : State) (stamp : Option (Nat × Nat)) : Nat :=
  match stamp with
  | none => 0x80000000
  | some (sec, ns) =>
    let d : Rat := ((s.house.toUnits - ((sec * 1000000000 + ns) * 65536 : Nat) : Int) : Rat) / 65536
    unsigned 32 (clampInt (-0x7FFFFFFF) 0x7FFFFFFF (roundAway d))

/-- A `META` payload that waits is latched (R78), also where the `FRAME_START` is only inferred (R73), of which the spec does not speak
(DESIGN CHOICE, assumption log 120). -/
def State.latchMeta (s : State) : State :=
  match s.pil.metaNew with
  | none => s
  | some bs =>
    let s := s.each (List.range 7) fun s i => s.setReg (R.PIL_META i) (beNat (slice bs (4 * i) 4))
    ({ s with pil := { s.pil with metaNew := none } }).raise 77 0

/-- A frame opens, with a `FRAME_START` that came or with one that failed (R57, R58, R73). -/
def State.openFrame (s : State) (no : Word) (stamp : Option (Nat × Nat)) (w h fmt : Nat) : State :=
  let p := s.snapshot
  let mis := w != p.width 0 || h != p.lines 0
  let s := (s.setReg R.PIL_SRC_FRAME_NO no.toNat).setReg R.PIL_FS_OFFSET (s.stampOffset stamp)
  let f : RxFrame := { no := no, w := w, h := h, fmt := fmt, mismatch := mis
                       comps := if s.flag F.FE_CFG_FLAGS_AS_KEY then 4 else 3
                       stored := !mis && (!s.selfRefresh || s.srf.exiting), region := s.srf.nextId }
  let s := { s with pil := { s.pil with rx := some f, serial := s.pil.serial + 1, prev := some (w, h, fmt), prevNo := no, crcSeen := false } }
  ((s.raiseIf mis 72 3).latchMeta).talBegin 1

/-- A frame differs from the one before it: an input mode change, which is a synchronising reset (R57, R29). -/
def State.modeChange (s : State) (w h fmt : Nat) : State :=
  if s.pil.prev = some (w, h, fmt) then s
  else ({ s with pil := { s.pil with haveFront := false, pixels := [], dropped := [] }, spl := { s.spl with syncPending := true } }).raise 71 0

/-- A good `FRAME_START` (R57, R243, Table 10.1). -/
def State.frameStart (s : State) (no : Word) (stamp : Option (Nat × Nat)) (w h fmt : Nat) (x : CopyCheck) : State :=
  let s := s.closeFrame x
  let skip := s.pil.prev.isSome && no != s.pil.prevNo + 1
  let s := s.modeChange w h fmt
  let s := s.setReg R.PIL_MODE (fmt * 2 ^ 30 + h % 16384 * 65536 + w % 16384)
  let s := s.clearCause 2
  let fits := w == s.snapshot.width 0 && h == s.snapshot.lines 0
  let s := if s.selfRefresh && s.causes == 0 && !s.srf.exiting && fits then s.srfLeave else s
  let s := (((s.openFrame no stamp w h fmt).countIf skip R.PIL_CNT_FRAME_SKIP)).inputEdge s.now
  { s with pil := { s.pil with startSeen := true } }

/-- FRAME_START. -/
def execFrameStart (rx : LinkRx) (b1 b2 b3 b4 : Blank) (s : State) : Host.Outcome State Fault Refusal :=
  checked (.frameStart rx b1 b2 b3 b4) s fun s => s.packet 1 rx fun p s =>
    let h := p.frameHead
    s.frameStart h.no h.stamp h.w h.h h.fmt rx.check

/-- The pixels of a `VID_LINE` (R55). -/
def State.deliver12 (s : State) (line x count fmt : Nat) (bs : List Byte) : State :=
  s.putCols line x (x + count) fun c => pixelAt fmt bs (c - x)

/-- The slice that the output path of a band runs through: its own, SL16, or a revived slice that covers it (R354). -/
def State.bandSlice (s : State) (b : Nat) : Nat := if s.get F.DEV_PATH_STATUS_SPARE_BAND = b then 16 else (s.coveredBy b).getD b

/-- Entry buffers overflow (R33): from here to the end of the line their bands drop what the link brings, and the slices take the last
complete frame's. `bands` are those that overflow with this packet. -/
def State.overflow (s : State) (ecc : EccMap) (f : RxFrame) (x count : Nat) (bands : List Nat) : State × RxFrame :=
  if s.get F.DEV_PATH_STATUS_MODE ≠ 1 || f.mismatch then (s, f)
  else
    let new := bands.filter fun b => !f.dropBands.contains b && max x (bandStart f.w b) < min (x + count) (bandStart f.w (b + 1))
    let s := s.each new fun s b => s.sliceCause (s.bandSlice b) 4
    let f := { f with dropBands := f.dropBands ++ new }
    (s.each f.dropBands fun s b => s.dropCols ecc f.line (max x (bandStart f.w b)) (min (x + count) (bandStart f.w (b + 1))), f)

/-- A good `VID_LINE` of the open frame (R33, R56, R72, R288). -/
def State.vidLine (s : State) (f : RxFrame) (p : LinkPacket) (bands : List Nat) (k : CopyCheck) : State :=
  let f0 := f
  let (line, x, count) := (p.line, p.firstX, p.count)
  if f.h ≤ line ∨ p.fmt ≠ f.fmt ∨ f.w < x + count ∨ line < f.line ∨ (line = f.line ∧ x < f.col) then s.discard
  else
    let (s, f) := s.concealTo k.ecc f line x
    let s := if f.mismatch then s else s.deliver12 line x count p.fmt p.payload
    let (s, f) := s.overflow k.ecc f x count bands
    let f := { f with col := x + count }
    let (s, f) := if p.lineEnd then
        (let (s, f) := s.concealLine k.ecc f f.col f.w
         (s, f.next))
      else (s, f)
    let (s, f) := s.verifySlots f0 f k.mismatch
    { s with pil := { s.pil with rx := some f } }

/-- A good `VID_LINE` (R72, R73). -/
def State.vidPacket (s : State) (p : LinkPacket) (bands : List Nat) (k : CopyCheck) : State :=
  match s.pil.rx, s.pil.prev with
  | some f, _ => s.vidLine f p bands k
  | none, none => s.discard
  | none, some (w, h, pf) =>
    let s := s.openFrame (s.pil.prevNo + 1) none w h pf
    match s.pil.rx with
    | some f => s.vidLine f p bands k
    | none => s

/-- VID_LINE. -/
def execVidLine (rx : LinkRx) (bands : List Nat) (b1 b2 b3 b4 b5 : Blank) (s : State) : Host.Outcome State Fault Refusal :=
  checked (.vidLine rx bands b1 b2 b3 b4 b5) s fun s => s.packet 2 rx fun p s => s.vidPacket p bands rx.check

/-- A good `FRAME_END` (R72, R73). -/
def State.frameEnd (s : State) (x : CopyCheck) : State := if s.pil.rx.isNone then s.discard else s.closeFrame x

/-! ### Sleep and wake (R76, R77) -/

/-- FRAME_END. -/
def execFrameEnd (rx : LinkRx) (s : State) : Host.Outcome State Fault Refusal :=
  checked (.frameEnd rx) s fun s => s.packet 3 rx fun _ s => (s.frameEnd rx.check).sleepCheck

/-- A good `SLEEP` (R76). -/
def State.sleepMsg (s : State) (no : Word) : State :=
  let s := if s.sleepAcked then s else s.put F.PIL_STATUS_SLEEP 1
  (({ s with pil := { s.pil with sleepWant := some no } }).raise 75 0).sleepCheck

/-- SLEEP (R76). -/
def execSleep (rx : LinkRx) (s : State) : Host.Outcome State Fault Refusal :=
  checked (.sleep rx) s fun s => s.packet 7 rx fun p s => s.sleepMsg p.word

/-- A good `WAKE` (R77, Table 10.1). -/
def State.wakeMsg (s : State) : State :=
  let s := ({ s with pil := { s.pil with sleepWant := none } }).put F.PIL_STATUS_SLEEP 0
  (s.clearCause 0).raise 76 0

/-- WAKE (R77, Table 10.1). -/
def execWake (rx : LinkRx) (s : State) : Host.Outcome State Fault Refusal :=
  checked (.wake rx) s fun s => s.packet 8 rx fun _ s => s.wakeMsg

/-- SOURCE_FRAME_COMPLETE (R31, R181, R238, R240, R247): the fold write of the received frame has drained. -/
def State.frameComplete (s : State) : State :=
  match s.pil.draining with
  | none => s
  | some f =>
    if s.writesWait 1 then s else
    let s := { s with pil := { s.pil with draining := none } }
    if !f.stored then s.sleepCheck
    else
      let b := 1 - s.frontBuf
      let l : BufLayout := ⟨f.w, f.h, f.comps, f.fmt⟩
      let s := { s with srf := { s.srf with layouts := mput s.srf.layouts b l, frontNo := mput s.srf.frontNo b f.no
                                            exitReady := s.srf.exiting } }
      let same := s.pil.crcPrev == some s.pil.crcNow
      let s := if s.selfRefresh then s else s.setRun 0 { s.run 0 with same := same, changed := (s.run 0).changed || !same }
      let s := { s with pil := { s.pil with haveFront := true, lastComplete := some f.no, crcPrev := some s.pil.crcNow } }
      let s := (s.setFront b).noteLayout
      (if s.selfRefresh then s else s.supersede f.region).sleepCheck

/-- SOURCE_FRAME_COMPLETE. -/
def execSourceFrameComplete (s : State) : Host.Outcome State Fault Refusal := checked .sourceFrameComplete s State.frameComplete

/-! ### Regions, `META` and `AUX` (R74, R75, R78) -/

/-- A good region packet whose ID names no slot is discarded and counted: Table 2.4 gives slots 0 to 15, and R52 does not make the packet
fail; so is one that comes while `SRF` is not ON, where R448 lets no slot take it (DESIGN CHOICE, assumption log 121). -/
def State.inSlot (s : State) (p : LinkPacket) (eff : State → State) : State := if p.id < 16 && s.domOn 33 then eff s else s.discard

/-- REGION_BEGIN. -/
def execRegionBegin (rx : LinkRx) (b1 b2 b3 b4 b5 : Blank) (s : State) : Host.Outcome State Fault Refusal :=
  checked (.regionBegin rx b1 b2 b3 b4 b5) s fun s => s.packet 4 rx fun p s => s.inSlot p fun s =>
    let (x, y, w, h, tag) := p.rect
    s.regionBegin p.id x y w h tag

/-- REGION_LINE. -/
def execRegionLine (rx : LinkRx) (b1 b2 b3 b4 b5 b6 : Blank) (s : State) : Host.Outcome State Fault Refusal :=
  checked (.regionLine rx b1 b2 b3 b4 b5 b6) s fun s => s.packet 5 rx fun p s => s.inSlot p fun s =>
    s.regionLine p.id p.line p.firstX p.count p.fmt p.lineEnd p.payload

/-- REGION_COMMIT. -/
def execRegionCommit (rx : LinkRx) (b : Blank) (s : State) : Host.Outcome State Fault Refusal :=
  checked (.regionCommit rx b) s fun s => s.packet 6 rx fun p s => s.inSlot p fun s => s.regionCommit p.id p.word

/-- META (R78). -/
def execMeta (rx : LinkRx) (s : State) : Host.Outcome State Fault Refusal :=
  checked (.metaPacket rx) s fun s => s.packet 9 rx fun p s => { s with pil := { s.pil with metaNew := some p.payload } }

/-- `PIL_AUX_STATUS` shows the queue. -/
def State.auxNote (s : State) : State :=
  (s.put F.PIL_AUX_STATUS_ENTRIES s.pil.aux.length).put F.PIL_AUX_STATUS_LENGTH ((s.pil.aux.map List.length).headD 0)

/-- An `AUX` payload (R78). -/
def State.auxRx (s : State) (bs : List Byte) : State :=
  if 4 ≤ s.pil.aux.length then s.discard
  else (({ s with pil := { s.pil with aux := s.pil.aux ++ [bs] } }).auxNote).raise 78 0

/-- AUX. -/
def execAux (rx : LinkRx) (s : State) : Host.Outcome State Fault Refusal :=
  checked (.auxPacket rx) s fun s => s.packet 10 rx fun p s => s.auxRx p.payload

/-- A good read of `PIL_AUX_POP` (Table 2.16, R382): the word, and the state. -/
def State.popAux (s : State) (p : Port) : Nat × State :=
  if s.engineOwner 1 ≠ p.num then (0, s)
  else match s.pil.aux with
    | [] => (0, s)
    | bs :: q =>
      let o := s.pil.auxPos
      let w := beNat ((slice bs o 4 ++ [0#8, 0#8, 0#8, 0#8]).take 4)
      let s := if bs.length ≤ o + 4 then { s with pil := { s.pil with aux := q, auxPos := 0 } }
        else { s with pil := { s.pil with auxPos := o + 4 } }
      (w, s.auxNote)

/-- AUX_POP. -/
def execAuxPop (p : Port) (s : State) : Host.Outcome State Fault Refusal :=
  checked (.auxPop p) s fun s => s.answer p (s.popAux p)

end Sys2Proof.Machine
end

