-- ==== Sys2Proof/Machine/FrameStore.lean ====
section
/-! DEFINITION. The frame store's commands and the host's accesses to the fold window (chapter 11, R373, R467). -/

namespace Sys2Proof.Machine

/-- A fold whose accesses wait (R265, R273). -/
def State.foldWaits (s : State) (nn : Nat) : Bool :=
  s.flag (F.FST_FOLD_STATUS_OWNER_CHANGING nn) || s.flag (F.FST_FOLD_STATUS_INIT nn)

/-- Whether an owner word names a host port (Table 11.1). -/
def ownerIsHost (w : Nat) (p : Port) : Bool := w % 16 == 7 && w / 16 % 4 == p.num

/-- The port had the fold before the handover in progress: its accesses are foreign (R266). -/
def State.foldForeign (s : State) (p : Port) (nn : Nat) : Bool :=
  s.flag (F.FST_FOLD_STATUS_OWNER_CHANGING nn) && ownerIsHost (mget 0 s.fst.prevOwner nn) p
    && !ownerIsHost (s.reg (R.FST_FOLD_OWNER nn)) p

/-- What a host's write to a fold meets (R262, R266, R274): 0 permitted, 1 `ACCESS_ERR`, 2 `ACCESS_DENIED`. -/
def State.foldWriteCode (s : State) (p : Port) (nn : Nat) : Nat :=
  let w := s.reg (R.FST_FOLD_OWNER nn)
  if s.beforeRun then 2
  else if s.foldForeign p nn ∨ w % 16 ≠ 7 then 1
  else if !ownerIsHost w p then 2
  else 0

/-- An access of a port to a fold waits: the fold is being initialised, or a handover to the port runs (R265, R273, R467). -/
def State.hostWaits (s : State) (p : Port) (nn : Nat) : Bool :=
  s.flag (F.FST_FOLD_STATUS_INIT nn)
    || (s.flag (F.FST_FOLD_STATUS_OWNER_CHANGING nn) && ownerIsHost (s.reg (R.FST_FOLD_OWNER nn)) p)

/-- A piece of a host's write that lies in one fold: the state, and the code of its refusal. A foreign piece counts, and so does one
that was held and is no longer permitted (R266, R274, R467). -/
def State.foldPiece (s : State) (p : Port) (held : Bool) (nn addr : Nat) (bs : List Byte) : State × Nat :=
  let c := s.foldWriteCode p nn
  if c ≠ 0 then (s.countIf (held || s.foldForeign p nn) R.FST_CNT_FOREIGN, c)
  else if !s.foldOn nn then (s.count R.FST_CNT_OFF_ACCESS, 1)
  else (s.foldWrite addr bs, 0)

/-- Hold the bytes of a write until the wait ends (R467); `last` while its transaction is the port's last one. -/
def State.holdBytes (s : State) (p : Port) (last : Bool) (addr : Nat) (bs : List Byte) : State :=
  { s with hpt := mupd ({} : HptPort) s.hpt p.num fun h => { h with held := some ⟨addr, bs⟩, heldLast := last } }

/-- A host's write to the fold window (R371, R373, R467), fold by fold: the state, and the code and address of the byte that
ended it. Bytes from the first waiting fold on are held. `held` are bytes that waited before, `last` those of the port's last
transaction. -/
def State.foldStore (s : State) (p : Port) (held last : Bool) : Nat → Nat → List Byte → State × Nat × Nat
  | 0, addr, _ => (s, 0, addr)
  | fuel + 1, addr, bs =>
    if bs.isEmpty then (s, 0, addr)
    else if 0x80000000 ≤ addr then (s, 1, addr)
    else
      let nn := foldOf addr
      let k := foldBase (nn + 1) - addr
      if s.hostWaits p nn && !s.beforeRun then (s.holdBytes p last addr bs, 0, addr)
      else
        let (s, c) := s.foldPiece p held nn addr (bs.take k)
        if c ≠ 0 then (s, c, addr) else s.foldStore p held last fuel (addr + k) (bs.drop k)

/-- The held bytes of a port are applied when their fold's wait ends; they are checked now (R467). -/
def State.applyHeld (s : State) (p : Port) : State :=
  let h := mget ({} : HptPort) s.hpt p.num
  match h.held with
  | none => s
  | some w =>
    if s.hostWaits p (foldOf w.addr) then s
    else
      let s := { s with hpt := mset ({} : HptPort) s.hpt p.num { h with held := none, heldLast := false } }
      let (s, c, a) := s.foldStore p true h.heldLast 65 w.addr w.bytes
      if c = 0 then s
      else
        let s := s.raise 49 0
        if h.heldLast then s.portReject p 1 a else s

/-- A wait has ended: the writes of the engines and those of the ports are applied. -/
def State.applyAllHeld (s : State) : State := s.applyWaits.each [Port.hp0, .hp1, .hp2] fun s p => s.applyHeld p

/-- A collision of a service-port read with an owner-port write at an address (R268). -/
def State.collideAt (s : State) (b : Nat) : State :=
  ((s.setReg R.FST_COLLIDE_ADDR (b / 8 * 8)).count R.FST_CNT_COLLIDE).raise 243 0

/-! ### The core's accesses (R262, R266, Table 11.2) -/

/-- The core had the fold before the handover in progress. -/
def State.coreForeign (s : State) (nn : Nat) : Bool :=
  s.flag (F.FST_FOLD_STATUS_OWNER_CHANGING nn) && mget 0 s.fst.prevOwner nn % 16 == 8 && s.foldOwner nn != 8

/-- The core writes bytes to the fold window (R262): it may write only folds owned by MGT. What it writes elsewhere is discarded with
`ACCESS_ERR` (the event is a DESIGN CHOICE, assumption log 103). -/
def State.coreStore (s : State) (addr : Nat) (bs : List Byte) : State :=
  if addr < 0x40000000 ∨ 0x80000000 < addr + bs.length then s.refusal 1
  else if (foldsIn addr bs.length).any fun nn => s.foldOwner nn != 8 then
    (s.countIf ((foldsIn addr bs.length).any s.coreForeign) R.FST_CNT_FOREIGN).refusal 1
  else s.ownerWrite 8 addr bs

/-- The core reads n bytes of the fold window, and a word may collide with an owner's write: what it meets shows in `FST_FLAGS`
(R268, R270, R274, Table 11.2). It waits with a fold that is being initialised or handed to it (R265, R273). -/
def State.coreRead (s : State) (addr n : Nat) (collide : Option Nat) (ecc : EccMap) : State :=
  if addr < 0x40000000 ∨ 0x80000000 < addr + n ∨ s.rangeWaits 8 addr n then s
  else
    let r := s.readFolds (fun s nn => if s.coreForeign nn then R.FST_CNT_FOREIGN else s.dmaMiss nn) addr n ecc 0
    let s := if r.1 then r.2 else r.2.putB F.FST_FLAGS_UE true
    match collide with
    | none => s
    | some i => if i < n then (s.collideAt (addr + i)).putB F.FST_FLAGS_COLLIDE true else s

/-- The output range of the job in progress touches a fold (R296). -/
def State.jobOutputs (s : State) (nn : Nat) : Bool :=
  match s.cpr.job with
  | some (_, w) => (foldsIn (w.getD 4 0#32).toNat (w.getD 5 0#32).toNat).contains nn
  | none => false

/-- The input range of the job in progress touches a fold. -/
def State.jobInputs (s : State) (nn : Nat) : Bool :=
  match s.cpr.job with
  | some (_, w) => (foldsIn (w.getD 2 0#32).toNat (w.getD 3 0#32).toNat).contains nn
  | none => false

/-- A fold of the job in progress leaves ON or is handed over (R296): the job cannot end well any more. -/
def State.jobHit (s : State) (hit : Bool) : State := if hit then { s with cpr := { s.cpr with foreignHit := true } } else s

/-- A write of `FST_FOLDnn_OWNER` (R265 to R267). -/
def State.ownerWord (s : State) (nn v : Nat) : State :=
  let w := v % 64
  if 8 < w % 16 ∨ w / 16 = 3 then s.refuseWord
  else if w = s.reg (R.FST_FOLD_OWNER nn) then s
  else
    let s := if s.flag (F.FST_FOLD_STATUS_OWNER_CHANGING nn) then s
      else { s with fst := { s.fst with prevOwner := mput s.fst.prevOwner nn (s.reg (R.FST_FOLD_OWNER nn)) } }.grantWaits nn (s.foldOwner nn)
    ((s.jobHit (s.jobOutputs nn)).setReg (R.FST_FOLD_OWNER nn) w).putB (F.FST_FOLD_STATUS_OWNER_CHANGING nn) true

/-- FOLD_OWNER_WRITE. -/
def execFoldOwnerWrite (ag : Agent) (nn : Nat) (v : Word) (s : State) : Host.Outcome State Fault Refusal :=
  checked (.foldOwnerWrite ag nn v) s fun s => s.asWrite ag (R.FST_FOLD_OWNER nn) fun s => s.ownerWord nn v.toNat

/-- A handover completes (R265). -/
def State.handoverEnds (s : State) (nn : Nat) : State :=
  if !s.flag (F.FST_FOLD_STATUS_OWNER_CHANGING nn) then s
  else
    let s := { s with fst := { s.fst with prevOwner := merase s.fst.prevOwner nn } }
    ((s.putB (F.FST_FOLD_STATUS_OWNER_CHANGING nn) false).raise 244 0).applyAllHeld

/-- FST_HANDOVER. -/
def execFstHandover (nn : Nat) (s : State) : Host.Outcome State Fault Refusal :=
  checked (.fstHandover nn) s fun s => s.handoverEnds nn

/-- The first fold from nn on that is ON. -/
def State.nextOnFold (s : State) (nn : Nat) : Option Nat := (List.range 64).find? fun i => nn ≤ i && s.foldOn i

/-- The end of a grazing pass (R271). -/
def State.grazePass (s : State) : State :=
  (({ s with fst := { s.fst with graze := 0 } }).count R.FST_CNT_GRAZE_PASS).raise 246 0

/-- GRAZE_STEP (R271): the next ECC word of the folds that are ON; `fst.graze` counts bytes from fold 0. A fold that is being
initialised makes it wait (R273). -/
def State.graze (s : State) (ecc : Ecc) : State :=
  if !s.flag F.FST_CFG_GRAZE_EN || (s.nextOnFold (s.fst.graze / 2 ^ 24)).any (fun nn => s.flag (F.FST_FOLD_STATUS_INIT nn)) then s
  else
    let o := s.fst.graze
    match s.nextOnFold (o / 2 ^ 24) with
    | none => if o = 0 then s else s.grazePass
    | some nn =>
      let o := if nn = o / 2 ^ 24 then o else nn * 2 ^ 24
      let s := s.noteEcc (0x40000000 + o) ecc 0
      let o := o + 8
      if o % 2 ^ 24 = 0 && (s.nextOnFold (o / 2 ^ 24)).isNone then s.grazePass
      else { s with fst := { s.fst with graze := o } }

/-- GRAZE_STEP. -/
def execGrazeStep (ecc : Ecc) (s : State) : Host.Outcome State Fault Refusal := checked (.grazeStep ecc) s fun s => s.graze ecc

/-- TAMPERN (R276). -/
def execTampern (s : State) : Host.Outcome State Fault Refusal := checked .tampern s fun s => s.wipe 2

/-- LOCKED_FOLD_WIPE_COMPLETE (R276). -/
def execLockedFoldWipeComplete (s : State) : Host.Outcome State Fault Refusal :=
  checked .lockedFoldWipeComplete s fun s => s.putB F.FST_LOCKED_STATUS_WIPING false

end Sys2Proof.Machine
end

