-- ==== Sys2Proof/Machine/Compress.lean ====
section
/-! DEFINITION. The compression engine's rings and jobs (chapter 12). -/

namespace Sys2Proof.Machine

/-! ### Descriptors (Table 12.4) -/

/-- A job as its descriptor gives it. -/
structure CprJob where
  op : Nat
  linear : Bool
  grow : Bool
  bits : Nat
  comps : Nat
  tag : Word
  inAddr : Nat
  inLen : Nat
  outAddr : Nat
  outLimit : Nat
  w : Nat
  h : Nat
  size : Nat
  /-- A reserved bit is set or `BITS` is reserved. -/
  bad : Bool
  deriving DecidableEq, Repr

/-- The job of a descriptor's eight words; a linear job is an image 64 columns wide (R280). -/
def cprJob (d : List Word) : CprJob :=
  let word (i : Nat) : Nat := (d.getD i 0#32).toNat
  let w0 := word 0
  let linear := bitAt w0 27
  let size := word 7
  { op := w0 / 2 ^ 28, linear := linear, grow := bitAt w0 26, bits := [10, 12, 16].getD (bits w0 25 24) 0
    comps := bits w0 21 20 + 1, tag := BitVec.ofNat 32 (word 1), inAddr := word 2, inLen := word 3, outAddr := word 4
    outLimit := word 5, w := if linear then 64 else word 6 % 65536, h := if linear then divCeil size 128 else word 6 / 65536
    size := size, bad := bits w0 25 24 == 3 || bits w0 23 22 != 0 || bits w0 19 0 != 0 }

/-- Bytes of a job's uncompressed data. -/
def CprJob.raw (j : CprJob) : Nat := if j.linear then j.size else 2 * j.w * j.h * j.comps

/-- Whether a range lies in the fold window. R292 names only a range that reaches beyond its end; one that begins below it, where no fold
lies, is taken the same way (DESIGN CHOICE, assumption log 104). -/
def rangeFits (a n : Nat) : Bool := n == 0 || (0x40000000 ≤ a && a + n ≤ 0x80000000)

/-- BAD_DESC (R292). -/
def State.badDesc (s : State) (d : List Word) : Bool :=
  let j := cprJob d
  !(j.op == 1 || j.op == 2) || j.bad
    || (j.linear && (j.bits != 16 || j.comps != 1))
    || (!j.linear && (j.w == 0 || 16384 < j.w || j.h == 0 || 16384 < j.h))
    || (j.op == 1 && (j.inLen != j.raw || j.outLimit < 8))
    || !rangeFits j.inAddr j.inLen || !rangeFits j.outAddr j.outLimit
    || !((foldsIn j.outAddr j.outLimit).all fun nn => s.foldOn nn && s.foldOwner nn == 6)

/-! ### Rings (R290, R291, R295) -/

/-- Entries of a ring. -/
def State.ringEntries (s : State) (r : Nat) : Nat := s.get (F.CPR_RING_SIZE_SIZE r)

/-- The records of a ring. -/
def State.cprRecords (s : State) (r : Nat) : List CprRecord := mget ([] : List CprRecord) s.cpr.records r

/-- `HEAD` moves on. -/
def State.headOn (s : State) (r : Nat) : State :=
  s.setReg (R.CPR_RING_HEAD r) ((s.get (F.CPR_RING_HEAD_INDEX r) + 1) % (max 1 (s.ringEntries r)))

/-- A record is queued and the ring continues (Table 12.9). -/
def State.cprRecord (s : State) (r status : Nat) (tag : Word) (len : Nat) : State :=
  let s := { s with cpr := { s.cpr with records := mset [] s.cpr.records r (s.cprRecords r ++ [(⟨status, tag, len⟩ : CprRecord)]) } }
  ((s.headOn r).raise (248 + r) 0).raiseIf (status != 0) 253 0

/-- A job has ended: it counts. -/
def State.cprEnded (s : State) (ok : Bool) : State :=
  (({ s with cpr := { s.cpr with job := none, foreignHit := false } }).putB F.CPR_STATUS_BUSY false |>.count R.CPR_CNT_JOBS).countIf
    (!ok) R.CPR_CNT_FAILED

/-- A job ends with a record. -/
def State.cprDone (s : State) (r status : Nat) (tag : Word) (len : Nat) : State := (s.cprEnded (status == 0)).cprRecord r status tag len

/-- The bytes of an output range become undefined: free values (assumption log 4). -/
def State.undefRange (s : State) (addr n : Nat) : State :=
  let bs := (List.range n).map fun i => BitVec.ofNat 8 (Config.free (s.freeCtr + i)).toNat
  { (s.ownerWrite 6 addr bs) with freeCtr := s.freeCtr + n }

/-- OUT_FULL: the ring halts with `HEAD` at the descriptor (R295). -/
def State.cprHalt (s : State) (r : Nat) (j : CprJob) : State :=
  let s := (s.undefRange j.outAddr j.outLimit).cprEnded false
  ((s.put (F.CPR_RING_STATUS_FAIL r) 7).putB (F.CPR_RING_STATUS_HALTED r) true).raise 252 0

/-- A ring can start a job (R291). -/
def State.ringReady (s : State) (r : Nat) : Bool :=
  s.ringEntries r != 0 && s.get (F.CPR_RING_HEAD_INDEX r) != s.get (F.CPR_RING_TAIL_INDEX r)
    && !s.flag (F.CPR_RING_STATUS_HALTED r) && (s.cprRecords r).length < 32

/-- The ring that the round takes next, in the order 3, 0, 1, 2 after the ring served last (R291). -/
def State.nextRing (s : State) : Option Nat :=
  ((List.range 4).map fun i => (s.cpr.lastRing + 1 + i) % 4).find? s.ringReady

/-- The eight words of the descriptor at `HEAD`, most significant byte first. -/
def State.descriptor (s : State) (r : Nat) : List Word :=
  let a := s.reg (R.CPR_RING_BASE r) + 32 * s.get (F.CPR_RING_HEAD_INDEX r)
  (List.range 8).map fun i => BitVec.ofNat 32 (beNat (memBytes s.fst.mem (a + 4 * i) 4))

/-- Where the descriptor at a ring's `HEAD` lies. -/
def State.headAddr (s : State) (r : Nat) : Nat := s.reg (R.CPR_RING_BASE r) + 32 * s.get (F.CPR_RING_HEAD_INDEX r)

/-- A job of a ring starts with the descriptor's words that were read, if they could be: whether it is bad is settled now (R292), and a
COMPRESS job first writes eight zero bytes (R293). -/
def State.beginJob (s : State) (r : Nat) (ok : Bool) (d : List Word) : State :=
  let bad := s.badDesc d
  let s := { s with cpr := { s.cpr with lastRing := r, foreignHit := false, jobBad := bad, job := some (r, if ok then d else []) } }
  let s := (s.putB F.CPR_STATUS_BUSY true).put F.CPR_STATUS_RING r
  if ok && !bad && (cprJob d).op == 1 then s.ownerWrite 6 (cprJob d).outAddr (List.replicate 8 0) else s

/-- JOB_START (R291): the next ring's head job starts; a descriptor whose fold is being initialised makes it wait (R273). -/
def State.jobStart (s : State) (ecc : EccMap) : State :=
  if !s.engineOn 12 || !s.flag F.CPR_CFG_EN || s.cpr.job.isSome then s
  else match s.nextRing with
    | none => s
    | some r =>
      if s.dmaWaits (s.headAddr r) 32 then s
      else
        let q := s.dmaRead (s.headAddr r) 32 ecc 0
        q.2.beginJob r q.1 (s.descriptor r)

/-! ### Jobs (R287, R293, R294) -/

/-- A sample of an image job's input; one with bits set above its width has no stated value (assumption log 4). -/
def State.jobSample (s : State) (j : CprJob) (x y c : Nat) : Nat :=
  let i := (y * j.w + x) * j.comps + c
  let v := if j.linear then
      leNat ((List.range 2).reverse.map fun k => if 2 * i + k < j.size then memByte s.fst.mem (j.inAddr + 2 * i + k) else 0)
    else beNat (memBytes s.fst.mem (j.inAddr + 2 * i) 2)
  if v < 2 ^ j.bits then v else (Config.free (s.freeCtr + i)).toNat % 2 ^ j.bits

/-- Block k of a job's image. -/
def State.jobBlock (s : State) (j : CprJob) (k : Nat) : List (List Nat) :=
  let cols := divCeil j.w 64
  blockOf j.w j.h j.comps (s.jobSample j) (k % cols) (k / cols)

/-- How many segments a job's stream has. -/
def CprJob.segments (j : CprJob) : Nat := divCeil j.w 64 * divCeil j.h 4

/-- Segment k of a COMPRESS job, and whether it is RAW. -/
def State.jobSegment (s : State) (j : CprJob) (k : Nat) : List Byte × Bool :=
  if j.grow then (segCoded j.bits (s.jobBlock j k), false) else segEncode j.bits (s.jobBlock j k)

/-- The segments of a COMPRESS job from k on, written from an offset: its status and the offset reached (R287, R288, R295).
`src` is the state whose memory holds the input. -/
def State.compressFrom (s src : State) (j : CprJob) (verifyFails : List Nat) : Nat → Nat → Nat → Nat × Nat × State
  | 0, _, o => (0, o, s)
  | n + 1, k, o =>
    let (bs, raw) := src.jobSegment j k
    if !raw && verifyFails.contains k then (2, o, (s.count R.CPR_CNT_VERIFY).raise 254 1)
    else if j.outLimit < o + bs.length then (7, o, s)
    else ((s.ownerWrite 6 (j.outAddr + o) bs).countIf raw R.CPR_CNT_RAW_SEG).compressFrom src j verifyFails n (k + 1) (o + bs.length)

/-- The marker of a finished COMPRESS job (R293). -/
def cprMarker (len : Nat) : List Byte := [0x53, 0x4B, 0x43, 0x31] ++ beBytes 4 len

/-- A COMPRESS job to its end: status, output bytes and state. -/
def State.compress (s : State) (j : CprJob) (verifyFails : List Nat) : Nat × Nat × State :=
  let (st, o, s') := s.compressFrom s j verifyFails j.segments 0 8
  let s' := { s' with freeCtr := s'.freeCtr + j.w * j.h * j.comps }
  if st ≠ 0 then (st, o, s')
  else if !j.grow && j.segments * (2 + 32 * j.bits * j.comps) ≤ o - 8 then (1, o, s')
  else (0, o, s'.ownerWrite 6 j.outAddr (cprMarker (o - 8)))

/-- The output bytes of a decoded block: offset and bytes of every pixel row of it, cut at the image and at L bytes (R294). -/
def CprJob.rows (j : CprJob) (k : Nat) (b : List (List Nat)) : List (Nat × List Byte) :=
  let cols := divCeil j.w 64
  (List.range 4).filterMap fun dy =>
    let y := 4 * (k / cols) + dy
    let x0 := 64 * (k % cols)
    if j.h ≤ y then none
    else
      let o := (y * j.w + x0) * 2 * j.comps
      let bs := (List.range (min 64 (j.w - x0))).flatMap fun i =>
        (List.range j.comps).flatMap fun c => beBytes 2 ((b.getD c []).getD (64 * dy + i) 0)
      let bs := if j.linear then bs.take (j.size - o) else bs
      if bs.isEmpty then none else some (o, bs)

/-- The segments of a DECOMPRESS job from k on, read from an offset: its status and state (R286, R294, R295). -/
def State.decompressFrom (s src : State) (j : CprJob) : Nat → Nat → Nat → Nat × State
  | 0, _, _ => (0, s)
  | n + 1, k, o =>
    match segAt src.fst.mem j.comps j.bits (j.inAddr + o) (j.inAddr + j.inLen) with
    | .error .overrun => (3, s)
    | .error .bad => (4, s)
    | .ok (b, len) =>
      let rows := j.rows k b
      if rows.any (fun r => j.outLimit < r.1 + r.2.length) then (7, s)
      else (s.each rows fun s r => s.ownerWrite 6 (j.outAddr + r.1) r.2).decompressFrom src j n (k + 1) (o + len)

/-- A job ends with MEM_ERR (R296). What it had written of its output by then is open, but for the zero bytes of a COMPRESS job in the
marker's place (R293; free values, assumption log 104). -/
def State.memErr (s : State) (r : Nat) (j : CprJob) : State :=
  let head := if j.op = 1 then 8 else 0
  (s.undefRange (j.outAddr + head) ((if j.op = 1 then j.outLimit else min j.outLimit j.raw) - head)).cprDone r 5 j.tag 0

/-- A job with a good descriptor runs to its end (R291, R294 to R296). Its record or its halt follows from the input's words, from
whether its output folds are still its own and ON, and from the data. -/
def State.runJob (s : State) (r : Nat) (j : CprJob) (ecc : EccMap) (verifyFails : List Nat) : State :=
  let miss := ((foldsIn j.outAddr j.outLimit).map (s.ownerMiss 6)).find? (· != 0)
  let q := s.dmaRead j.inAddr j.inLen ecc 0
  if !q.1 || s.cpr.foreignHit || miss.isSome then (q.2.missCount (miss.getD 0)).memErr r j
  else
    let (st, o, s) := if j.op = 1 then q.2.compress j verifyFails
      else let (st, s') := q.2.decompressFrom q.2 j j.segments 0 0; (st, j.raw, s')
    if st = 7 then s.cprHalt r j else s.cprDone r st j.tag (if st = 0 then o else 0)

/-- An access of a job waits for a fold's initialisation (R273). -/
def State.jobWaits (s : State) (j : CprJob) : Bool :=
  s.dmaWaits j.inAddr j.inLen || s.rangeWaits 6 j.outAddr j.outLimit || s.writesWait 6

/-- JOB_COMPLETE (R291 to R296). `verifyFails` names the segments whose decoding differs from their samples (R288); `ecc` holds the
checks of the input's words. -/
def State.jobComplete (s : State) (ecc : EccMap) (verifyFails : List Nat) : State :=
  match s.cpr.job with
  | none => s
  | some (r, d) =>
    if d.isEmpty then s.cprDone r 5 0#32 0
    else if s.cpr.jobBad then s.cprDone r 6 (cprJob d).tag 0
    else if s.jobWaits (cprJob d) then s
    else s.runJob r (cprJob d) ecc verifyFails

/-- JOB_START. -/
def execJobStart (ecc : EccMap) (s : State) : Host.Outcome State Fault Refusal := checked (.jobStart ecc) s fun s => s.jobStart ecc

/-- JOB_COMPLETE. -/
def execJobComplete (ecc : EccMap) (vf : List Nat) (s : State) : Host.Outcome State Fault Refusal :=
  checked (.jobComplete ecc vf) s fun s => s.jobComplete ecc vf

/-! ### Ring registers (R290, R295, R298) -/

/-- A write of `CPR_RINGr_TAIL`: an index that the ring does not have is reserved (Table 12.8). -/
def State.ringTail (s : State) (r v : Nat) : State :=
  if s.ringEntries r ≤ v % 256 then s.refuseWord else s.setReg (R.CPR_RING_TAIL r) (v % 256)

/-- TAIL_WRITE. -/
def execTailWrite (ag : Agent) (r : Nat) (v : Word) (s : State) : Host.Outcome State Fault Refusal :=
  checked (.tailWrite ag r v) s fun s => s.asWrite ag (R.CPR_RING_TAIL r) fun s => s.ringTail r v.toNat

/-- A write of `BASE` or `SIZE`: ignored while the ring has work (R290). -/
def State.ringSetup (s : State) (r a v : Nat) : State :=
  if s.get (F.CPR_RING_HEAD_INDEX r) ≠ s.get (F.CPR_RING_TAIL_INDEX r) then s.refuseWord
  else if a = R.CPR_RING_SIZE r then
    (if v % 512 = 1 ∨ 256 < v % 512 then s.refuseWord else s.setReg a (v % 512))
  else s.setReg a (v / 32 * 32)

/-- `CTRL.RESUME` (R295): the descriptor at `HEAD` runs again. -/
def State.ringResume (s : State) (r : Nat) : State :=
  if s.flag (F.CPR_RING_STATUS_HALTED r) then s.putB (F.CPR_RING_STATUS_HALTED r) false else s

/-- `CTRL.SKIP` (R295): a record SKIPPED with the descriptor's tag, and the ring moves on. -/
def State.ringSkip (s : State) (r : Nat) : State :=
  if s.flag (F.CPR_RING_STATUS_HALTED r) then
    (s.putB (F.CPR_RING_STATUS_HALTED r) false).cprRecord r 8 ((s.descriptor r).getD 1 0#32) 0
  else s

/-- A write of `CPR_RINGr_CTRL`. -/
def State.ringCtrl (s : State) (r v : Nat) : State :=
  let s := if bitAt v 0 then s.ringResume r else s
  if bitAt v 1 then s.ringSkip r else s

/-- RESUME. -/
def execResume (ag : Agent) (r : Nat) (s : State) : Host.Outcome State Fault Refusal :=
  checked (.resume ag r) s fun s => s.asWrite ag (R.CPR_RING_CTRL r) fun s => s.ringCtrl r 1

/-- SKIP. -/
def execSkip (ag : Agent) (r : Nat) (s : State) : Host.Outcome State Fault Refusal :=
  checked (.skip ag r) s fun s => s.asWrite ag (R.CPR_RING_CTRL r) fun s => s.ringCtrl r 2

/-- A good read of `CPR_RINGr_DONE_LO` by an agent (R298, R382). -/
def State.popJob (s : State) (ag : Agent) (r : Nat) : Nat × State :=
  let mine := match ag with
    | .host p => p.num == r
    | .core => r == 3
    | .loader => false
  if !mine then (0, s)
  else match s.cprRecords r with
    | [] => (0, s)
    | c :: q =>
      let s := { s with cpr := { s.cpr with records := mset [] s.cpr.records r q } }
      (2 ^ 31 + q.length * 2 ^ 25 + c.status, (s.setReg (R.CPR_RING_DONE_HI r) c.tag.toNat).setReg (R.CPR_RING_DONE_LEN r) c.len)

/-- A read of `CPR_RINGr_DONE_LO` by an agent (R382, R289). -/
def State.donePop (s : State) (ag : Agent) (r : Nat) : State :=
  match ag with
  | .host p => s.answer p (s.popJob ag r)
  | _ => (s.popJob ag r).2

/-- CPR_DONE_POP. -/
def execCprDonePop (ag : Agent) (r : Nat) (s : State) : Host.Outcome State Fault Refusal := checked (.cprDonePop ag r) s fun s => s.donePop ag r

/-- A hold sequence ends a job on ring 3 and empties the ring (R297). -/
def State.cprHold (s : State) : State :=
  let s := match s.cpr.job with
    | some (r, d) =>
      if r ≠ 3 then s
      else (if d.isEmpty || s.cpr.jobBad then s else s.undefRange (cprJob d).outAddr (cprJob d).outLimit).cprEnded false
    | none => s
  let s := { s with cpr := { s.cpr with records := merase s.cpr.records 3 } }
  ((s.setReg (R.CPR_RING_HEAD 3) 0).setReg (R.CPR_RING_TAIL 3) 0)

end Sys2Proof.Machine
end

