-- ==== Sys2Proof/Machine/LogOps.lean ====
section
/-! DEFINITION. The lifetime log (R411 to R413, Table 19.4): its record, its slots in the NVM, and what the core gathers. -/

namespace Sys2Proof.Machine

/-- NVM offset of a log slot (Table 20.1). -/
def logSlotAddr (slot : Nat) : Nat := 0x2000000 + 4096 * (slot % 64)

/-- A field of the core's working record. -/
def State.logField (s : State) (off : Nat) : Nat := mget 0 s.tal.log.fields off

/-- The state with a field of the working record set. -/
def State.setLogField (s : State) (off v : Nat) : State :=
  { s with tal := { s.tal with log := { s.tal.log with fields := mset 0 s.tal.log.fields off (min 0xFFFFFFFF v) } } }

/-- The record of the working totals (Table 19.4), with its cause: 0 periodic, 1 LOG_WRITE, 2 supply loss. -/
def State.logRecord (s : State) (seq cause : Nat) : List Byte :=
  let t := s.house
  let head : List Byte := [0x53, 0x4B, 0x53, 0x4C] ++ beBytes 2 1 ++ beBytes 2 0 ++ beBytes 4 seq ++ beBytes 4 t.ns
    ++ beBytes 4 (t.sec % 2 ^ 32) ++ beBytes 2 (t.sec / 2 ^ 32) ++ beBytes 2 0 ++ beBytes 4 cause
  let body := (List.range 307).flatMap fun i => beBytes 4 (s.logField (28 + 4 * i))
  let all := head ++ body ++ List.replicate (4092 - 1256) 0
  all ++ beBytes 4 (crc32c all)

/-- Whether the bytes of a slot are a valid record (R412). -/
def logValid (bs : List Byte) : Bool :=
  bs.take 6 == [0x53, 0x4B, 0x53, 0x4C, 0x00, 0x01] && beNat (slice bs 4092 4) == crc32c (bs.take 4092)

/-- Program bytes into the NVM in place of what it held; bytes of 0xFF are erased. -/
def State.nvStore (s : State) (addr : Nat) (bs : List Byte) : State :=
  { s with nvm := nvWrite (s.nvm.filter fun e => e.1 < addr || addr + bs.length ≤ e.1) addr bs }

/-- What a programming that fails or is cut off leaves in the NVM: bytes that nothing fixes (assumption log 4). -/
def State.nvTorn (s : State) (addr n : Nat) : State :=
  { s.nvStore addr ((List.range n).map fun i => BitVec.ofNat 8 (Config.free (s.freeCtr + i)).toNat) with freeCtr := s.freeCtr + n }

/-- The 4 KiB blocks of a range of the NVM. -/
def nvBlocks (addr n : Nat) : List Nat := (List.range (n / 4096)).map (addr / 4096 + ·)

/-- Erase bytes of the NVM. -/
def State.nvErase (s : State) (addr n : Nat) : State := { s with nvm := s.nvm.filter fun e => e.1 < addr || addr + n ≤ e.1 }

/-- The core writes a record into the next slot (R411): the slot is erased and is being programmed. The record counts its own program
operation (Table 19.4). -/
def State.logStart (s : State) (cause : Nat) : State :=
  let slot := (s.tal.log.newestSlot + 1) % 64
  let s := s.logAdd 1252 1
  let bs := s.logRecord (min 0xFFFFFFFF (s.reg R.TAL_LOG_SEQ + 1)) cause
  { s.nvErase (logSlotAddr slot) 4096 with tal := { s.tal with log := { s.tal.log with newestSlot := slot, writing := some (slot, bs) } } }

/-- A write at supply loss (R411, R437, R445): at once, or after the record that is being programmed. -/
def State.logSupply (s : State) : State :=
  if !s.flag F.TAL_LOG_CFG_SUPPLY_WRITE || !s.coreRuns then s
  else if s.tal.log.writing.isSome then { s with tal := { s.tal with log := { s.tal.log with supplyDue := true } } }
  else s.logStart 2

/-- The end of a record's programming and read-back (R411); an absent device does not read back. What a failed programming leaves in
the slot is free. -/
def State.logEnds (s : State) (ok : Bool) : State :=
  match s.tal.log.writing with
  | none => s
  | some (slot, bs) =>
    let s := { s with tal := { s.tal with log := { s.tal.log with writing := none } } }
    if ok && s.nvmDevice != .absent then
      let s := s.nvStore (logSlotAddr slot) bs
      let s := { s with tal := { s.tal with log := { s.tal.log with writtenAt := some s.now } } }
      let s := (s.setReg R.TAL_LOG_SEQ (min 0xFFFFFFFF (s.reg R.TAL_LOG_SEQ + 1))).put F.TAL_LOG_STATUS_SLOT slot
      (s.count R.TAL_CNT_LOG_WRITE).raise 434 0
    else ((s.nvTorn (logSlotAddr slot) 4096).count R.TAL_CNT_LOG_FAIL).raise 435 2

/-- A record whose programming is cut off leaves bytes that nothing fixes, but no valid record (R412): where they would be one, the
slot stays erased. -/
def State.logCut (s : State) : State :=
  match s.tal.log.writing with
  | none => s
  | some w =>
    let t := s.nvTorn (logSlotAddr w.1) 4096
    let s := if logValid (t.nvBytes (logSlotAddr w.1) 4096) then { s with freeCtr := t.freeCtr } else t
    { s with tal := { s.tal with log := { s.tal.log with writing := none, supplyDue := false } } }

/-- The records that wait: one at supply loss first, then deferred C4 work when the level is 0, oldest first (R351, R411). -/
def State.logDeferred (s : State) : State :=
  if s.tal.log.writing.isSome || !s.coreRuns then s
  else if s.tal.log.supplyDue then ({ s with tal := { s.tal with log := { s.tal.log with supplyDue := false } } }).logStart 2
  else if s.get F.MGT_STATUS_DEFER = 0 ∧ s.mgt.deferredC4 ≠ 0 then
    ({ s with mgt := { s.mgt with deferredC4 := s.mgt.deferredC4 - 1 } }).logStart 0
  else s

/-- The core starts and takes the newest valid record (R412). A record that the core was programming when it stopped is cut off. -/
def State.logScan (s : State) : State :=
  let s := s.logCut
  let at' := s.tal.log.writtenAt
  let slots := (List.range 64).map fun i => (i, s.nvBytes (logSlotAddr i) 4096)
  let good := slots.filter fun x => logValid x.2
  let s := s.raiseIf (good.length != 64) 436 1
  let best := good.foldl (fun (m : Option (Nat × List Byte)) x => match m with
    | some b => if beNat (slice b.2 8 4) < beNat (slice x.2 8 4) then some x else some b
    | none => some x) none
  let s := (s.putB F.TAL_LOG_STATUS_VALID true)
  match best with
  | none =>
    let s := { s with tal := { s.tal with log := { writtenAt := at' } } }
    ((s.setReg R.TAL_LOG_SEQ 0).put F.TAL_LOG_STATUS_SLOT 0).raise 437 0
  | some (slot, bs) =>
    let fields := (List.range 307).foldl (fun m i => mset 0 m (28 + 4 * i) (beNat (slice bs (28 + 4 * i) 4))) ([] : SMap Nat)
    let s := { s with tal := { s.tal with log := { fields := fields, newestSlot := slot, writtenAt := at' } } }
    (s.setReg R.TAL_LOG_SEQ (beNat (slice bs 8 4))).put F.TAL_LOG_STATUS_SLOT slot

/-- The drive seconds enter the working record (R413). -/
def State.logDrive (s : State) : State := s.each (List.range 128) fun s y => s.setLogField (740 + 4 * y) (s.driveSeconds y)

/-- The drive seconds return from the working record to the counters of `BLE` (R413): where it is ON, waits for them, and the core
runs. -/
def State.driveBack (s : State) : State :=
  if !s.coreRuns || !s.domOn 32 || s.flag F.TAL_LOG_STATUS_DRIVE_LOADED then s
  else
    let d := (List.range 128).foldl (fun (m : SMap Rat) y => mset 0 m y (s.logField (740 + 4 * y) : Rat)) []
    ((s.driveSet d).tallyDrives).putB F.TAL_LOG_STATUS_DRIVE_LOADED true

/-- The bin of a temperature in °C (Table 19.4): 32 bins of 5 °C from −20 °C. -/
def tempBin (t : Int) : Nat := min 31 (Int.fdiv (t + 20) 5).toNat

/-- The largest of some readings. -/
def hottest (l : List Int) : Option Int := l.foldl (fun (m : Option Int) t => match m with | some v => some (max v t) | none => some t) none

/-- The junction temperature (R456): the hottest of the on-die sensors 0 to 22, in 1/16 °C. -/
def State.junction (s : State) : Option Int := hottest ((s.cal.sensors.filter fun x => x.1 ≤ 22).map (·.2))

/-- The group of a power domain in the log's domain-minutes (Table 19.4). -/
def logGroup (dd : Nat) : Nat :=
  if dd = 0 then 0 else if dd = 1 then 1 else if dd ≤ 5 then 2 else if dd ≤ 13 then 3 else if dd ≤ 30 then 4
  else if dd = 31 then 5 else if dd = 32 then 6 else if dd = 33 then 7 else if dd = 34 then 8 else if dd = 35 then 9 else 10

/-- The minute's figures of Table 19.4: the temperature histograms and the domain-minutes. -/
def State.logMinute (s : State) : State :=
  let s := match s.junction with
    | some t => s.logAdd (28 + 4 * tempBin (Int.fdiv t 16)) 1
    | none => s
  let panel := ((List.range 16).filter s.thValid).map fun k => signed 16 (s.get (F.ODR_TH_READ_TEMP k))
  let s := match hottest panel with
    | some t => s.logAdd (156 + 4 * tempBin (Int.fdiv t 16)) 1
    | none => s
  s.each (List.range 100) fun s dd =>
    let st := if dd = 0 then 2 else s.get (F.PWR_DOM_STATE dd)
    s.logAdd (284 + 4 * (3 * logGroup dd + (2 - min 2 st))) 1

/-- DRIVE_SECONDS_COPY (R413): every 60 s, not headless. -/
def State.driveCopy (s : State) : State := if !s.coreRuns then s else (if s.domOn 32 then s.logDrive else s).logMinute

/-- LOG_PERIODIC (R411, R351): a periodic record, deferred under load. -/
def State.logPeriodic (s : State) : State :=
  if !s.coreRuns then s
  else if 1 ≤ s.get F.MGT_STATUS_DEFER then
    ({ s with mgt := { s.mgt with deferredC4 := s.mgt.deferredC4 + 1 } }).count R.MGT_CNT_DEFER_C4
  else if s.tal.log.writing.isSome then { s with mgt := { s.mgt with deferredC4 := s.mgt.deferredC4 + 1 } }
  else s.logStart 0

/-- DRIVE_SECONDS_COPY. -/
def execDriveSecondsCopy (s : State) : Host.Outcome State Fault Refusal := checked .driveSecondsCopy s State.driveCopy

/-- LOG_PERIODIC. -/
def execLogPeriodic (s : State) : Host.Outcome State Fault Refusal := checked .logPeriodic s State.logPeriodic

/-- TAL_LOG_WRITTEN (R411). -/
def execTalLogWritten (ok : Bool) (s : State) : Host.Outcome State Fault Refusal :=
  checked (.talLogWritten ok) s fun s => (s.logEnds ok).logDeferred

end Sys2Proof.Machine
end

