-- ==== Sys2Proof/Machine/SeqOps.lean ====
section
/-! DEFINITION. The queues of the sequence engine (R383, R388 to R390): submission, cancellation, holds, reports and what
preempts. The steps themselves stand in Sequencer.lean. -/

namespace Sys2Proof.Machine

/-- The sequences of port n that are submitted, the first one running. -/
def State.seqRuns (s : State) (n : Nat) : List SeqRun := mget ([] : List SeqRun) s.seq.runs n

/-- The state with the sequences of port n changed. -/
def State.setRuns (s : State) (n : Nat) (l : List SeqRun) : State := { s with seq := { s.seq with runs := mset [] s.seq.runs n l } }

/-- The engines that a slot holds (R389). -/
def State.setHold (s : State) (slot mask : Nat) : State :=
  ({ s with seq := { s.seq with holds := mset 0 s.seq.holds slot mask } }).putB (F.SEQ_SLOT_STATUS_HOLDING slot) (mask != 0)

/-- The state of a slot: 0 IDLE, 1 QUEUED, 2 RUNNING, 3 DONE, 4 FAILED, 5 PREEMPTED, 6 CANCELLED. -/
def State.slotState (s : State) (slot : Nat) : Nat := s.get (F.SEQ_SLOT_STATUS_STATE slot)

/-- A step's index as `NEXT` shows it, 16 bits: it does not wrap (R8). -/
def seqNext (n : Nat) : Nat := min 0xFFFF n

/-- The state of a slot that ends with a status of Table 17.6. -/
def seqEndState (status : Nat) : Nat := if status = 0 then 3 else if status = 5 then 5 else if status = 6 then 6 else 4

/-- A sequence reports (R387, R389, R390): its record, its slot, its hold. -/
def State.seqReport (s : State) (n : Nat) (r : SeqRun) (status next : Nat) : State :=
  let s := ((s.put (F.SEQ_SLOT_STATUS_STATE r.slot) (seqEndState status)).put (F.SEQ_SLOT_STATUS_RESULT r.slot) status).put
    (F.SEQ_SLOT_STATUS_NEXT r.slot) (seqNext next)
  let s := s.setHold r.slot (if status = 0 ∨ status = 6 then 0 else r.hold)
  ({ s with seq := { s.seq with
      done := mset [] s.seq.done n (mget [] s.seq.done n ++ [(⟨r.slot, status, seqNext next, r.tag⟩ : SeqDone)]) } }).raise (51 + n) 0

/-- The next sequence of a port comes to its turn (R390): a cancelled one reports, any other one runs. -/
def State.seqTurn (s : State) (n : Nat) : List SeqRun → State
  | [] => s.setRuns n []
  | r :: rs =>
    if r.cancelled then (s.seqReport n r 6 r.step).seqTurn n rs
    else ((s.setRuns n (r :: rs)).put (F.SEQ_SLOT_STATUS_STATE r.slot) 2).setHold r.slot r.hold

/-- The running sequence of a port ends. -/
def State.seqFinish (s : State) (n status next : Nat) : State :=
  match s.seqRuns n with
  | [] => s
  | r :: rs => (s.seqReport n r status next).seqTurn n rs

/-- A write of `SEQ_SLOTs_CTRL.START` (R383). -/
def State.seqStart (s : State) (p : Port) (slot start : Nat) : State :=
  let hold := s.reg (R.SEQ_SLOT_HOLD slot) % 2 ^ 24
  if s.slotState slot = 1 ∨ s.slotState slot = 2 ∨ s.reg (R.SEQ_SLOT_BASE slot) % 16 ≠ 0 then s.refuseWord
  else if (List.range 24).any (fun e => bitAt hold e && s.engineOwner e != p.num) then s.refusal 2
  else
    let r : SeqRun := { slot := slot, base := s.reg (R.SEQ_SLOT_BASE slot), tag := BitVec.ofNat 32 (s.reg (R.SEQ_SLOT_TAG slot)), hold := hold, step := start }
    let s := ((s.put (F.SEQ_SLOT_STATUS_STATE slot) 1).put (F.SEQ_SLOT_STATUS_RESULT slot) 0).put (F.SEQ_SLOT_STATUS_NEXT slot) start
    let l := s.seqRuns p.num
    if l.isEmpty then s.seqTurn p.num [r] else s.setRuns p.num (l ++ [r])

/-- A write of `CANCEL` (R390): a sequence that waits is marked; one at a step boundary ends. -/
def State.seqCancel (s : State) (slot : Nat) : State :=
  s.each [0, 1, 2] fun s n =>
    let l := (s.seqRuns n).map fun r => if r.slot = slot then { r with cancelled := true } else r
    match l with
    | r :: rs => if r.slot = slot ∧ !r.waiting then (s.seqReport n r 6 r.step).seqTurn n rs else s.setRuns n l
    | [] => s

/-- A write of `RELEASE` (R389): the slot's hold ends, and the sequence that runs from it takes up none again. One that is queued has
none yet and holds once it runs. -/
def State.seqRelease (s : State) (slot : Nat) : State :=
  (s.setHold slot 0).each [0, 1, 2] fun s n =>
    match s.seqRuns n with
    | r :: rs => if r.slot = slot then s.setRuns n ({ r with hold := 0 } :: rs) else s
    | [] => s

/-- The port whose sequence a slot runs for its agent: its own, or the slot's owner (Table 17.4). -/
def State.seqPort (s : State) (ag : Agent) (slot : Nat) : Option Port :=
  match ag with
  | .host p => some p
  | _ => Port.ofNum (s.scopeOf (R.SEQ_SLOT_CTRL slot))

/-- A write of `SEQ_SLOTs_CTRL` (Table 17.13). While the engine's domain is not ON nothing runs it (R448). -/
def State.seqCtrl (s : State) (ag : Agent) (slot v : Nat) : State :=
  if !s.domOn 35 then s
  else
    let s := if bitAt v 30 then s.seqCancel slot else s
    let s := if bitAt v 29 then s.seqRelease slot else s
    if bitAt v 31 then
      (match s.seqPort ag slot with
       | some p => s.seqStart p slot (v % 65536)
       | none => s)
    else s

/-- Preemption by an F4 fault or a hold sequence (R388). -/
def State.preempt (s : State) : State :=
  let busy := [0, 1, 2].any fun n => !(s.seqRuns n).isEmpty
  let s := s.each [0, 1, 2] fun s n =>
    let l := s.seqRuns n
    (s.each l fun s r => s.seqReport n r 5 r.step).setRuns n []
  s.raiseIf busy 54 0

/-- The change of an engine's owner ends every hold on it (R381). -/
def State.endHolds (s : State) (e : Nat) : State :=
  s.each (List.range 8) fun s i =>
    let m := mget 0 s.seq.holds i
    if bitAt m e then
      let s := s.setHold i (setBit m e false)
      s.each [0, 1, 2] fun s n => s.setRuns n ((s.seqRuns n).map fun r => if r.slot = i then { r with hold := setBit r.hold e false } else r)
    else s

/-- A pop of port n's records by port p (R382, R390): the word read and the state after it. -/
def State.popSeq (s : State) (p : Port) (n : Nat) : Nat × State :=
  if p.num ≠ n then (0, s)
  else match mget ([] : List SeqDone) s.seq.done n with
    | [] => (0, s)
    | r :: q =>
      (2 ^ 31 + min 7 q.length * 2 ^ 27 + r.slot * 2 ^ 24 + r.status * 2 ^ 20 + r.next,
        ({ s with seq := { s.seq with done := mset [] s.seq.done n q } }).setReg (R.SEQ_H_DONE_HI n) r.tag.toNat)

/-- SEQ_START. -/
def execSeqStart (ag : Agent) (slot st : Nat) (s : State) : Host.Outcome State Fault Refusal :=
  checked (.seqStart ag slot st) s fun s => s.asWrite ag (R.SEQ_SLOT_CTRL slot) fun s => s.seqCtrl ag slot (2 ^ 31 + st)

/-- SEQ_CANCEL. -/
def execSeqCancel (ag : Agent) (slot : Nat) (s : State) : Host.Outcome State Fault Refusal :=
  checked (.seqCancel ag slot) s fun s => s.asWrite ag (R.SEQ_SLOT_CTRL slot) fun s => s.seqCtrl ag slot (2 ^ 30)

/-- SEQ_RELEASE. -/
def execSeqRelease (ag : Agent) (slot : Nat) (s : State) : Host.Outcome State Fault Refusal :=
  checked (.seqRelease ag slot) s fun s => s.asWrite ag (R.SEQ_SLOT_CTRL slot) fun s => s.seqCtrl ag slot (2 ^ 29)

/-- SEQ_HOLD_LONG (R389): a hold has lasted 1 s. -/
def execSeqHoldLong (slot : Nat) (s : State) : Host.Outcome State Fault Refusal :=
  checked (.seqHoldLong slot) s fun s => s.raiseIf (mget 0 s.seq.holds slot != 0) 55 0

/-- SEQ_DONE_POP. -/
def execSeqDonePop (p : Port) (n : Nat) (s : State) : Host.Outcome State Fault Refusal :=
  checked (.seqDonePop p n) s fun s => s.answer p (s.popSeq p n)

end Sys2Proof.Machine
end

