-- ==== Sys2Proof/Machine/Management.lean ====
section
/-! DEFINITION. The management core, its mailboxes, the sheepdog, adaptive voltage control and recoveries (chapter 16). -/

namespace Sys2Proof.Machine

/-- `MGT_STATUS.STATE`: 0 BOOT, 1 RUNNING, 2 HOLD, 3 REBOOT1, 4 REBOOT2, 5 HEADLESS. -/
def State.mgtState (s : State) : Nat := s.get F.MGT_STATUS_STATE

/-- The state with the management core changed. -/
def State.setMgt (s : State) (m : MgtState) : State := { s with mgt := m }

/-! ### Load (R350, R351) -/

/-- A deferral level, with its event. -/
def State.setDefer (s : State) (v : Nat) : State :=
  ((s.put F.MGT_STATUS_DEFER v).setMgt { s.mgt with highUpdates := 0, lowUpdates := 0 }).raise 35 0

/-- LOAD_UPDATE (R350). -/
def State.loadUpdate (s : State) (load : Nat) : State :=
  if !s.domOn 1 || s.mgtState == 2 || s.mgtState == 5 then s
  else
    let ls := (load :: s.mgt.loads).take 1000
    let s := s.setReg R.MGT_LOAD (ls.foldl max 0 * 256 + load)
    let hi := if 90 < load then s.mgt.highUpdates + 1 else 0
    let lo := if load ≤ 80 then s.mgt.lowUpdates + 1 else 0
    let s := s.setMgt { s.mgt with loads := ls, highUpdates := min 16 hi, lowUpdates := min 16 lo }
    let d := s.get F.MGT_STATUS_DEFER
    let s := if 16 ≤ hi ∧ d < 3 then s.setDefer (d + 1) else if 16 ≤ lo ∧ 0 < d then s.setDefer (d - 1) else s
    s.logDeferred

/-! ### Mailboxes (R352 to R354) -/

/-- The commands of port n's mailbox that wait. -/
def State.mbCmds (s : State) (n : Nat) : List MbCmd := mget ([] : List MbCmd) s.mgt.cmds n

/-- The records of port n's mailbox. -/
def State.mbDone (s : State) (n : Nat) : List MbDone := mget ([] : List MbDone) s.mgt.done n

/-- A command's record (R353). `MGT_CNT_ABORTED` counts while `MGT` is ON; its tally goes on with `MGT` down (R447). -/
def State.mbRecord (s : State) (n : Nat) (c : MbCmd) (status retry : Nat) (data : Word) : State :=
  let s := s.setMgt { s.mgt with done := mset [] s.mgt.done n (s.mbDone n ++ [(⟨c.op, c.tag, status, retry, data⟩ : MbDone)]) }
  let s := if status ≠ 4 then s else if s.domOn 1 then s.count R.MGT_CNT_ABORTED else s.tallyTwin R.MGT_CNT_ABORTED 1
  s.raise (40 + n) 0

/-- Whether port n has room for a command (R352). -/
def State.mbRoom (s : State) (n : Nat) : Bool := (s.mbCmds n).length + (s.mbDone n).length < 8

/-- Whether the core cannot serve mailboxes, so that a command ends with ABORTED_CORE (R356, R445). -/
def State.mbDead (s : State) : Bool := !s.domOn 1 || (2 ≤ s.mgtState && s.mgtState ≤ 5)

/-- A write of `MGT_MBn_CMD` (R352, R356). -/
def State.mbSubmit (s : State) (n v : Nat) : State :=
  if !s.mbRoom n then s.refuseWord
  else
    let c : MbCmd := ⟨v / 2 ^ 24 % 256, v % 65536, (List.range 4).map fun i => BitVec.ofNat 32 (s.reg (R.MGT_MB_ARG n i))⟩
    if s.mbDead then s.mbRecord n c 4 0 0#32
    else s.setMgt { s.mgt with cmds := mset [] s.mgt.cmds n (s.mbCmds n ++ [c]) }

/-- Every waiting command ends with ABORTED_CORE, in order (R356). -/
def State.mbAbort (s : State) : State :=
  s.each [0, 1, 2] fun s n => (s.each (s.mbCmds n) fun s c => s.mbRecord n c 4 0 0#32).setMgt
    { (s.each (s.mbCmds n) fun s c => s.mbRecord n c 4 0 0#32).mgt with cmds := merase s.mgt.cmds n }

/-- The core serves the head of port p's mailbox, if it is a command that `is` accepts: BUSY at level 2 or 3, else `run`. -/
def State.mbServe (s : State) (p : Port) (is : Nat → Bool) (run : State → MbCmd → Nat × Word × State) : State :=
  match s.mbCmds p.num with
  | [] => s
  | c :: cs =>
    if !is c.op || !s.coreRuns then s
    else
      let s := s.setMgt { s.mgt with cmds := mset [] s.mgt.cmds p.num cs }
      if 2 ≤ s.get F.MGT_STATUS_DEFER then (s.mbRecord p.num c 1 (s.get F.MGT_CFG_RETRY_MS) 0#32).count R.MGT_CNT_DEFER_C3
      else
        let (status, data, s) := run s c
        s.mbRecord p.num c status 0 data

/-- Argument i of a command. -/
def MbCmd.arg (c : MbCmd) (i : Nat) : Nat := (c.args.getD i 0#32).toNat

/-- Whether a range of the fold window lies in folds owned by HOST for a port (R262). -/
def State.hostRange (s : State) (p : Port) (a n : Nat) : Bool :=
  inFolds a && a + n ≤ 0x80000000 && (foldsIn a n).all fun nn => ownerIsHost (s.reg (R.FST_FOLD_OWNER nn)) p

/-- LOG_READ (R354): the records of the run that still exist, one after the other. -/
def State.logRead (s : State) (p : Port) (c : MbCmd) : Nat × Word × State :=
  let (a, first, n) := (c.arg 0, c.arg 1, c.arg 2)
  if n < 1 ∨ 64 < n ∨ !s.hostRange p a (4096 * n) then (3, 0#32, s)
  else if !(foldsIn a (4096 * n)).all s.foldOn then (5, 0#32, s)
  else
    let slots := ((List.range 64).map fun i => s.nvBytes (logSlotAddr i) 4096).filter logValid
    let found := (List.range n).filterMap fun i => slots.find? fun b => beNat (slice b 8 4) == first + i
    let s := s.each found.zipIdx fun s x => s.foldWrite (a + 4096 * x.2) x.1
    (0, BitVec.ofNat 32 found.length, s)

/-- LOG_WRITE (R411): a record is programmed and read back. -/
def State.logWrite (s : State) (ok : Bool) : Nat × Word × State :=
  let s := (s.logStart 1).logEnds ok
  if ok && s.nvmDevice != .absent then (0, BitVec.ofNat 32 (s.reg R.TAL_LOG_SEQ), s) else (5, 0#32, s)

/-- REVIVE_UNIT (R354): the test of a retired slice, of an input lane that has been lost, whose receiver starts again, or of the lanes
of a port that are out of service (DESIGN CHOICE, assumption log 132, which lanes count as retired). -/
def State.reviveUnit (s : State) (c : MbCmd) (pass : Bool) : Nat × Word × State :=
  let u := c.arg 0
  if 256 ≤ u ∨ !validUnit u then (3, 0#32, s)
  else if u < 17 then
    if s.role u ≠ 5 then (3, 0#32, s)
    else if !pass ∨ !s.domOn (14 + u) then (0, 0#32, s)
    else (0, 1#32, s.setRole u 1 0)
  else if u < 0x40 then
    if !(s.pilLane (u - 0x20)).lost then (3, 0#32, s) else if !pass then (0, 0#32, s) else (0, 1#32, s.laneRelock (u - 0x20))
  else
    let nn := u - 0x40
    let off := [(laneA nn, F.ADL_PORT_STATUS_LANE_OFF_A nn), (laneB nn, F.ADL_PORT_STATUS_LANE_OFF_B nn)].filter fun x => s.flag x.2
    if off.isEmpty then (3, 0#32, s)
    else if !pass then (0, 0#32, s)
    else
      let s : State := s.each off fun s x => ((s.putB x.2 false).laneRestart x.1)
      let s : State := { s with adl := { s.adl with bad := off.foldl (fun m x => merase m x.1) s.adl.bad } }
      (0, 1#32, if s.portState nn = 3 then s.setPort nn 1 else s)

/-- THERMAL (R353, R456): the junction temperature; a free value while none has been read. -/
def State.thermal (s : State) : Nat × Word × State :=
  match s.junction with
  | some t => (0, BitVec.ofInt 32 t, s)
  | none => (0, BitVec.ofNat 32 (s.freeVal 32), s.useFree)

/-- A pop of port n's mailbox records by port p (R353, R382). -/
def State.popMailbox (s : State) (p : Port) (n : Nat) : Nat × State :=
  if p.num ≠ n then (0, s)
  else match s.mbDone n with
    | [] => (0, s)
    | r :: q =>
      let s := s.setMgt { s.mgt with done := mset [] s.mgt.done n q }
      let s := (s.setReg (R.MGT_MB_DONE_HI n) (r.retry % 256 * 65536 + r.tag)).setReg (R.MGT_MB_DONE_DATA n) r.data.toNat
      (2 ^ 31 + q.length * 2 ^ 27 + r.op * 65536 + r.status, s)

/-! ### The sheepdog (R355 to R357) -/

/-- The hold sequence (Table 16.5, steps 1 and 2): cause 1 TIMEOUT, 2 BAD_KEY, 3 HOST. -/
def State.holdStart (s : State) (cause : Nat) : State :=
  let s := (s.put F.MGT_STATUS_STATE 2).put F.MGT_STATUS_CAUSE cause
  let s := ((s.raise 32 2).count R.MGT_CNT_DOG).logAdd (720 + 4 * cause) 1
  let t := s.recallAll
  let s := s.calFreeze (t.setMgt { t.mgt with calFrozen := true, regionsPaused := true, recovering := none, recoveries := [], combine := none })
  ((s.htmHold.mbAbort).cprHold).preempt

/-- The challenge after a good service: another value, which the spec leaves open. -/
def State.newChallenge (s : State) : State :=
  (s.put F.MGT_DOG_KEY ((s.get F.MGT_DOG_KEY + 1 + s.freeVal 16 % 65535) % 65536)).useFree

/-- The faults that the status of every unit shows (Table 16.7): a retired slice, a lost input lane, a port with a lane out of service. -/
def State.faultList (s : State) : List Recovery :=
  (upTo 17 fun k => s.role k == 5).map (fun k => ⟨sliceCauseClass (s.get (F.SLC_SLICE_STATUS_LAST_CAUSE k)), 400 + k, 0⟩)
    ++ (upTo 32 fun l => (s.pilLane l).lost).map (fun l => ⟨laneCauseClass 1, 256 + l, 1 + l / 8⟩)
    ++ (upTo 56 fun nn => s.flag (F.ADL_PORT_STATUS_LANE_OFF_A nn) || s.flag (F.ADL_PORT_STATUS_LANE_OFF_B nn)).map
      (fun nn => ⟨if s.portState nn = 3 then 3 else 2, 128 + nn, 16 + nn⟩)

/-- A rebooted core plans its recoveries anew from the status of every unit (Table 16.7); their order is that of R361 (DEDUCED,
assumption log 142). -/
def State.replanAll (s : State) : State :=
  s.setMgt { s.mgt with recovering := none, recoveries := s.faultList.insertionSort fun a b => a.src ≤ b.src }

/-- SHEEPDOG_SERVICE: a write of `MGT_DOG` by the core (R355, Table 16.5). The first good one after a boot ends what a hold sequence
has paused, also where the core has come back by its domain (R340, R445), and the core plans anew. -/
def State.dogWrite (s : State) (v : Nat) : State :=
  let st := s.mgtState
  if !s.domOn 1 || st == 2 || st == 5 then s
  else if v % 65536 ≠ Nat.xor (s.get F.MGT_DOG_KEY) 0xB7E1 then s.holdStart 2
  else
    let s := ((s.newChallenge.put F.MGT_STATUS_STATE 1).putB F.DEV_STATUS_HEADLESS false).driveBack
    let s := s.raiseIf (st == 3 || st == 4) 33 0
    let s := if st = 1 then s else s.replanAll
    s.calFreeze (s.setMgt { s.mgt with calFrozen := false, regionsPaused := false })

/-- SHEEPDOG_TIMEOUT (R355, R445). -/
def State.dogTimeout (s : State) : State :=
  if s.domOn 1 && s.mgtState ≤ 1 && !s.mgt.dogSuspended then s.holdStart 1 else s

/-- The core starts from ROM with the patch section of the image in use (Table 16.5, step 3), and reads the log (R412). -/
def State.coreStart (s : State) (st : Nat) : State := ((s.put F.MGT_STATUS_STATE st).put F.MGT_STATUS_PATCH s.mgt.patchNo).logScan

/-- A write of `MGT_CTRL` (R355, R357). -/
def State.mgtCtrl (s : State) (v : Nat) : State :=
  let s := if bitAt v 0 && s.mgtState == 1 && s.domOn 1 then s.holdStart 3 else s
  if bitAt v 1 && s.mgtState == 5 && s.domOn 1 then s.coreStart 3 else s

/-- MGT_HEADLESS (Table 16.5, step 5′). -/
def State.headless (s : State) : State :=
  if s.mgtState = 4 then
    (((s.put F.MGT_STATUS_STATE 5).putB F.DEV_STATUS_HEADLESS true).raise 34 2 |>.count R.MGT_CNT_REBOOT_FAIL).logAdd 736 1
  else s

/-! ### Adaptive voltage control (R358 to R360) -/

/-- Whether a slice carries data (R358). -/
def State.carries (s : State) (k : Nat) : Bool := s.role k == 0 || s.role k == 4 || s.role k == 2

/-- The live margins are measured; the lowest over the slices that carry data. -/
def State.measureMargins (s : State) (margins : List Nat) : Option Nat × State :=
  let s := s.each (List.range 17) fun s k => if s.role k = 7 then s else s.put (F.SLC_SLICE_STATUS_MARGIN k) (min 255 (margins.getD k 0))
  ((upTo 17 s.carries).foldl (fun (m : Option Nat) k => match m with
    | some v => some (min v (s.get (F.SLC_SLICE_STATUS_MARGIN k)))
    | none => some (s.get (F.SLC_SLICE_STATUS_MARGIN k))) none, s)

/-- A write of a voltage to the regulator (R359): one that fails is kept to be made again. -/
def State.avsWrite (s : State) (v : Nat) (ack : Bool) : State :=
  let s := s.emit (.pmbus (s.get F.MGT_AVS_CFG_ADDR) (voutCode v (s.get F.MGT_AVS_CFG_EXP)) (s.flag F.MGT_AVS_CFG_PEC))
  if ack then ((s.put F.MGT_AVS_NOW_MV v).putB F.MGT_AVS_NOW_FAULT false).setMgt { s.mgt with avsFails := 0, avsRetry := none, avsSince := 0 }
  else
    let s := s.setMgt { s.mgt with avsFails := min 3 (s.mgt.avsFails + 1), avsRetry := some v }
    if s.mgt.avsFails = 3 && !s.flag F.MGT_AVS_NOW_FAULT then (s.putB F.MGT_AVS_NOW_FAULT true).raise 39 2 else s

/-- AVS_LOOP (R338, R358); a write that has failed is made again, now that 1 ms has passed (R359). -/
def State.avsLoop (s : State) (margins : List Nat) (ack : Bool) : State :=
  if !s.flag F.MGT_AVS_CFG_EN || !s.coreRuns then s
  else
    let (m, s) := s.measureMargins margins
    let s := s.setMgt { s.mgt with avsSince := min 10 (s.mgt.avsSince + 1) }
    match m with
    | none => s
    | some m =>
      let s := s.put F.MGT_AVS_NOW_MARGIN m
      let v := s.get F.MGT_AVS_NOW_MV
      let t := s.get F.MGT_AVS_CFG_TARGET
      let v' := if m < t then min (s.get F.MGT_AVS_LIMITS_VMAX) (v + 10)
        else if t + s.get F.MGT_AVS_CFG_HYST < m && 10 ≤ s.mgt.avsSince then max (s.get F.MGT_AVS_LIMITS_VMIN) (v - 5)
        else v
      match s.mgt.avsRetry with
      | some w => if s.avsHeld then s else s.avsWrite w ack
      | none => if s.avsHeld || v' == v then s else s.avsWrite v' ack

/-- AVS_GUARD (R360): a slice that carries data has a margin below 10 %. -/
def State.avsGuard (s : State) (margins : List Nat) (ack : Bool) : State :=
  let (m, s) := s.measureMargins margins
  match m with
  | none => s.putB F.MGT_AVS_NOW_GUARD false
  | some m =>
    if 10 ≤ m then s.putB F.MGT_AVS_NOW_GUARD false
    else
      let s := s.putB F.MGT_AVS_NOW_GUARD true
      let (v, vmax) := (s.get F.MGT_AVS_NOW_MV, s.get F.MGT_AVS_LIMITS_VMAX)
      if vmax ≤ v then s.raise 38 3
      else ((s.avsWrite (if v = 0 then vmax else min vmax (v + 20)) ack).count R.MGT_CNT_GUARD).raise 37 1

/-- A write of `MGT_AVS_CFG` (R358): V starts at `VMAX` when `EN` is set. Whether the regulator takes that write is a free value: no row
brings its answer (DESIGN CHOICE, assumption log 143). -/
def State.avsConfig (s : State) (v : Nat) : State :=
  let t := bits v 15 8
  if t < 11 ∨ 40 < t ∨ bits v 7 4 = 0 then s.refuseWord
  else
    let was := s.flag F.MGT_AVS_CFG_EN
    let s := s.setReg R.MGT_AVS_CFG (v / 2 ^ 23 * 2 ^ 23 + bits v 20 4 * 16)
    if !bitAt v 31 then s.setMgt { s.mgt with avsRetry := none }
    else if was then s
    else s.useFree.avsWrite (s.get F.MGT_AVS_LIMITS_VMAX) (s.freeVal 1 == 1)

/-- A write of `MGT_AVS_LIMITS` (Table 16.11). -/
def State.avsLimits (s : State) (v : Nat) : State :=
  let (vmax, vmin) := (v / 65536 % 65536, v % 65536)
  if vmax < 600 ∨ 800 < vmax ∨ vmin < 600 ∨ vmax < vmin then s.refuseWord else s.setReg R.MGT_AVS_LIMITS v

/-! ### Recoveries (R361) -/

/-- RECOVERY_START: the queued recovery of the highest class, of those the first detected. -/
def State.recoveryStart (s : State) : State :=
  if !s.coreRuns then s
  else
    match s.mgt.recoveries.foldl (fun (m : Option Recovery) r => match m with
      | some b => if b.cls < r.cls then some r else some b
      | none => some r) none with
    | none => s.setMgt { s.mgt with recovering := none }
    | some r => s.setMgt { s.mgt with recovering := some r, recoveries := s.mgt.recoveries.erase r }

/-! ### Commands -/

/-- LOAD_UPDATE. -/
def execLoadUpdate (load : Nat) (s : State) : Host.Outcome State Fault Refusal := checked (.loadUpdate load) s fun s => s.loadUpdate load

/-- ECHO (Table 16.3). -/
def execEcho (p : Port) (s : State) : Host.Outcome State Fault Refusal :=
  checked (.echo p) s fun s => s.mbServe p (· == 1) fun s c => (0, BitVec.ofNat 32 (c.arg 0), s)

/-- VERSION (Table 16.3). -/
def execVersion (p : Port) (s : State) : Host.Outcome State Fault Refusal :=
  checked (.version p) s fun s => s.mbServe p (· == 2) fun s _ => (0, BitVec.ofNat 32 (s.reg R.MGT_STATUS % 65536), s)

/-- The folds that the LOG_READ at the head of a mailbox writes wait (R265, R273). -/
def State.logReadWaits (s : State) (p : Port) : Bool :=
  (s.mbCmds p.num).head?.any fun c => c.op == 3 && (foldsIn (c.arg 0) (4096 * c.arg 2)).any (s.hostWaits p)

/-- LOG_READ. -/
def execLogRead (p : Port) (s : State) : Host.Outcome State Fault Refusal :=
  checked (.logRead p) s fun s => if s.logReadWaits p then s else s.mbServe p (· == 3) fun s c => s.logRead p c

/-- LOG_WRITE; it waits for a record that is being programmed. -/
def execLogWrite (p : Port) (ok : Bool) (s : State) : Host.Outcome State Fault Refusal :=
  checked (.logWrite p ok) s fun s => if s.tal.log.writing.isSome then s else s.mbServe p (· == 4) fun s _ => s.logWrite ok

/-- REVIVE_UNIT. -/
def execReviveUnit (p : Port) (pass : Bool) (s : State) : Host.Outcome State Fault Refusal :=
  checked (.reviveUnit p pass) s fun s => s.mbServe p (· == 5) fun s c => s.reviveUnit c pass

/-- THERMAL. -/
def execThermal (p : Port) (s : State) : Host.Outcome State Fault Refusal :=
  checked (.thermal p) s fun s => s.mbServe p (· == 6) fun s _ => s.thermal

/-- MAILBOX_RESERVED_OP (R354). -/
def execMailboxReservedOp (p : Port) (s : State) : Host.Outcome State Fault Refusal :=
  checked (.mailboxReservedOp p) s fun s => s.mbServe p (fun op => op == 0 || 7 ≤ op) fun s _ => (2, 0#32, s)

/-- MGT_DONE_POP. -/
def execMgtDonePop (p : Port) (n : Nat) (s : State) : Host.Outcome State Fault Refusal :=
  checked (.mgtDonePop p n) s fun s => s.answer p (s.popMailbox p n)

/-- SHEEPDOG_SERVICE. -/
def execSheepdogService (v : BitVec 16) (s : State) : Host.Outcome State Fault Refusal :=
  checked (.sheepdogService v) s fun s => s.dogWrite v.toNat

/-- SHEEPDOG_TIMEOUT. -/
def execSheepdogTimeout (s : State) : Host.Outcome State Fault Refusal := checked .sheepdogTimeout s State.dogTimeout

/-- MGT_RESTART. -/
def execMgtRestart (ag : Agent) (s : State) : Host.Outcome State Fault Refusal :=
  checked (.mgtRestart ag) s fun s => s.asWrite ag R.MGT_CTRL fun s => s.mgtCtrl 1

/-- REVIVE. -/
def execRevive (ag : Agent) (s : State) : Host.Outcome State Fault Refusal :=
  checked (.revive ag) s fun s => s.asWrite ag R.MGT_CTRL fun s => s.mgtCtrl 2

/-- REBOOT1 (Table 16.5, step 3). -/
def execReboot1 (s : State) : Host.Outcome State Fault Refusal :=
  checked .reboot1 s fun s => if s.mgtState = 2 then s.coreStart 3 else s

/-- REBOOT2 (Table 16.5, step 4′). -/
def execReboot2 (s : State) : Host.Outcome State Fault Refusal :=
  checked .reboot2 s fun s => if s.mgtState = 3 then s.coreStart 4 else s

/-- MGT_HEADLESS. -/
def execMgtHeadless (s : State) : Host.Outcome State Fault Refusal := checked .mgtHeadless s State.headless

/-- AVS_LOOP. -/
def execAvsLoop (m : List Nat) (ack : Bool) (s : State) : Host.Outcome State Fault Refusal :=
  checked (.avsLoop m ack) s fun s => s.avsLoop m ack

/-- AVS_GUARD. -/
def execAvsGuard (m : List Nat) (ack : Bool) (s : State) : Host.Outcome State Fault Refusal :=
  checked (.avsGuard m ack) s fun s => s.avsGuard m ack

/-- RECOVERY_START. -/
def execRecoveryStart (s : State) : Host.Outcome State Fault Refusal := checked .recoveryStart s State.recoveryStart

end Sys2Proof.Machine
end

