-- ==== Sys2Proof/Machine/Power.lean ====
section
/-! DEFINITION. Supplies, rails and power domains (chapter 21), and what each domain's logic does when it leaves ON or returns
(R89 to R92, R273, R301, R413, R444 to R448). -/

namespace Sys2Proof.Machine

/-! ### Supplies (R437 to R440) -/

/-- The state with the supplies changed. -/
def State.setPwr (s : State) (p : PwrState) : State := { s with pwr := p }

/-- PWR_ON_BACKUP (R437, R411). -/
def State.onBackup (s : State) : State :=
  if s.pwr.onB then s
  else
    let s := s.setPwr { s.pwr with onB := true, aOk := false, bOk := true, revB := false }
    let s := (((s.count R.PWR_CNT_SWITCH).logAdd 416 1).raise 0 2)
    let recent := match s.tal.log.writtenAt with
      | some t => decide (s.now < t + 60000000 * usUnit)
      | none => false
    if recent then s else s.logSupply

/-- PWR_ON_BACKUP. -/
def execPwrOnBackup (s : State) : Host.Outcome State Fault Refusal := checked .pwrOnBackup s State.onBackup

/-- PWR_ON_MAIN (R437). -/
def execPwrOnMain (s : State) : Host.Outcome State Fault Refusal :=
  checked .pwrOnMain s fun s => if s.pwr.onB then (s.setPwr { s.pwr with onB := false, aOk := true, revA := false }).raise 1 0 else s

/-- What an input reads (R437, R439): `REV` holds while it is below −0.5 V, `OK` while it is at or above 2.90 V. -/
def State.supplyLevel (s : State) (x : SupplyReport) : State :=
  let (ok, rev) := (x.level == .good, x.level == .reversed)
  (s.setPwr (if x.inputB then { s.pwr with bOk := ok, revB := rev } else { s.pwr with aOk := ok, revA := rev })).raiseIf rev 2 2

/-- PWR_REVERSED (R439): an input falls below −0.5 V. The same row reports its later levels, which the live fields show
(DESIGN CHOICE, assumption log 157). -/
def execPwrReversed (x : SupplyReport) (s : State) : Host.Outcome State Fault Refusal :=
  checked (.pwrReversed x) s fun s => s.supplyLevel x

/-- PWR_BACKUP_LOST (R439): only while `VSUP_A` feeds the part. -/
def execPwrBackupLost (s : State) : Host.Outcome State Fault Refusal :=
  checked .pwrBackupLost s fun s => if s.pwr.onB then s else (s.setPwr { s.pwr with bOk := false }).raise 3 2

/-- The states of the domains 1 to 99. -/
def State.domStates (s : State) : List Nat := (List.range 99).map fun i => s.get (F.PWR_DOM_STATE (i + 1))

/-- `PWR_STATUS.AON_EST` (R440). -/
def State.aonEst (s : State) : Nat := (Config.aonLoad s.domStates (s.junction.getD 0)).toNat

/-- LOW_POWER_ENTRY (R440). -/
def State.lowPower (s : State) : State :=
  let idle := s.domStates.all (· != 2) && (List.range 99).all fun i => !s.flag (F.PWR_DOM_BUSY (i + 1))
  if s.flag F.PWR_CFG_AUTO_LP && idle && s.aonEst ≤ 3600 then s.setPwr { s.pwr with lp := true } else s

/-- LOW_POWER_ENTRY. -/
def execLowPowerEntry (s : State) : Host.Outcome State Fault Refusal := checked .lowPowerEntry s State.lowPower

/-! ### Cold starts (R433, R438, R440) -/

/-- The programming that a cold start cuts off: a record of the log, or an NVM job's range, is torn (R412, R434). -/
def State.nvCut (s : State) : State :=
  let s := s.logCut
  match s.cfg.job with
  | some j => if j.program then { s.nvTorn j.addr j.len with nvmTorn := nvBlocks j.addr j.len ++ s.nvmTorn } else s
  | none => s

/-- The part as a cold start leaves it (R433): what the supplies, the fuses and the NVM hold stays; everything else is at reset.
`cause` is `CFG_STATUS.CAUSE`: 0 POR, 1 RESETN, 2 BOR_LP, 3 RESTART, 4 LC. -/
def State.coldStart (s : State) (cause : Nat) : State :=
  let s := s.nvCut
  let s' : State := { pending := s.pending, occ := s.occ, out := s.out, now := s.now, freeCtr := s.freeCtr, nvm := s.nvm
                      nvmDevice := s.nvmDevice, nvmTorn := s.nvmTorn, cfg := { fuses := s.cfg.fuses, borLatch := s.cfg.borLatch }
                      pwr := { onB := s.pwr.onB, aOk := s.pwr.aOk, bOk := s.pwr.bOk, revA := s.pwr.revA, revB := s.pwr.revB
                               railsGood := s.pwr.railsGood } }
  s'.put F.CFG_STATUS_CAUSE cause

/-- POWER_ON_RESET (R438): the latch of R433 falls only with both inputs. -/
def State.powerOnReset (s : State) (bothLost : Bool) : State :=
  ({ s with cfg := { s.cfg with borLatch := s.cfg.borLatch && !bothLost } }).coldStart 0

/-- POWER_ON_RESET. -/
def execPowerOnReset (bothLost : Bool) (s : State) : Host.Outcome State Fault Refusal :=
  checked (.powerOnReset bothLost) s fun s => s.powerOnReset bothLost

/-- A load above the limit in low-power mode browns out the part (R440). -/
def State.brownOut (s : State) : State :=
  if s.pwr.lp then ({ s with cfg := { s.cfg with borLatch := true } }).coldStart 2 else s

/-- BROWN_OUT (R440). -/
def execBrownOut (s : State) : Host.Outcome State Fault Refusal := checked .brownOut s State.brownOut

/-! ### Rails (R442) -/

/-- Whether a domain that a rail feeds is ON (Table 21.1): bit order of `PWR_RAILS`. -/
def State.railUsed (s : State) (rail : Nat) : Bool :=
  match rail with
  | 0 => s.anyOn 1 99
  | 1 => s.anyOn 36 99
  | 2 | 3 => s.anyOn 2 13
  | _ => true

/-- Protection of the front layer by a rail, and with it of the rear one (R186, R442): a front layer that is PROTECTED already stays
so, and no layer keeps its `ON` bit or a held `ON` = 1. -/
def State.railProtect (s : State) : State :=
  let s := if s.panelState .front != 6 then s.protect .front else s.protectRear
  let s := (s.putB (panelOnField .front) false).putB (panelOnField .rear) false
  (s.setPanel .front { s.panel .front with heldOn := false }).setPanel .rear { s.panel .rear with heldOn := false }

/-- PWR_RAIL_LOW (R442, R388); the same row reports that a rail is good again. -/
def State.railLow (s : State) (x : RailReport) : State :=
  let s := s.setPwr { s.pwr with railsGood := setBit s.pwr.railsGood x.rail (!x.low) }
  if !x.low || !s.railUsed x.rail then s
  else
    let s := s.put F.PWR_RAILS_LOW (setBit (s.get F.PWR_RAILS_LOW) x.rail true)
    ((s.raise 4 4).railProtect).preempt

/-- PWR_RAIL_LOW. -/
def execPwrRailLow (x : RailReport) (s : State) : Host.Outcome State Fault Refusal := checked (.pwrRailLow x) s fun s => s.railLow x

/-! ### Registers of a domain that leaves ON (R447) -/

/-- The bits of a register that the AON shadow keeps: those a host writes and reads back. -/
def keptBits (a : Nat) : Nat := match regDef? a with | some d => d.w | none => 0

/-- The status and counter bits of the registers that a test selects return to their reset values. -/
def State.statusReset (s : State) (sel : Nat → Bool) : State :=
  s.each ((s.regs.map (·.1)).filter sel) fun s a =>
    let k := keptBits a
    s.setReg a (Nat.lor (Nat.land (s.reg a) k) (Nat.land (resetOf a) (0xFFFFFFFF - k)))

/-- The tables of an engine lose their content, active copies and shadows. -/
def State.tablesLost (s : State) (e : Nat) : State :=
  { s with tbl := s.tbl.filter fun x => tblEngine x.1 != some e, tblShadow := s.tblShadow.filter fun x => tblEngine x.1 != some e }

/-- `TBL_RETAIN` of an engine. -/
def State.tblRetain (s : State) (e : Nat) : Bool :=
  match e with
  | 2 => s.flag F.FE_CFG_TBL_RETAIN
  | 3 => s.flag F.SPL_CFG_TBL_RETAIN
  | 4 => s.flag F.PCM_CFG_TBL_RETAIN
  | 5 => s.flag F.ODR_CFG_TBL_RETAIN
  | 6 => s.flag F.DTH_CFG_TBL_RETAIN
  | 9 => s.flag F.BLE_CFG_TBL_RETAIN
  | _ => false

/-- The tables of engines whose domain goes to a state: RET keeps those with `TBL_RETAIN` (R446). -/
def State.tablesLeave (s : State) (es : List Nat) (dest : Nat) : State :=
  s.each es fun s e => if dest = 1 ∧ s.tblRetain e then s else s.tablesLost e

/-- The registers of a lane. -/
def laneReg (l a : Nat) : Bool := a / 0x4000 == 13 && R.LNS_LANE_CFG 0 ≤ a && (a - R.LNS_LANE_CFG 0) / 0x40 == l

/-- The registers of a driver port. -/
def portReg (nn a : Nat) : Bool := a / 0x4000 == 8 && R.ADL_PORT_CFG 0 ≤ a && (a - R.ADL_PORT_CFG 0) / 0x40 == nn

/-! ### The engines at the transitions of their domains -/

/-- The lanes of a PLL's flock are at reset but for their configuration and their trims, which the AON shadow keeps (R341, R447). -/
def State.lanesReset (s : State) (p : Nat) : State :=
  let ls := pllLanes p
  let s := s.statusReset fun a => ls.any fun l => laneReg l a && a != R.LNS_LANE_TRIM l
  s.each ls fun s l => (s.putB (F.LNS_LANE_SCAN_GO l) false).setLane l {}

/-- The statuses and counters of `PIL` that no flock has (R447). -/
def State.pilReset (s : State) : State := s.statusReset fun a => inEngine 1 a && a != R.PIL_STATUS

/-- An input flock leaves ON (R63, R301, Table 13.2). -/
def State.inputOff (s : State) (k : Nat) : State :=
  let s := s.flockRestart k
  let s := ((s.setPll k false).statusReset fun a => a == R.PIL_FLOCK_STATUS k).lanesReset k
  let s := s.linkUpdate
  if s.anyOn 2 5 then s else { s.pilReset with pil := { s.pilReset.pil with aux := [], auxPos := 0, metaNew := none } }

/-- An input flock reaches ON: its receivers take the polarity that `POL` gives (R308) and come into use, or into TEST (R304). -/
def State.inputOn (s : State) (k : Nat) : State :=
  let s := if (upTo 4 fun j => s.domOn (2 + j)) = [k] then s.pilReset else s
  let s := (s.each (flockLanes k) fun s l => s.takePolarity l).flockUse k false
  s.linkUpdate.noteStatus

/-- The statuses and counters of an output flock's ports (R207, R447). -/
def State.portsReset (s : State) (f : Nat) : State :=
  let s := s.statusReset fun a => (flockPorts f).any (fun nn => portReg nn a) || a == R.ADL_FLOCK_STATUS f
  { s with adl := { s.adl with
      polls := merase s.adl.polls f, bad := s.adl.bad.filter fun x => !(pllLanes (4 + f)).contains x.1
      ctrlSent := s.adl.ctrlSent.filter fun nn => !(flockPorts f).contains nn, live := s.adl.live.filter fun nn => !(flockPorts f).contains nn } }

/-- The common statuses and counters of `ADL` (R447): GAPS shows the configuration in use (R206). -/
def State.adlReset (s : State) : State := (s.statusReset (inEngine 8)).putB F.ADL_STATUS_GAPS s.snapshot.adlGaps

/-- An output flock leaves ON (R198, R199, R301). -/
def State.outputOff (s : State) (f : Nat) : State :=
  let s := ((s.setPll (4 + f) false).portsReset f).lanesReset (4 + f)
  if s.anyOn 6 13 then s else s.adlReset

/-- An output flock reaches ON: its enabled ports start their bring-up. -/
def State.outputOn (s : State) (f : Nat) : State :=
  let s := if (upTo 8 fun j => s.domOn (6 + j)) = [f] then s.adlReset else s
  s.each ((flockPorts f).filter fun nn => s.flag (F.ADL_PORT_CFG_EN nn)) fun s nn =>
    ((s.laneUse (laneA nn)).laneUse (laneB nn)).put (F.ADL_PORT_STATUS_STATE nn) 1

/-- The statuses and counters of the engines of the `SPL` global domain (R447). -/
def State.pixelsReset (s : State) : State := s.statusReset fun a => 2 ≤ a / 0x4000 && a / 0x4000 ≤ 6

/-- The `SPL` global domain leaves ON: every picture, filter and history value is lost (R105, R158, R446). -/
def State.splOff (s : State) (dest : Nat) : State :=
  let s := s.pixelsReset.tablesLeave [2, 3, 4, 5, 6] dest
  { s with fe := { serial := s.fe.serial }, spl := { seedNext := true, badRaster := s.spl.badRaster }, pcm := {}, odr := {}, dth := {} }

/-- The `SPL` global domain returns to ON: its statuses show the configuration in use (R87, R99, R103, R117, R147, R160); no commit makes
masking unavailable here, and 102 does not come again (R135). -/
def State.pixelsOn (s : State) : State :=
  let s := ((s.pixelsReset.splOn.put F.SPL_DEAD_COUNT (deadCount s.tbl)).put F.FE_STATUS_ACTIVE_SET (s.get F.FE_CFG_SET)).put
    F.PCM_STATUS_ACTIVE_SET (s.get F.PCM_TABLES_SET)
  s.odrNeeds.putB F.PCM_STATUS_MASK_UNAVAIL s.pcmUnmasked

/-- `BLE` leaves ON (R233, R413): the core copies the drive seconds first. RET keeps the drive counters and their fractions (R217). A
sensor write in progress ends. -/
def State.bleOff (s : State) (dest : Nat) : State :=
  let s := if s.coreRuns then s.logDrive else s
  let s := ((s.statusReset (inEngine 9)).putB F.BLE_SNS_CMD_GO false).tablesLeave [9] dest
  { s with ble := { drive := if dest = 1 then s.ble.drive else [] } }

/-- `BLE` returns to ON: its counters are at reset, its chains bring themselves up (Table 9.4), its loops settle with gains of 1.0
(R229), voltage control starts (R231), and from OFF the drive seconds wait for their write-back (R413). -/
def State.bleOn (s : State) (fromOff : Bool) : State :=
  let s := s.statusReset (inEngine 9)
  let s := s.each (upTo 24 fun c => s.flag (F.BLE_CHAIN_CFG_EN c)) fun s c => s.chainCommit false true c
  let s := if s.flag F.BLE_CFG_EN then s.setReg R.BLE_MASTER_NOW 4096 else s
  let s := s.each (upTo 4 fun k => s.flag (F.BLE_LOOP_CFG_EN k)) fun s k => s.loopClear k
  let s := if s.flag F.BLE_VLED_CFG_EN then s.vledStart else s
  if fromOff then (s.putB F.TAL_LOG_STATUS_DRIVE_LOADED false).driveBack else s

/-- The registers of `MGT` that AON hardware keeps (Table 21.2): the PMBus controller's, the sheepdog's and the hold sequencer's with
their counters, which start with AON (R365), and the mailboxes, which the host ports reach with the core down (R356). -/
def mgtKept (a : Nat) : Bool :=
  [R.MGT_AVS_NOW, R.MGT_DOG, R.MGT_CNT_DOG, R.MGT_CNT_REBOOT_FAIL, R.MGT_CNT_GUARD].contains a || R.MGT_MB_ARG 0 0 ≤ a

/-- `MGT` leaves ON (R445). -/
def State.mgtOff (s : State) (dest : Nat) : State :=
  let s := s.htmHold.mbAbort
  let s := s.statusReset fun a => inEngine 16 a && !mgtKept a
  let s := s.setMgt { s.mgt with loads := [], highUpdates := 0, lowUpdates := 0, deferredC4 := 0, recovering := none, recoveries := [], combine := none }
  if dest = 0 then { s with fst := { s.fst with locked := [] } } else s

/-- A fold loses its content (R273). -/
def State.foldLost (s : State) (nn : Nat) : State :=
  { s with fst := { s.fst with mem := memClear s.fst.mem (foldBase nn) (foldBase (nn + 1)) }
           pwr := { s.pwr with contentLost := mset false s.pwr.contentLost (36 + nn) true } }

/-- A fold leaves ON (R273, R274): a job that uses it cannot end well (R296), an initialisation is cut short, and what waited for it
is judged now. -/
def State.foldOff (s : State) (nn dest : Nat) : State :=
  let cut := s.flag (F.FST_FOLD_STATUS_INIT nn)
  let s := (s.jobHit (s.jobOutputs nn || s.jobInputs nn)).putB (F.FST_FOLD_STATUS_INIT nn) false
  let s := if dest = 1 ∧ s.flag (F.FST_FOLD_RETAIN_RETAIN nn) ∧ !cut then s else s.foldLost nn
  if cut then s.applyAllHeld else s

/-- A fold reaches ON: it is initialised where its content was lost (R273). -/
def State.foldOnAgain (s : State) (nn : Nat) : State :=
  if mget false s.pwr.contentLost (36 + nn) then
    let s := s.setPwr { s.pwr with contentLost := mset false s.pwr.contentLost (36 + nn) false }
    s.putB (F.FST_FOLD_STATUS_INIT nn) true
  else s

/-- The statuses and counters of `SRF` that the AON store does not keep (R257, R447). -/
def State.srfReset (s : State) : State :=
  (s.statusReset fun a => inEngine 10 a && a != R.SRF_FRONT_NO).put F.SRF_STATUS_FRONT s.frontBuf

/-- `SRF` leaves ON: self-refresh, the updates, the ring and the result queues are lost (R446). -/
def State.srfOff (s : State) : State := { s.srfReset with srf := s.srf.off }

/-- A domain leaves ON for a state. -/
def State.domainLeaves (s : State) (dd dest : Nat) : State :=
  if dd = 1 then s.mgtOff dest
  else if dd ≤ 5 then s.inputOff (dd - 2)
  else if dd ≤ 13 then s.outputOff (dd - 6)
  else if dd ≤ 30 then s.slicePower (dd - 14) false
  else if dd = 31 then s.splOff dest
  else if dd = 32 then s.bleOff dest
  else if dd = 33 then s.srfOff
  else if dd = 34 then ({ s with cpr := { lastRing := s.cpr.lastRing } }).statusReset (inEngine 12)
  else if dd = 35 then ({ s with seq := {} }).statusReset (inEngine 18)
  else s.foldOff (dd - 36) dest

/-- A domain reaches ON from OFF or from RET; statuses and counters start from their reset values (R447). -/
def State.domainEnters (s : State) (dd : Nat) (fromOff : Bool) : State :=
  if dd = 1 then s.coreStart 0
  else if dd ≤ 5 then s.inputOn (dd - 2)
  else if dd ≤ 13 then s.outputOn (dd - 6)
  else if dd ≤ 30 then s.slicePower (dd - 14) true
  else if dd = 31 then s.pixelsOn
  else if dd = 32 then s.bleOn fromOff
  else if dd = 33 then s.srfReset
  else if dd = 34 then s.statusReset (inEngine 12)
  else if dd = 35 then s.statusReset (inEngine 18)
  else s.foldOnAgain (dd - 36)

/-! ### Requests (R443, Table 21.3) -/

/-- The domain of a fold owner that keeps the fold from RET while it is ON. -/
def State.ownerActive (s : State) (owner : Nat) : Bool :=
  match owner with
  | 1 => s.anyOn 2 5
  | 2 => s.domOn 33
  | 3 | 4 | 5 => s.domOn 31
  | 6 => s.domOn 34
  | _ => false

/-- Why a request is refused (Table 21.3); 0 where it is not. -/
def State.domainDenied (s : State) (dd req : Nat) : Nat :=
  let down := req ≠ 2
  let slice := decide (14 ≤ dd) && decide (dd ≤ 30)
  let role := s.role (dd - 14)
  let busyRole := role == 0 || role == 4 || role == 3 || role == 6
  let o := s.foldOwner (dd - 36)
  if dd = 0 ∨ req = 3 then 7
  else if !down && slice && !s.domOn 31 then 1
  else if down ∧ dd = 31 ∧ (List.range 17).any (fun k => s.get (F.PWR_DOM_STATE (14 + k)) != 0) then 2
  else if down && slice && busyRole && s.flag (F.TG_CFG_EN 0) then 3
  else if down && ((decide (2 ≤ dd) && decide (dd ≤ 5) && bitAt (s.get F.PIL_CFG_FLOCK_EN) (dd - 2))
      || (decide (6 ≤ dd) && decide (dd ≤ 13) && (flockPorts (dd - 6)).any fun nn => s.flag (F.ADL_PORT_CFG_EN nn))) then 4
  else if down && dd == 32 && s.flag F.BLE_CFG_EN then 5
  else if down && decide (36 ≤ dd) && decide (1 ≤ o) && decide (o ≤ 6) && (req == 0 || s.ownerActive o) then 6
  else 0

/-- A refused request (R443). -/
def State.denyDomain (s : State) (dd why : Nat) : State :=
  (((s.put (F.PWR_DOM_DENIED dd) why).raise 49 0).count R.PWR_CNT_DENIED).raise 5 0

/-- A request is taken: a transition starts, unless the domain is in that state already. A request for ON ends the regulator's
low-power mode (R440); one that takes the core down has its log written first (R445). -/
def State.takeDomain (s : State) (dd req : Nat) : State :=
  let s := if req = 2 then s.setPwr { s.pwr with lp := false } else s
  if s.get (F.PWR_DOM_STATE dd) = req then s
  else
    let s := if dd = 1 then s.logSupply else s
    let s := if dd = 1 ∧ req ≠ 2 then s.setMgt { s.mgt with dogSuspended := true } else s
    (s.putB (F.PWR_DOM_BUSY dd) true).setPwr { s.pwr with target := mput s.pwr.target dd req }

/-- A write of `PWR_DOMdd.REQ` (R443). -/
def State.domainRequest (s : State) (dd req : Nat) : State :=
  let why := s.domainDenied dd req
  if why ≠ 0 then s.denyDomain dd why
  else
    let s := (s.put (F.PWR_DOM_REQ dd) req).put (F.PWR_DOM_DENIED dd) 0
    if s.flag (F.PWR_DOM_BUSY dd) then s else s.takeDomain dd req

/-- DOMAIN_REQUEST. -/
def execDomainRequest (ag : Agent) (dd req : Nat) (s : State) : Host.Outcome State Fault Refusal :=
  checked (.domainRequest ag dd req) s fun s => s.asWrite ag (R.PWR_DOM dd) fun s => s.domainRequest dd req

/-- Work in flight that a domain completes before it leaves ON (R445, Table 21.4): the log's record, a copy, a job, the sequences
that are submitted. -/
def State.domainWorks (s : State) (dd : Nat) : Bool :=
  if dd = 1 then s.tal.log.writing.isSome
  else if dd = 33 then s.srf.inFlight.isSome
  else if dd = 34 then s.cpr.job.isSome
  else if dd = 35 then [0, 1, 2].any fun n => !(s.seqRuns n).isEmpty
  else false

/-- A request that came during the transition is taken, or refused now (R443). -/
def State.domainNext (s : State) (dd : Nat) : State :=
  let req := s.get (F.PWR_DOM_REQ dd)
  let st := s.get (F.PWR_DOM_STATE dd)
  if req = st then s
  else
    let why := s.domainDenied dd req
    if why ≠ 0 then (s.put (F.PWR_DOM_REQ dd) st).denyDomain dd why else s.takeDomain dd req

/-- A domain goes from RET to OFF: what RET kept of it is lost (R217, R446). -/
def State.retainedLost (s : State) (dd : Nat) : State :=
  if dd = 31 then s.tablesLeave [2, 3, 4, 5, 6] 0
  else if dd = 32 then { s.tablesLeave [9] 0 with ble := {} }
  else if dd = 1 then { s with fst := { s.fst with locked := [] } }
  else s

/-- DOMAIN_TRANSITION_COMPLETE (R443 to R448). -/
def State.domainDone (s : State) (dd : Nat) : State :=
  match mfind s.pwr.target dd with
  | none => s
  | some t =>
    let was := s.get (F.PWR_DOM_STATE dd)
    if was = 2 && s.domainWorks dd then s
    else
      let s := s.setPwr { s.pwr with target := merase s.pwr.target dd }
      let s := (s.put (F.PWR_DOM_STATE dd) t).putB (F.PWR_DOM_BUSY dd) false
      let s := if 36 ≤ dd then s.put (F.FST_FOLD_STATUS_POWER (dd - 36)) t else s
      let s := if was = 2 then s.domainLeaves dd t
        else if 36 ≤ dd ∧ (was = 0 ∨ t = 0) then s.foldLost (dd - 36)
        else if was = 1 ∧ t = 0 then s.retainedLost dd
        else s
      let s := if t = 2 then s.domainEnters dd (was == 0) else s
      let s := if dd = 1 ∧ t = 2 then s.setMgt { s.mgt with dogSuspended := false } else s
      let s := if t = 2 then s.calScan else s
      (s.raise 6 0).domainNext dd

/-- DOMAIN_TRANSITION_COMPLETE. -/
def execDomainTransitionComplete (dd : Nat) (s : State) : Host.Outcome State Fault Refusal :=
  checked (.domainTransitionComplete dd) s fun s => s.domainDone dd

/-- FOLD_INIT_COMPLETE (R273, R467). -/
def State.foldInitDone (s : State) (nn : Nat) : State :=
  if !s.flag (F.FST_FOLD_STATUS_INIT nn) then s
  else ((s.putB (F.FST_FOLD_STATUS_INIT nn) false).putB (F.FST_FOLD_STATUS_LOST nn) true).applyAllHeld

/-- FOLD_INIT_COMPLETE. -/
def execFoldInitComplete (nn : Nat) (s : State) : Host.Outcome State Fault Refusal :=
  checked (.foldInitComplete nn) s fun s => s.foldInitDone nn

end Sys2Proof.Machine
end

