-- ==== Sys2Proof/Machine/Boundary.lean ====
section
/-! DEFINITION. Commit points and frame boundaries (R13, R14, R29, R40 to R42, R173, R466): what a generator's boundary, jump,
restart, start or stop does in every engine, and the commands of chapter 7 and of the backlight sync. -/

namespace Sys2Proof.Machine

/-! ### Commits -/

/-- The engine whose shadow an address is. -/
def engineOfAddr (a : Nat) : Nat := (tblEngine a).getD (a / 0x4000)

/-- The generator whose boundary commits an address (R40, R41): of the `TG` block its own registers. -/
def ownerTg (a : Nat) : Option Nat :=
  let e := engineOfAddr a
  if e = 7 then (if a < 0x1D000 then some ((a - 0x1C000) / 0x400) else none)
  else if e = 9 then some 2
  else if (2 ≤ e ∧ e ≤ 6) ∨ e = 8 ∨ e = 10 then some 0
  else none

/-- Run a commit on the shadows that a test selects; every other shadow stays as it is. -/
def State.within (s : State) (mine : Nat → Bool) (f : State → State) : State :=
  let (regs, tbl) := (s.shadow.filter fun x => !mine x.1, s.tblShadow.filter fun x => !mine x.1)
  let s := f { s with shadow := s.shadow.filter fun x => mine x.1, tblShadow := s.tblShadow.filter fun x => mine x.1 }
  { s with shadow := regs.foldl (fun m x => mput m x.1 x.2) s.shadow, tblShadow := tbl.foldl (fun m x => mput m x.1 x.2) s.tblShadow }

/-- The frame-timed engines commit what waits, the raster first where the same commit changed it (R14, R98, R135, R160,
R239). -/
def State.commitEngines (s : State) (raster : Bool) : State :=
  let old := s.snapshot
  let any := raster || !s.shadow.isEmpty || !s.tblShadow.isEmpty
  let s := (((s.feCommit.splCommit raster).pcmCommit).odrCommit).dthCommit
  let s := if raster then s.odrNeeds else s
  let s := (s.adlCommit.calScan.srfCommit).bleCommit
  let new := s.snapshot
  let s := s.putB F.ADL_STATUS_GAPS new.adlGaps
  let key (p : Snap) := (p.width 0, p.lines 0, p.get F.SRF_SRC_BASE, p.get F.SRF_SRC_COUNT, p.get F.FE_CFG_FLAGS_AS_KEY)
  let s := if any then s.pcmMaskCheck else s
  if raster || key old != key new then s.srfAfterCommit else s

/-! ### Start-up's last steps (Table 20.7) -/

/-- Step 8: `STATE` = RUN. -/
def State.reachRun (s : State) : State :=
  (({ s with cfg := { s.cfg with lightStep := 0 } }).put F.CFG_STATUS_STATE 5).raise 16 0

/-- Step 7 (FIRST_LIGHT): the front layer is ON, or the image has no `PANEL_ON`. With `BL_ON` the loader writes `BLE_CFG.EN`, which
TG2's next commit point puts in effect; without a running TG2 the loader's own commit does. -/
def State.firstLight (s : State) : State :=
  if s.get F.CFG_STATUS_STATE ≠ 4 ∨ s.cfg.lightStep ≠ 7 ∨ (s.cfg.panelOn && s.panelState .front != 3) then s
  else if !s.cfg.blOn then s.reachRun
  else
    let s := { s with shadow := mput s.shadow R.BLE_CFG (BitVec.ofNat 32 (setBit (s.regW R.BLE_CFG) F.BLE_CFG_EN.lo true)) }
    if (s.run 2).on then { s with cfg := { s.cfg with lightStep := 8 } }
    else (s.within (fun a => engineOfAddr a == 9) fun s => s.commitEngines false).reachRun

/-! ### Frame boundaries -/

/-- How a frame begins: by a jump, by a restart (of a follower, or by `BL_SYNC_IN`), before the planned end of the frame in
progress, as the first frame of a generator that starts. -/
structure FrameEdge where
  jump : Bool := false
  restart : Bool := false
  syncIn : Bool := false
  early : Bool := false
  fresh : Bool := false
  deriving DecidableEq, Repr

/-- The tally that a TG0 boundary cuts (R405, R406). -/
def State.boundaryTally (s : State) : State :=
  let no := s.reg (R.TG_FRAME_NO 0)
  let period := s.get F.TAL_CFG_PERIOD
  let s := if period ≠ 0 ∧ (no + 1) % 2 ^ 32 % period = 0 then s.talRequest 1 else s
  s.talCut no false

/-- What the input link has seen in the TG0 frame that ends (R70, Table 10.1). -/
def State.linkFrame (s : State) : State :=
  let p := s.pil
  { s with pil := { p with
      idleFrames := if s.linkState = 2 ∧ !p.startSeen then p.idleFrames + 1 else 0
      degradedFrames := if s.linkState = 3 then p.degradedFrames + 1 else 0
      startSeen := false } }

/-- The path mode of the frame that begins (R28, R182, Table 1.7); `video` where the link carried a frame of TG0's raster. -/
def State.pathMode (s : State) (video : Bool) : Nat :=
  if s.selfRefresh then 3
  else if s.lockState 0 = 3 ∧ s.tgSrc 0 = 1 ∧ s.linkState = 2 ∧ video ∧ s.get (F.TG_STATUS_STEP 0) = 0 then 1 else 2

/-- Whether the link carries video that TG0 can show in stream mode (R28): a `FRAME_START` came in the TG0 frame that ends, and its frame
has TG0's raster. The spec does not define the words (DESIGN CHOICE, assumption log 122). -/
def State.carriesVideo (s : State) : Bool :=
  s.pil.startSeen && s.pil.prev.any fun f => f.1 == s.snapshot.width 0 && f.2.1 == s.snapshot.lines 0

/-- Whether TG0 places this boundary for the frame whose `FRAME_START` ends self-refresh (R243, Table 7.1): it is the one that the
target of that frame measures. -/
def State.placedFor (s : State) (inst : Nat) : Bool :=
  s.srf.exiting && s.tgSrc 0 == 1 && (s.run 0).fresh
    && (s.run 0).edges.getLast?.any fun e => 2 * ((inst : Int) - s.edgeTarget 0 e).natAbs ≤ s.tgTf 0

/-- Self-refresh at a TG0 boundary (R241, R243, R253): its end, the updates shown, its begin. The result says whether it ended. -/
def State.refreshBoundary (s : State) (placed : Bool) : State × Bool :=
  let ends := s.selfRefresh && s.srf.exiting && (placed || s.srf.exitDue)
  let s := if ends then (let t := s.srfEnd; t.setRun 0 { t.run 0 with same := false }) else s
  let s := s.srfShown
  let s := if !s.selfRefresh && s.causes != 0 then s.srfEntry else s
  (if s.selfRefresh then s.setRun 0 { s.run 0 with same := s.srf.readHeld } else s, ends)

/-- A synchronising reset (R104, R105, R164, R167, R229, R71). -/
def State.syncAll (s : State) : State :=
  let s := if s.domOn 31 then s.splSyncReset.odrSyncReset else { s with spl := { s.spl with syncPending := false } }
  let s := s.bleSyncReset
  { s with pil := { s.pil with haveFront := false } }

/-- What the boundary does before TG0's frame begins: tally cut, step level, dead zones and automatic entries, self-refresh, the
synchronising reset and the path mode. -/
def State.tg0Before (s : State) (e : FrameEdge) (placed : Bool) : State :=
  let video := s.carriesVideo
  let s := if e.fresh then s else s.concealDegraded.tgStep
  let s := s.noteLayout.pcmAuto.splBoundary
  let (s, ends) := s.refreshBoundary placed
  let s := if e.jump || s.spl.syncPending || ends then s.syncAll else s
  let s := s.put F.DEV_PATH_STATUS_MODE (s.pathMode video)
  s.linkFrame

/-- The restarts that commits have asked for fall due at a boundary whose frame the front end had not begun (R91, R164). -/
def State.odrFrame (s : State) (ahead : Bool) : State := if ahead then s else s.odrRenewed

/-- What the boundary does once TG0's frame has begun: the slices, the front layer and the engines' frames. A frame that the front end
began before the boundary keeps the overdrive and dither parameters of then (R91, R168). -/
def State.tg0After (s : State) : State :=
  let p := s.snapshot
  let ahead := s.fe.ahead
  let q := if ahead then s.fe.snap else p
  let s := s.calBoundary
  let s := if 0 < (s.run 0).vactive then s.sliceLine else s
  let s := (((s.pcmBoundary p).odrFrame ahead).odrBoundary q).dthBoundary q
  ({ s with fe := { s.fe with ahead := false } }).adlLineStart

/-- A layer at the boundary of its generator (R186, R205). -/
def State.layerBoundary (s : State) (n : Nat) : State :=
  if n = 0 then ((s.panelBoundary .front).calThaw.adlBoundary 0).firstLight
  else if n = 1 then
    let s := s.slowLayer true
    let s := if (s.run 0).on && !s.endsNow 0 then s.slowCount else s
    let s := ((s.panelBoundary .rear).calThaw).adlBoundary 1
    (s.talCopy 3 (s.talLive 3) false).talPublish
  else s.raise (114 + 4 * n) 0

/-- A boundary of TG2 as the backlight sees it (R210, R211, Table 9.1). -/
def State.bleBoundary (s : State) (e : FrameEdge) : State :=
  let ok := s.flag F.BLE_STATUS_SYNC_IN_OK
  let sync := if s.get F.BLE_SYNC_SRC = 1 then e.syncIn || !ok else e.restart || s.boundarySyncs
  let s := if sync then s.bleSync e.restart else s
  if s.cfg.lightStep = 8 then s.reachRun else s

/-- Sequences that wait for boundaries of generator n (R385): the last one awaited ends the step. -/
def State.waitBoundary (s : State) (n : Nat) : State :=
  s.each [0, 1, 2] fun s p => match s.seqRuns p with
    | [] => s
    | r :: rs =>
      if !r.waiting || r.waitLeft == 0 || r.waitTg != n then s
      else if 1 < r.waitLeft then s.setRuns p ({ r with waitLeft := r.waitLeft - 1 } :: rs)
      else
        let r := { r with waitLeft := 0, waiting := false, words := [], step := r.step + 1 }
        let s := (s.setRuns p (r :: rs)).put (F.SEQ_SLOT_STATUS_NEXT r.slot) (seqNext r.step)
        if r.cancelled then s.seqFinish p 6 r.step else s

/-- A frame of generator n begins at an instant, all commits of that instant being made (R173). -/
def State.beginFrame (s : State) (n inst : Nat) (e : FrameEdge) (placed : Bool) : State :=
  let s := if n = 0 then s.boundaryTally else s
  let s := s.setReg (R.TG_FRAME_NO n) ((s.reg (R.TG_FRAME_NO n) + 1) % 2 ^ 32)
  let s := s.tally (0x6000 + 0x40 * n + 32) 1
  let s := if n = 0 then s.tg0Before e placed else s
  let s := if n = 2 ∧ !e.fresh then s.bleFrameEnd inst e.early else s
  let s := (s.tgFrame n inst).tgLine n
  let s := if n = 0 then s.tg0After else s
  let s := s.layerBoundary n
  let s := if n = 2 then s.bleBoundary e else s
  s.waitBoundary n

/-- A generator stops at an instant (R466, R407). -/
def State.stopGen (s : State) (n inst : Nat) : State :=
  let s := if n = 2 then s.bleFrameEnd inst true else s
  let s := s.tgStop n
  let s := if n = 1 then s.rearApply.slowLayer true else s
  if n = 0 then s.talCut (s.reg (R.TG_FRAME_NO 0)) true else s

/-- The commit at a boundary of generator n (R13, R173). -/
def State.boundaryCommit (s : State) (n : Nat) : State :=
  let mine (a : Nat) : Bool := ownerTg a == some n && !s.skips (engineOfAddr a) none
  s.within mine fun s =>
    let (s, raster) := s.tgCommitRegs n s.tgRejected
    s.commitEngines raster

/-- The end of a generator's frame at an instant (R173, R179, R466): the measurement, the commits, and the next frame; or the
stop, at which no frame boundary occurs. -/
def State.boundary (s : State) (n inst : Nat) (e : FrameEdge) : State :=
  let s := s.advanceTo inst
  if (s.run n).stopPending then s.stopGen n inst else
  let placed := n == 0 && s.placedFor inst
  let (t, err) := if e.jump then (s.tgJump n inst, none) else s.tgMeasure n inst
  let t := t.boundaryCommit n
  if s.flag (F.TG_CFG_EN n) && t.flag (F.TG_CFG_EN n) then ((t.tgTake n inst).tgServoStep n err).beginFrame n inst e placed
  else (s.boundaryCommit n).stopGen n inst

/-- A commit between boundaries (R40, R380, R466): the shadows that a test selects. -/
def State.commitNow (s : State) (mine : Nat → Bool) : State :=
  let inst := s.now
  let was := s
  let s := s.within mine fun s =>
    let bad := s.tgRejected
    let (s, raster) := (List.range 4).foldl (fun (x : State × Bool) n =>
      let (s, raster) := x.1.tgCommitRegs n bad
      (s, x.2 || raster)) (s, false)
    s.commitEngines raster
  s.each (List.range 4) fun s n =>
    let en := s.flag (F.TG_CFG_EN n)
    if (s.run n).on then s.setRun n { s.run n with stopPending := !en }
    else if en && !was.flag (F.TG_CFG_EN n) then (s.tgTake n inst).beginFrame n inst { fresh := true } false
    else s

/-- A write of `DEV_COMMIT` by an agent (R40, R380): a port commits what it owns; the core and the loader commit everything. -/
def State.devCommit (s : State) (ag : Agent) : State :=
  let mine (a : Nat) : Bool := (agentPort ag).all (fun p => s.scopeOf a == p.num) && !s.skips (engineOfAddr a) none
  s.commitNow mine

/-- DEV_COMMIT. -/
def execDevCommit (ag : Agent) (s : State) : Host.Outcome State Fault Refusal :=
  checked (.devCommit ag) s fun s => s.asWrite ag R.DEV_COMMIT fun s => s.devCommit ag

/-! ### The generators' commands -/

/-- TG_FRAME_BOUNDARY (R173): the frame in progress has its planned length. -/
def execTgFrameBoundary (n : Nat) (s : State) : Host.Outcome State Fault Refusal :=
  checked (.tgFrameBoundary n) s fun s =>
    let r := s.run n
    if !r.on || r.line + 1 < r.planned || s.stretches n || r.stopPending then s else s.boundary n (r.lineStart + r.period) {}

/-- LINE_START (R175). -/
def execLineStart (n : Nat) (s : State) : Host.Outcome State Fault Refusal :=
  checked (.lineStart n) s fun s =>
    let s' := s.lineStart n
    let r := s'.run n
    if n = 0 ∧ r.line ≠ (s.run 0).line ∧ r.line < r.vactive then s'.sliceLine else if n = 2 then s'.bleLine else s'

/-- JUMP (R179). -/
def execJump (n : Nat) (s : State) : Host.Outcome State Fault Refusal :=
  checked (.jump n) s fun s =>
    match s.jumpTarget n with
    | some t => s.boundary n t { jump := true, early := decide (t < (s.run n).plannedEnd) }
    | none => s

/-- A follower restarts at a target (R180). -/
def State.restartAt (s : State) (n t : Nat) : State :=
  let r := s.run n
  let s := (s.setRun n { r with targets := r.targets.filter fun x => t < x.2 }).endLine n
  s.boundary n t { restart := true, early := decide (t < r.plannedEnd) }

/-- FOLLOWER_RESTART (R180). -/
def execFollowerRestart (n : Nat) (s : State) : Host.Outcome State Fault Refusal :=
  checked (.followerRestart n) s fun s =>
    match s.restartTarget n with
    | some t => s.restartAt n t
    | none => s

/-- TG_HOLDOVER (R178, Table 7.2). -/
def execTgHoldover (n : Nat) (s : State) : Host.Outcome State Fault Refusal := checked (.tgHoldover n) s fun s => s.tgHoldover n

/-- The generator's next frame boundary, wherever a jump, a restart or the planned length places it (R173, R179, R180). -/
def State.nextBoundary (s : State) (n : Nat) : State :=
  let r := s.run n
  match s.jumpTarget n, s.restartTarget n with
  | some t, _ => s.boundary n t { jump := true, early := decide (t < r.plannedEnd) }
  | none, some t => if t < r.plannedEnd || s.stretches n then s.restartAt n t else s.boundary n r.plannedEnd {}
  | none, none => s.boundary n r.plannedEnd {}

/-- The end of the frame in progress of a generator that is to stop: the instant at which its next frame boundary would fall (R466). -/
def State.stopDue (s : State) (n : Nat) : State :=
  let r := s.run n
  let waits := !s.skips 7 none && (mfind s.shadow (R.TG_CFG n)).any fun w => !w.getLsbD 31
  if r.on && (r.stopPending || waits) then s.nextBoundary n else s

/-- GENERATOR_STOP (R466): at the end of the frame in progress. -/
def execGeneratorStop (n : Nat) (s : State) : Host.Outcome State Fault Refusal := checked (.generatorStop n) s fun s => s.stopDue n

/-- GATE_PULSE_EDGE (R183, R184). -/
def execGatePulseEdge (n sig : Nat) (stop : Bool) (s : State) : Host.Outcome State Fault Refusal :=
  checked (.gatePulseEdge n sig stop) s fun s => s.gateEdge n sig stop

/-- BL_SYNC_IN (R211): an accepted edge restarts TG2's frame; one too early is counted. -/
def State.blSyncIn (s : State) : State :=
  if s.get F.BLE_SYNC_SRC ≠ 1 ∨ !(s.run 2).on ∨ !s.domOn 32 then s
  else if s.ble.syncLast.any fun t => 2 * (s.now - t) < s.tgTf 2 then s.count R.BLE_CNT_SYNC_IGN
  else
    let s := ({ s with ble := { s.ble with syncLast := some s.now } }).putB F.BLE_STATUS_SYNC_IN_OK true
    s.boundary 2 s.now { restart := true, syncIn := true, early := decide (s.now < (s.run 2).plannedEnd) }

/-- BL_SYNC_IN. -/
def execBlSyncIn (s : State) : Host.Outcome State Fault Refusal := checked .blSyncIn s State.blSyncIn

/-- SYNC_RESET (R104): it waits for the next TG0 frame boundary. -/
def State.requestSync (s : State) : State := { s with spl := { s.spl with syncPending := true } }

/-- SYNC_RESET. -/
def execSyncReset (ag : Agent) (s : State) : Host.Outcome State Fault Refusal :=
  checked (.syncReset ag) s fun s => s.asWrite ag R.SPL_CTRL State.requestSync

/-! ### The panel's commands -/

/-- A write of one `ON` bit of `TG_PANEL_CTRL`, the other as it stands. -/
def State.panelBit (s : State) (l : Layer) (on : Bool) : State :=
  s.panelCtrl (setBit (s.reg R.TG_PANEL_CTRL) (layerTg l) on)

/-- PANEL_ON (R186). -/
def execPanelOn (ag : Agent) (l : Layer) (s : State) : Host.Outcome State Fault Refusal :=
  checked (.panelOn ag l) s fun s => s.asWrite ag R.TG_PANEL_CTRL fun s => s.panelBit l true

/-- PANEL_OFF (R186). -/
def execPanelOff (ag : Agent) (l : Layer) (s : State) : Host.Outcome State Fault Refusal :=
  checked (.panelOff ag l) s fun s => s.asWrite ag R.TG_PANEL_CTRL fun s => s.panelBit l false

/-- ON_DELAY_ELAPSED (Table 7.5). -/
def execOnDelayElapsed (k : Nat) (s : State) : Host.Outcome State Fault Refusal := checked (.onDelayElapsed k) s fun s => s.onDelay k

/-- GATE_DELAY_ELAPSED (Table 7.5). -/
def execGateDelayElapsed (l : Layer) (s : State) : Host.Outcome State Fault Refusal :=
  checked (.gateDelayElapsed l) s fun s => s.gateDelay l

/-- PANEL_ENABLE_RELEASE (Table 7.6). -/
def execPanelEnableRelease (l : Layer) (k : Option Nat) (s : State) : Host.Outcome State Fault Refusal :=
  checked (.panelEnableRelease l k) s fun s => s.panelRelease l k

/-- GATE_SHORT (R185, R388, Table 16.7): two samples of a driven pad differ from its level. -/
def State.gateShort (s : State) (l : Layer) (sig : Nat) : State :=
  if (s.padLevel l sig).isNone then s else ((s.gateShorted l sig).calGateShort l).preempt

/-- GATE_SHORT. -/
def execGateShort (l : Layer) (sig : Nat) (s : State) : Host.Outcome State Fault Refusal :=
  checked (.gateShort l sig) s fun s => s.gateShort l sig

end Sys2Proof.Machine
end

