-- ==== Sys2Proof/Machine/Sign.lean ====
section
/-! DEFINITION. SHA-256 and the check of an ECDSA signature over P-256, which R420 names for images. The spec gives neither
algorithm; both are taken from their public standards (PRESUMED, assumption log 11). -/

namespace Sys2Proof.Machine

/-! ### SHA-256 -/

/-- The greatest r below 2^b above a part already found with r^e at most n: the root of n, bit by bit from the top. -/
def floorRoot (e n : Nat) : Nat → Nat → Nat
  | 0, r => r
  | b + 1, r => floorRoot e n b (if (r + 2 ^ b) ^ e ≤ n then r + 2 ^ b else r)

/-- The primes below a bound of at most 324. -/
def primesBelow (n : Nat) : List Nat :=
  ((List.range n).drop 2).filter fun p => ((List.range 18).drop 2).all fun d => p < d * d || p % d != 0

/-- The first 32 bits of the fraction of the e-th root of p, the way the standard makes its constants. -/
def rootFraction (e p : Nat) : Nat := floorRoot e (p * 2 ^ (32 * e)) 35 0 % 2 ^ 32

/-- The round constants: the cube roots of the first 64 primes. -/
def shaK : List Nat := (primesBelow 312).map (rootFraction 3)

/-- The initial hash value: the square roots of the first eight primes. -/
def shaInit : List Nat := (primesBelow 20).map (rootFraction 2)

/-- A rotation of a 32-bit word to the right. -/
def rotr (n x : Nat) : Nat := x / 2 ^ n + x % 2 ^ n * 2 ^ (32 - n)

/-- Three rotations joined by exclusive or; the last a plain shift where `shift` says so. -/
def shaMix (a b c : Nat) (shift : Bool) (x : Nat) : Nat :=
  Nat.xor (Nat.xor (rotr a x) (rotr b x)) (if shift then x / 2 ^ c else rotr c x)

/-- The message schedule, newest word first, extended by n words. -/
def shaSchedule : Nat → List Nat → List Nat
  | 0, w => w
  | n + 1, w =>
    let v := (shaMix 17 19 10 true (w.getD 1 0) + w.getD 6 0 + shaMix 7 18 3 true (w.getD 14 0) + w.getD 15 0) % 2 ^ 32
    shaSchedule n (v :: w)

/-- One round. -/
def shaRound (h : List Nat) (kw : Nat × Nat) : List Nat :=
  match h with
  | [a, b, c, d, e, f, g, hh] =>
    let ch := Nat.xor (Nat.land e f) (Nat.land (0xFFFFFFFF - e) g)
    let t1 := hh + shaMix 6 11 25 false e + ch + kw.1 + kw.2
    let maj := Nat.xor (Nat.xor (Nat.land a b) (Nat.land a c)) (Nat.land b c)
    [(t1 + shaMix 2 13 22 false a + maj) % 2 ^ 32, a, b, c, (d + t1) % 2 ^ 32, e, f, g]
  | _ => h

/-- One block of 64 bytes. -/
def shaBlock (h : List Nat) (block : List Byte) : List Nat :=
  let w := (shaSchedule 48 ((List.range 16).map fun i => beNat (slice block (4 * i) 4)).reverse).reverse
  ((shaK.zip w).foldl shaRound h).zipWith (fun a b => (a + b) % 2 ^ 32) h

/-- The blocks of a padded message. -/
def shaBlocks : Nat → List Byte → List Nat → List Nat
  | 0, _, h => h
  | n + 1, bs, h => shaBlocks n (bs.drop 64) (shaBlock h (bs.take 64))

/-- SHA-256 of bytes, as a number. -/
def sha256 (bs : List Byte) : Nat :=
  let pad := (119 - bs.length % 64) % 64
  let msg := bs ++ [0x80] ++ List.replicate pad 0 ++ beBytes 8 (8 * bs.length)
  (shaBlocks (msg.length / 64) msg shaInit).foldl (fun a w => a * 2 ^ 32 + w) 0

/-! ### P-256 -/

/-- The prime of the field. -/
def p256 : Nat := 0xffffffff00000001000000000000000000000000ffffffffffffffffffffffff
/-- The order of the group. -/
def n256 : Nat := 0xffffffff00000000ffffffffffffffffbce6faada7179e84f3b9cac2fc632551
/-- The coefficient b of the curve; a is −3. -/
def b256 : Nat := 0x5ac635d8aa3a93e7b3ebbd55769886bc651d06b0cc53b0f63bce3c3e27d2604b
/-- The base point. -/
def g256 : Nat × Nat := (0x6b17d1f2e12c4247f8bce6e563a440f277037d812deb33a0f4a13945d898c296,
  0x4fe342e2fe1a7f9b8ee7eb4a7c0f9e162bce33576b315ececbb6406837bf51f5)

/-- The power b^e modulo m, over at most n bits of e. -/
def powMod (m : Nat) : Nat → Nat → Nat → Nat
  | 0, _, _ => 1 % m
  | n + 1, b, e => (if e % 2 = 1 then b else 1) * powMod m n (b * b % m) (e / 2) % m

/-- The inverse modulo a prime of 256 bits. -/
def invMod (m a : Nat) : Nat := powMod m 256 (a % m) (m - 2)

/-- The sum of two points; `none` is the point at infinity. -/
def ecAdd (u v : Option (Nat × Nat)) : Option (Nat × Nat) :=
  match u, v with
  | none, v => v
  | u, none => u
  | some (x1, y1), some (x2, y2) =>
    if x1 = x2 ∧ (y1 + y2) % p256 = 0 then none
    else
      let k := if x1 = x2 then (3 * x1 * x1 + (p256 - 3)) * invMod p256 (2 * y1) % p256
        else (y2 + (p256 - y1)) * invMod p256 (x2 + (p256 - x1)) % p256
      let x := (k * k + (p256 - x1) + (p256 - x2)) % p256
      some (x, (k * (x1 + (p256 - x)) + (p256 - y1)) % p256)

/-- A multiple of a point, over at most n bits of the factor. -/
def ecMul : Nat → Nat → Option (Nat × Nat) → Option (Nat × Nat)
  | 0, _, _ => none
  | n + 1, k, q => ecAdd (if k % 2 = 1 then q else none) (ecMul n (k / 2) (ecAdd q q))

/-- Whether a signature (r, s) of a digest verifies with the public key (x, y). -/
def ecdsaVerify (digest x y r s : Nat) : Bool :=
  let onCurve := x < p256 && y < p256 && y * y % p256 == (x * x * x + (p256 - 3) * x + b256) % p256
  let range := 1 ≤ r && r < n256 && 1 ≤ s && s < n256
  let w := invMod n256 s
  match ecAdd (ecMul 256 (digest * w % n256) (some g256)) (ecMul 256 (r * w % n256) (some (x, y))) with
  | none => false
  | some (px, _) => onCurve && range && px % n256 == r

end Sys2Proof.Machine
end

