-- ==== Sys2Proof/Machine/Startup.lean ====
section
/-! DEFINITION. Start-up up to the choice of an image, the image format, the life-cycle, the fuses and the NVM jobs (chapter 20).
Applying an image stands in Image.lean. -/

namespace Sys2Proof.Machine

/-! ### Life-cycle and fuses (R430 to R432) -/

/-- `CFG_LC.STATE`: a state is entered when a bit of it is burnt (R431): 0 BLANK, 1 FACTORY, 2 DEPLOYED, 3 RMA. -/
def Fuses.state (f : Fuses) : Nat := if f.rma then 3 else if f.deployed then 2 else if f.factory then 1 else 0

/-- The fuses as the `CFG` registers show them. -/
def State.showFuses (s : State) : State :=
  let f := s.cfg.fuses
  let s := ((s.put F.CFG_LC_STATE f.state).putB F.CFG_FUSE_BURNED f.burned).putB F.CFG_FUSE_SIGN_REQ f.signReq
  s.each (List.range 8) fun s i => s.setReg (R.CFG_KEYHASH i) (f.keyHash.getD i 0#32).toNat

/-- The transitions that R431 allows. -/
def lcAllowed (fr to' : Nat) : Bool := (fr == 0 && to' == 1) || (fr == 1 && (to' == 2 || to' == 3)) || (fr == 2 && to' == 3)

/-- A write of `CFG_LC_CMD` (R431). -/
def State.lcCmd (s : State) (v : Nat) : State :=
  let t := v % 4
  if v / 65536 ≠ 0x4C43 ∨ !lcAllowed s.cfg.fuses.state t then s.refuseWord
  else
    let s := s.wipe 1
    let f := s.cfg.fuses
    let f := { f with factory := f.factory || t == 1, deployed := f.deployed || t == 2, rma := f.rma || t == 3 }
    (({ s with cfg := { s.cfg with fuses := f } }).raise 22 0).coldStart 4

/-- LC_CMD. -/
def execLcCmd (ag : Agent) (v : Word) (s : State) : Host.Outcome State Fault Refusal :=
  checked (.lcCmd ag v) s fun s => s.asWrite ag R.CFG_LC_CMD fun s => s.lcCmd v.toNat

/-- A write of `CFG_CTRL.BURN` with the code (R432). -/
def State.burnFuses (s : State) : State :=
  let f := s.cfg.fuses
  if f.burned ∨ 2 ≤ f.state then s.refuseWord
  else
    let f := { f with burned := true, signReq := s.flag F.CFG_FUSE_SIGN_REQ
                      keyHash := (List.range 8).map fun i => BitVec.ofNat 32 (s.reg (R.CFG_KEYHASH i)) }
    ({ s with cfg := { s.cfg with fuses := f } }).showFuses

/-- A write of `CFG_CTRL.CLEAR_BOR` (R433). -/
def State.clearBor (s : State) : State :=
  ({ s with cfg := { s.cfg with borLatch := false } }).putB F.CFG_STATUS_BOR_LP false

/-- A write of `CFG_CTRL` (Table 20.10): `BURN` and `RESTART` need the code. -/
def State.cfgCtrl (s : State) (v : Nat) : State :=
  let s := if bitAt v 2 then s.clearBor else s
  let s := if bitAt v 1 && v / 65536 == 0x4C43 then s.burnFuses else s
  if bitAt v 0 && v / 65536 == 0x4C43 then s.coldStart 3 else s

/-- BURN. -/
def execBurn (ag : Agent) (code : BitVec 16) (s : State) : Host.Outcome State Fault Refusal :=
  checked (.burn ag code) s fun s => s.asWrite ag R.CFG_CTRL fun s => s.cfgCtrl (code.toNat * 65536 + 2)

/-- CFG_RESTART. -/
def execCfgRestart (ag : Agent) (code : BitVec 16) (s : State) : Host.Outcome State Fault Refusal :=
  checked (.cfgRestart ag code) s fun s => s.asWrite ag R.CFG_CTRL fun s => s.cfgCtrl (code.toNat * 65536 + 1)

/-- CLEAR_BOR. -/
def execClearBor (ag : Agent) (s : State) : Host.Outcome State Fault Refusal :=
  checked (.clearBor ag) s fun s => s.asWrite ag R.CFG_CTRL fun s => s.cfgCtrl 4

/-- RESETN (R433). -/
def execResetn (s : State) : Host.Outcome State Fault Refusal := checked .resetn s fun s => s.coldStart 1

/-! ### Steps 1 and 2 (Table 20.7) -/

/-- AON_POR_RELEASE: the straps of HP2 are sampled (R377) and the levels of the pad banks sensed (R454), and a start with `BOR_LP`
says so (R433). -/
def State.porRelease (s : State) (straps : BitVec 2) (banks : BitVec 5) : State :=
  if s.get F.CFG_STATUS_STATE ≠ 0 then s
  else
    let s := { s with cfg := { s.cfg with hp2Addr := straps.toNat }, pwr := { s.pwr with padBanks := banks.toNat } }
    let s := s.putB F.CFG_STATUS_BOR_LP s.cfg.borLatch
    s.raiseIf s.cfg.borLatch 23 0

/-- AON_POR_RELEASE. -/
def execAonPorRelease (straps : BitVec 2) (banks : BitVec 5) (s : State) : Host.Outcome State Fault Refusal :=
  checked (.aonPorRelease straps banks) s fun s => s.porRelease straps banks

/-- FUSES_LOADED: with the core rails above their thresholds (R441) the fuses load, `MGT` reads ON and the core starts. -/
def State.fusesLoaded (s : State) : State :=
  if s.get F.CFG_STATUS_STATE ≠ 0 then s
  else
    let s := (s.setPwr { s.pwr with railsGood := 31 }).showFuses
    let s := ((s.put (F.PWR_DOM_STATE 1) 2).put F.CFG_STATUS_STATE 1).raise 6 0
    s.coreStart 0

/-- FUSES_LOADED. -/
def execFusesLoaded (s : State) : Host.Outcome State Fault Refusal := checked .fusesLoaded s State.fusesLoaded

/-! ### The image format (R418 to R421) -/

/-- A section of an image: the fields of Table 20.3 and the offset of its payload in the slot. -/
structure ImageSection where
  typ : Nat
  comp : Nat
  stored : Nat
  target : Nat
  expanded : Nat
  off : Nat
  deriving DecidableEq, Repr

/-- NVM offset of an image slot (Table 20.1). -/
def slotBase (slot : Nat) : Nat := slot * 0x1000000

/-- A field of n bytes of the image in a slot. -/
def State.imgNat (s : State) (slot off n : Nat) : Nat := beNat (s.nvBytes (slotBase slot + off) n)

/-- The header's `LENGTH`, `SEQ` and `SECTIONS`. -/
def State.imgLength (s : State) (slot : Nat) : Nat := s.imgNat slot 8 4
def State.imgSeq (s : State) (slot : Nat) : Nat := s.imgNat slot 12 4
def State.imgCount (s : State) (slot : Nat) : Nat := s.imgNat slot 16 4

/-- The n sections from an offset on and the offset after them; `none` where one passes a limit or is longer than 16 MiB. -/
def State.imgSections (s : State) (slot limit : Nat) : Nat → Nat → Option (List ImageSection × Nat)
  | 0, off => some ([], off)
  | n + 1, off =>
    let stored := s.imgNat slot (off + 4) 4
    let expanded := s.imgNat slot (off + 12) 4
    let next := off + 16 + (stored + 3) / 4 * 4
    if limit < next ∨ 0x1000000 < stored ∨ 0x1000000 < expanded then none
    else
      let c : ImageSection := ⟨s.imgNat slot off 1, s.imgNat slot (off + 1) 1, stored, s.imgNat slot (off + 8) 4, expanded, off + 16⟩
      (s.imgSections slot limit n next).map fun r => (c :: r.1, r.2)

/-- The chain of sections of an image, where it ends exactly before the check word. -/
def State.imgChain (s : State) (slot : Nat) : Option (List ImageSection) :=
  let limit := s.imgLength slot - 4
  if 1022 < s.imgCount slot then none
  else match s.imgSections slot limit (s.imgCount slot) 32 with
    | some (l, fin) => if fin = limit then some l else none
    | none => none

/-- The first failure of a header (checks 0x2 and 0x3 of Table 20.5); 0 where it passes. -/
def State.headerReason (s : State) (slot : Nat) : Nat :=
  let h := s.nvBytes (slotBase slot) 32
  let flags := beNat (slice h 6 2)
  let len := beNat (slice h 8 4)
  if h.take 4 != [0x53, 0x4B, 0x53, 0x49] || beNat (slice h 4 2) != 1 || flags / 8 != 0 || flags % 2 != 0 || (h.drop 21).any (· != 0)
  then 2
  else if len % 4 ≠ 0 ∨ len < 36 ∨ 0x1000000 < len then 3
  else 0

/-- Check 0x5: reserved values, a SIG section that is not last, a second PATCH. -/
def sectionsBad (l : List ImageSection) : Bool :=
  l.any (fun c => c.typ == 0 || 7 ≤ c.typ || 2 ≤ c.comp || (c.typ == 6 && c.comp != 0))
    || l.dropLast.any (fun c => c.typ == 6) || 2 ≤ (l.filter fun c => c.typ == 4).length

/-- The key hash in the fuses as one number (R420). -/
def Fuses.hash (f : Fuses) : Nat := (List.range 8).foldl (fun a i => a * 2 ^ 32 + (f.keyHash.getD i 0#32).toNat) 0

/-- `CFG_STATUS.SIG` of an image (R420, R422): 0 no SIG, 1 trusted, 2 verified only, 3 does not verify. -/
def State.sigResult (s : State) (slot : Nat) (l : List ImageSection) : Nat :=
  match l.getLast? with
  | none => 0
  | some c =>
    if c.typ ≠ 6 then 0
    else if c.stored ≠ 128 then 3
    else
      let p := s.nvBytes (slotBase slot + c.off) 128
      let n (i : Nat) : Nat := beNat (slice p (32 * i) 32)
      if !ecdsaVerify (sha256 (s.nvBytes (slotBase slot) c.off)) (n 0) (n 1) (n 2) (n 3) then 3
      else if sha256 (p.take 64) = s.cfg.fuses.hash then 1 else 2

/-- The check word as stored and as computed (R421). -/
def State.imgCrc (s : State) (slot : Nat) : Nat := crc32c (s.nvBytes (slotBase slot) (s.imgLength slot - 4))
def State.imgCheck (s : State) (slot : Nat) : Nat := s.imgNat slot (s.imgLength slot - 4) 4

/-- Whether a cut program job has left a slot torn (R434). -/
def State.slotTorn (s : State) (slot : Nat) : Bool := s.nvmTorn.any fun b => b / 0x1000 == slot

/-- The reason code of a slot (Table 20.5), and its signature's result where the checks reach it. A torn slot fails check 0x6 (R434),
whatever its header holds (DEDUCED, assumption log 136). -/
def State.imageReason (s : State) (slot : Nat) : Nat × Option Nat :=
  let h := s.headerReason slot
  if s.slotTorn slot then (6, none)
  else if h ≠ 0 then (h, none)
  else match s.imgChain slot with
    | none => (4, none)
    | some l =>
      if sectionsBad l then (5, none)
      else if s.imgCrc slot ≠ s.imgCheck slot then (6, none)
      else if s.get F.MGT_STATUS_ROM < s.imgNat slot 20 1 then (7, none)
      else
        let g := s.sigResult slot l
        let enforced := s.cfg.fuses.state == 2 && s.cfg.fuses.signReq
        (if !enforced then 0 else if g = 0 then 8 else if g = 3 then 9 else if g = 2 then 10 else 0, some g)

/-! ### Step 3: selection (R422, R423, R427) -/

/-- `REASON_A` or `REASON_B`. -/
def slotReason (slot : Nat) : FRef := if slot = 0 then F.CFG_STATUS_REASON_A else F.CFG_STATUS_REASON_B

/-- Check a slot in full and show what was found. -/
def State.checkSlot (s : State) (slot : Nat) : State :=
  let (r, g) := s.imageReason slot
  let s := s.put (slotReason slot) r
  match g with
  | some g => (s.put F.CFG_STATUS_SIG g).raiseIf (g == 2 || g == 3) 20 0
  | none => s

/-- Factory defaults (R427). -/
def State.factoryDefaults (s : State) : State :=
  let s := { s with cfg := { s.cfg with selected := none, candidates := [], lightStep := 0, panelOn := false, blOn := false } }
  let s := ((s.putB F.CFG_STATUS_DEFAULTED true).put F.CFG_STATUS_SLOT 3).setReg R.CFG_IMAGE_SEQ 0
  (s.put F.CFG_STATUS_STATE 5).raise 17 3

/-- Step 3 of R423 over the candidates left: the first that is valid is applied next. -/
def State.selectImage : List Nat → State → State
  | [], s => s.factoryDefaults
  | slot :: rest, s =>
    let s := s.checkSlot slot
    if s.get (slotReason slot) = 0 then
      let cfg : CfgState := { s.cfg with selected := some slot, candidates := rest, imageCrc := s.imgCrc slot, trusted := s.get F.CFG_STATUS_SIG == 1 }
      let s : State := { s with cfg := cfg, fst := { s.fst with wipedInApply := false } }
      let other := s.get (slotReason (1 - slot))
      (s.put F.CFG_STATUS_STATE 3).raiseIf (other != 0 && other != 1) 18 2
    else State.selectImage rest s

/-- IMAGE_VERIFY (R416, R423): the port runs as the device's JESD216 table declares. -/
def State.imageVerify (s : State) : State :=
  if s.get F.CFG_STATUS_STATE ≠ 1 then s
  else
    let s := s.putB F.CFG_NV_STATUS_OCTAL (s.nvmDevice == .octal)
    let s := s.put F.CFG_STATUS_STATE 2
    let bad := [0, 1].filter fun k => s.headerReason k != 0 && !s.slotTorn k
    let s := s.each bad fun s k => s.put (slotReason k) (s.headerReason k)
    let l := [0, 1].filter fun k => !bad.contains k
    State.selectImage (if l.length = 2 ∧ s.imgSeq 0 < s.imgSeq 1 then [1, 0] else l) s

/-- IMAGE_VERIFY. -/
def execImageVerify (s : State) : Host.Outcome State Fault Refusal := checked .imageVerify s State.imageVerify

/-! ### NVM jobs (R434) -/

/-- The port whose folds a job of an agent uses: its own, or that of the owner of `CFG`. -/
def State.cfgPort (s : State) (ag : Agent) : Option Port :=
  match ag with
  | .host p => some p
  | _ => Port.ofNum (s.engineOwner 21)

/-- Whether a program range lies in one image slot that is not in use. -/
def State.freeSlotRange (s : State) (addr n : Nat) : Bool :=
  [0, 1].any fun k => s.get F.CFG_STATUS_SLOT != k && slotBase k ≤ addr && addr + n ≤ slotBase (k + 1)

/-- A write of `CFG_NV_CMD` (R434). -/
def State.nvJob (s : State) (ag : Agent) (v : Nat) : State :=
  let op := v % 4
  let addr := s.reg R.CFG_NV_ADDR
  let buf := s.reg R.CFG_NV_BUF
  let len := s.reg R.CFG_NV_LEN
  match s.cfgPort ag with
  | none => s.refuseWord
  | some p =>
    let ok := s.cfg.job.isNone && (op == 1 || op == 2) && 1 ≤ len && len ≤ 0x1000000 && addr + len ≤ 0x4000000 && s.hostRange p buf len
      && (op == 1 || (addr % 4096 == 0 && len % 4096 == 0 && s.freeSlotRange addr len))
    if !ok then s.refuseWord
    else
      let s := { s with cfg := { s.cfg with job := some ⟨op == 2, addr, buf, len, p⟩ } }
      ((s.putB F.CFG_NV_STATUS_BUSY true).put F.CFG_NV_STATUS_RESULT 0).put F.CFG_NV_STATUS_DONE 0

/-- NV_READ. -/
def execNvRead (ag : Agent) (s : State) : Host.Outcome State Fault Refusal :=
  checked (.nvRead ag) s fun s => s.asWrite ag R.CFG_NV_CMD fun s => s.nvJob ag 1

/-- NV_PROGRAM. -/
def execNvProgram (ag : Agent) (s : State) : Host.Outcome State Fault Refusal :=
  checked (.nvProgram ag) s fun s => s.asWrite ag R.CFG_NV_CMD fun s => s.nvJob ag 2

/-- A job ends with a result and the bytes it completed. -/
def State.nvEnds (s : State) (result done : Nat) : State :=
  let s := { s with cfg := { s.cfg with job := none } }
  (((s.putB F.CFG_NV_STATUS_BUSY false).put F.CFG_NV_STATUS_RESULT result).put F.CFG_NV_STATUS_DONE (min 0xFFFFFF done)).raise 21 0

/-- A program job has programmed bytes and read them back: no block of theirs is torn any more. -/
def State.nvProgram (s : State) (addr : Nat) (bs : List Byte) : State :=
  { s.nvStore addr bs with nvmTorn := s.nvmTorn.filter fun b => !(nvBlocks addr bs.length).contains b }

/-- CFG_NV_DONE (R434), once no fold of the job waits (R265, R273). `ecc` are the words of the folds that a PROGRAM reads and whose
check fails; the job reads as the core does (DEDUCED, assumption log 134). -/
def State.nvDone (s : State) (ecc : EccMap) (deviceOk verifyOk : Bool) : State :=
  match s.cfg.job with
  | none => s
  | some j =>
    let folds := foldsIn j.buf j.len
    if folds.any (s.hostWaits j.port) then s
    else if !deviceOk || s.nvmDevice == .absent then s.nvEnds 3 0
    else if !j.program then
      (if !s.hostRange j.port j.buf j.len then (s.count R.FST_CNT_FOREIGN).nvEnds 2 0
       else if folds.any fun nn => !s.foldOn nn then (s.count R.FST_CNT_OFF_ACCESS).nvEnds 2 0
       else (s.foldWrite j.buf (s.nvBytes j.addr j.len)).nvEnds 0 j.len)
    else
      let r := s.dmaRead j.buf j.len ecc 0
      let s := r.2
      if !r.1 then (s.putB F.FST_FLAGS_UE true).nvEnds 2 0
      else
        let s := s.logAdd 1252 1
        if verifyOk then (s.nvProgram j.addr (memBytes s.fst.mem j.buf j.len)).nvEnds 0 j.len
        else (s.nvTorn j.addr j.len).nvEnds 1 j.len

/-- CFG_NV_DONE. -/
def execCfgNvDone (ecc : EccMap) (deviceOk verifyOk : Bool) (s : State) : Host.Outcome State Fault Refusal :=
  checked (.cfgNvDone ecc deviceOk verifyOk) s fun s => s.nvDone ecc deviceOk verifyOk

end Sys2Proof.Machine
end

