-- ==== Sys2Proof/Machine/Tally.lean ====
section
/-! DEFINITION. The commands of the tallies (R405 to R409). The log's commands stand in LogOps.lean. -/

namespace Sys2Proof.Machine

/-- A write of `TAL_CTRL.TALLY` (R405). -/
def State.tallyNow (s : State) : State := (s.talRequest 0).talStoppedCut

/-- TALLY. -/
def execTally (ag : Agent) (s : State) : Host.Outcome State Fault Refusal :=
  checked (.tally ag) s fun s => s.asWrite ag R.TAL_CTRL State.tallyNow

/-- TIMED_COPY (R407): one frame period after the cut; a request that waited for it while TG0 is stopped is cut. -/
def execTimedCopy (s : State) : Host.Outcome State Fault Refusal :=
  checked .timedCopy s fun s => s.talTimed.talStoppedCut

/-- A write of `TAL_BANKb_HOLD` (R409). With the hold's end a fill of that bank goes on: with TG0 stopped its units copy at once. -/
def State.bankHold (s : State) (b v : Nat) : State :=
  let s := s.putB (F.TAL_BANK_HOLD_HOLD b) (bitAt v 0)
  if bitAt v 0 then s
  else (if (s.run 0).on then s.talPublish else s.talTimed).talStoppedCut

end Sys2Proof.Machine
end

