-- ==== Sys2Proof/Machine/Fabric.lean ====
section
/-! DEFINITION. The register fabric (R12 to R18, R367 to R373): what a write of a word does, and write transactions. -/

namespace Sys2Proof.Machine

/-! ### One word of the register space -/

/-- A write of `DEV_OWN_*` or of `DEV_COMMIT` (R381, R40). -/
def State.devWord (s : State) (ag : Agent) (a v : Nat) : State :=
  if a = R.DEV_COMMIT then (if bitAt v 0 then s.devCommit ag else s)
  else if a = R.DEV_OWN_CTRL then
    ((if bitAt v 0 then (s.putB F.DEV_OWN_CTRL_LOCK true).putB F.DEV_STATUS_OWN_LOCKED true else s).raise 48 0)
  else if !isOwnReg a then s
  else
    let t := (s.setReg a (Nat.land v (keptBits a))).raise 48 0
    let changed := upTo 24 fun e => s.engineOwner e != t.engineOwner e
    t.each changed fun s e => s.endHolds e

/-- A write of a pair of gate edges (R184). -/
def State.edgeWord (s : State) (n a v : Nat) : State :=
  if bits v 27 16 < bits v 11 0 ∧ s.getW (F.TG_CFG_WRAP_EN n) = 0 then (s.putB (F.TG_STATUS_PAIR_REJECTED n) true).refuseWord
  else { s.putB (F.TG_STATUS_PAIR_REJECTED n) false with shadow := mput s.shadow a (BitVec.ofNat 32 (Nat.land v (keptBits a))) }

/-- A gate register: of TG2 and TG3, which drive no gates, none exists. -/
def gateReg (a : Nat) : Bool := a / 0x4000 == 7 && a < 0x1D000 && 0x100 ≤ (a - 0x1C000) % 0x400

/-- A write without a rule of its own: to the shadow of an RWS register, else to the writable bits, clearing W1C bits that hardware
does not set in that cycle (R12, R13, R15). -/
def State.plainWord (s : State) (a v : Nat) : State :=
  match regDef? a with
  | none => s
  | some d =>
    if !goodWord a (Nat.land v d.w) then s.refuseWord
    else if d.rws then { s with shadow := mput s.shadow a (BitVec.ofNat 32 (Nat.land v d.w)) }
    else
      let old := s.reg a
      let keep := Nat.land old (0xFFFFFFFF - d.w)
      s.setReg a (Nat.lor (Nat.land keep (0xFFFFFFFF - (if s.sameCycle then 0 else Nat.land v d.w1c))) (Nat.land v d.w))

/-- A write of a `BLE` register with an effect of its own. -/
def State.bleWord (s : State) (a v : Nat) : State :=
  if a = R.BLE_CTRL then
    let s := if bitAt v 0 then s.bleSwap else s
    let s := if bitAt v 1 then s.loopTestAll else s
    if bitAt v 2 then s.clearDead else s
  else if a = R.BLE_SNS_CMD then s.snsCmd v
  else s.plainWord a v

/-- A write of an `SRF` register. -/
def State.srfWord (s : State) (a v : Nat) : State :=
  if a = R.SRF_CTRL then s.srfCtrl v
  else match unitAt (R.SRF_RS_CFG 0) 16 0x20 a, unitAt (R.SRF_RS_CMD 0) 16 0x20 a with
    | some ss, _ => s.slotConfig ss v
    | none, some ss => if bitAt v 0 then s.hostCommit ss (s.slotOwner ss) else s
    | none, none => s.plainWord a v

/-- A write of a `CPR` register (R290, R295). -/
def State.cprWord (s : State) (a v : Nat) : State :=
  if a < 0x30040 ∨ 0x30140 ≤ a then s.plainWord a v
  else
    let r := (a - 0x30040) / 0x40
    if a = R.CPR_RING_BASE r ∨ a = R.CPR_RING_SIZE r then s.ringSetup r a v
    else if a = R.CPR_RING_TAIL r then s.ringTail r v
    else if a = R.CPR_RING_CTRL r then s.ringCtrl r v
    else s

/-- A write of an `LNS` register (R304 to R311). -/
def State.lnsWord (s : State) (a v : Nat) : State :=
  if R.LNS_CFG ≤ a then s.plainWord a v
  else
    let l := (a - 0x34000) / 0x40
    if a = R.LNS_LANE_CFG l then s.laneConfig l v
    else if a = R.LNS_LANE_TX l then s.laneTx l v
    else if a = R.LNS_LANE_RX l then s.laneRx l v
    else if a = R.LNS_LANE_SCAN l then s.scanWord l v
    else if a = R.LNS_LANE_SLIP l then (if bitAt v 0 then s.slipWord l else s)
    else s

/-- A write of an `HTM` register (R316 to R327). -/
def State.htmWord (s : State) (a v : Nat) : State :=
  if a = R.HTM_CFG then s.htmConfig v
  else if a = R.HTM_STEP_NS then s.stepWord v
  else if a = R.HTM_PPS_TOD_HI then s.todWord v
  else if a = R.HTM_MDIO then s.mdioWord v
  else s.plainWord a v

/-- A write of an `MGT` register (R352 to R360). -/
def State.mgtWord (s : State) (a v : Nat) : State :=
  if a = R.MGT_CTRL then s.mgtCtrl v
  else if a = R.MGT_DOG then s.dogWrite v
  else if a = R.MGT_AVS_CFG then s.avsConfig v
  else if a = R.MGT_AVS_LIMITS then s.avsLimits v
  else match unitAt (R.MGT_MB_CMD 0) 3 0x20 a with
    | some n => s.mbSubmit n v
    | none => s.plainWord a v

/-- A write of a `CFG` register (R431 to R434): the fuse registers ignore writes once burnt. -/
def State.cfgWord (s : State) (ag : Agent) (a v : Nat) : State :=
  if a = R.CFG_CTRL then s.cfgCtrl v
  else if a = R.CFG_LC_CMD then s.lcCmd v
  else if a = R.CFG_NV_CMD then s.nvJob ag v
  else if (a = R.CFG_FUSE || isUnit (R.CFG_KEYHASH 0) 8 4 a) && s.cfg.fuses.burned then s
  else s.plainWord a v

/-- What an accepted write of a whole word of the register space does (R12, R18). -/
def State.applyWord (s : State) (ag : Agent) (a v : Nat) : State :=
  match a / 0x4000 with
  | 0 => if a = R.DEV_OWN_ENG0 ∧ !goodWord a v then s.refuseWord else s.devWord ag a v
  | 1 => if a = R.PIL_CFG then s.pilConfig v else s
  | 3 => if a = R.SPL_CTRL then (if bitAt v 0 then s.requestSync else s) else s.plainWord a v
  | 7 =>
    if a = R.TG_PANEL_CTRL then s.panelCtrl v
    else if !gateReg a then s.plainWord a v
    else
      let n := (a - 0x1C000) / 0x400
      if 2 ≤ n then s else if a % 0x10 = 0 then s.edgeWord n a v else s.plainWord a v
  | 9 => s.bleWord a v
  | 10 => s.srfWord a v
  | 11 => match unitAt (R.FST_FOLD_OWNER 0) 64 0x40 a with
    | some nn => s.ownerWord nn v
    | none => s.plainWord a v
  | 12 => s.cprWord a v
  | 13 => s.lnsWord a v
  | 14 => s.htmWord a v
  | 15 => if a = R.CAL_REQ then s.calRequest v else s.plainWord a v
  | 16 => s.mgtWord a v
  | 18 => match unitAt (R.SEQ_SLOT_CTRL 0) 8 0x20 a with
    | some ss => s.seqCtrl ag ss v
    | none => s.plainWord a v
  | 19 => match unitAt (R.EVT_SRC_CFG 0) 512 4 a, unitAt (R.EVT_H_CFG 0) 3 0x20 a with
    | some src, _ => s.srcConfig src v
    | none, some n => s.targetConfig n v
    | none, none => s
  | 20 =>
    if a = R.TAL_CTRL then (if bitAt v 0 then s.tallyNow else s)
    else match unitAt (R.TAL_BANK_HOLD 0) 2 4 a with
      | some b => s.bankHold b v
      | none => s.plainWord a v
  | 21 => s.cfgWord ag a v
  | 22 => match unitAt (R.PWR_DOM 0) 100 4 a with
    | some dd => s.domainRequest dd (v % 4)
    | none => s.plainWord a v
  | _ => s.plainWord a v

/-! ### The table window -/

/-- The smallest write unit of a table word (R89, R168, R144, R212). -/
def tableUnit (a : Nat) : Nat :=
  match tblEngine a with
  | some 2 => 2
  | some 3 => 2
  | some 5 => 2
  | some 6 => 1
  | some 9 => if 0x340000 ≤ a ∧ a < 0x342000 then 2 else 4
  | _ => 4

/-- Whether a byte of the table window belongs to an entry that a write reaches (Tables 3.3, 4.9, 5.6, 6.2, 9.8). -/
def tblEntry (b : Nat) : Bool :=
  match tblEngine b with
  | some 2 => b < 0x20C400
  | some 3 => b < 0x210800 || (0x211000 ≤ b && b < 0x215000 && b % 0x1000 < 0x802) || (0x220000 ≤ b && b < 0x240000 && b % 8 < 6)
  | some 4 => (0x240000 ≤ b && b < 0x240400) || (0x248000 ≤ b && b < 0x250000)
  | some 5 => (0x280000 ≤ b && b < 0x2C0000 && b % 0x2000 < 5202) || (0x2C0000 ≤ b && b < 0x2C0800 && b % 0x40 < 34)
      || (0x2C1000 ≤ b && b < 0x2C1082)
  | some 6 => 0x2D0000 ≤ b && b < 0x2D1000
  | some 9 => (0x300000 ≤ b && b < 0x340000 && b % 16 < 12) || (0x340000 ≤ b && b < 0x341860) || (0x341900 ≤ b && b < 0x341980)
  | _ => false

/-- A word with bytes replaced from byte o on, those for which `ok` holds. -/
def mergeBytes (ok : Nat → Bool) (w : Nat) : Nat → List Byte → Nat
  | _, [] => w
  | o, b :: bs => mergeBytes ok (if ok o then putBits w (8 * o + 7) (8 * o) b.toNat else w) (o + 1) bs

/-- Word 0 of a line-list entry, whose `AUTO` bit a write clears (Table 5.1). -/
def lineWord0 (a : Nat) : Bool := 0x240000 ≤ a && a < 0x240400 && a % 8 == 0

/-- A write of bytes to a word of the table window, from byte o of the word at a on (R90, R130, R212, R217). -/
def State.applyTable (s : State) (a o : Nat) (bs : List Byte) : State :=
  if 0x342000 ≤ a ∧ a < 0x342200 then s.driveWrite ((a - 0x342000) / 4) (leNat bs)
  else if 0x380000 ≤ a ∧ a < 0x3C0000 then s.zoneStoreWrite a (leNat bs)
  else if !(List.range bs.length).any (fun i => tblEntry (a + o + i)) then s
  else
    let w := mergeBytes (fun i => tblEntry (a + i)) (s.tblShadowWord a).toNat o bs
    let w := if lineWord0 a then putBits w 31 31 0 else w
    { s with tblShadow := mput s.tblShadow a (BitVec.ofNat 32 w) }

/-! ### Transactions -/

/-- The part of a transaction that falls in one word: the word's address, the first byte, and the bytes. -/
structure WordPart where
  addr : Nat
  off : Nat
  bytes : List Byte
  deriving DecidableEq, Repr

/-- The parts of a transaction in ascending order. -/
def splitWords : Nat → Nat → List Byte → List WordPart
  | 0, _, _ => []
  | fuel + 1, a, bs =>
    if bs.isEmpty then []
    else
      let k := 4 - a % 4
      ⟨a / 4 * 4, a % 4, bs.take k⟩ :: splitWords fuel (a + k) (bs.drop k)

/-- The end of the region of an address (R371, R462). -/
def regionEnd (a : Nat) : Nat :=
  if a < 0x100000 then 0x100000
  else if a < 0x120000 then 0x120000
  else if a < 0x200000 then 0x200000
  else if a < 0x400000 then 0x400000
  else if a < 0x40000000 then 0x40000000
  else if a < 0x80000000 then 0x80000000
  else 0x100000000

/-- Whether an address can start a transaction (R371). -/
def startOk (a : Nat) : Bool := if 0x200000 ≤ a ∧ a < 0x400000 then a % tableUnit a == 0 else a % 4 == 0

/-- What a part of a write meets before the register's own rule (R368, R371, R379): 0 nothing. -/
def State.partCode (s : State) (ag : Agent) (w : WordPart) : Nat :=
  let u := if w.addr < 0x60000 then 4 else tableUnit w.addr
  if definedWord w.addr && (w.off % u != 0 || w.bytes.length % u != 0) then 1 else s.permits ag w.addr

/-- A refusal that leaves a write not accepted (R250, R352): 0 none, 1 with `ACCESS_ERR`, 2 to be retried. The logic of `SRF`, which
refuses a `COMMIT`, runs only while it is ON (R448). -/
def State.verdict (s : State) (w : WordPart) : Nat :=
  match unitAt (R.MGT_MB_CMD 0) 3 0x20 w.addr, unitAt (R.SRF_RS_CMD 0) 16 0x20 w.addr with
  | some n, _ => if s.mbRoom n then 0 else 1
  | none, some ss => if s.domOn 33 && bitAt (leNat w.bytes) 0 then s.commitVerdict ss (s.slotOwner ss) - 1 else 0
  | none, none => 0

/-- What such a refusal shows beside the port's status word. -/
def State.noteVerdict (s : State) (a code : Nat) : State :=
  let s := match unitAt (R.SRF_RS_CMD 0) 16 0x20 a with
    | some ss => (s.put (F.SRF_RS_STATUS_CMD_RESULT ss) (code + 1)).count R.SRF_CNT_REFUSED
    | none => s
  s.raiseIf (code == 1) 49 0

/-- The effect of a part. -/
def State.applyPart (s : State) (ag : Agent) (w : WordPart) : State :=
  if w.addr < 0x60000 then s.applyWord ag w.addr (leNat w.bytes) else s.applyTable w.addr w.off w.bytes

/-- The parts take effect in ascending order; the word refused last by its own rule, or the refusal that rejects them all. -/
def State.applyParts (ag : Agent) : List WordPart → State → Nat × Nat → Except (Nat × Nat) (State × Nat × Nat)
  | [], s, r => .ok (s, r)
  | w :: ws, s, r =>
    let v := s.verdict w
    if v ≠ 0 then .error (v, w.addr)
    else
      let s' := s.applyPart ag w
      let c := newRefusal s s'
      State.applyParts ag ws s' (if c = 0 ∨ w.addr = R.DEV_COMMIT then r else (c, w.addr))

/-- A transaction is rejected whole. -/
def State.rejectWrite (s : State) (ag : Agent) (code a : Nat) : State :=
  match agentPort ag with
  | none => s
  | some p => s.portReject p code a

/-- The parts of a transaction whose form is right (R372). -/
def State.writeParts (s : State) (ag : Agent) (ws : List WordPart) : State :=
  match ws.find? (fun w => s.partCode ag w != 0) with
  | some w => (s.refusal (s.partCode ag w)).rejectWrite ag (s.partCode ag w) w.addr
  | none =>
    let s0 := match agentPort ag with
      | some p => s.portAccept p
      | none => s
    match State.applyParts ag ws s0 (0, 0) with
    | .error (v, a) => (s.noteVerdict a v).rejectWrite ag (if v = 1 then 1 else 0) a
    | .ok (s', c, a) =>
      if c = 0 then s'
      else match agentPort ag with
        | some p => s'.portRefused p c a
        | none => s'

/-- A write of bytes to the fold window by a host (R373, R467). -/
def State.foldTx (s : State) (p : Port) (a : Nat) (bs : List Byte) : State :=
  let (s', c, _) := (s.portAccept p).foldStore p false true 65 a bs
  if c = 0 then s'
  else
    let (s', c, b) := s.foldStore p false true 65 a bs
    (s'.refusal c).portReject p c b

/-- A write transaction of an agent (R371, R372). -/
def State.writeTx (s : State) (ag : Agent) (a : Nat) (bs : List Byte) : State :=
  let busy := match agentPort ag with
    | some p => s.portHeld p
    | none => false
  if busy then (match agentPort ag with | some p => s.portBusy p | none => s)
  else if inFolds a then
    (match ag with
     | .host p => s.foldTx p a bs
     | .core => s.coreStore a bs
     | .loader => s.refusal 1)
  else if 256 < bs.length ∨ !startOk a ∨ regionEnd a < a + bs.length then (s.refusal 1).rejectWrite ag 1 a
  else s.writeParts ag (splitWords 66 a bs)

/-- A write of one word by an agent. -/
def State.writeWord (s : State) (ag : Agent) (a v : Nat) : State := s.writeTx ag a (leBytes 4 v)

/-! ### The rows -/

/-- REGISTER_WRITE. -/
def execRegisterWrite (ag : Agent) (a : Word) (w : RegWord) (s : State) : Host.Outcome State Fault Refusal :=
  checked (.registerWrite ag a w) s fun s => (s.cycle w.same).writeWord ag a.toNat w.value.toNat

/-- OWNERSHIP_WRITE (R381): the row acts on the registers `DEV_OWN_*`. -/
def execOwnershipWrite (ag : Agent) (a v : Word) (s : State) : Host.Outcome State Fault Refusal :=
  checked (.ownershipWrite ag a v) s fun s => if isOwnReg a.toNat then s.writeWord ag a.toNat v.toNat else s

/-- OWN_LOCK (R381). -/
def execOwnLock (ag : Agent) (s : State) : Host.Outcome State Fault Refusal :=
  checked (.ownLock ag) s fun s => s.writeWord ag R.DEV_OWN_CTRL 1

/-- TABLE_SHADOW_WRITE (R90): the row acts on the table window. -/
def execTableShadowWrite (ag : Agent) (a : Word) (bs : List Byte) (s : State) : Host.Outcome State Fault Refusal :=
  checked (.tableShadowWrite ag a bs) s fun s =>
    if 0x200000 ≤ a.toNat ∧ a.toNat < 0x400000 then s.writeTx ag a.toNat bs else s

/-- PCM_LIST_WRITE (R144): the row acts on the defect lists. -/
def execPcmListWrite (ag : Agent) (a : Word) (bs : List Byte) (s : State) : Host.Outcome State Fault Refusal :=
  checked (.pcmListWrite ag a bs) s fun s => if tblEngine a.toNat = some 4 then s.writeTx ag a.toNat bs else s

/-- ZONE_STORE_WRITE (R212): the row acts on the zone store. -/
def execZoneStoreWrite (ag : Agent) (a v : Word) (s : State) : Host.Outcome State Fault Refusal :=
  checked (.zoneStoreWrite ag a v) s fun s =>
    if 0x380000 ≤ a.toNat ∧ a.toNat < 0x3C0000 then s.writeWord ag a.toNat v.toNat else s

/-- SWAP (R212). -/
def execSwap (ag : Agent) (s : State) : Host.Outcome State Fault Refusal :=
  checked (.swap ag) s fun s => s.writeWord ag R.BLE_CTRL 1

/-- LOOP_TEST (R225). -/
def execLoopTest (ag : Agent) (s : State) : Host.Outcome State Fault Refusal :=
  checked (.loopTest ag) s fun s => s.writeWord ag R.BLE_CTRL 2

/-- CLEAR_DEAD (R226). -/
def execClearDead (ag : Agent) (s : State) : Host.Outcome State Fault Refusal :=
  checked (.clearDead ag) s fun s => s.writeWord ag R.BLE_CTRL 4

/-- DRIVE_COUNTER_WRITE (R217). -/
def execDriveCounterWrite (ag : Agent) (y : Nat) (v : Word) (s : State) : Host.Outcome State Fault Refusal :=
  checked (.driveCounterWrite ag y v) s fun s => s.writeWord ag (0x342000 + 4 * y) v.toNat

/-- BLE_SNS_CMD (R230). -/
def execBleSnsCmd (ag : Agent) (v : Word) (s : State) : Host.Outcome State Fault Refusal :=
  checked (.bleSnsCmd ag v) s fun s => s.writeWord ag R.BLE_SNS_CMD v.toNat

/-- REGION_HOST_COMMIT (R250). -/
def execRegionHostCommit (ag : Agent) (slot : Nat) (s : State) : Host.Outcome State Fault Refusal :=
  checked (.regionHostCommit ag slot) s fun s => s.writeWord ag (R.SRF_RS_CMD slot) 1

end Sys2Proof.Machine
end

