-- ==== Sys2Proof/Machine/Image.lean ====
section
/-! DEFINITION. Applying an image and the first steps after it (R424, R425, Table 20.7). -/

namespace Sys2Proof.Machine

/-- A step of the loader: the state, or nothing where the image fails to apply (R425). -/
abbrev Load := Option State

/-- Whether the loader still applies: a word of the image may itself have restarted the part. -/
def State.applying (s : State) : Bool := s.get F.CFG_STATUS_STATE == 3

/-- Pairs of words; a trailing piece of less than a pair is no pair. -/
def wordPairs (bs : List Byte) : List (Nat × Nat) :=
  (List.range (bs.length / 8)).map fun i => (beNat (slice bs (8 * i) 4), beNat (slice bs (8 * i + 4) 4))

/-- A REGS pair (R424, R425): `BLE_CFG` takes `EN` as 0. -/
def State.loadReg (s : State) (x : Nat × Nat) : Load :=
  if !s.applying then some s
  else if 0x60000 ≤ x.1 ∨ s.permits .loader x.1 ≠ 0 ∨ x.1 = R.TG_PANEL_CTRL then none
  else
    let v := s.verdict ⟨x.1, 0, leBytes 4 x.2⟩
    if v ≠ 0 then some (s.noteVerdict x.1 v)
    else some (s.applyWord .loader x.1 (if x.1 = R.BLE_CFG then setBit x.2 F.BLE_CFG_EN.lo false else x.2))

/-- The pairs in order. -/
def State.loadRegs : List (Nat × Nat) → State → Load
  | [], s => some s
  | x :: xs, s => (s.loadReg x).bind (State.loadRegs xs)

/-- A word of a TABLE section; one that no table has is discarded with `ACCESS_ERR` (R371, R462). -/
def State.loadTableWord (s : State) (a : Nat) (bs : List Byte) : State :=
  let c := s.permits .loader a
  if c ≠ 0 then s.refusal c else s.applyTable a 0 bs

/-- A TABLE section: its words to ascending addresses. -/
def State.loadTable (s : State) (target : Nat) (bs : List Byte) : Load :=
  if target % 4 ≠ 0 ∨ target < 0x200000 ∨ 0x400000 < target + bs.length then none
  else some (s.each (List.range (bs.length / 4)) fun s i => s.loadTableWord (target + 4 * i) (slice bs (4 * i) 4).reverse)

/-- The loader turns a fold ON before its first write to it (R424). -/
def State.loadFoldOn (s : State) (nn : Nat) : State :=
  if s.foldOn nn then s
  else
    let dd := 36 + nn
    let s := s.setPwr { s.pwr with target := merase s.pwr.target dd, contentLost := mset false s.pwr.contentLost dd false }
    (((s.put (F.PWR_DOM_REQ dd) 2).put (F.PWR_DOM_STATE dd) 2).putB (F.PWR_DOM_BUSY dd) false |>.put (F.FST_FOLD_STATUS_POWER nn) 2).raise 6 0

/-- A FOLD section: its bytes to ascending addresses. -/
def State.loadFold (s : State) (target : Nat) (bs : List Byte) : Load :=
  if target < 0x40000000 ∨ 0x80000000 < target + bs.length then none
  else some ((s.each (foldsIn target bs.length) fun s nn => s.loadFoldOn nn).foldWrite target bs)

/-- A PATCH section: what `MGT_STATUS.PATCH` then reads is the patch's own, a free value that is not 0 (assumption log 4). -/
def State.loadPatch (s : State) (bs : List Byte) : Load :=
  let v := 1 + s.freeVal 8 % 255
  some ((s.useFree.setMgt { s.mgt with patch := bs, patchNo := v }).put F.MGT_STATUS_PATCH v)

/-- Whether the LOCKED sections of the image are written (R424, Table 20.8). -/
def State.lockedLoads (s : State) : Bool :=
  !s.fst.wipedInApply && (s.cfg.fuses.state == 1 || (s.cfg.fuses.state == 2 && s.cfg.trusted))

/-- A LOCKED section that is written: inside the locked fold of 256 KiB. -/
def State.loadLocked (s : State) (target : Nat) (bs : List Byte) : Load :=
  if target % 4 ≠ 0 ∨ 0x40000 < target + bs.length then none
  else some { s with fst := { s.fst with locked := memWrite s.fst.locked target bs } }

/-- The payload of a section after decompression (R425). -/
def State.payload (s : State) (slot : Nat) (c : ImageSection) : Option (List Byte) :=
  let bs := s.nvBytes (slotBase slot + c.off) c.stored
  if c.comp = 1 then (linearDecode c.expanded bs).toOption
  else if c.expanded = c.stored then some bs else none

/-- One section (Table 20.4). -/
def State.loadSection (s : State) (slot : Nat) (c : ImageSection) : Load :=
  if !s.applying || c.typ == 6 || (c.typ == 5 && !s.lockedLoads) then some s
  else (s.payload slot c).bind fun bs =>
    if c.typ = 1 then State.loadRegs (wordPairs bs) s
    else if c.typ = 2 then s.loadTable c.target bs
    else if c.typ = 3 then s.loadFold c.target bs
    else if c.typ = 4 then s.loadPatch bs
    else if c.typ = 5 then s.loadLocked c.target bs
    else none

/-- The sections in order, numbered from i on; the number of the one that fails, with the state it leaves. -/
def State.loadSections (slot : Nat) : Nat → List ImageSection → State → Except (Nat × State) State
  | _, [], s => .ok s
  | i, c :: cs, s => match s.loadSection slot c with
    | some s => State.loadSections slot (i + 1) cs s
    | none => .error (i, s)

/-- The bits that software does not write of a register that start-up keeps when the engines return to their reset values. -/
def startupBits (a : Nat) : Nat :=
  let e := a / 0x4000
  if a = R.FST_LOCKED_STATUS then 0xFFFFFFFF
  else if e = 16 ∨ e = 17 ∨ e = 19 ∨ e = 20 ∨ e = 21 then
    (match regDef? a with
     | some d => 0xFFFFFFFF - Nat.lor d.w d.w1c
     | none => 0)
  else 0

/-- Every engine at its reset values (R425): what shows start-up itself, the clock, the queues of records and the memories that no
engine holds stay. -/
def State.enginesReset (s : State) : State :=
  let s' : State := { pending := s.pending, occ := s.occ, out := s.out, now := s.now, house := s.house, freeCtr := s.freeCtr, nvm := s.nvm
                      nvmDevice := s.nvmDevice, nvmTorn := s.nvmTorn
                      hpt := s.hpt, evt := s.evt, tal := s.tal, cfg := s.cfg, mgt := { s.mgt with patch := [], patchNo := 0 }
                      pwr := { onB := s.pwr.onB, aOk := s.pwr.aOk, bOk := s.pwr.bOk, revA := s.pwr.revA, revB := s.pwr.revB
                               railsGood := s.pwr.railsGood, padBanks := s.pwr.padBanks } }
  let s' := s'.each s.regs fun t x =>
    let m := startupBits x.1
    t.setReg x.1 (Nat.lor (Nat.land x.2.toNat m) (Nat.land (t.reg x.1) (0xFFFFFFFF - m)))
  let s' := ((s'.put (F.PWR_DOM_STATE 1) 2).put F.MGT_STATUS_PATCH 0).showFuses
  s'.each ((List.range 100).filter fun dd => s'.get (F.PWR_DOM_STATE dd) != s.get (F.PWR_DOM_STATE dd)) fun t _ => t.raise 6 0

/-- An apply failure at a section, 0x3FF for the check word (R425). -/
def State.applyFails (s : State) (slot i : Nat) : State :=
  let s := s.enginesReset
  let s := s.wipe (s.get F.FST_LOCKED_STATUS_CAUSE)
  let s := ((s.putB F.CFG_STATUS_APPLY_FAIL true).put F.CFG_STATUS_FAIL_SECTION i).put (slotReason slot) 0xB
  State.selectImage s.cfg.candidates (s.raise 19 2)

/-- The end of the apply pass (R424): one commit, then step 5 of Table 20.7. -/
def State.applied (s : State) (slot : Nat) : State :=
  let s := s.devCommit .loader
  let flags := s.imgNat slot 6 2
  let s := { s with cfg := { s.cfg with panelOn := bitAt flags 1, blOn := bitAt flags 2, lightStep := 6 } }
  ((s.setReg R.CFG_IMAGE_SEQ (s.imgSeq slot)).put F.CFG_STATUS_SLOT slot).put F.CFG_STATUS_STATE 4

/-- IMAGE_APPLY (R424, R425). -/
def State.imageApply (s : State) : State :=
  match s.applying, s.cfg.selected with
  | true, some slot =>
    match s.imgChain slot with
    | none => s.applyFails slot 0x3FF
    | some l => match State.loadSections slot 0 l s with
      | .error (i, s) => s.applyFails slot i
      | .ok s' =>
        if !s'.applying then s'
        else if s'.imgCrc slot ≠ s'.cfg.imageCrc ∨ s'.imgCheck slot ≠ s'.cfg.imageCrc then s'.applyFails slot 0x3FF
        else s'.applied slot
  | _, _ => s

/-- IMAGE_APPLY. -/
def execImageApply (s : State) : Host.Outcome State Fault Refusal := checked .imageApply s State.imageApply

/-- Step 6 of Table 20.7: all enabled ports are UP, or 10 ms have passed since step 5. -/
def State.portsUp (s : State) : State :=
  if s.get F.CFG_STATUS_STATE ≠ 4 ∨ s.cfg.lightStep ≠ 6 then s
  else
    let s := if s.cfg.panelOn then s.panelCtrl (1 + 2 * s.get F.SPL_CFG_REAR_EN) else s
    ({ s with cfg := { s.cfg with lightStep := 7 } }).firstLight

/-- PORTS_UP_OR_TIMEOUT. -/
def execPortsUpOrTimeout (s : State) : Host.Outcome State Fault Refusal := checked .portsUpOrTimeout s State.portsUp

end Sys2Proof.Machine
end

