-- ==== Sys2Proof/Machine/View.lean ====
section
/-! DEFINITION. What a read returns (R12, R367 to R371, R382): the live fields that the registers do not keep, the tally banks and
the table window, and the side effects of a good read. -/

namespace Sys2Proof.Machine

/-- A word with a field set. -/
def withField (w : Nat) (f : FRef) (v : Nat) : Nat := putBits w f.hi f.lo v

/-- A word with a one-bit field set to a condition. -/
def withFlag (w : Nat) (f : FRef) (b : Bool) : Nat := withField w f (bit b)

/-! ### Live status words -/

/-- `TBL_PENDING` of an engine (R90); that of `PCM` and of `ODR` counts shadow registers too (Tables 5.9, 6.6). -/
def State.tblPending (s : State) (e : Nat) : Bool :=
  s.engineOn e && (s.tblShadow.any (fun x => tblEngine x.1 == some e) || ((e == 4 || e == 5) && s.shadow.any fun x => inEngine e x.1))

/-- The status words of the pixel engines and of `BLE`, from the word that the registers keep. -/
def State.viewPixel (s : State) (a w : Nat) : Nat :=
  if a = R.FE_STATUS then withFlag w F.FE_STATUS_TBL_PENDING (s.tblPending 2)
  else if a = R.SPL_STATUS then withFlag w F.SPL_STATUS_TBL_PENDING (s.tblPending 3)
  else if a = R.PCM_STATUS then withFlag w F.PCM_STATUS_TBL_PENDING (s.tblPending 4)
  else if a = R.ODR_STATUS then withFlag w F.ODR_STATUS_TBL_PENDING (s.tblPending 5)
  else if a = R.DTH_STATUS then withFlag w F.DTH_STATUS_TBL_PENDING (s.tblPending 6)
  else if a = R.BLE_STATUS ∧ s.domOn 32 then
    let w := withFlag w F.BLE_STATUS_TBL_PENDING (s.tblPending 9)
    let w := withFlag w F.BLE_STATUS_LIT s.bleLit
    withFlag w F.BLE_STATUS_RAMPING (s.reg R.BLE_MASTER_NOW != s.get F.BLE_MASTER_TARGET)
  else w

/-- `TGn_POSITION` (Table 7.9): the line, and the last tick whose instant, rounded as R175 says, has come. -/
def State.viewPosition (s : State) (n : Nat) : Nat :=
  let r := s.run n
  if !r.on || r.period == 0 then 0
  else min 65535 r.line * 65536 + min 4095 ((8192 * (s.now - r.lineStart) + 4095) / (2 * r.period))

/-- The status words of `SRF` and of its slots (Tables 10.6, 10.9). While the domain is not ON they read their reset values, but for what
the AON store keeps (R447). -/
def State.viewSrf (s : State) (a w : Nat) : Nat :=
  if !s.domOn 33 then
    let r := Nat.lor (Nat.land w (keptBits a)) (Nat.land (resetOf a) (0xFFFFFFFF - keptBits a))
    if a = R.SRF_FRONT_NO then w else if a = R.SRF_STATUS then withField r F.SRF_STATUS_FRONT s.frontBuf else r
  else if a = R.SRF_STATUS then
    withFlag (withFlag w F.SRF_STATUS_FILLING (s.srf.inFlight == some .fill)) F.SRF_STATUS_WAITING (!s.srf.complete.isEmpty)
  else match unitAt (R.SRF_RS_STATUS 0) 16 0x20 a with
    | none => w
    | some ss =>
      let run := if s.srf.complete.any (fun u => u.slot == ss) then 2 else if (mfind s.srf.running ss).isSome then 1 else 0
      let w := withField w (F.SRF_RS_STATUS_RUN ss) run
      withFlag (withFlag w (F.SRF_RS_STATUS_PENDING ss) (mfind s.srf.waiting ss).isSome) (F.SRF_RS_STATUS_OPEN ss) (mfind s.srf.opens ss).isSome

/-- `HTM_NOW_SEC_LO` and `HTM_NOW_SEC_HI` as a port reads them (R316): what its last latch holds. -/
def State.viewNow (s : State) (p : Port) (a w : Nat) : Nat :=
  let h := mget ({} : HptPort) s.hpt p.num
  let t := s.house
  if a = R.HTM_NOW_NS then t.ns
  else if a = R.HTM_NOW_SEC_LO then (match h.nowLo with | some v => v.toNat | none => t.sec % 2 ^ 32)
  else if a = R.HTM_NOW_SEC_HI then (match h.nowHi with | some v => v.toNat | none => t.frac * 65536 + t.sec / 2 ^ 32 % 65536)
  else w

/-- `CAL_STATUS` (Table 15.6). A slice that only takes its band back is no calibration (R343), and a start is postponed while the load
or the hold of R351 postpones it (R340). Where several states hold, FROZEN comes before RUNNING and RUNNING before POSTPONED (DESIGN
CHOICE, assumption log 133). -/
def State.viewCal (s : State) : Nat :=
  let late := s.get F.MGT_STATUS_DEFER == 3 && s.flag F.CAL_CFG_EN && s.cal.due.any (fun d => d.postponed.isSome)
  let st := if s.calFrozen then 2 else if s.cal.runs.any (!·.bare) then 1 else if late then 3 else 0
  let fallow := match (List.range 17).find? fun k => s.role k == 3 with | some k => k | none => 0x1F
  let band := if s.role 16 = 2 then s.sliceBand 16 else 0x1F
  let ports := (s.cal.runs.filter fun r => decide (0x40 ≤ r.unit)).length
  st * 2 ^ 30 + min 255 s.cal.due.length * 2 ^ 22 + fallow * 2 ^ 17 + band * 2 ^ 12 + min 4 ports * 2 ^ 9

/-- `SLC_SLICEk_CAL.AGE`: seconds since the last calibration of a slice. -/
def State.viewAge (s : State) (k w : Nat) : Nat :=
  withField w (F.SLC_SLICE_CAL_AGE k) (match mfind s.cal.endedAt k with
    | some t => min 0xFFFF ((s.now - t) / (1000000 * usUnit))
    | none => 0xFFFF)

/-- `MGT_REC_STATUS` (Table 16.10). -/
def State.viewRecovery (s : State) : Nat :=
  (match s.mgt.recovering with
   | some r => 2 ^ 31 + r.cls % 8 * 2 ^ 28 + r.src % 512 * 65536
   | none => 0) + min 255 s.mgt.recoveries.length

/-- A word of `EVT` (Table 18.3). -/
def State.viewEvt (s : State) (a w : Nat) : Nat :=
  match unitAt (R.EVT_SRC_CFG 0) 512 4 a with
  | some src => withFlag w (F.EVT_SRC_CFG_PEND src) (mget false s.evt.pend src)
  | none =>
    let n := (a - 0x4C800) / 0x20
    let t := s.target n
    if a = R.EVT_H_STATUS n then bit t.intn * 2 ^ 31 + bit (!t.held.isEmpty) * 2 ^ 30 + min 256 t.queue.length
    else if a = R.EVT_H_CNT_REC n then mget 0 s.evt.counts (3 * n)
    else if a = R.EVT_H_CNT_MERGE n then mget 0 s.evt.counts (3 * n + 1)
    else if a = R.EVT_H_CNT_HELD n then mget 0 s.evt.counts (3 * n + 2)
    else w

/-- A word of `TAL` (Table 19.6). -/
def State.viewTal (s : State) (a w : Nat) : Nat :=
  if a = R.TAL_STATUS then bit s.tal.fill.isSome * 2 ^ 31 + bit s.tal.req.isSome * 2 ^ 30 + s.tal.newest % 2 * 2 ^ 29
  else if a = R.TAL_SEQ then s.tal.seq
  else if a = R.TAL_DEFERRED then s.tal.deferredCnt
  else if a = R.TAL_CNT_MERGED then s.tal.mergedCnt
  else w

/-- A word of `PWR` (Table 21.8). -/
def State.viewPwr (s : State) (a w : Nat) : Nat :=
  let p := s.pwr
  if a = R.PWR_STATUS then
    bit p.onB * 2 ^ 31 + bit p.aOk * 2 ^ 30 + bit p.bOk * 2 ^ 29 + bit p.revA * 2 ^ 28 + bit p.revB * 2 ^ 27 + bit p.lp * 2 ^ 26
      + s.aonEst % 4096
  else if a = R.PWR_RAILS then withField w F.PWR_RAILS_GOOD p.railsGood
  else w

/-! ### Pop registers (R382) -/

/-- What a good read of a pop register by a port returns, and the state after it. -/
def State.popWord (s : State) (p : Port) (a : Nat) : Option (Nat × State) :=
  if a = R.PIL_AUX_POP then some (s.popAux p)
  else match unitAt (R.SRF_H_RESULT_LO 0) 3 8 a, unitAt (R.CPR_RING_DONE_LO 0) 4 0x40 a, unitAt (R.MGT_MB_DONE_LO 0) 3 0x20 a,
      unitAt (R.SEQ_H_DONE_LO 0) 3 8 a, unitAt (R.EVT_H_POP 0) 3 0x20 a with
    | some n, _, _, _, _ => some (s.popResult p n)
    | _, some r, _, _, _ => some (s.popJob (.host p) r)
    | _, _, some n, _, _ => some (s.popMailbox p n)
    | _, _, _, some n, _ => some (s.popSeq p n)
    | _, _, _, _, some n => some (s.popEvt p n)
    | _, _, _, _, _ => none

/-- The word of a register as a port's read returns it (R12): the last value written of an RWS register, 0 for WO bits. -/
def State.viewReg (s : State) (p : Port) (a : Nat) : Nat :=
  match regDef? a with
  | none => 0
  | some d =>
    let w := Nat.land (s.regW a) (0xFFFFFFFF - d.wo)
    match s.popWord p a with
    | some r => r.1
    | none => match a / 0x4000 with
      | 2 | 3 | 4 | 5 | 6 | 9 => s.viewPixel a w
      | 7 =>
        if gateReg a ∧ 0x1C800 ≤ a then 0
        else match unitAt (R.TG_POSITION 0) 4 0x400 a with
          | some n => s.viewPosition n
          | none => w
      | 10 => s.viewSrf a w
      | 12 => match unitAt (R.CPR_RING_STATUS 0) 4 0x40 a with
        | some r => withField w (F.CPR_RING_STATUS_QUEUED r) (s.cprRecords r).length
        | none => w
      | 13 => match unitAt (R.LNS_LANE_TX 0) 144 0x40 a, unitAt (R.LNS_LANE_TRIM 0) 144 0x40 a with
        | some l, _ => if hasTx l then w else 0
        | none, some l => if s.domOn (laneDomain l) then w else resetOf a
        | none, none => w
      | 14 => s.viewNow p a w
      | 15 => if a = R.CAL_STATUS then s.viewCal else w
      | 16 =>
        if a = R.MGT_REC_STATUS then s.viewRecovery
        else if a = R.MGT_AVS_NOW then withFlag w F.MGT_AVS_NOW_HELD s.avsHeld
        else w
      | 17 => match unitAt (R.HPT_P_STATUS 0) 3 0x40 a with
        | some n => withFlag w (F.HPT_P_STATUS_PENDING n) (mget ({} : HptPort) s.hpt n).held.isSome
        | none => w
      | 19 => s.viewEvt a w
      | 20 => s.viewTal a w
      | 22 => s.viewPwr a w
      | 23 => match unitAt (R.SLC_SLICE_CAL 0) 17 0x200 a with
        | some k => s.viewAge k w
        | none => w
      | _ => w

/-! ### The tally window and the table window -/

/-- A word of a tally bank (Table 19.2). -/
def State.bankWord (s : State) (a : Nat) : Nat :=
  (mget (0 : Word) (mget ([] : SMap Word) s.tal.banks ((a - 0x100000) / 0x10000)) (a % 0x10000)).toNat

/-- Whether an address of the tally window lies in a pair register (R370): every counter is one. -/
def inPair (a : Nat) : Bool := 0x100000 ≤ a && a < 0x120000 && 0x1000 ≤ a % 0x10000

/-- A word of the tally window as a port reads it: a high word that the port has latched reads as latched. -/
def State.viewTally (s : State) (p : Port) (a : Nat) : Nat :=
  if inPair a && a % 8 == 4 then
    (match mfind (mget ({} : HptPort) s.hpt p.num).pairLatch a with
     | some w => w.toNat
     | none => s.bankWord a)
  else s.bankWord a

/-- The disabled channels of a driver of a chain as two words (Table 9.7). -/
def State.disabledWord (s : State) (chain driver i : Nat) : Nat :=
  ofBits (if i = 0 then 32 else 16) fun b => s.ble.disabled.contains (chanKey chain driver (32 * i + b))

/-- Two half-words as a word. -/
def halves (f : Nat → Nat) (a : Nat) : Nat := f a % 65536 + f (a + 2) % 65536 * 65536

/-- A word of the table window (R90, R125, R212, R217): the shadow of a shadowed table. -/
def State.viewTable (s : State) (a : Nat) : Nat :=
  if 0x215000 ≤ a ∧ a < 0x215804 then halves (fun b => if b < 0x215802 then s.snapshot.rearCurve ((b - 0x215000) / 2) else 0) a
  else if 0x342000 ≤ a ∧ a < 0x342200 then s.driveSeconds ((a - 0x342000) / 4)
  else if 0x342400 ≤ a ∧ a < 0x342420 then
    halves (fun b => if b % 8 < 6 then mget 0x4000 s.ble.gains ((b - 0x342400) / 8 * 4 + b % 8 / 2) else 0) a
  else if 0x344000 ≤ a ∧ a < 0x347000 then s.disabledWord ((a - 0x344000) / 0x200) (a % 0x200 / 8) (a % 8 / 4)
  else if 0x380000 ≤ a ∧ a < 0x3C0000 then
    (if a % 16 = 12 ∨ !s.domOn 32 then 0 else s.zoneEntry ((a - 0x380000) / 16) (a % 16 / 4))
  else (s.tblShadowWord a).toNat

/-- The word at an aligned address as a port's read returns it; a word that no chapter defines reads 0 (R371). -/
def State.viewWord (s : State) (p : Port) (a : Nat) : Nat :=
  if a < 0x60000 then s.viewReg p a
  else if 0x100000 ≤ a ∧ a < 0x120000 then s.viewTally p a
  else if (tblEngine a).isSome then s.viewTable a
  else 0

/-- The side effect of a good read of a word at byte offset 0 (R316, R369, R370, R382). -/
def State.readEffect (s : State) (p : Port) (a : Nat) : State :=
  match s.popWord p a with
  | some r => r.2
  | none =>
    if a = R.HTM_NOW_NS then s.nowLatch p
    else if inPair a ∧ a % 8 = 0 then
      { s with hpt := mupd ({} : HptPort) s.hpt p.num fun h => { h with pairLatch := mput h.pairLatch (a + 4) (BitVec.ofNat 32 (s.bankWord (a + 4))) } }
    else s

end Sys2Proof.Machine
end

