-- ==== Sys2Proof/Machine/HostPorts.lean ====
section
/-! DEFINITION. The transactions of the host ports (R367 to R378, R469). -/

namespace Sys2Proof.Machine

/-- The words that a read of n bytes touches: the word's address, the first byte in it, and how many bytes. -/
def readParts : Nat → Nat → Nat → List (Nat × Nat × Nat)
  | 0, _, _ => []
  | fuel + 1, a, n =>
    if n = 0 then []
    else
      let k := min n (4 - a % 4)
      (a / 4 * 4, a % 4, k) :: readParts fuel (a + k) (n - k)

/-- The bytes of words in ascending order, with the side effects of a good read where `eff` holds (R369, R370). -/
def State.readWords (s : State) (p : Port) (eff : Bool) : List (Nat × Nat × Nat) → List Byte × State
  | [] => ([], s)
  | (a, o, k) :: l =>
    let bs := slice (leBytes 4 (s.viewWord p a)) o k
    let r := (if eff && o == 0 then s.readEffect p a else s).readWords p eff l
    (bs ++ r.1, r.2)

/-- Bytes that nothing fixes (assumption log 4). -/
def State.freeBytes (s : State) (n : Nat) : List Byte := (List.range n).map fun i => BitVec.ofNat 8 (Config.free (s.freeCtr + i)).toNat

/-- A read of n bytes that meets BUSY at byte k (R375, R378): on HP2 the bytes before are good and 0xFF follows; on HP0 and HP1 the
data are invalid. -/
def State.readBusy (s : State) (p : Port) (n k : Nat) (good : List Byte) : State :=
  if p = .hp2 then (s.portBusy p).emit (.readData p (good.take k ++ List.replicate (n - k) 0xFF))
  else ({ s.portBusy p with freeCtr := s.freeCtr + n }).emit (.readData p (s.freeBytes n))

/-- A read that ends with an error and returns bytes (R371, R270). -/
def State.readError (s : State) (p : Port) (code a : Nat) (bs : List Byte) : State := (s.portReject p code a).emit (.readData p bs)

/-- The first byte of the word of a read at which BUSY comes, if the read reaches it: data word i of a read that starts at a. -/
def busyByte (a n : Nat) : Option Nat → Option Nat
  | none => none
  | some i => let k := if i = 0 then 0 else 4 * i - a % 4; if k < n then some k else none

/-- The earlier of two places. -/
def firstOf : Option Nat → Option Nat → Option Nat
  | some a, some b => some (min a b)
  | some a, none => some a
  | none, b => b

/-! ### Fold window reads (R262 to R274, R467) -/

/-- A byte of the fold window as a port reads it: 0 of a fold that is not ON or foreign (R266, R274). -/
def State.foldByte (s : State) (p : Port) (b : Nat) : Byte :=
  if !s.foldOn (foldOf b) || s.foldForeign p (foldOf b) then 0 else memByte s.fst.mem b

/-- What a port's read of a fold meets: 0 good, else the counter of a fold that is not ON or no longer its own (R266, R274). -/
def State.hostMiss (s : State) (p : Port) (nn : Nat) : Nat := if s.foldForeign p nn then R.FST_CNT_FOREIGN else s.dmaMiss nn

/-- The first byte of a range at which a port reads data flagged as uncorrectable, if there is one (R270, R274). -/
def State.firstBad (s : State) (p : Port) (a m : Nat) (ecc : EccMap) : Option Nat :=
  let fold := ((foldsIn a m).find? fun nn => s.hostMiss p nn != 0).map fun nn => max a (foldBase nn)
  let words := (ecc.filter fun e => e.2 == .double && a / 8 ≤ e.1 && 8 * e.1 < a + m && s.hostMiss p (foldOf (8 * e.1)) == 0).map fun e => max a (8 * e.1)
  words.foldl (fun x b => firstOf x (some b)) fold

/-- A read of the fold window: m bytes of the window, then the end of the window. -/
def State.foldRead (s : State) (p : Port) (a n : Nat) (notReady collide : Option Nat) (ecc : EccMap) : State :=
  let m := min n (0x80000000 - a)
  let waits := ((foldsIn a m).find? fun nn => s.hostWaits p nn).map fun nn => foldBase nn - a
  let hit := busyByte a m collide
  let busy := firstOf (firstOf waits (busyByte a m notReady)) hit
  let bytes := (List.range m).map fun i => s.foldByte p (a + i)
  match busy with
  | some k =>
    let s := if hit = some k then s.collideAt (a + k) else s
    s.readBusy p n k bytes
  | none =>
    let bad := s.firstBad p a m ecc
    let s := (s.readFolds (fun s nn => s.hostMiss p nn) a m ecc 0).2
    match bad with
    | some b => s.readError p 3 b (bytes ++ List.replicate (n - m) 0)
    | none =>
      if m < n then (s.refusal 1).readError p 1 0x80000000 (bytes ++ List.replicate (n - m) 0)
      else (s.portAccept p).emit (.readData p bytes)

/-- A read transaction of a port (R369 to R371, R375, R378). -/
def State.readTx (s : State) (p : Port) (a n : Nat) (notReady collide : Option Nat) (ecc : EccMap) : State :=
  if inFolds a then s.foldRead p a n notReady collide ecc
  else if !startOk a then (s.refusal 1).readError p 1 a (List.replicate n 0)
  else
    let m := min n (regionEnd a - a)
    let parts := readParts (m / 4 + 2) a m
    match busyByte a m notReady with
    | some k => s.readBusy p n k (s.readWords p false parts).1
    | none =>
      if m < n then (s.refusal 1).readError p 1 (regionEnd a) ((s.readWords p false parts).1 ++ List.replicate (n - m) 0)
      else
        let r := s.readWords p true parts
        (r.2.portAccept p).emit (.readData p r.1)

/-- A transaction that ends before it has its address, or inside its dummy clocks (R469). -/
def State.incomplete (s : State) (p : Port) : State := (s.refusal 1).portReject p 1 (s.reg (R.HPT_P_ERR_ADDR p.num))

/-- A status read of n bytes (R376, R377, R469). -/
def State.statusRead (s : State) (p : Port) (n : Nat) : State :=
  let bs := (leBytes 4 (s.viewReg p (R.HPT_P_STATUS p.num)) ++ List.replicate (n - 4) 0).take n
  let s := if 4 ≤ n then s.put (F.HPT_P_STATUS_NOT_ACCEPTED p.num) 0 else s
  s.emit (.readData p bs)

/-- Whether an I²C address is that of HP2 (R377). -/
def State.isHp2 (s : State) (dev : BitVec 7) : Bool := dev.toNat == 0x58 + s.cfg.hp2Addr

/-! ### The rows -/

/-- What the first byte of a QSPI transaction asks for (Table 17.1). -/
inductive QspiOp where
  | write
  | read
  | status
  deriving DecidableEq, Repr

/-- Table 17.1; `none` for a reserved byte. -/
def qspiOp (cmd : Byte) : Option QspiOp :=
  if cmd = 0x02 then some .write else if cmd = 0x0B then some .read else if cmd = 0x05 then some .status else none

/-- The row of a whole QSPI transaction (R374): its command byte, its address, the bytes that it writes, and how many it reads. -/
def qspiRow (p : Port) (cmd : Byte) (a : Word) (bs : List Byte) (n : Nat) : Instr :=
  match qspiOp cmd with
  | some .write => .qspiWrite p ⟨true, false⟩ a bs
  | some .read => .qspiRead (.host p) true a n none none []
  | some .status => .qspiStatus p n
  | none => .badCmd p cmd

/-- QSPI_WRITE. -/
def execQspiWrite (p : Port) (how : WriteEnd) (a : Word) (bs : List Byte) (s : State) : Host.Outcome State Fault Refusal :=
  checked (.qspiWrite p how a bs) s fun s =>
    if how.complete then (s.cycle how.same).writeTx (.host p) a.toNat bs else s.incomplete p

/-- A read by an agent. The table gives the Trekai core's own reads of the folds no row: they are QSPI_READ by the agent `core` (DESIGN
CHOICE, assumption log 103). -/
def State.agentRead (s : State) (ag : Agent) (complete : Bool) (a n : Nat) (notReady collide : Option Nat) (ecc : EccMap) : State :=
  match ag with
  | .host p => if complete then s.readTx p a n notReady collide ecc else s.incomplete p
  | _ => s.coreRead a n collide ecc

/-- QSPI_READ. -/
def execQspiRead (ag : Agent) (complete : Bool) (a : Word) (n : Nat) (notReady collide : Option Nat) (ecc : EccMap) (s : State) :
    Host.Outcome State Fault Refusal :=
  checked (.qspiRead ag complete a n notReady collide ecc) s fun s => s.agentRead ag complete a.toNat n notReady collide ecc

/-- QSPI_STATUS. -/
def execQspiStatus (p : Port) (n : Nat) (s : State) : Host.Outcome State Fault Refusal :=
  checked (.qspiStatus p n) s fun s => s.statusRead p n

/-- BAD_CMD (R374, Table 17.1): the row acts on the reserved command bytes. -/
def execBadCmd (p : Port) (cmd : Byte) (s : State) : Host.Outcome State Fault Refusal :=
  checked (.badCmd p cmd) s fun s => if (qspiOp cmd).isSome then s else s.portReject p 4 (s.reg (R.HPT_P_ERR_ADDR p.num))

/-- I2C_WRITE. -/
def execI2cWrite (dev : BitVec 7) (how : WriteEnd) (a : Word) (bs : List Byte) (s : State) : Host.Outcome State Fault Refusal :=
  checked (.i2cWrite dev how a bs) s fun s =>
    if !s.isHp2 dev then s
    else if how.complete then (s.cycle how.same).writeTx (.host .hp2) a.toNat bs else s.incomplete .hp2

/-- I2C_READ. -/
def execI2cRead (dev : BitVec 7) (complete : Bool) (a : Word) (n : Nat) (notReady collide : Option Nat) (ecc : EccMap) (s : State) :
    Host.Outcome State Fault Refusal :=
  checked (.i2cRead dev complete a n notReady collide ecc) s fun s =>
    if !s.isHp2 dev then s
    else if complete then s.readTx .hp2 a.toNat n notReady collide ecc else s.incomplete .hp2

/-- I2C_STATUS_READ. -/
def execI2cStatusRead (dev : BitVec 7) (n : Nat) (s : State) : Host.Outcome State Fault Refusal :=
  checked (.i2cStatusRead dev n) s fun s => if s.isHp2 dev then s.statusRead .hp2 n else s

/-- PAIR_REGISTER_LATCH (R370): a good read of the low word of a pair register. -/
def execPairRegisterLatch (p : Port) (a : Word) (s : State) : Host.Outcome State Fault Refusal :=
  checked (.pairRegisterLatch p a) s fun s =>
    if inPair a.toNat ∧ a.toNat % 8 = 0 then s.readTx p a.toNat 4 none none [] else s

end Sys2Proof.Machine
end

