-- ==== Sys2Proof/Machine/Sequencer.lean ====
section
/-! DEFINITION. The steps of sequences (R384 to R387, R389). A row of a step acts where the step that its port's running sequence has
reached is of that kind and where the engine's round-robin has come to that port. -/

namespace Sys2Proof.Machine

/-- A step's four words: `OP`, and words 1 to 3. -/
structure SeqStep where
  w0 : Nat
  w1 : Nat
  w2 : Nat
  w3 : Nat
  deriving DecidableEq, Repr

/-- `OP` of a step. -/
def stepOp (t : SeqStep) : Nat := t.w0 / 2 ^ 28

/-- A word of a list of words. -/
def wordAt (l : List Word) (i : Nat) : Nat := (l.getD i 0#32).toNat

/-- The address of the step that a sequence has reached (R383). -/
def stepAddr (r : SeqRun) : Nat := r.base + 16 * r.step

/-- The four words at an address of the folds, most significant byte first. -/
def State.stepWords (s : State) (a : Nat) : List Word := (List.range 4).map fun i => BitVec.ofNat 32 (beNat (memBytes s.fst.mem (a + 4 * i) 4))

/-- The step that a sequence has reached: that which waits, or the one its list gives. -/
def State.stepOf (s : State) (r : SeqRun) : SeqStep :=
  let l := if r.waiting then r.words else s.stepWords (stepAddr r)
  ⟨wordAt l 0, wordAt l 1, wordAt l 2, wordAt l 3⟩

/-- Whether an access of a port's sequence to a range waits (R265, R273). -/
def State.seqWaits (s : State) (p : Port) (a n : Nat) : Bool := (foldsIn a n).any fun nn => s.hostWaits p nn

/-- A DMA read of a port's sequence (R266, R269, R270, R274, R384): how many bytes before the first that cannot be used, none where all
are good, and the state. -/
def State.seqRead (s : State) (p : Port) (a n : Nat) (ecc : EccMap) : Option Nat × State :=
  let good := (s.firstBad p a n ecc).map (· - a)
  (good, (s.readFolds (fun s nn => s.hostMiss p nn) a (match good with | some k => k + 1 | none => n) ecc 0).2)

/-- Whether a register is written by an action and not by a value: WO, W1C or a pop register (R386). -/
def State.actionReg (s : State) (p : Port) (a : Nat) : Bool :=
  a < 0x60000 && ((s.popWord p a).isSome || (match regDef? a with
    | some d => d.wo != 0 || (d.w1c != 0 && d.w == 0)
    | none => false))

/-- Whether an address is a word of the register or table window (Table 17.5). -/
def wordTarget (a : Nat) : Bool := a % 4 == 0 && (a < 0x100000 || (0x200000 ≤ a && a < 0x400000))

/-- The check of a step (R386, Table 17.5): whether it is a BAD_STEP. -/
def State.badStep (s : State) (p : Port) (t : SeqStep) : Bool :=
  let low := t.w0 % 2 ^ 28
  match stepOp t with
  | 1 | 2 => low != 0 || !wordTarget t.w1 || s.actionReg p t.w1
  | 3 =>
    let n := t.w3
    low != 0 || t.w1 % 4 != 0 || t.w2 % 4 != 0 || n % 4 != 0 || n == 0 || 262144 < n
      || !(0x40000000 ≤ t.w1 && t.w1 + n ≤ 0x80000000)
      || !((0x200000 ≤ t.w2 && t.w2 + n ≤ 0x400000) || (0x40000000 ≤ t.w2 && t.w2 + n ≤ 0x80000000))
  | 4 => low / 65536 != 0 || low == 0 || !wordTarget t.w1 || (t.w1 < 0x60000 && (s.popWord p t.w1).isSome)
  | 5 =>
    let n := bits t.w0 25 24
    bits t.w0 27 26 != 0 || bits t.w0 23 16 != 0 || t.w0 % 65536 == 0 || !s.flag (F.TG_CFG_EN n)
  | 6 => low != 0 || t.w1 == 0 || 10000000 < t.w1
  | 0 | 7 => low != 0
  | _ => true

/-- A step is done: the next one is reached; a cancelled sequence ends here (R390). -/
def State.stepDone (s : State) (p : Port) : State :=
  match s.seqRuns p.num with
  | [] => s
  | r :: rs =>
    let r := { r with step := r.step + 1, waiting := false, words := [] }
    let s := (s.setRuns p.num (r :: rs)).put (F.SEQ_SLOT_STATUS_NEXT r.slot) (seqNext r.step)
    if r.cancelled then s.seqFinish p.num 6 r.step else s

/-- A step waits. -/
def State.stepWaits (s : State) (p : Port) (r : SeqRun) (t : SeqStep) (left n : Nat) : State :=
  let words := [t.w0, t.w1, t.w2, t.w3].map (BitVec.ofNat 32)
  s.setRuns p.num ({ r with waiting := true, words := words, waitLeft := left, waitTg := n } :: (s.seqRuns p.num).tail)

/-- A step is refused (R387): `ACCESS_ERR` gives status 2, `ACCESS_DENIED` status 1. -/
def State.stepRefused (s : State) (p : Port) (r : SeqRun) (code : Nat) : State := s.seqFinish p.num (if code = 2 then 1 else 2) r.step

/-- Whether a port has a step that the engine can begin: its running sequence is between two steps, and its step list can be read. -/
def State.stepReady (s : State) (p : Port) : Bool :=
  match s.seqRuns p.num with
  | [] => false
  | r :: _ => !r.waiting && !(inFolds (stepAddr r) && s.seqWaits p (stepAddr r) 16)

/-- Whether the engine's round-robin has come to a port (R384): no port that comes before it after the last one served has a step to
begin. A sequence that waits in a step holds up no other port, and HP0 comes first after reset (DESIGN CHOICE, assumption log 18). -/
def State.seqTurnOf (s : State) (p : Port) : Bool :=
  let gap (q : Port) : Nat := (q.num + 2 - s.seq.last) % 3
  [Port.hp0, .hp1, .hp2].all fun q => gap p ≤ gap q || !s.stepReady q

/-- The engine has served a port. -/
def State.seqServed (s : State) (p : Port) : State := { s with seq := { s.seq with last := p.num } }

/-- The step that the running sequence of a port has reached, fetched and checked, and run where it is of kind `op` (R384, R386,
R387). -/
def State.runStep (s : State) (p : Port) (ecc : EccMap) (op : Nat) (act : State → SeqRun → SeqStep → State) : State :=
  if !s.domOn 35 then s
  else match s.seqRuns p.num with
    | [] => s
    | r :: _ =>
      let t := s.stepOf r
      if r.waiting then (if stepOp t = op then act s r t else s)
      else if !s.stepReady p || !s.seqTurnOf p then s
      else if !inFolds (stepAddr r) then (s.seqServed p).seqFinish p.num 7 r.step
      else
        let q := (s.seqServed p).seqRead p (stepAddr r) 16 ecc
        if q.1.isSome then q.2.seqFinish p.num 7 r.step
        else if stepOp t ≠ op ∧ stepOp t < 8 then s
        else if q.2.badStep p t then q.2.seqFinish p.num 3 r.step
        else act q.2 r t

/-- A word that a step writes (R384, R387): the ownership and access rules of the port are checked now; a word that its register's
own rule refuses (R18) does not end the sequence. -/
def State.stepWriteWord (s : State) (p : Port) (r : SeqRun) (a v : Nat) : State :=
  let c := s.permits (.host p) a
  if c ≠ 0 then (s.refusal c).stepRefused p r c
  else (s.applyPart (.host p) ⟨a, 0, leBytes 4 v⟩).stepDone p

/-- STEP_WRITE. -/
def execStepWrite (p : Port) (x : StepFetch) (s : State) : Host.Outcome State Fault Refusal :=
  checked (.stepWrite p x) s fun s => (s.cycle x.same).runStep p x.ecc 1 fun s r t => s.stepWriteWord p r t.w1 t.w2

/-- A word under a mask replaced by a value's bits; a flag that a 1 clears keeps its value outside the mask (R385). -/
def State.modified (s : State) (p : Port) (a v mask : Nat) : Nat :=
  let w1c := match regDef? a with
    | some d => if a < 0x60000 then d.w1c else 0
    | none => 0
  Nat.lor (Nat.land (s.viewWord p a) (0xFFFFFFFF - Nat.lor mask w1c)) (Nat.land v mask)

/-- STEP_MODIFY. -/
def execStepModify (p : Port) (x : StepFetch) (s : State) : Host.Outcome State Fault Refusal :=
  checked (.stepModify p x) s fun s =>
    (s.cycle x.same).runStep p x.ecc 2 fun s r t => s.stepWriteWord p r t.w1 (s.modified p t.w1 t.w2 t.w3)

/-- The words of a COPY to the table window, one after the other; the code of the refusal that ends it. -/
def State.copyTable (p : Port) : List (List Byte) → Nat → State → State × Nat
  | [], _, s => (s, 0)
  | w :: ws, a, s =>
    let c := s.permits (.host p) a
    if c ≠ 0 then (s.refusal c, c) else State.copyTable p ws (a + 4) (s.applyTable a 0 w)

/-- The bytes of a COPY to their destination (R262, R385). -/
def State.copyTo (s : State) (p : Port) (a : Nat) (bs : List Byte) : State × Nat :=
  if inFolds a then
    (let (s, c, _) := s.foldStore p false false 65 a bs
     (if c = 0 then s else s.refusal c, c))
  else State.copyTable p ((List.range (bs.length / 4)).map fun i => slice bs (4 * i) 4) a s

/-- A COPY (R385, R387): the words up to the first fold that cannot be read, then the error. -/
def State.stepCopy (s : State) (p : Port) (ecc : EccMap) (r : SeqRun) (t : SeqStep) : State :=
  let (a, n) := (t.w1, t.w3)
  if s.seqWaits p a n || (inFolds t.w2 && s.seqWaits p t.w2 n) then s
  else
    let q := s.seqRead p a n ecc
    let good := q.1.getD n / 4 * 4
    let (s, c) := q.2.copyTo p t.w2 (memBytes s.fst.mem a good)
    if c ≠ 0 then s.stepRefused p r c
    else if q.1.isSome then s.seqFinish p.num 7 r.step
    else s.stepDone p

/-- STEP_COPY. -/
def execStepCopy (p : Port) (x : StepFetch) (ecc : EccMap) (s : State) : Host.Outcome State Fault Refusal :=
  checked (.stepCopy p x ecc) s fun s => (s.cycle x.same).runStep p x.ecc 3 fun s r t => s.stepCopy p ecc r t

/-- STEP_POLL (R385): the word is read, and the step is done or waits. -/
def execStepPoll (p : Port) (ecc : EccMap) (s : State) : Host.Outcome State Fault Refusal :=
  checked (.stepPoll p ecc) s fun s => s.runStep p ecc 4 fun s r t =>
    if Nat.land (s.viewWord p t.w1) t.w3 = Nat.land t.w2 t.w3 then s.stepDone p else s.stepWaits p r t 0 0

/-- POLL_TIMEOUT (R387). -/
def State.pollTimeout (s : State) (p : Port) : State :=
  match s.seqRuns p.num with
  | [] => s
  | r :: _ => if r.waiting && stepOp (s.stepOf r) == 4 then s.seqFinish p.num 4 r.step else s

/-- POLL_TIMEOUT. -/
def execPollTimeout (p : Port) (s : State) : Host.Outcome State Fault Refusal := checked (.pollTimeout p) s fun s => s.pollTimeout p

/-- STEP_WAIT_FRAME (R385): the wait begins; the boundaries themselves end it. -/
def execStepWaitFrame (p : Port) (ecc : EccMap) (s : State) : Host.Outcome State Fault Refusal :=
  checked (.stepWaitFrame p ecc) s fun s => s.runStep p ecc 5 fun s r t =>
    if r.waiting then s else s.stepWaits p r t (t.w0 % 65536) (bits t.w0 25 24)

/-- STEP_DELAY (R385): the first begins the delay, the next one says that its time has passed. -/
def execStepDelay (p : Port) (ecc : EccMap) (s : State) : Host.Outcome State Fault Refusal :=
  checked (.stepDelay p ecc) s fun s => s.runStep p ecc 6 fun s r t => if r.waiting then s.stepDone p else s.stepWaits p r t 0 0

/-- A COMMIT step (R385, R389): as `DEV_COMMIT` of the port, with the engines that its own slot holds. -/
def State.stepCommit (s : State) (p : Port) (r : SeqRun) : State :=
  s.commitNow fun a => s.scopeOf a == p.num && !s.skips (engineOfAddr a) (some r.slot)

/-- STEP_COMMIT. -/
def execStepCommit (p : Port) (ecc : EccMap) (s : State) : Host.Outcome State Fault Refusal :=
  checked (.stepCommit p ecc) s fun s => s.runStep p ecc 7 fun s r _ => (s.stepCommit p r).stepDone p

/-- STEP_END (R385, R389). -/
def execStepEnd (p : Port) (ecc : EccMap) (s : State) : Host.Outcome State Fault Refusal :=
  checked (.stepEnd p ecc) s fun s => s.runStep p ecc 0 fun s r _ => s.seqFinish p.num 0 r.step

end Sys2Proof.Machine
end

