-- ==== Sys2Proof/Machine/Dispatch.lean ====
section
/-! DEFINITION. The one match on commands: one arm per constructor, each a direct call of its meaning. -/

namespace Sys2Proof.Machine

/-- The effect of a command on everything but the queue. -/
def exec (i : Instr) (s : State) : Host.Outcome State Fault Refusal :=
  match i with
  | .registerWrite ag addr word => Sys2Proof.Machine.execRegisterWrite ag addr word s
  | .devCommit ag => Sys2Proof.Machine.execDevCommit ag s
  | .qspiWrite p how addr data => Sys2Proof.Machine.execQspiWrite p how addr data s
  | .qspiRead ag complete addr n notReady collide ecc => Sys2Proof.Machine.execQspiRead ag complete addr n notReady collide ecc s
  | .qspiStatus p n => Sys2Proof.Machine.execQspiStatus p n s
  | .badCmd p cmd => Sys2Proof.Machine.execBadCmd p cmd s
  | .i2cWrite dev how addr data => Sys2Proof.Machine.execI2cWrite dev how addr data s
  | .i2cRead dev complete addr n notReady collide ecc => Sys2Proof.Machine.execI2cRead dev complete addr n notReady collide ecc s
  | .i2cStatusRead dev n => Sys2Proof.Machine.execI2cStatusRead dev n s
  | .pairRegisterLatch p addr => Sys2Proof.Machine.execPairRegisterLatch p addr s
  | .pilCfgWrite ag value => Sys2Proof.Machine.execPilCfgWrite ag value s
  | .laneStatus => Sys2Proof.Machine.execLaneStatus s
  | .creditPeriodic => Sys2Proof.Machine.execCreditPeriodic s
  | .laneMarker flock lane id seq chk pos agree => Sys2Proof.Machine.execLaneMarker flock lane id seq chk pos agree s
  | .laneLost lane b => Sys2Proof.Machine.execLaneLost lane b s
  | .rotDupRepeat flock => Sys2Proof.Machine.execRotDupRepeat flock s
  | .rotNoCoop flock => Sys2Proof.Machine.execRotNoCoop flock s
  | .rotReturn flock => Sys2Proof.Machine.execRotReturn flock s
  | .degradedLinkLoss => Sys2Proof.Machine.execDegradedLinkLoss s
  | .frameStart rx b1 b2 b3 b4 => Sys2Proof.Machine.execFrameStart rx b1 b2 b3 b4 s
  | .vidLine rx overflow b1 b2 b3 b4 b5 => Sys2Proof.Machine.execVidLine rx overflow b1 b2 b3 b4 b5 s
  | .frameEnd rx => Sys2Proof.Machine.execFrameEnd rx s
  | .failedPacket rx b => Sys2Proof.Machine.execFailedPacket rx b s
  | .regionBegin rx b1 b2 b3 b4 b5 => Sys2Proof.Machine.execRegionBegin rx b1 b2 b3 b4 b5 s
  | .regionLine rx b1 b2 b3 b4 b5 b6 => Sys2Proof.Machine.execRegionLine rx b1 b2 b3 b4 b5 b6 s
  | .regionCommit rx b => Sys2Proof.Machine.execRegionCommit rx b s
  | .sleep rx => Sys2Proof.Machine.execSleep rx s
  | .wake rx => Sys2Proof.Machine.execWake rx s
  | .metaPacket rx => Sys2Proof.Machine.execMeta rx s
  | .auxPacket rx => Sys2Proof.Machine.execAux rx s
  | .auxPop p => Sys2Proof.Machine.execAuxPop p s
  | .sourceFrameComplete => Sys2Proof.Machine.execSourceFrameComplete s
  | .tableShadowWrite ag addr data => Sys2Proof.Machine.execTableShadowWrite ag addr data s
  | .fePixel x y => Sys2Proof.Machine.execFePixel x y s
  | .storeModeRead bx bY ecc eccBack => Sys2Proof.Machine.execStoreModeRead bx bY ecc eccBack s
  | .zoneRowDecided zy => Sys2Proof.Machine.execZoneRowDecided zy s
  | .splitPixel x y => Sys2Proof.Machine.execSplitPixel x y s
  | .syncReset ag => Sys2Proof.Machine.execSyncReset ag s
  | .stageA x y plane => Sys2Proof.Machine.execStageA x y plane s
  | .stageB x y plane ecc => Sys2Proof.Machine.execStageB x y plane ecc s
  | .pcmListWrite ag addr data => Sys2Proof.Machine.execPcmListWrite ag addr data s
  | .overdrive x y plane ecc mismatch => Sys2Proof.Machine.execOverdrive x y plane ecc mismatch s
  | .dither x y plane => Sys2Proof.Machine.execDither x y plane s
  | .thermistorConversion k code => Sys2Proof.Machine.execThermistorConversion k code s
  | .tgFrameBoundary n => Sys2Proof.Machine.execTgFrameBoundary n s
  | .lineStart n => Sys2Proof.Machine.execLineStart n s
  | .jump n => Sys2Proof.Machine.execJump n s
  | .followerRestart n => Sys2Proof.Machine.execFollowerRestart n s
  | .tgHoldover n => Sys2Proof.Machine.execTgHoldover n s
  | .generatorStop n => Sys2Proof.Machine.execGeneratorStop n s
  | .gateShort l sig => Sys2Proof.Machine.execGateShort l sig s
  | .panelOn ag l => Sys2Proof.Machine.execPanelOn ag l s
  | .panelOff ag l => Sys2Proof.Machine.execPanelOff ag l s
  | .onDelayElapsed k => Sys2Proof.Machine.execOnDelayElapsed k s
  | .gateDelayElapsed l => Sys2Proof.Machine.execGateDelayElapsed l s
  | .panelEnableRelease l k => Sys2Proof.Machine.execPanelEnableRelease l k s
  | .lineSlot l badLanes => Sys2Proof.Machine.execLineSlot l badLanes s
  | .portUp flock port => Sys2Proof.Machine.execPortUp flock port s
  | .locknLost flock => Sys2Proof.Machine.execLocknLost flock s
  | .statusReply flock reply => Sys2Proof.Machine.execStatusReply flock reply s
  | .laneOff lane => Sys2Proof.Machine.execLaneOff lane s
  | .blSyncIn => Sys2Proof.Machine.execBlSyncIn s
  | .bleSyncInLost => Sys2Proof.Machine.execBleSyncInLost s
  | .zoneStoreWrite ag addr value => Sys2Proof.Machine.execZoneStoreWrite ag addr value s
  | .swap ag => Sys2Proof.Machine.execSwap ag s
  | .loopTest ag => Sys2Proof.Machine.execLoopTest ag s
  | .clearDead ag => Sys2Proof.Machine.execClearDead ag s
  | .driveCounterWrite ag y value => Sys2Proof.Machine.execDriveCounterWrite ag y value s
  | .transfer chain => Sys2Proof.Machine.execTransfer chain s
  | .latch chain status loopFound => Sys2Proof.Machine.execLatch chain status loopFound s
  | .nopTransfer chain => Sys2Proof.Machine.execNopTransfer chain s
  | .loopTestRepeat chain => Sys2Proof.Machine.execLoopTestRepeat chain s
  | .strobeWindowOpen row => Sys2Proof.Machine.execStrobeWindowOpen row s
  | .strobeWindowClose row => Sys2Proof.Machine.execStrobeWindowClose row s
  | .sensorRead k => Sys2Proof.Machine.execSensorRead k s
  | .sensorReadDone k counts => Sys2Proof.Machine.execSensorReadDone k counts s
  | .bleSnsCmd ag value => Sys2Proof.Machine.execBleSnsCmd ag value s
  | .bleSnsDone nack => Sys2Proof.Machine.execBleSnsDone nack s
  | .vledEvaluation ack => Sys2Proof.Machine.execVledEvaluation ack s
  | .srfEnter ag => Sys2Proof.Machine.execSrfEnter ag s
  | .srfExit ag => Sys2Proof.Machine.execSrfExit ag s
  | .stall => Sys2Proof.Machine.execStall s
  | .regionHostCommit ag slot => Sys2Proof.Machine.execRegionHostCommit ag slot s
  | .slotCfgWrite ag slot value => Sys2Proof.Machine.execSlotCfgWrite ag slot value s
  | .fillComplete => Sys2Proof.Machine.execFillComplete s
  | .updateCopyComplete found => Sys2Proof.Machine.execUpdateCopyComplete found s
  | .echoComplete => Sys2Proof.Machine.execEchoComplete s
  | .rollbackComplete => Sys2Proof.Machine.execRollbackComplete s
  | .readStart => Sys2Proof.Machine.execReadStart s
  | .srfResultPop p n => Sys2Proof.Machine.execSrfResultPop p n s
  | .foldOwnerWrite ag fold value => Sys2Proof.Machine.execFoldOwnerWrite ag fold value s
  | .fstHandover fold => Sys2Proof.Machine.execFstHandover fold s
  | .grazeStep ecc => Sys2Proof.Machine.execGrazeStep ecc s
  | .foldInitComplete fold => Sys2Proof.Machine.execFoldInitComplete fold s
  | .tampern => Sys2Proof.Machine.execTampern s
  | .tailWrite ag ring value => Sys2Proof.Machine.execTailWrite ag ring value s
  | .jobStart ecc => Sys2Proof.Machine.execJobStart ecc s
  | .jobComplete ecc verifyFails => Sys2Proof.Machine.execJobComplete ecc verifyFails s
  | .resume ag ring => Sys2Proof.Machine.execResume ag ring s
  | .skip ag ring => Sys2Proof.Machine.execSkip ag ring s
  | .cprDonePop ag ring => Sys2Proof.Machine.execCprDonePop ag ring s
  | .pllLock pll => Sys2Proof.Machine.execPllLock pll s
  | .pllUnlock pll => Sys2Proof.Machine.execPllUnlock pll s
  | .cdrLock lane => Sys2Proof.Machine.execCdrLock lane s
  | .signalLoss lane => Sys2Proof.Machine.execSignalLoss lane s
  | .commaAligned lane comma => Sys2Proof.Machine.execCommaAligned lane comma s
  | .polarityInvert lane => Sys2Proof.Machine.execPolarityInvert lane s
  | .slip ag lane => Sys2Proof.Machine.execSlip ag lane s
  | .adaptStep lane taps ctle => Sys2Proof.Machine.execAdaptStep lane taps ctle s
  | .eyeMonitor lane => Sys2Proof.Machine.execEyeMonitor lane s
  | .eyeMeasurementDone lane phases volts residual => Sys2Proof.Machine.execEyeMeasurementDone lane phases volts residual s
  | .scanGo ag lane value => Sys2Proof.Machine.execScanGo ag lane value s
  | .scanDone lane point => Sys2Proof.Machine.execScanDone lane point s
  | .outputShort short => Sys2Proof.Machine.execOutputShort short s
  | .htmNowLatch p => Sys2Proof.Machine.execHtmNowLatch p s
  | .htmStep ag value => Sys2Proof.Machine.execHtmStep ag value s
  | .sync h sender seqId twoStep t1 corr logInterval => Sys2Proof.Machine.execSync h sender seqId twoStep t1 corr logInterval s
  | .followUp h sender seqId t1 => Sys2Proof.Machine.execFollowUp h sender seqId t1 s
  | .delayResp h sender reqPort seqId t4 logMinDelayReq => Sys2Proof.Machine.execDelayResp h sender reqPort seqId t4 logMinDelayReq s
  | .announce msg => Sys2Proof.Machine.execAnnounce msg s
  | .delayReq b => Sys2Proof.Machine.execDelayReq b s
  | .droppedFrame => Sys2Proof.Machine.execDroppedFrame s
  | .arpRequest vlan target sender => Sys2Proof.Machine.execArpRequest vlan target sender s
  | .igmpQuery => Sys2Proof.Machine.execIgmpQuery s
  | .phyPoll linkBit => Sys2Proof.Machine.execPhyPoll linkBit s
  | .announceTimeout => Sys2Proof.Machine.execAnnounceTimeout s
  | .ppsEdge b => Sys2Proof.Machine.execPpsEdge b s
  | .htmPpsLost => Sys2Proof.Machine.execHtmPpsLost s
  | .ppsTodArm ag value => Sys2Proof.Machine.execPpsTodArm ag value s
  | .mdioGo ag value => Sys2Proof.Machine.execMdioGo ag value s
  | .mdioDone data => Sys2Proof.Machine.execMdioDone data s
  | .calReq ag value => Sys2Proof.Machine.execCalReq ag value s
  | .calTemp sensor reading => Sys2Proof.Machine.execCalTemp sensor reading s
  | .calInterval unit => Sys2Proof.Machine.execCalInterval unit s
  | .calUnitStart => Sys2Proof.Machine.execCalUnitStart s
  | .calSkipRetry unit => Sys2Proof.Machine.execCalSkipRetry unit s
  | .calRunComplete unit values quality => Sys2Proof.Machine.execCalRunComplete unit values quality s
  | .sliceLineCompare line equal => Sys2Proof.Machine.execSliceLineCompare line equal s
  | .sliceBistComplete slice pass => Sys2Proof.Machine.execSliceBistComplete slice pass s
  | .tileFault slice => Sys2Proof.Machine.execTileFault slice s
  | .loadUpdate load => Sys2Proof.Machine.execLoadUpdate load s
  | .echo p => Sys2Proof.Machine.execEcho p s
  | .version p => Sys2Proof.Machine.execVersion p s
  | .logRead p => Sys2Proof.Machine.execLogRead p s
  | .logWrite p ok => Sys2Proof.Machine.execLogWrite p ok s
  | .reviveUnit p pass => Sys2Proof.Machine.execReviveUnit p pass s
  | .thermal p => Sys2Proof.Machine.execThermal p s
  | .mailboxReservedOp p => Sys2Proof.Machine.execMailboxReservedOp p s
  | .mgtDonePop p n => Sys2Proof.Machine.execMgtDonePop p n s
  | .sheepdogService value => Sys2Proof.Machine.execSheepdogService value s
  | .sheepdogTimeout => Sys2Proof.Machine.execSheepdogTimeout s
  | .mgtRestart ag => Sys2Proof.Machine.execMgtRestart ag s
  | .revive ag => Sys2Proof.Machine.execRevive ag s
  | .reboot1 => Sys2Proof.Machine.execReboot1 s
  | .reboot2 => Sys2Proof.Machine.execReboot2 s
  | .mgtHeadless => Sys2Proof.Machine.execMgtHeadless s
  | .avsLoop margins ack => Sys2Proof.Machine.execAvsLoop margins ack s
  | .avsGuard margins ack => Sys2Proof.Machine.execAvsGuard margins ack s
  | .recoveryStart => Sys2Proof.Machine.execRecoveryStart s
  | .ownershipWrite ag addr value => Sys2Proof.Machine.execOwnershipWrite ag addr value s
  | .ownLock ag => Sys2Proof.Machine.execOwnLock ag s
  | .seqStart ag slot startStep => Sys2Proof.Machine.execSeqStart ag slot startStep s
  | .seqCancel ag slot => Sys2Proof.Machine.execSeqCancel ag slot s
  | .seqRelease ag slot => Sys2Proof.Machine.execSeqRelease ag slot s
  | .stepWrite p fetch => Sys2Proof.Machine.execStepWrite p fetch s
  | .stepModify p fetch => Sys2Proof.Machine.execStepModify p fetch s
  | .stepCopy p fetch ecc => Sys2Proof.Machine.execStepCopy p fetch ecc s
  | .stepPoll p ecc => Sys2Proof.Machine.execStepPoll p ecc s
  | .pollTimeout p => Sys2Proof.Machine.execPollTimeout p s
  | .stepWaitFrame p ecc => Sys2Proof.Machine.execStepWaitFrame p ecc s
  | .stepDelay p ecc => Sys2Proof.Machine.execStepDelay p ecc s
  | .stepCommit p ecc => Sys2Proof.Machine.execStepCommit p ecc s
  | .stepEnd p ecc => Sys2Proof.Machine.execStepEnd p ecc s
  | .seqHoldLong slot => Sys2Proof.Machine.execSeqHoldLong slot s
  | .seqDonePop p n => Sys2Proof.Machine.execSeqDonePop p n s
  | .evtPop ag n => Sys2Proof.Machine.execEvtPop ag n s
  | .maskSet ag src => Sys2Proof.Machine.execMaskSet ag src s
  | .maskClear ag src => Sys2Proof.Machine.execMaskClear ag src s
  | .routeChange ag src route => Sys2Proof.Machine.execRouteChange ag src route s
  | .pendClear ag src sameCycle => Sys2Proof.Machine.execPendClear ag src sameCycle s
  | .intnEnWrite ag n en => Sys2Proof.Machine.execIntnEnWrite ag n en s
  | .coalesceTime n => Sys2Proof.Machine.execCoalesceTime n s
  | .tally ag => Sys2Proof.Machine.execTally ag s
  | .timedCopy => Sys2Proof.Machine.execTimedCopy s
  | .logPeriodic => Sys2Proof.Machine.execLogPeriodic s
  | .talLogWritten ok => Sys2Proof.Machine.execTalLogWritten ok s
  | .driveSecondsCopy => Sys2Proof.Machine.execDriveSecondsCopy s
  | .aonPorRelease straps banks => Sys2Proof.Machine.execAonPorRelease straps banks s
  | .fusesLoaded => Sys2Proof.Machine.execFusesLoaded s
  | .imageVerify => Sys2Proof.Machine.execImageVerify s
  | .imageApply => Sys2Proof.Machine.execImageApply s
  | .portsUpOrTimeout => Sys2Proof.Machine.execPortsUpOrTimeout s
  | .lcCmd ag value => Sys2Proof.Machine.execLcCmd ag value s
  | .burn ag code => Sys2Proof.Machine.execBurn ag code s
  | .cfgRestart ag code => Sys2Proof.Machine.execCfgRestart ag code s
  | .clearBor ag => Sys2Proof.Machine.execClearBor ag s
  | .nvRead ag => Sys2Proof.Machine.execNvRead ag s
  | .nvProgram ag => Sys2Proof.Machine.execNvProgram ag s
  | .cfgNvDone ecc deviceOk verifyOk => Sys2Proof.Machine.execCfgNvDone ecc deviceOk verifyOk s
  | .resetn => Sys2Proof.Machine.execResetn s
  | .pwrOnBackup => Sys2Proof.Machine.execPwrOnBackup s
  | .pwrOnMain => Sys2Proof.Machine.execPwrOnMain s
  | .powerOnReset bothLost => Sys2Proof.Machine.execPowerOnReset bothLost s
  | .pwrReversed x => Sys2Proof.Machine.execPwrReversed x s
  | .pwrBackupLost => Sys2Proof.Machine.execPwrBackupLost s
  | .lowPowerEntry => Sys2Proof.Machine.execLowPowerEntry s
  | .brownOut => Sys2Proof.Machine.execBrownOut s
  | .pwrRailLow x => Sys2Proof.Machine.execPwrRailLow x s
  | .domainRequest ag dd req => Sys2Proof.Machine.execDomainRequest ag dd req s
  | .domainTransitionComplete dd => Sys2Proof.Machine.execDomainTransitionComplete dd s
  | .invalidSymbol lane six four => Sys2Proof.Machine.execInvalidSymbol lane six four s
  | .gatePulseEdge n sig stop => Sys2Proof.Machine.execGatePulseEdge n sig stop s
  | .blSyncPulseEnd => Sys2Proof.Machine.execBlSyncPulseEnd s
  | .lockedFoldWipeComplete => Sys2Proof.Machine.execLockedFoldWipeComplete s

end Sys2Proof.Machine
end

