-- ==== Sys2Proof/Safety.lean ====
section
/-! DEFINITION. What counts as a safe run, how a command ends, and the rule of the interrupt pins, in the terms that claims use. -/

namespace Sys2Proof

open Sys2Proof.Machine

/-- A step goes on: it neither faults nor is refused. -/
def Safe (s : State) : Prop := ∃ t, step s = .next t

/-- The state in which a command's effect begins: no occurrence and no output yet. -/
def begun (s : State) : State := { s with occ := [], out := [], sameCycle := false }

/-- The end of a command that began in s and whose effect left u: the occurrences are delivered (R393 to R401), the pins follow, and
the queue of commands is as before. -/
def finish (s u : State) : State := { u.deliver.settle with pending := s.pending, sameCycle := false }

/-- A command goes on, and its effect leaves u. -/
def Ends (c : Instr) (s u : State) : Prop := exec c s = .next (finish s u)

/-- An agent's write of an address is let through (R371, R375, R379 to R382, R426). -/
def CanWrite (s : State) (ag : Agent) (a : Nat) : Prop :=
  s.permits ag a = 0 ∧ ∀ p, agentPort ag = some p → s.portHeld p = false

/-- The state in which the effect of an accepted write begins: a port's status word shows the transaction (R376). -/
def accepted (s : State) (ag : Agent) : State :=
  match agentPort ag with
  | none => begun s
  | some p => (begun s).portAccept p

/-- An address of a port's status registers (Table 17.11). -/
def isPortReg (a : Nat) : Bool := 0x44000 ≤ a && a < 0x440C0

/-- The states that differ from s in its registers, at the given addresses, and in what `t` lists by hand. -/
def OnlyRegs (s t : State) (l : List Nat) : Prop := ∀ a, a ∉ l → t.reg a = s.reg a

/-- The rule of the interrupt pin of a target (R401): low only with records waiting and `EN` = 1, and low then as soon as `COUNT`
records wait, the oldest is `TIME` µs old, or an urgent one has come. -/
def PinRule (s : State) (n : Nat) : Prop :=
  let t := s.target n
  (t.intn = true → t.queue ≠ [] ∧ s.flag (F.EVT_H_CFG_EN n) = true) ∧
  (s.flag (F.EVT_H_CFG_EN n) = true → t.queue ≠ [] →
    s.get (F.EVT_H_CFG_COUNT n) ≤ t.queue.length ∨ t.timeDue = true ∨ t.urgentSeen = true → t.intn = true)

end Sys2Proof
end

