-- ==== Sys2Proof/Certificates/Slice0/Obligations.lean ====
section
/-! DEFINITION. The statements about the model. Most say with `Ends c s u` that the command c answers a next state whose effect, before
its events are delivered, is u; the occurrences of u are the events it raises, and the outputs of u what it sends. -/

open Sys2Proof Sys2Proof.Machine

/-- From s to u nothing changes but the registers at the given addresses, tallies, what is raised and what is sent. -/
def RegsOnly (s u : State) (l : List Nat) : Prop :=
  OnlyRegs s u l ∧ u = { s with regs := u.regs, tal := u.tal, occ := u.occ, out := u.out }

/-- A step runs the command at the front of the queue on the state with the queue's rest (log entry 1). With an empty queue (log entry
2) one cycle of the 250 MHz clock passes: d is 4 ns × (1 + f × 10^(−9)) with the residue that earlier cycles left, f being `HTM_FREQ` in
units of 2^(−16) ppb and d in units of 2^(−16) × 10^(−9) ns (R315). -/
def Obligations.StepRunsFrontCommand : Prop :=
  (∀ (c : Instr) (rest : List Instr) (s : State), step { s with pending := c :: rest } = exec c { s with pending := rest })
  ∧ ∀ s : State, s.pending = [] →
    let d : Int := 4 * 2 ^ 16 * 10 ^ 9 + 4 * signed 32 (s.reg R.HTM_FREQ) + s.house.residue
    step s = .next s.tick ∧ s.tick = { s with now := s.tick.now, house := s.tick.house } ∧ s.now < s.tick.now
    ∧ (s.tick.now : Int) = s.now + d / 10 ^ 9 ∧ s.tick.house = HouseTime.ofFine (s.house.fine - s.house.residue + d.toNat)

/-- Every well-formed command goes on, with the queue as before and every occurrence delivered; any other is refused (log entry 3). -/
def Obligations.WellFormedCommandsGoOn : Prop :=
  ∀ (c : Instr) (s : State),
    (c.wellFormed = true → ∃ t, exec c s = .next t ∧ t.pending = s.pending ∧ t.occ = [])
    ∧ (c.wellFormed = false → exec c s = .refused .illFormed)

/-- The end of a command leaves everything as its effect left it but the event unit, the tallies, the core's recoveries and the
occurrences. -/
def Obligations.FinishFrame : Prop :=
  ∀ s u : State, finish s u = { u with
    pending := s.pending, evt := (finish s u).evt, tal := (finish s u).tal, mgt := (finish s u).mgt, occ := [], sameCycle := false }

/-- Whatever the state before, after a command each interrupt pin is as R401 says; and at the end of every command, which its effect
left as u, the records that remain keep a low pin low, and a high one goes low only by `COUNT`, by `TIME` or by an urgent record. -/
def Obligations.PinsFollowR401 : Prop :=
  (∀ (s t : State), s.pending ≠ [] → step s = .next t → ∀ n, n < 3 → PinRule t n)
  ∧ ∀ (s u : State) (n : Nat), n < 3 →
    let was := u.target n
    let t := (finish s u).target n
    (was.intn = true → was.queue ≠ [] → u.flag (F.EVT_H_CFG_EN n) = true → t.intn = true)
    ∧ (was.intn = false → t.intn = true → u.get (F.EVT_H_CFG_COUNT n) ≤ t.queue.length ∨ t.timeDue = true ∨ t.urgentSeen = true)

/-- The rule of the pins is an invariant of the step. -/
def Obligations.PinRuleInvariant : Prop :=
  ∀ (s t : State), (∀ n, n < 3 → PinRule s n) → step s = .next t → ∀ n, n < 3 → PinRule t n

/-- The canonical form of each memory is an invariant of the step (what an unlisted byte reads as is the model's, log entry 7). -/
def Obligations.MemoriesKeepTheirForm : Prop :=
  ∀ (s t : State), step s = .next t →
    (Memory.wf 0 s.fst.mem → Memory.wf 0 t.fst.mem) ∧ (Memory.wf 0 s.fst.locked → Memory.wf 0 t.fst.locked)
    ∧ (Memory.wf 0xFF s.nvm → Memory.wf 0xFF t.nvm)

/-- At reset the pins follow R401 and the memories are in canonical form (their blank bytes are the model's choice, log entry 7). -/
def Obligations.ResetInvariant : Prop :=
  (∀ n, n < 3 → PinRule State.reset n ∧ (State.reset.target n).queue = [])
  ∧ Memory.wf 0 State.reset.fst.mem ∧ Memory.wf 0 State.reset.fst.locked ∧ Memory.wf 0xFF State.reset.nvm ∧ State.reset.pending = []

/-- At reset a register reads its reset value; among them `DEV_ID`, the state of start-up, the generators and the owners. -/
def Obligations.ResetRegisters : Prop :=
  (∀ a, State.reset.reg a = resetOf a) ∧ State.reset.reg R.DEV_ID = 0x8840B100 ∧ State.reset.get F.CFG_STATUS_STATE = 0
  ∧ (∀ n, n < 4 → State.reset.flag (F.TG_CFG_EN n) = false) ∧ (∀ e, e < 24 → State.reset.engineOwner e = 0)
  ∧ ∀ n, n < 3 → State.reset.flag (F.EVT_H_CFG_EN n) = false

/-! ### Supplies, start-up and power (chapters 20 and 21) -/

/-- Supplies (R437, R439): the switch to the backup input and back, an input's level (log entry 157), a lost backup. -/
def Obligations.SupplyCommands : Prop :=
  ∀ s : State,
    (s.pwr.onB = false →
      (∃ u, Ends .pwrOnBackup s u ∧ u.pwr = { s.pwr with onB := true, aOk := false, bOk := true, revB := false }
        ∧ u.reg R.PWR_CNT_SWITCH = min 0xFFFFFFFF (s.reg R.PWR_CNT_SWITCH + 1) ∧ OnlyRegs s u [R.PWR_CNT_SWITCH]
        ∧ u.occ = [⟨0, 2⟩] ∧ u = { begun s with regs := u.regs, pwr := u.pwr, tal := u.tal, occ := u.occ, nvm := u.nvm }
        ∧ (s.flag F.TAL_LOG_CFG_SUPPLY_WRITE = false → u.nvm = s.nvm))
      ∧ Ends .pwrBackupLost s { begun s with pwr := { s.pwr with bOk := false }, occ := [⟨3, 2⟩] }
      ∧ Ends .pwrOnMain s (begun s))
    ∧ (s.pwr.onB = true →
      Ends .pwrOnMain s { begun s with pwr := { s.pwr with onB := false, aOk := true, revA := false }, occ := [⟨1, 0⟩] }
      ∧ Ends .pwrOnBackup s (begun s) ∧ Ends .pwrBackupLost s (begun s))
    ∧ Ends (.pwrReversed ⟨false, .reversed⟩) s { begun s with pwr := { s.pwr with revA := true, aOk := false }, occ := [⟨2, 2⟩] }
    ∧ Ends (.pwrReversed ⟨true, .reversed⟩) s { begun s with pwr := { s.pwr with revB := true, bOk := false }, occ := [⟨2, 2⟩] }
    ∧ (∀ lvl : SupplyLevel, lvl ≠ .reversed →
      Ends (.pwrReversed ⟨false, lvl⟩) s { begun s with pwr := { s.pwr with revA := false, aOk := lvl == .good } }
      ∧ Ends (.pwrReversed ⟨true, lvl⟩) s { begun s with pwr := { s.pwr with revB := false, bOk := lvl == .good } })

/-- A cold start (R433, R438, R440): every register but `CFG_STATUS` and every engine is at reset, the folds have lost their content;
the NVM, but what a programming that it cuts off leaves there, the fuses, the latch of `BOR_LP` and the supplies stay; `CAUSE` says why. -/
def Cold (s u : State) (cause : Nat) (latch : Bool) : Prop :=
  u.get F.CFG_STATUS_CAUSE = cause ∧ OnlyRegs State.reset u [R.CFG_STATUS] ∧ u.cfg = { fuses := s.cfg.fuses, borLatch := latch }
  ∧ u.pwr.onB = s.pwr.onB ∧ u.pwr.lp = false
  ∧ u = { State.reset with
            pending := s.pending, occ := u.occ, now := s.now, freeCtr := s.nvCut.freeCtr, nvm := s.nvCut.nvm, nvmDevice := s.nvmDevice
            nvmTorn := s.nvCut.nvmTorn, regs := u.regs, cfg := u.cfg, pwr := u.pwr }

/-- The causes of a cold start that are commands (R433, R438, R440); that `RESTART` with a wrong `CODE` has no effect is log entry 29
(DEDUCED). -/
def Obligations.ColdStarts : Prop :=
  ∀ (s : State) (ag : Agent) (code : BitVec 16),
    (∃ u, Ends .resetn s u ∧ Cold s u 1 s.cfg.borLatch ∧ u.occ = [])
    ∧ (∃ u, Ends (.powerOnReset false) s u ∧ Cold s u 0 s.cfg.borLatch ∧ u.occ = [])
    ∧ (∃ u, Ends (.powerOnReset true) s u ∧ Cold s u 0 false ∧ u.occ = [])
    ∧ (s.pwr.lp = true → ∃ u, Ends .brownOut s u ∧ Cold s u 2 true ∧ u.occ = [])
    ∧ (s.pwr.lp = false → Ends .brownOut s (begun s))
    ∧ (CanWrite s ag R.CFG_CTRL → code = 0x4C43#16 → ∃ u, Ends (.cfgRestart ag code) s u ∧ Cold s u 3 s.cfg.borLatch ∧ u.occ = [])
    ∧ (CanWrite s ag R.CFG_CTRL → code ≠ 0x4C43#16 → Ends (.cfgRestart ag code) s (accepted s ag))

/-- LC_CMD, BURN and CLEAR_BOR (R431 to R433). That 245 and 22 are still to be delivered after the restart is log entry 30 (DEDUCED). -/
def Obligations.LifeCycleAndFuses : Prop :=
  ∀ (s : State) (ag : Agent) (v : Word),
    (CanWrite s ag R.CFG_LC_CMD →
      (v.toNat / 65536 = 0x4C43 ∧ lcAllowed s.cfg.fuses.state (v.toNat % 4) = true →
        ∃ u, Ends (.lcCmd ag v) s u ∧ u.cfg.fuses.state = v.toNat % 4 ∧ u.get F.CFG_STATUS_CAUSE = 4 ∧ u.occ = [⟨245, 0⟩, ⟨22, 0⟩]
          ∧ u.nvm = s.nvCut.nvm ∧ u.fst.mem = [] ∧ u.fst.locked = [])
      ∧ (¬ (v.toNat / 65536 = 0x4C43 ∧ lcAllowed s.cfg.fuses.state (v.toNat % 4) = true) →
        ∃ u, Ends (.lcCmd ag v) s u ∧ u.occ = [⟨49, 0⟩] ∧ u.cfg = s.cfg ∧ u.nvm = s.nvm ∧ u.fst = s.fst
          ∧ ∀ a, isPortReg a = false → u.reg a = s.reg a))
    ∧ (CanWrite s ag R.CFG_CTRL →
      (s.cfg.fuses.burned = false → s.cfg.fuses.state < 2 →
        ∃ u, Ends (.burn ag 0x4C43#16) s u ∧ u.occ = [] ∧ u.flag F.CFG_FUSE_BURNED = true
          ∧ u.cfg = { s.cfg with fuses := { s.cfg.fuses with
              burned := true, signReq := s.flag F.CFG_FUSE_SIGN_REQ
              keyHash := (List.range 8).map fun i => BitVec.ofNat 32 (s.reg (R.CFG_KEYHASH i)) } })
      ∧ (s.cfg.fuses.burned = true ∨ 2 ≤ s.cfg.fuses.state →
        ∃ u, Ends (.burn ag 0x4C43#16) s u ∧ u.occ = [⟨49, 0⟩] ∧ u.cfg = s.cfg ∧ ∀ a, isPortReg a = false → u.reg a = s.reg a)
      ∧ (∃ u, Ends (.clearBor ag) s u ∧ u.occ = [] ∧ u.cfg = { s.cfg with borLatch := false } ∧ u.flag F.CFG_STATUS_BOR_LP = false
          ∧ (∀ a, a ≠ R.CFG_STATUS → u.reg a = (accepted s ag).reg a)
          ∧ u = { accepted s ag with regs := u.regs, cfg := u.cfg }))

/-- The start-up commands (Table 20.7). The clauses in which `PORTS_UP_OR_TIMEOUT` goes to RUN at once without `PANEL_ON`, and waits in
START for a panel that stays PROTECTED, are log entry 49 (DEDUCED). -/
def Obligations.StartUpSteps : Prop :=
  ∀ (s : State) (straps : BitVec 2) (banks : BitVec 5),
    (s.get F.CFG_STATUS_STATE = 0 →
      (∃ u, Ends (.aonPorRelease straps banks) s u ∧ u.cfg = { s.cfg with hp2Addr := straps.toNat }
        ∧ u.pwr = { s.pwr with padBanks := banks.toNat } ∧ u.flag F.CFG_STATUS_BOR_LP = s.cfg.borLatch
        ∧ u.occ = (if s.cfg.borLatch then [⟨23, 0⟩] else []) ∧ OnlyRegs s u [R.CFG_STATUS]
        ∧ u = { begun s with cfg := u.cfg, pwr := u.pwr, regs := u.regs, occ := u.occ })
      ∧ (∃ u, Ends .fusesLoaded s u ∧ u.get F.CFG_STATUS_STATE = 1 ∧ u.get (F.PWR_DOM_STATE 1) = 2
        ∧ u.get F.CFG_LC_STATE = s.cfg.fuses.state ∧ ⟨6, 0⟩ ∈ u.occ ∧ u.cfg = s.cfg ∧ (s.tal.log.writing = none → u.nvm = s.nvm)))
    ∧ (s.get F.CFG_STATUS_STATE = 1 → s.headerReason 0 ≠ 0 → s.headerReason 1 ≠ 0 →
      ∃ u, Ends .imageVerify s u ∧ u.get F.CFG_STATUS_STATE = 5 ∧ u.get F.CFG_STATUS_SLOT = 3 ∧ u.flag F.CFG_STATUS_DEFAULTED = true
        ∧ u.reg R.CFG_IMAGE_SEQ = 0 ∧ u.occ = [⟨17, 3⟩] ∧ u.nvm = s.nvm ∧ u.cfg.selected = none)
    ∧ (∀ k, k < 2 → s.get F.CFG_STATUS_STATE = 1 → s.headerReason (1 - k) ≠ 0 → (s.imageReason k).1 = 0 →
      ∃ u, Ends .imageVerify s u ∧ u.get F.CFG_STATUS_STATE = 3 ∧ u.cfg.selected = some k ∧ u.get (slotReason k) = 0 ∧ u.nvm = s.nvm)
    ∧ (s.get F.CFG_STATUS_STATE = 1 → s.headerReason 0 = 0 → s.headerReason 1 = 0 →
      let first := if s.imgSeq 0 < s.imgSeq 1 then 1 else 0
      ((s.imageReason first).1 = 0 →
        ∃ u, Ends .imageVerify s u ∧ u.get F.CFG_STATUS_STATE = 3 ∧ u.cfg.selected = some first ∧ u.cfg.candidates = [1 - first]
          ∧ u.get (slotReason first) = 0 ∧ u.nvm = s.nvm)
      ∧ ((s.imageReason first).1 ≠ 0 → (s.imageReason (1 - first)).1 = 0 →
        ∃ u, Ends .imageVerify s u ∧ u.get F.CFG_STATUS_STATE = 3 ∧ u.cfg.selected = some (1 - first) ∧ u.cfg.candidates = []
          ∧ u.get (slotReason first) = (s.imageReason first).1 ∧ ⟨18, 2⟩ ∈ u.occ ∧ u.nvm = s.nvm))
    ∧ (∀ slot l s', slot < 2 → s.applying = true → s.cfg.selected = some slot → s.imgChain slot = some l →
      State.loadSections slot 0 l (begun s) = .ok s' → s'.applying = true → s'.imgCrc slot = s'.cfg.imageCrc → s'.imgCheck slot = s'.cfg.imageCrc →
      ∃ u, Ends .imageApply s u ∧ u.get F.CFG_STATUS_STATE = 4 ∧ u.get F.CFG_STATUS_SLOT = slot ∧ u.cfg.lightStep = 6
        ∧ u.cfg.panelOn = bitAt (s'.imgNat slot 6 2) 1 ∧ u.cfg.blOn = bitAt (s'.imgNat slot 6 2) 2)
    ∧ (s.get F.CFG_STATUS_STATE = 4 → s.cfg.lightStep = 6 → s.cfg.panelOn = false → s.cfg.blOn = false →
      ∃ u, Ends .portsUpOrTimeout s u ∧ u.get F.CFG_STATUS_STATE = 5)
    ∧ (s.get F.CFG_STATUS_STATE = 4 → s.cfg.lightStep = 6 → s.cfg.panelOn = true → s.panelState .front = 0 → s.panelState .rear = 0 →
        s.reg R.TG_PANEL_CTRL = 0 →
      ∃ u, Ends .portsUpOrTimeout s u ∧ u.flag F.TG_PANEL_CTRL_ON_F = true ∧ u.flag F.TG_PANEL_CTRL_ON_R = s.flag F.SPL_CFG_REAR_EN
        ∧ u.panelState .front = 1 ∧ u.panelState .rear = s.get F.SPL_CFG_REAR_EN ∧ u.cfg.lightStep = 7 ∧ u.get F.CFG_STATUS_STATE = 4)
    ∧ (s.get F.CFG_STATUS_STATE = 4 → s.cfg.lightStep = 6 → s.cfg.panelOn = true → s.cfg.blOn = true → s.panelState .front = 6 →
      (s.panel .front).protectDone = false → ∃ u, Ends .portsUpOrTimeout s u ∧ u.cfg.lightStep = 7 ∧ u.get F.CFG_STATUS_STATE = 4)

/-- NVM jobs (R434). -/
def Obligations.NvJobs : Prop :=
  ∀ (s : State) (p : Port) (j : NvJob) (ecc : EccMap) (dev ver : Bool),
    let addr := s.reg R.CFG_NV_ADDR
    let buf := s.reg R.CFG_NV_BUF
    let len := s.reg R.CFG_NV_LEN
    (CanWrite s (.host p) R.CFG_NV_CMD → 1 ≤ len → len ≤ 0x1000000 → addr + len ≤ 0x4000000 → s.hostRange p buf len = true →
      (s.cfg.job = none →
        (∃ u, Ends (.nvRead (.host p)) s u ∧ u.cfg = { s.cfg with job := some ⟨false, addr, buf, len, p⟩ } ∧ u.flag F.CFG_NV_STATUS_BUSY = true
          ∧ u.get F.CFG_NV_STATUS_RESULT = 0 ∧ u.occ = [] ∧ u.nvm = s.nvm ∧ u.fst = s.fst)
        ∧ (addr % 4096 = 0 → len % 4096 = 0 → s.freeSlotRange addr len = true →
          ∃ u, Ends (.nvProgram (.host p)) s u ∧ u.cfg = { s.cfg with job := some ⟨true, addr, buf, len, p⟩ } ∧ u.flag F.CFG_NV_STATUS_BUSY = true
            ∧ u.occ = [] ∧ u.nvm = s.nvm ∧ u.fst = s.fst))
      ∧ (s.cfg.job.isSome = true →
        (∃ u, Ends (.nvRead (.host p)) s u ∧ u.cfg = s.cfg ∧ u.occ = [⟨49, 0⟩])
        ∧ ∃ u, Ends (.nvProgram (.host p)) s u ∧ u.cfg = s.cfg ∧ u.occ = [⟨49, 0⟩]))
    ∧ (s.cfg.job = none → Ends (.cfgNvDone ecc dev ver) s (begun s))
    ∧ (s.cfg.job = some j → s.nvmDevice ≠ .absent → (foldsIn j.buf j.len).all (fun nn => s.foldOn nn && !s.hostWaits j.port nn) = true →
      (∃ u, Ends (.cfgNvDone ecc false ver) s u ∧ u.cfg = { s.cfg with job := none } ∧ u.get F.CFG_NV_STATUS_RESULT = 3
        ∧ u.flag F.CFG_NV_STATUS_BUSY = false ∧ u.occ = [⟨21, 0⟩] ∧ u.nvm = s.nvm ∧ u.fst = s.fst)
      ∧ (j.program = false → s.hostRange j.port j.buf j.len = true →
        ∃ u, Ends (.cfgNvDone ecc true ver) s u ∧ u.cfg = { s.cfg with job := none } ∧ u.get F.CFG_NV_STATUS_RESULT = 0
          ∧ u.get F.CFG_NV_STATUS_DONE = min 0xFFFFFF j.len ∧ u.occ = [⟨21, 0⟩] ∧ u.nvm = s.nvm
          ∧ ∀ b, memByte u.fst.mem b = if j.buf ≤ b ∧ b < j.buf + j.len then s.nvByte (j.addr + (b - j.buf)) else memByte s.fst.mem b)
      ∧ (j.program = true → inFolds j.buf = true → j.buf + j.len ≤ 0x80000000 →
        ∃ u, Ends (.cfgNvDone [] true true) s u ∧ u.cfg = { s.cfg with job := none } ∧ u.get F.CFG_NV_STATUS_RESULT = 0
          ∧ u.occ = [⟨21, 0⟩] ∧ u.fst = s.fst
          ∧ ∀ b, u.nvByte b = if j.addr ≤ b ∧ b < j.addr + j.len then memByte s.fst.mem (j.buf + (b - j.addr)) else s.nvByte b))

/-- The commands of the power domains (chapter 21). That the row `PWR_RAIL_LOW` reports a recovered rail too is log entry 157; that a
preemption acts at once is log entry 93. -/
def Obligations.PowerDomains : Prop :=
  ∀ (s : State) (ag : Agent) (dd req : Nat), dd < 100 → req < 4 →
    (CanWrite s ag (R.PWR_DOM dd) →
      (s.domainDenied dd req ≠ 0 →
        ∃ u, Ends (.domainRequest ag dd req) s u ∧ u.get (F.PWR_DOM_DENIED dd) = s.domainDenied dd req ∧ u.occ = [⟨49, 0⟩, ⟨5, 0⟩]
          ∧ u.get (F.PWR_DOM_STATE dd) = s.get (F.PWR_DOM_STATE dd) ∧ u.get (F.PWR_DOM_REQ dd) = s.get (F.PWR_DOM_REQ dd) ∧ u.pwr = s.pwr
          ∧ u.reg R.PWR_CNT_DENIED = min 0xFFFFFFFF (s.reg R.PWR_CNT_DENIED + 1))
      ∧ (2 ≤ dd → s.domainDenied dd req = 0 → s.flag (F.PWR_DOM_BUSY dd) = false → s.get (F.PWR_DOM_STATE dd) ≠ req →
        ∃ u, Ends (.domainRequest ag dd req) s u ∧ u.get (F.PWR_DOM_REQ dd) = req ∧ u.get (F.PWR_DOM_DENIED dd) = 0
          ∧ u.flag (F.PWR_DOM_BUSY dd) = true ∧ u.get (F.PWR_DOM_STATE dd) = s.get (F.PWR_DOM_STATE dd)
          ∧ mfind u.pwr.target dd = some req ∧ u.occ = [] ∧ (req = 2 → u.pwr.lp = false)))
    ∧ (1 ≤ dd → mfind s.pwr.target dd = none → Ends (.domainTransitionComplete dd) s (begun s))
    ∧ (36 ≤ dd → mfind s.pwr.target dd = some 0 → s.get (F.PWR_DOM_STATE dd) = 2 → s.get (F.PWR_DOM_REQ dd) = 0 →
        s.flag (F.FST_FOLD_STATUS_INIT (dd - 36)) = false →
      ∃ u, Ends (.domainTransitionComplete dd) s u ∧ u.get (F.PWR_DOM_STATE dd) = 0 ∧ u.flag (F.PWR_DOM_BUSY dd) = false
        ∧ mfind u.pwr.target dd = none ∧ u.occ = [⟨6, 0⟩]
        ∧ (∀ b, memByte u.fst.mem b = if foldBase (dd - 36) ≤ b ∧ b < foldBase (dd - 35) then 0 else memByte s.fst.mem b)
        ∧ OnlyRegs s u [R.PWR_DOM dd, R.FST_FOLD_STATUS (dd - 36)])
    ∧ (36 ≤ dd → mfind s.pwr.target dd = some req → s.get (F.PWR_DOM_REQ dd) = req →
      let done (u : State) : Prop := u.get (F.PWR_DOM_STATE dd) = req ∧ u.get (F.FST_FOLD_STATUS_POWER (dd - 36)) = req
        ∧ u.flag (F.PWR_DOM_BUSY dd) = false ∧ mfind u.pwr.target dd = none ∧ ⟨6, 0⟩ ∈ u.occ
      let lost (u : State) : Prop := ∀ b, memByte u.fst.mem b = if foldBase (dd - 36) ≤ b ∧ b < foldBase (dd - 35) then 0 else memByte s.fst.mem b
      (req = 2 → s.get (F.PWR_DOM_STATE dd) = 0 →
        ∃ u, Ends (.domainTransitionComplete dd) s u ∧ done u ∧ u.flag (F.FST_FOLD_STATUS_INIT (dd - 36)) = true ∧ lost u)
      ∧ (req = 2 → s.get (F.PWR_DOM_STATE dd) = 1 →
        ∃ u, Ends (.domainTransitionComplete dd) s u ∧ done u ∧ u.fst.mem = s.fst.mem
          ∧ u.flag (F.FST_FOLD_STATUS_INIT (dd - 36)) = (mget false s.pwr.contentLost dd || s.flag (F.FST_FOLD_STATUS_INIT (dd - 36))))
      ∧ (req = 1 → s.get (F.PWR_DOM_STATE dd) = 2 → s.flag (F.FST_FOLD_STATUS_INIT (dd - 36)) = false →
        ∃ u, Ends (.domainTransitionComplete dd) s u ∧ done u ∧ u.occ = [⟨6, 0⟩]
          ∧ (s.flag (F.FST_FOLD_RETAIN_RETAIN (dd - 36)) = true → u.fst.mem = s.fst.mem ∧ u.pwr.contentLost = s.pwr.contentLost)
          ∧ (s.flag (F.FST_FOLD_RETAIN_RETAIN (dd - 36)) = false → lost u ∧ mget false u.pwr.contentLost dd = true)))
    ∧ (dd = 34 ∨ dd = 35 → mfind s.pwr.target dd = some 2 → s.get (F.PWR_DOM_REQ dd) = 2 → s.get (F.PWR_DOM_STATE dd) ≠ 2 →
      ∃ u, Ends (.domainTransitionComplete dd) s u ∧ u.get (F.PWR_DOM_STATE dd) = 2 ∧ u.flag (F.PWR_DOM_BUSY dd) = false ∧ ⟨6, 0⟩ ∈ u.occ
        ∧ ∀ a, inEngine (if dd = 34 then 12 else 18) a = true →
          u.reg a = Nat.lor (Nat.land (s.reg a) (keptBits a)) (Nat.land (resetOf a) (0xFFFFFFFF - keptBits a)))
    ∧ (dd < 64 → (∀ p : Port, s.portHeld p = false) → s.fst.waits = [] →
      (s.flag (F.FST_FOLD_STATUS_INIT dd) = true →
        ∃ u, Ends (.foldInitComplete dd) s u ∧ u.flag (F.FST_FOLD_STATUS_INIT dd) = false ∧ u.flag (F.FST_FOLD_STATUS_LOST dd) = true
          ∧ RegsOnly (begun s) u [R.FST_FOLD_STATUS dd] ∧ u.occ = [])
      ∧ (s.flag (F.FST_FOLD_STATUS_INIT dd) = false → Ends (.foldInitComplete dd) s (begun s)))
    ∧ (s.flag F.PWR_CFG_AUTO_LP = true → (∀ d, 1 ≤ d → d < 100 → s.get (F.PWR_DOM_STATE d) ≠ 2 ∧ s.flag (F.PWR_DOM_BUSY d) = false) →
      Ends .lowPowerEntry s { begun s with pwr := { s.pwr with lp := s.pwr.lp || decide (s.aonEst ≤ 3600) } })
    ∧ (s.flag F.PWR_CFG_AUTO_LP = false → Ends .lowPowerEntry s (begun s))
    ∧ (∀ rail low, rail < 5 → s.railUsed rail = false ∨ low = false →
      Ends (.pwrRailLow ⟨rail, low⟩) s { begun s with pwr := { s.pwr with railsGood := setBit s.pwr.railsGood rail (!low) } })
    ∧ (∀ rail, rail < 5 → s.railUsed rail = true →
      ∃ u, Ends (.pwrRailLow ⟨rail, true⟩) s u ∧ bitAt (u.get F.PWR_RAILS_LOW) rail = true ∧ ⟨4, 4⟩ ∈ u.occ
        ∧ u.pwr = { s.pwr with railsGood := setBit s.pwr.railsGood rail false } ∧ u.panelState .front = 6
        ∧ u.flag F.TG_PANEL_CTRL_ON_F = false ∧ u.flag F.TG_PANEL_CTRL_ON_R = false
        ∧ (u.panel .front).heldOn = false ∧ (u.panel .rear).heldOn = false
        ∧ (s.panelState .front ≠ 6 → (u.panel .front).gates = .discharge ∧ (u.panel .front).protectDone = false)
        ∧ (1 ≤ s.panelState .rear → s.panelState .rear ≤ 5 → u.panelState .rear = 6 ∧ (u.panel .rear).gates = .discharge)
        ∧ ∀ n, n < 3 → u.seqRuns n = [])

/-! ### Host ports, ownership and events (chapters 17 and 18) -/

/-- The refusal that a port's status word and counters show (Table 17.3, Table 17.11). -/
def ShowsRefusal (s u : State) (n code : Nat) : Prop :=
  u.get (F.HPT_P_STATUS_ERR_LAST n) = code ∧ u.flag (F.HPT_P_STATUS_BUSY_LAST n) = false
  ∧ u.get (F.HPT_P_STATUS_NOT_ACCEPTED n) = min 255 (s.get (F.HPT_P_STATUS_NOT_ACCEPTED n) + 1)
  ∧ u.reg (R.HPT_P_CNT_ERR n) = min 0xFFFFFFFF (s.reg (R.HPT_P_CNT_ERR n) + 1)

/-- A write of a plain register (R12, R13, R18), by the three commands that can carry it. -/
def Obligations.RegisterWrites : Prop :=
  ∀ (s : State) (ag : Agent) (a v : Word) (same : Bool) (d : RegDef), CanWrite s ag a.toNat → a.toNat % 4 = 0 →
    a.toNat / 0x4000 ∈ [2, 4, 5, 6, 8] ∨ (a.toNat / 0x4000 = 11 ∧ isUnit (R.FST_FOLD_OWNER 0) 64 0x40 a.toNat = false) → regDef? a.toNat = some d →
    ∃ u, Ends (.registerWrite ag a ⟨v, same⟩) s u
      ∧ (∀ p, ag = .host p → p ≠ .hp2 → Ends (.qspiWrite p ⟨true, same⟩ a (leBytes 4 v.toNat)) s u)
      ∧ (∀ dev, ag = .host .hp2 → s.isHp2 dev = true → Ends (.i2cWrite dev ⟨true, same⟩ a (leBytes 4 v.toNat)) s u)
      ∧ (goodWord a.toNat (Nat.land v.toNat d.w) = true → d.rws = true →
          u = { accepted s ag with shadow := mput s.shadow a.toNat (BitVec.ofNat 32 (Nat.land v.toNat d.w)) }
          ∧ u.regW a.toNat = Nat.land v.toNat d.w)
      ∧ (goodWord a.toNat (Nat.land v.toNat d.w) = true → d.rws = false →
          RegsOnly (accepted s ag) u [a.toNat] ∧ u.occ = [] ∧ u.out = []
          ∧ u.reg a.toNat = Nat.lor (Nat.land (Nat.land (s.reg a.toNat) (0xFFFFFFFF - d.w)) (0xFFFFFFFF - (if same then 0 else Nat.land v.toNat d.w1c)))
                (Nat.land v.toNat d.w) % 2 ^ 32)
      ∧ (goodWord a.toNat (Nat.land v.toNat d.w) = false →
          u.occ = [⟨49, 0⟩] ∧ u.shadow = s.shadow ∧ ∀ b, isPortReg b = false → u.reg b = s.reg b)

/-- A write that ownership or the address map refuses (R371, R379, R381, R426). -/
def Obligations.RefusedWrites : Prop :=
  ∀ (s : State) (ag : Agent) (a v : Word) (same : Bool), a.toNat % 4 = 0 → a.toNat < 0x60000 → s.permits ag a.toNat ≠ 0 →
    (∀ p, agentPort ag = some p → s.portHeld p = false) →
    ∃ u, Ends (.registerWrite ag a ⟨v, same⟩) s u ∧ u.occ = [⟨48 + s.permits ag a.toNat, 0⟩]
      ∧ (∀ b, isPortReg b = false → u.reg b = s.reg b)
      ∧ u = { begun s with regs := u.regs, hpt := u.hpt, tal := u.tal, occ := u.occ }
      ∧ (∀ p, ag = .host p → ShowsRefusal s u p.num (s.permits ag a.toNat) ∧ u.reg (R.HPT_P_ERR_ADDR p.num) = a.toNat)

/-- Ownership (R381). -/
def Obligations.OwnershipWrites : Prop :=
  ∀ (s : State) (ag : Agent) (a v : Word),
    (CanWrite s ag a.toNat → a.toNat % 4 = 0 → isOwnReg a.toNat = true → a.toNat ≠ R.DEV_OWN_CTRL →
      (a.toNat = R.DEV_OWN_ENG0 → goodWord a.toNat v.toNat = true) →
      ∃ u, Ends (.ownershipWrite ag a v) s u ∧ u.reg a.toNat = Nat.land v.toNat (keptBits a.toNat) % 2 ^ 32 ∧ ⟨48, 0⟩ ∈ u.occ
        ∧ ∀ e i, e < 24 → i < 8 → bitAt (mget 0 u.seq.holds i) e = (bitAt (mget 0 s.seq.holds i) e && decide (u.engineOwner e = s.engineOwner e)))
    ∧ (CanWrite s ag a.toNat → a.toNat = R.DEV_OWN_ENG0 → goodWord a.toNat v.toNat = false →
      ∃ u, Ends (.ownershipWrite ag a v) s u ∧ u.occ = [⟨49, 0⟩] ∧ u.seq = s.seq ∧ ∀ b, isPortReg b = false → u.reg b = s.reg b)
    ∧ (CanWrite s ag R.DEV_OWN_CTRL →
      ∃ u, Ends (.ownLock ag) s u ∧ u.flag F.DEV_OWN_CTRL_LOCK = true ∧ u.flag F.DEV_STATUS_OWN_LOCKED = true ∧ u.occ = [⟨48, 0⟩]
        ∧ RegsOnly (accepted s ag) u [R.DEV_OWN_CTRL, R.DEV_STATUS])
    ∧ (s.flag F.DEV_OWN_CTRL_LOCK = true → isOwnReg a.toNat = true → a.toNat % 4 = 0 → definedWord a.toNat = true →
      (∀ p, agentPort ag = some p → s.portHeld p = false) →
      (∃ u, Ends (.ownershipWrite ag a v) s u ∧ u.occ = [⟨50, 0⟩] ∧ ∀ b, isPortReg b = false → u.reg b = s.reg b)
      ∧ ∃ u, Ends (.ownLock ag) s u ∧ u.occ = [⟨50, 0⟩] ∧ ∀ b, isPortReg b = false → u.reg b = s.reg b)

/-- Status reads (R376, R377, R469). -/
def Obligations.StatusReads : Prop :=
  ∀ (s : State) (p : Port) (dev : BitVec 7) (n : Nat),
    let sent (p : Port) : List Output := [.readData p ((leBytes 4 ((begun s).viewReg p (R.HPT_P_STATUS p.num)) ++ List.replicate (n - 4) 0).take n)]
    let left (p : Port) (u : State) : Prop := u.out = sent p ∧ u.occ = [] ∧ RegsOnly (begun s) u [R.HPT_P_STATUS p.num]
      ∧ u.get (F.HPT_P_STATUS_NOT_ACCEPTED p.num) = (if 4 ≤ n then 0 else s.get (F.HPT_P_STATUS_NOT_ACCEPTED p.num))
      ∧ u.get (F.HPT_P_STATUS_ERR_LAST p.num) = s.get (F.HPT_P_STATUS_ERR_LAST p.num)
    (p ≠ .hp2 → ∃ u, Ends (.qspiStatus p n) s u ∧ left p u)
    ∧ (s.isHp2 dev = true → ∃ u, Ends (.i2cStatusRead dev n) s u ∧ left .hp2 u)
    ∧ (s.isHp2 dev = false → Ends (.i2cStatusRead dev n) s (begun s))

/-- Malformed transactions (R374, R469). -/
def Obligations.MalformedTransactions : Prop :=
  ∀ (s : State) (p : Port) (cmd : Byte) (dev : BitVec 7) (a : Word) (bs : List Byte) (n : Nat) (x y : Option Nat) (ecc : EccMap) (same : Bool),
    (p ≠ .hp2 → cmd ≠ 0x02#8 → cmd ≠ 0x0B#8 → cmd ≠ 0x05#8 →
      ∃ u, Ends (.badCmd p cmd) s u ∧ u.occ = [] ∧ ShowsRefusal s u p.num 4 ∧ ∀ b, isPortReg b = false → u.reg b = s.reg b)
    ∧ (p ≠ .hp2 → ∃ u, Ends (.qspiWrite p ⟨false, same⟩ a bs) s u ∧ Ends (.qspiRead (.host p) false a n x y ecc) s u ∧ u.occ = [⟨49, 0⟩]
        ∧ ShowsRefusal s u p.num 1 ∧ ∀ b, isPortReg b = false → u.reg b = s.reg b)
    ∧ (s.isHp2 dev = true → ∃ u, Ends (.i2cWrite dev ⟨false, same⟩ a bs) s u ∧ Ends (.i2cRead dev false a n x y ecc) s u ∧ u.occ = [⟨49, 0⟩]
        ∧ ShowsRefusal s u 2 1 ∧ ∀ b, isPortReg b = false → u.reg b = s.reg b)
    ∧ (s.isHp2 dev = false → Ends (.i2cWrite dev ⟨true, same⟩ a bs) s (begun s) ∧ Ends (.i2cRead dev true a n x y ecc) s (begun s))

/-- A read of n bytes by port p, by the row of that port (QSPI_READ, or I2C_READ to HP2's address), goes on and its effect leaves u. -/
def ReadEnds (s : State) (p : Port) (dev : BitVec 7) (a : Word) (n : Nat) (notReady collide : Option Nat) (ecc : EccMap) (u : State) : Prop :=
  (p ≠ .hp2 → Ends (.qspiRead (.host p) true a n notReady collide ecc) s u)
  ∧ (p = .hp2 → s.isHp2 dev = true → Ends (.i2cRead dev true a n notReady collide ecc) s u)

/-- A write by port p, by the row of that port (QSPI_WRITE, or I2C_WRITE to HP2's address), goes on and its effect leaves u. -/
def WriteEnds (s : State) (p : Port) (dev : BitVec 7) (same : Bool) (a : Word) (bs : List Byte) (u : State) : Prop :=
  (p ≠ .hp2 → Ends (.qspiWrite p ⟨true, same⟩ a bs) s u) ∧ (p = .hp2 → s.isHp2 dev = true → Ends (.i2cWrite dev ⟨true, same⟩ a bs) s u)

/-- The BUSY of a port's transaction as its status word and counters show it (R375, R378, Table 17.11). -/
def ShowsBusy (s u : State) (n : Nat) : Prop :=
  u.flag (F.HPT_P_STATUS_BUSY_LAST n) = true ∧ u.get (F.HPT_P_STATUS_ERR_LAST n) = 0
  ∧ u.get (F.HPT_P_STATUS_NOT_ACCEPTED n) = min 255 (s.get (F.HPT_P_STATUS_NOT_ACCEPTED n) + 1)
  ∧ u.reg (R.HPT_P_CNT_BUSY n) = min 0xFFFFFFFF (s.reg (R.HPT_P_CNT_BUSY n) + 1)

/-- Reads (R367, R369 to R371, R373, R375, R378). -/
def Obligations.RegisterReads : Prop :=
  ∀ (s : State) (p : Port) (dev : BitVec 7) (a : Word),
    (∀ d, a.toNat % 4 = 0 → a.toNat / 0x4000 = 1 → a.toNat ≠ R.PIL_AUX_POP → regDef? a.toNat = some d →
      (p ≠ .hp2 → Ends (.qspiRead (.host p) true a 4 none none []) s
        { accepted s (.host p) with out := [.readData p (leBytes 4 (Nat.land (s.regW a.toNat) (0xFFFFFFFF - d.wo)))] })
      ∧ (s.isHp2 dev = true → Ends (.i2cRead dev true a 4 none none []) s
        { accepted s (.host .hp2) with out := [.readData .hp2 (leBytes 4 (Nat.land (s.regW a.toNat) (0xFFFFFFFF - d.wo)))] }))
    ∧ (a.toNat % 4 = 0 → definedWord a.toNat = false → a.toNat < 0x40000000 → a.toNat < 0x100000 ∨ 0x120000 ≤ a.toNat →
      ReadEnds s p dev a 4 none none [] { accepted s (.host p) with out := [.readData p [0#8, 0#8, 0#8, 0#8]] })
    ∧ (inPair a.toNat = true → a.toNat % 8 = 0 →
      ∃ u, Ends (.pairRegisterLatch p a) s u ∧ u.out = [.readData p (leBytes 4 (s.bankWord a.toNat))] ∧ u.occ = []
        ∧ mfind (mget ({} : HptPort) u.hpt p.num).pairLatch (a.toNat + 4) = some (BitVec.ofNat 32 (s.bankWord (a.toNat + 4)))
        ∧ u.regs = (accepted s (.host p)).regs)
    ∧ (∀ n, inFolds a.toNat = true → a.toNat + n ≤ 0x80000000 → (foldsIn a.toNat n).all (fun nn => s.hostMiss p nn == 0 && !s.hostWaits p nn) = true →
      let data : List Output := [.readData p (memBytes s.fst.mem a.toNat n)]
      ReadEnds s p dev a n none none [] { accepted s (.host p) with out := data }
      ∧ ∀ i, i < n →
        let w := (a.toNat + i) / 8
        let nn := foldOf (a.toNat + i)
        (∃ u, ReadEnds s p dev a n none none [(w, .single)] u ∧ u.out = data ∧ u.occ = [⟨240, 1⟩]
          ∧ u.reg R.FST_CNT_CE = min 0xFFFFFFFF (s.reg R.FST_CNT_CE + 1) ∧ OnlyRegs (accepted s (.host p)) u [R.FST_CNT_CE, R.FST_FOLD_STATUS nn])
        ∧ (∃ u, ReadEnds s p dev a n none none [(w, .double)] u ∧ u.out = data ∧ u.occ = [⟨241, 0⟩] ∧ ShowsRefusal s u p.num 3
          ∧ u.reg (R.HPT_P_ERR_ADDR p.num) = max a.toNat (8 * w) ∧ u.reg R.FST_UE_ADDR = 8 * w
          ∧ u.reg R.FST_CNT_UE = min 0xFFFFFFFF (s.reg R.FST_CNT_UE + 1)))
    ∧ (∀ n j, inFolds a.toNat = true → a.toNat + n ≤ 0x80000000 → (foldsIn a.toNat n).all (fun nn => s.hostMiss p nn == 0 && !s.hostWaits p nn) = true →
      let k := if j = 0 then 0 else 4 * j - a.toNat % 4
      k < n →
      ∃ u, ReadEnds s p dev a n none (some j) [] u ∧ ShowsBusy s u p.num ∧ u.occ = [⟨243, 0⟩]
        ∧ u.reg R.FST_CNT_COLLIDE = min 0xFFFFFFFF (s.reg R.FST_CNT_COLLIDE + 1) ∧ u.reg R.FST_COLLIDE_ADDR = (a.toNat + k) / 8 * 8 ∧ u.fst = s.fst
        ∧ (p = .hp2 → u.out = [.readData p ((memBytes s.fst.mem a.toNat k) ++ List.replicate (n - k) 0xFF)]))
    ∧ (∀ n, 0 < n → inFolds a.toNat = true → a.toNat + n ≤ 0x80000000 →
      ∃ u, ReadEnds s p dev a n (some 0) none [] u ∧ ShowsBusy s u p.num ∧ u.occ = [] ∧ u.fst = s.fst
        ∧ (p = .hp2 → u.out = [.readData p (List.replicate n 0xFF)]))

/-- Writes of the fold window, and writes of more or less than a word (R17, R262, R368, R372, R373, R375, R378, R467). -/
def Obligations.HostPortWrites : Prop :=
  ∀ (s : State) (p : Port) (dev : BitVec 7) (same : Bool) (a : Word) (bs : List Byte),
    let n := p.num
    (s.portHeld p = true →
      ∃ u, WriteEnds s p dev same a bs u ∧ ShowsBusy s u n ∧ u.occ = [] ∧ u.out = [] ∧ u.fst = s.fst ∧ u.shadow = s.shadow ∧ u.tblShadow = s.tblShadow
        ∧ ∀ b, isPortReg b = false → u.reg b = s.reg b)
    ∧ (s.portHeld p = false → bs ≠ [] → inFolds a.toNat = true → a.toNat + bs.length ≤ 0x80000000 →
      (s.beforeRun = false →
        (foldsIn a.toNat bs.length).all (fun nn => s.foldWriteCode p nn == 0 && s.foldOn nn && !s.hostWaits p nn) = true →
        ∃ u, WriteEnds s p dev same a bs u ∧ u.fst.mem = memWrite s.fst.mem a.toNat bs ∧ memBytes u.fst.mem a.toNat bs.length = bs
          ∧ (∀ b, b < a.toNat ∨ a.toNat + bs.length ≤ b → memByte u.fst.mem b = memByte s.fst.mem b)
          ∧ (∀ nn, nn ∈ foldsIn a.toNat bs.length → u.flag (F.FST_FOLD_STATUS_LOST nn) = false) ∧ u.occ = [] ∧ u.out = []
          ∧ OnlyRegs (accepted s (.host p)) u ((foldsIn a.toNat bs.length).map R.FST_FOLD_STATUS))
      ∧ (s.beforeRun = false → s.hostWaits p (foldOf a.toNat) = true →
        ∃ u, WriteEnds s p dev same a bs u ∧ (mget ({} : HptPort) u.hpt n).held = some ⟨a.toNat, bs⟩ ∧ u.portHeld p = true ∧ u.fst = s.fst ∧ u.occ = [])
      ∧ (s.hostWaits p (foldOf a.toNat) = false → s.foldWriteCode p (foldOf a.toNat) ≠ 0 →
        ∃ u, WriteEnds s p dev same a bs u ∧ u.occ = [⟨48 + s.foldWriteCode p (foldOf a.toNat), 0⟩] ∧ u.fst = s.fst
          ∧ ShowsRefusal s u n (s.foldWriteCode p (foldOf a.toNat)) ∧ u.reg (R.HPT_P_ERR_ADDR n) = a.toNat))
    ∧ (∀ b0 b1, bs = [b0, b1] → a.toNat % 2 = 0 → tblEngine a.toNat = some 2 → CanWrite s (.host p) (a.toNat / 4 * 4) →
      tblEntry a.toNat = true → tblEntry (a.toNat + 1) = true →
      let o := 8 * (a.toNat % 4)
      let w := putBits (putBits (s.tblShadowWord (a.toNat / 4 * 4)).toNat (o + 7) o b0.toNat) (o + 15) (o + 8) b1.toNat
      WriteEnds s p dev same a bs { accepted s (.host p) with tblShadow := mput s.tblShadow (a.toNat / 4 * 4) (BitVec.ofNat 32 w) })
    ∧ (a.toNat % 4 = 0 → a.toNat < 0x60000 → definedWord a.toNat = true → s.portHeld p = false → bs ≠ [] → bs.length < 4 →
      ∃ u, WriteEnds s p dev same a bs u ∧ u.occ = [⟨49, 0⟩] ∧ ShowsRefusal s u n 1 ∧ u.reg (R.HPT_P_ERR_ADDR n) = a.toNat
        ∧ u.shadow = s.shadow ∧ ∀ b, isPortReg b = false → u.reg b = s.reg b)
    ∧ (∀ v0 v1 : Word, bs = leBytes 4 v0.toNat ++ leBytes 4 v1.toNat → a.toNat % 4 = 0 → a.toNat / 0x4000 ∈ [2, 4, 5, 6, 8] →
        CanWrite s (.host p) a.toNat →
      (s.permits (.host p) (a.toNat + 4) ≠ 0 →
        ∃ u, WriteEnds s p dev same a bs u ∧ u.occ = [⟨48 + s.permits (.host p) (a.toNat + 4), 0⟩] ∧ u.shadow = s.shadow
          ∧ ShowsRefusal s u n (s.permits (.host p) (a.toNat + 4)) ∧ u.reg (R.HPT_P_ERR_ADDR n) = a.toNat + 4
          ∧ ∀ b, isPortReg b = false → u.reg b = s.reg b)
      ∧ (∀ d e, s.permits (.host p) (a.toNat + 4) = 0 → (a.toNat + 4) / 0x4000 = a.toNat / 0x4000 → regDef? a.toNat = some d → d.rws = true →
          regDef? (a.toNat + 4) = some e → e.rws = true → goodWord a.toNat (Nat.land v0.toNat d.w) = true →
          goodWord (a.toNat + 4) (Nat.land v1.toNat e.w) = true →
        WriteEnds s p dev same a bs { accepted s (.host p) with
          shadow := mput (mput s.shadow a.toNat (BitVec.ofNat 32 (Nat.land v0.toNat d.w))) (a.toNat + 4) (BitVec.ofNat 32 (Nat.land v1.toNat e.w)) }))

/-- DEV_COMMIT commits only what its port owns and no sequence holds (R40, R389); where the first light of Table 20.7 is due, a
generator that starts with the commit makes one of its own. -/
def Obligations.DevCommit : Prop :=
  ∀ (s : State) (ag : Agent), CanWrite s ag R.DEV_COMMIT → s.cfg.lightStep ≠ 7 →
    ∃ u, Ends (.devCommit ag) s u
      ∧ (∀ a, (∃ p, agentPort ag = some p ∧ (accepted s ag).scopeOf a ≠ p.num) ∨ (accepted s ag).skips (engineOfAddr a) none = true →
          (mfind s.shadow a).isSome = true → mfind u.shadow a = mfind s.shadow a)
      ∧ (∀ a w d, a / 0x4000 = 2 ∨ a / 0x4000 = 6 ∨ (a / 0x4000 = 3 ∧ splGeomRegs.contains a = false)
            ∨ (∃ m, m < 4 ∧ tgRegs m a = true ∧ (tgFive m).contains a = false) →
          regDef? a = some d → d.rws = true → mfind s.shadow a = some w →
          (∀ x ∈ s.shadow, x.1 = a → x.2 = w) → (∀ p, agentPort ag = some p → (accepted s ag).scopeOf a = p.num) →
          (accepted s ag).skips (a / 0x4000) none = false → u.reg a = w.toNat ∧ mfind u.shadow a = none)
      ∧ (∀ x a w d, x ∈ [(5, F.ODR_STATUS_REJECTED, 105), (8, F.ADL_STATUS_REJECTED, 49), (9, F.BLE_STATUS_REJECTED, 209), (10, F.SRF_STATUS_REJECTED, 232)] →
          a / 0x4000 = x.1 → regDef? a = some d → d.rws = true → mfind s.shadow a = some w →
          (∀ y ∈ s.shadow, y.1 = a → y.2 = w) → (∀ p, agentPort ag = some p → (accepted s ag).scopeOf a = p.num) →
          (accepted s ag).skips x.1 none = false →
          (u.flag x.2.1 = false ∧ u.reg a = w.toNat ∧ mfind u.shadow a = none)
          ∨ (u.flag x.2.1 = true ∧ u.reg a = s.reg a ∧ ∃ o, o ∈ u.occ ∧ o.src = x.2.2))
      ∧ (∀ a w, tblEngine a = some 2 ∨ tblEngine a = some 6 → mfind s.tblShadow a = some w → (∀ x ∈ s.tblShadow, x.1 = a → x.2 = w) →
          (∀ p, agentPort ag = some p → (accepted s ag).scopeOf a = p.num) → (accepted s ag).skips ((tblEngine a).getD 0) none = false →
          tblWord u.tbl a = w ∧ mfind u.tblShadow a = none)

/-- Shadow tables (R90, R144); that they take a write whatever the state of the engine's domain is log entry 36 (DEDUCED). -/
def Obligations.TableWrites : Prop :=
  ∀ (s : State) (ag : Agent) (a v : Word) (e : Nat), CanWrite s ag a.toNat → a.toNat % 4 = 0 → tblEngine a.toNat = some e → e ≠ 9 →
    (∀ i, i < 4 → tblEntry (a.toNat + i) = true) →
    ∃ u, Ends (.tableShadowWrite ag a (leBytes 4 v.toNat)) s u
      ∧ (e = 4 → Ends (.pcmListWrite ag a (leBytes 4 v.toNat)) s u)
      ∧ u = { accepted s ag with tblShadow := mput s.tblShadow a.toNat v } ∧ u.tblShadowWord a.toNat = v ∧ u.tbl = s.tbl

/-- Pops of event queues (R382, R398). -/
def Obligations.EventPops : Prop :=
  ∀ (s : State) (p : Port) (n : Nat), n < 3 →
    (∀ r q, p.num = n → (s.target n).queue = r :: q → (s.target n).held = [] →
      ∃ u, Ends (.evtPop (.host p) n) s u ∧ u.out = [.readData p (leBytes 4 (r.word q.length))] ∧ u.occ = []
        ∧ (u.target n).queue = q ∧ (u.target n).held = [] ∧ u.reg (R.EVT_H_POP_HI n) = r.stamp % 2 ^ 32
        ∧ ∀ m, m ≠ n → u.target m = s.target m)
    ∧ (p.num ≠ n ∨ (s.target n).queue = [] →
      Ends (.evtPop (.host p) n) s { accepted s (.host p) with out := [.readData p (leBytes 4 0)] })
    ∧ (∀ r q, s.coreRuns = true → (s.target 3).queue = r :: q → (s.target 3).held = [] →
      ∃ u, Ends (.evtPop .core 3) s u ∧ (u.target 3).queue = q ∧ u.out = [] ∧ u.occ = [] ∧ u.regs = s.regs ∧ ∀ m, m ≠ 3 → u.target m = s.target m)

/-- Writes of `EVT_SRCnnn_CFG` (R395, R399, R400). -/
def Obligations.EventSources : Prop :=
  ∀ (s : State) (ag : Agent) (src route : Nat), src < 512 → route < 4 → CanWrite s ag (R.EVT_SRC_CFG src) → s.reg (R.EVT_SRC_CFG src) < 16 →
    (∃ u, Ends (.maskSet ag src) s u ∧ u.flag (F.EVT_SRC_CFG_MASK src) = true ∧ u.get (F.EVT_SRC_CFG_ROUTE src) = s.get (F.EVT_SRC_CFG_ROUTE src)
      ∧ u.flag (F.EVT_SRC_CFG_URGENT src) = s.flag (F.EVT_SRC_CFG_URGENT src) ∧ u.occ = [] ∧ u.evt.pend = s.evt.pend
      ∧ (s.flag (F.EVT_SRC_CFG_MASK src) = false → ∀ n r, r ∈ (u.target n).queue → r.src = src → r.masked = true))
    ∧ (∃ u, Ends (.maskClear ag src) s u ∧ u.flag (F.EVT_SRC_CFG_MASK src) = false ∧ u.get (F.EVT_SRC_CFG_ROUTE src) = s.get (F.EVT_SRC_CFG_ROUTE src)
      ∧ u.occ = [] ∧ u.evt.targets = s.evt.targets ∧ u.evt.pend = s.evt.pend)
    ∧ (∃ u, Ends (.routeChange ag src route) s u ∧ u.get (F.EVT_SRC_CFG_ROUTE src) = route ∧ u.flag (F.EVT_SRC_CFG_MASK src) = s.flag (F.EVT_SRC_CFG_MASK src)
      ∧ u.occ = [] ∧ u.evt.targets = s.evt.targets ∧ u.evt.pend = s.evt.pend)
    ∧ (∃ u, Ends (.pendClear ag src false) s u ∧ mget false u.evt.pend src = false ∧ u.reg (R.EVT_SRC_CFG src) = s.reg (R.EVT_SRC_CFG src)
      ∧ u.occ = [] ∧ u.evt.targets = s.evt.targets)
    ∧ (∃ u, Ends (.pendClear ag src true) s u ∧ u.evt.pend = s.evt.pend ∧ u.reg (R.EVT_SRC_CFG src) = s.reg (R.EVT_SRC_CFG src))
    ∧ (∀ v : Word, ∃ u, Ends (.registerWrite ag (BitVec.ofNat 32 (R.EVT_SRC_CFG src)) ⟨v, true⟩) s u ∧ u.evt.pend = s.evt.pend
      ∧ u.reg (R.EVT_SRC_CFG src) = v.toNat % 16)

/-- The interrupt pins' commands (R401). -/
def Obligations.EventPins : Prop :=
  ∀ (s : State) (ag : Agent) (n : Nat) (en : Bool), n < 3 →
    (CanWrite s ag (R.EVT_H_CFG n) → s.get (F.EVT_H_CFG_COUNT n) ≠ 0 → s.get (F.EVT_H_CFG_TIME n) ≠ 0 →
      ∃ u, Ends (.intnEnWrite ag n en) s u ∧ u.flag (F.EVT_H_CFG_EN n) = en ∧ u.get (F.EVT_H_CFG_COUNT n) = s.get (F.EVT_H_CFG_COUNT n)
        ∧ u.get (F.EVT_H_CFG_TIME n) = s.get (F.EVT_H_CFG_TIME n) ∧ u.occ = [] ∧ (u.target n).queue = (s.target n).queue
        ∧ ∀ m, m ≠ n → u.target m = s.target m)
    ∧ (CanWrite s ag (R.EVT_H_CFG n) → s.get (F.EVT_H_CFG_COUNT n) = 0 ∨ s.get (F.EVT_H_CFG_TIME n) = 0 →
      ∃ u, Ends (.intnEnWrite ag n en) s u ∧ u.occ = [⟨49, 0⟩] ∧ u.reg (R.EVT_H_CFG n) = s.reg (R.EVT_H_CFG n))
    ∧ ((s.target n).queue ≠ [] →
      ∃ u, Ends (.coalesceTime n) s u ∧ (u.target n).timeDue = true ∧ (u.target n).queue = (s.target n).queue
        ∧ (u.target n).intn = s.flag (F.EVT_H_CFG_EN n) ∧ u = { begun s with evt := u.evt })
    ∧ ((s.target n).queue = [] → Ends (.coalesceTime n) s (begun s))

/-- One occurrence of a source that was neither masked nor rerouted lately (R395 to R400). -/
def Obligations.OccurrenceReachesItsTarget : Prop :=
  ∀ (s : State) (src cls : Nat), mfind s.evt.routeWas src = none → mfind s.evt.maskedAt src = none →
    let n := s.get (F.EVT_SRC_CFG_ROUTE src)
    let t := s.target n
    (s.flag (F.EVT_SRC_CFG_MASK src) = true →
      (s.occur src cls).evt.targets = s.evt.targets ∧ mget false (s.occur src cls).evt.pend src = true)
    ∧ (s.flag (F.EVT_SRC_CFG_MASK src) = false → t.queue.length < 256 → t.held = [] → (∀ r ∈ t.queue, r.src ≠ src) →
      ((s.occur src cls).target n).queue = t.queue ++ [⟨src, 1, cls, false, false, s.frameStamp, s.now⟩]
      ∧ ∀ m, m ≠ n → (s.occur src cls).target m = s.target m)
    ∧ (∀ q r, s.flag (F.EVT_SRC_CFG_MASK src) = false → t.queue = q ++ [r] → t.queue.length < 256 → t.held = [] → r.src = src → r.masked = false → r.count < 255 →
      ((s.occur src cls).target n).queue = q ++ [{ r with count := r.count + 1, cls := max r.cls cls }])

/-! ### The input link (chapter 2) -/

/-- A write of `PIL_CFG` starts bring-up again (R62). -/
def Obligations.LinkConfiguration : Prop :=
  ∀ (s : State) (ag : Agent) (v : Word), CanWrite s ag R.PIL_CFG →
    ∃ u, Ends (.pilCfgWrite ag v) s u ∧ u.linkState = 0 ∧ u.get F.PIL_STATUS_FLOCK_UP = 0
      ∧ u.get F.PIL_CFG_SPARE_EN = bits v.toNat 27 24 ∧ u.get F.PIL_CFG_FLOCK_EN = bits v.toNat 19 16 ∧ u.get F.PIL_CFG_RATE = v.toNat % 8

/-- A back-channel message on flock k (R65): type, SEQ, P0 to P7, CHK, and the groups and levels that carry it. -/
def message (k typ seq : Nat) (m : List Nat) (gs : List Nat) (ls : List Int) : Output :=
  .backChannel k typ seq (m.map (BitVec.ofNat 8)) (backChk typ seq (m.map (BitVec.ofNat 8))) gs ls

/-- Copies of messages of one type that leave the bellwether lane of flock k one after another: of each its SEQ and its payload. `rd` is the
lane's running disparity and `bit` its last bit before them. The groups are those of the table that log entry 100 takes. -/
def copies (s : State) (k typ : Nat) : List (Nat × List Nat) → Bool → Bool → List Output
  | [], _, _ => []
  | (q, m) :: rest, rd, bit =>
    let e := encodeSyms rd (backSyms typ q (m.map (BitVec.ofNat 8)))
    message k typ q m e.1 (s.txLevels (8 * k) bit e.2 e.1) :: copies s k typ rest e.2 (e.1.getLastD 0 % 2 == 1)

/-- What a command sends on the back-channel of flock k. -/
def onFlock (k : Nat) (l : List Output) : List Output :=
  l.filter fun o => match o with | .backChannel j _ _ _ _ _ _ => j == k | _ => false

/-- Periodic messages (R65 to R67, R75). -/
def Obligations.PeriodicMessages : Prop :=
  ∀ (s : State) (k : Nat), k < 4 →
    let q (i : Nat) : Nat := (mget 0 s.pil.bcSeq k + 1 + i) % 256
    let sends (typ : Nat) (l : List (Nat × List Nat)) : List Output := copies s k typ l (s.txReady (8 * k) s.now).txRd (s.txReady (8 * k) s.now).txBit
    (∃ u, Ends .laneStatus s u ∧ u = { begun s with pil := u.pil, tal := u.tal, lns := u.lns, out := u.out }
      ∧ (s.backOn k = true →
          onFlock k u.out = sends 1 [(q 0, [k, (s.statusNow k).1, ofBits 8 fun j => (s.pilLane (8 * k + j)).invalidSeen, (s.statusNow k).2, s.linkState,
            0, 0, 0])]
          ∧ ∀ j, j < 8 → u.pilLane (8 * k + j) = { s.pilLane (8 * k + j) with invalidSeen := false })
      ∧ (s.backOn k = false → onFlock k u.out = []))
    ∧ (s.linkWorks = true →
      ∃ u, Ends .creditPeriodic s u ∧ u = { begun s with pil := { s.pil with bcSeq := u.pil.bcSeq }, lns := u.lns, out := u.out }
        ∧ (s.backOn k = true → onFlock k u.out = sends 4 ((List.range 16).flatMap fun i =>
            let m := [i, 0] ++ beNats 2 (mget 0 s.pil.credit i) ++ [0, 0, 0, 0]
            [(q i, m), (q i, m)]))
        ∧ (s.backOn k = false → onFlock k u.out = []))
    ∧ (s.linkWorks = false → Ends .creditPeriodic s (begun s))
    ∧ (s.rotState k = 1 → (s.rot k).dupSeen = 0 → (s.rot k).sends ≤ 10 → s.backOn k = true →
      ∃ u, Ends (.rotDupRepeat k) s u ∧ u = { begun s with pil := { s.pil with rot := u.pil.rot, bcSeq := u.pil.bcSeq }, lns := u.lns, out := u.out }
        ∧ u.rot k = { s.rot k with sends := (s.rot k).sends + 1 }
        ∧ (let m := [k, (s.rot k).lane, 0, 0, 0, 0, 0, 0]
           u.out = sends 2 [(q 0, m), (q 0, m)]))
    ∧ (s.rotState k = 0 → Ends (.rotDupRepeat k) s (begun s))

/-- Lane markers and lane loss (R48, R61, R64). -/
def Obligations.LaneMarkersAndLoss : Prop :=
  ∀ (s : State) (k j : Nat) (id seq chk : Byte) (pos : Nat) (agree : Bool), k < 4 → j < 8 → bitAt (s.get F.PIL_CFG_FLOCK_EN) k = true →
    let l := 8 * k + j
    let was := s.pilLane l
    (s.rxState l = 4 → chk = id ^^^ seq ^^^ 0xA5#8 → id.toNat / 8 % 4 = 0 → s.rotState k = 0 →
      ∃ u, Ends (.laneMarker k j id seq chk pos agree) s u
        ∧ (u.pilLane l).marked = true ∧ (u.pilLane l).pos = pos ∧ (u.pilLane l).seq = seq.toNat ∧ (u.pilLane l).id = id.toNat % 8
        ∧ (u.pilLane l).dup = bitAt id.toNat 5 ∧ (u.pilLane l).foreign = (id.toNat / 64 != k)
        ∧ (u.pilLane l).locked = (was.locked || (was.marked && pos == was.pos + 4096))
        ∧ bitAt (u.get (F.PIL_FLOCK_STATUS_LOCK k)) j = (u.pilLane l).locked)
    ∧ (s.rxState l = 4 → chk ≠ id ^^^ seq ^^^ 0xA5#8 ∨ id.toNat / 8 % 4 ≠ 0 →
      ∃ u, Ends (.laneMarker k j id seq chk pos agree) s u ∧ RegsOnly ((begun s).rxSyms l (symK28_0 :: [id, seq, chk].map dSym)) u [R.PIL_CNT_DISCARD]
        ∧ u.reg R.PIL_CNT_DISCARD = min 0xFFFFFFFF (s.reg R.PIL_CNT_DISCARD + 1) ∧ u.occ = [⟨79, 0⟩] ∧ u.out = [])
    ∧ (was.locked = true →
      ∃ u, Ends (.laneLost l ()) s u ∧ (u.pilLane l).locked = false ∧ (u.pilLane l).lost = true ∧ bitAt (u.get (F.PIL_FLOCK_STATUS_LOCK k)) j = false
        ∧ u.reg R.PIL_CNT_LANE_LOSS = min 0xFFFFFFFF (s.reg R.PIL_CNT_LANE_LOSS + 1)
        ∧ ⟨66, if s.sleepAcked then 0 else 2⟩ ∈ u.occ ∧ ⟨256 + l, if s.sleepAcked then 0 else 2⟩ ∈ u.occ)
    ∧ (was.locked = false → s.rxState l ≠ 4 → Ends (.laneLost l ()) s (begun s))
    ∧ (∀ a, 32 ≤ a → a < 144 → s.rxState a = 4 → s.laneFallow a = false →
      ∃ u, Ends (.laneLost a ()) s u ∧ u.rxState a = 3 ∧ u.reg (R.LNS_LANE_CNT_LOSS a) = min 0xFFFFFFFF (s.reg (R.LNS_LANE_CNT_LOSS a) + 1)
        ∧ OnlyRegs s u [R.LNS_LANE_STATUS a, R.LNS_LANE_CNT_LOSS a] ∧ u.occ = []
        ∧ u = { begun s with regs := u.regs, tal := u.tal, lns := u.lns })

/-- Rotation time-outs (R68, R69) and the loss of a degraded link (R70). -/
def Obligations.RotationTimeouts : Prop :=
  ∀ (s : State) (k : Nat), k < 4 →
    (s.rotState k = 1 → (s.rot k).dupSeen = 0 →
      ∃ u, Ends (.rotNoCoop k) s u ∧ u.rotState k = 6 ∧ u.get (F.PIL_FLOCK_STATUS_SPARE_SERVES k) = 7 ∧ ⟨74, 2⟩ ∈ u.occ ∧ u.rot k = {})
    ∧ (s.rotState k = 3 → Ends (.rotNoCoop k) s (begun s))
    ∧ (s.rotState k = 5 → s.get (F.PIL_FLOCK_STATUS_SPARE_SERVES k) = (s.rot k).lane → (s.pilLane (8 * k + s.physOf k (s.rot k).lane)).locked = true →
      ∃ u, Ends (.rotReturn k) s u ∧ u.rotState k = 4 ∧ u.rot k = { s.rot k with agreed := 0, fails := 0 } ∧ OnlyRegs s u [R.PIL_FLOCK_STATUS k]
        ∧ u.get (F.PIL_FLOCK_STATUS_LOCK k) = s.get (F.PIL_FLOCK_STATUS_LOCK k)
        ∧ u = { begun s with regs := u.regs, pil := { s.pil with rot := u.pil.rot } })
    ∧ (s.rotState k ≠ 5 → Ends (.rotReturn k) s (begun s))
    ∧ (s.linkState = 3 → 2 ≤ s.pil.degradedFrames + (if s.frameEnding then 1 else 0) → s.flag F.SRF_CFG_LINK_EN = true → s.sleepAcked = false →
      ∃ u, Ends .degradedLinkLoss s u ∧ (s.domOn 33 = true → bitAt u.causes 1 = true) ∧ u.pil.rx = none
        ∧ (s.pil.rx = none → u.occ = [] ∧ OnlyRegs s u [R.SRF_STATUS]))
    ∧ (s.linkState ≠ 3 → Ends .degradedLinkLoss s (begun s))

/-- The state in which the effect of a good packet begins: its symbols have passed the receivers (R302), and the packets of its flocks
count (Table 19.1). -/
def taken (s : State) (rx : LinkRx) : State := ((begun s).rxTake rx).each s.linkFlocks fun s k => s.flockTally k 0

/-- Packets (R49 to R52) and source frames (R31, R33, R56, R57, R71, R72, R238). That the number of `FRAME_END` is not compared is log entry
63, the bytes that the frame's CRC goes over log entry 67. -/
def Obligations.SourceFrames : Prop :=
  ∀ (s : State) (rx : LinkRx) (f : RxFrame) (bands : List Nat),
    let p := rxPacket rx
    let head := p.frameHead
    -- a frame after the packet at g: the position, and the block slots that the encoder's check has sent RAW with it (R288)
    let checkedTo (u : State) (g : RxFrame) : Prop := ∃ bad : List Nat, u.pil.rx = some { g with badSegs := f.badSegs ++ bad }
      ∧ u.occ.filter (fun o => o.src ≠ 70) = List.replicate bad.length ⟨254, 1⟩
      ∧ ∀ i, i ∈ bad ↔ i ∈ rx.check.mismatch ∧ f.stored = true ∧ g.whole i = true ∧ f.whole i = false ∧ i ∉ f.badSegs
          ∧ (segEncode 12 (u.frameBlock f i)).2 = false
    let gets (u : State) (x y n : Nat) (px : Nat → InPixel) : Prop := ∀ c, x ≤ c → c < x + n → mget ⟨⟨0, 0, 0⟩, 0⟩ u.pil.pixels (pixKey c y) = px c
    let video := p.typ = 2 ∧ s.pil.rx = some f ∧ f.mismatch = false ∧ p.line < f.h ∧ p.firstX + p.count ≤ f.w ∧ p.fmt = f.fmt
    let lossless := s.get F.DEV_PATH_STATUS_MODE ≠ 1 ∨ (f.dropBands = [] ∧ bands = [])
    (∀ q : LinkPacket, s.linkFlocks ≠ [] → q.typ < 16 → q.id < 256 → q.line < 65536 → q.firstX < 65536 → q.count < 65536 → q.fmt < 4 →
      q.payload.length < 65536 →
      rxPacket ⟨stripe s.logicalLanes q.toBytes, true, false, rx.check⟩ = q
      ∧ (linkType q.typ = true → q.lengthOk = true → regionType q.typ = true ∨ q.id = 0 →
          s.rxGood ⟨stripe s.logicalLanes q.toBytes, true, false, rx.check⟩ = true))
    ∧ (s.packetGood rx = true →
      (p.typ = 1 → ∃ u g, Ends (.frameStart rx () () () ()) s u ∧ u.pil.rx = some g ∧ g.no = head.no ∧ g.w = head.w ∧ g.h = head.h ∧ g.fmt = head.fmt
        ∧ g.line = 0 ∧ g.col = 0
        ∧ g.mismatch = (head.w != s.snapshot.width 0 || head.h != s.snapshot.lines 0) ∧ u.pil.prev = some (head.w, head.h, head.fmt)
        ∧ u.pil.prevNo = head.no ∧ u.pil.startSeen = true ∧ u.pil.crcSeen = false
        ∧ u.reg R.PIL_SRC_FRAME_NO = head.no.toNat ∧ u.reg R.PIL_FS_OFFSET = s.stampOffset head.stamp
        ∧ u.get F.PIL_MODE_FORMAT = head.fmt ∧ u.get F.PIL_MODE_ACTIVE_W = head.w % 16384 ∧ u.get F.PIL_MODE_ACTIVE_H = head.h % 16384
        ∧ u.reg R.PIL_CNT_FRAME_SKIP = (if s.pil.prev.isSome && head.no != s.pil.prevNo + 1 then min 0xFFFFFFFF (s.reg R.PIL_CNT_FRAME_SKIP + 1)
            else s.reg R.PIL_CNT_FRAME_SKIP)
        ∧ (s.pil.prev ≠ some (head.w, head.h, head.fmt) → ⟨71, 0⟩ ∈ u.occ) ∧ (g.mismatch = true → ⟨72, 3⟩ ∈ u.occ))
      ∧ (video → lossless → p.line = f.line → p.firstX = f.col →
        ∃ u, Ends (.vidLine rx bands () () () () ()) s u
          ∧ (p.lineEnd = false → checkedTo u { f with col := p.firstX + p.count })
          ∧ (p.lineEnd = true → p.firstX + p.count = f.w → checkedTo u
              { f with line := f.line + 1, col := 0, lineConcealed := false, restShown := false, dropBands := [] })
          ∧ gets u p.firstX p.line p.count (fun c => pixelAt p.fmt p.payload (c - p.firstX))
          ∧ (p.lineEnd = false ∨ p.firstX + p.count = f.w →
              (∀ o ∈ u.occ, o.src ≠ 70)
              ∧ (∀ key, (∀ c, p.firstX ≤ c → c < p.firstX + p.count → key ≠ pixKey c p.line) →
                  mget ⟨⟨0, 0, 0⟩, 0⟩ u.pil.pixels key = mget ⟨⟨0, 0, 0⟩, 0⟩ s.pil.pixels key)
              ∧ RegsOnly (taken s rx) { u with pil := s.pil } [R.CPR_CNT_VERIFY]
              ∧ u.pil = { s.pil with rx := u.pil.rx, pixels := u.pil.pixels, dropped := u.pil.dropped }))
      ∧ (video → lossless → p.lineEnd = false → s.pil.haveFront = false → f.lineConcealed = false → f.concealed = false →
        (p.line = f.line → f.col < p.firstX →
          ∃ u, Ends (.vidLine rx bands () () () () ()) s u
            ∧ checkedTo u { f with col := p.firstX + p.count, lineConcealed := true, concealed := true }
            ∧ gets u f.col f.line (p.firstX - f.col) (fun _ => ⟨⟨0, 0, 0⟩, 0⟩)
            ∧ gets u p.firstX p.line p.count (fun c => pixelAt p.fmt p.payload (c - p.firstX))
            ∧ u.reg R.PIL_CNT_CONCEAL = min 0xFFFFFFFF (s.reg R.PIL_CNT_CONCEAL + 1) ∧ u.occ.filter (fun o => o.src = 70) = [⟨70, 3⟩])
        ∧ (f.line < p.line → f.col = 0 → p.firstX = 0 → 0 < f.w →
          ∃ u, Ends (.vidLine rx bands () () () () ()) s u
            ∧ checkedTo u { f with line := p.line, col := p.count, restShown := false, dropBands := [], concealed := true }
            ∧ (∀ y, f.line ≤ y → y < p.line → (∀ c, c < f.w → f.w ≤ 16384 → mget ⟨⟨0, 0, 0⟩, 0⟩ u.pil.pixels (pixKey c y) = ⟨⟨0, 0, 0⟩, 0⟩))
            ∧ u.reg R.PIL_CNT_CONCEAL = min 0xFFFFFFFF (s.reg R.PIL_CNT_CONCEAL + (p.line - f.line))
            ∧ u.occ.filter (fun o => o.src = 70) = [⟨70, 3⟩]))
      ∧ (∀ b, b < 16 → video → s.get F.DEV_PATH_STATUS_MODE = 1 → bands = [b] → f.dropBands = [] → s.pil.haveFront = false → p.line = f.line →
          p.firstX = f.col → p.lineEnd = false → max p.firstX (bandStart f.w b) < min (p.firstX + p.count) (bandStart f.w (b + 1)) →
        ∃ u, Ends (.vidLine rx bands () () () () ()) s u ∧ (∃ g, u.pil.rx = some g ∧ g.dropBands = [b] ∧ g.col = p.firstX + p.count)
          ∧ u.get (F.SLC_SLICE_STATUS_LAST_CAUSE (s.bandSlice b)) = 4 ∧ ⟨400 + s.bandSlice b, sliceCauseClass 4⟩ ∈ u.occ
          ∧ (∀ c, max p.firstX (bandStart f.w b) ≤ c → c < min (p.firstX + p.count) (bandStart f.w (b + 1)) →
              mfind u.pil.dropped (pixKey c p.line) = some ⟨⟨0, 0, 0⟩, 0⟩)
          ∧ gets u p.firstX p.line p.count (fun c => pixelAt p.fmt p.payload (c - p.firstX)))
      ∧ (p.typ = 3 → s.pil.rx = some f → f.line = f.h → s.pil.sleepWant = none →
        ∃ u, Ends (.frameEnd rx) s u ∧ u.pil.rx = none ∧ u.pil.pixels = s.pil.pixels
          ∧ (f.stored = true → u.pil.draining = some f ∧ u.pil.crcNow = crc32c (s.frameBytes f.w f.h))
          ∧ (f.stored = false → u = { taken s rx with pil := { s.pil with rx := none } })))
    ∧ (s.pil.draining = some f → f.stored = true → s.writesWait 1 = false →
      ∃ u, Ends .sourceFrameComplete s u ∧ u.pil.draining = none ∧ u.pil.haveFront = true ∧ u.pil.lastComplete = some f.no
        ∧ u.pil.crcPrev = some s.pil.crcNow ∧ u.frontBuf = 1 - s.frontBuf ∧ u.reg R.SRF_FRONT_NO = f.no.toNat
        ∧ u.layoutOf (1 - s.frontBuf) = some ⟨f.w, f.h, f.comps, f.fmt⟩)
    ∧ (s.pil.draining = none → Ends .sourceFrameComplete s (begun s))

/-- Region updates from the link (R73 to R75, R244, R248) and failed packets (R52, R72, R73). -/
def Obligations.LinkRegions : Prop :=
  ∀ (s : State) (rx : LinkRx) (x y w h : Nat) (tag : Word) (o : OpenUpd) (a : Nat),
    let p := rxPacket rx
    let ss := p.id
    (s.packetGood rx = true → ss < 16 → s.domOn 33 = true →
      (p.typ = 4 → p.rect = (x, y, w, h, tag) → mfind s.srf.opens ss = none → s.slotLinked ss = true → s.rectBad x y w h = false →
          mget 0 s.pil.sent ss < mget 0 s.pil.credit ss → mget 0 s.pil.credit ss < 32768 →
          s.srf.ring.foldl (fun (n : Nat) r => n + r.size) 0 + ringNeed w h ≤ s.ringSize →
        ∃ u, Ends (.regionBegin rx () () () () ()) s u ∧ u.occ = []
          ∧ mfind u.srf.opens ss = some { x := x, y := y, w := w, h := h, tag := tag, stage := some (s.srf.ringNext % s.ringSize) }
          ∧ u.srf.ring = s.srf.ring ++ [⟨s.srf.ringNext % s.ringSize, ringNeed w h, ss, tag, false⟩] ∧ mget 0 u.pil.sent ss = mget 0 s.pil.sent ss + 1
          ∧ u = { taken s rx with pil := { s.pil with sent := u.pil.sent }
                                  srf := { s.srf with opens := u.srf.opens, ring := u.srf.ring, ringNext := u.srf.ringNext, cut := u.srf.cut } })
      ∧ (p.typ = 5 → mfind s.srf.opens ss = some o → o.bad = none → o.stage = some a → o.line < o.h → o.col = 0 → 1 ≤ o.w → o.packets < 16 →
          p.line = o.y + o.line → p.firstX = o.x → p.count = o.w → p.lineEnd = true →
        ∃ u, Ends (.regionLine rx () () () () () ()) s u
          ∧ mfind u.srf.opens ss = some { o with line := o.line + 1, col := 0, packets := 0 }
          ∧ u.fst = ((begun s).ringWrite (a + ringRow o.w * o.line) (packRow ((List.range o.w).map fun i => pixelAt p.fmt p.payload i))).fst
          ∧ u.pil = s.pil ∧ u.srf.ring = s.srf.ring ∧ u.occ = [])
      ∧ (p.typ = 6 → mfind s.srf.opens ss = some o → o.bad = none → o.tag = p.word → o.line = o.h → s.layoutMismatch s.frontBuf = false →
          s.unshown = [] →
        ∃ u, Ends (.regionCommit rx ()) s u ∧ mfind u.srf.opens ss = none ∧ u.srf.nextId = s.srf.nextId + 1 ∧ u.occ = []
          ∧ mfind u.srf.running ss = some { o.upd ss s.noStage with id := s.srf.nextId } ∧ u.srf.ring = s.srf.ring
          ∧ u.regs = (taken s rx).regs))
    ∧ (s.linkWorks = true → s.packetGood rx = false →
      ∃ u, Ends (.failedPacket rx ()) s u ∧ Ends (.frameStart rx () () () ()) s u ∧ Ends (.vidLine rx [] () () () () ()) s u ∧ Ends (.frameEnd rx) s u
        ∧ Ends (.regionBegin rx () () () () ()) s u ∧ Ends (.regionLine rx () () () () () ()) s u ∧ Ends (.regionCommit rx ()) s u ∧ Ends (.sleep rx) s u ∧ Ends (.wake rx) s u
        ∧ Ends (.metaPacket rx) s u ∧ Ends (.auxPacket rx) s u
        ∧ u.reg R.PIL_CNT_CRC = min 0xFFFFFFFF (s.reg R.PIL_CNT_CRC + 1) ∧ u.pil.crcSeen = true ∧ (s.pil.crcSeen = false → ⟨69, 0⟩ ∈ u.occ)
        ∧ (s.pil.rx = none → regionType p.typ = false → OnlyRegs ((begun s).rxTake rx) u [R.PIL_CNT_CRC] ∧ u.occ = (if s.pil.crcSeen then [] else [⟨69, 0⟩])
            ∧ u = { (begun s).rxTake rx with regs := u.regs, tal := u.tal, occ := u.occ, pil := { s.pil with crcSeen := true } }))
    ∧ (s.packetGood rx = true → Ends (.failedPacket rx ()) s (begun s))
    ∧ (s.linkWorks = false → Ends (.failedPacket rx ()) s (begun s))

/-- Sleep, wake, `META` and `AUX` (R76 to R78, R382). That `SLEEP` waits while no frame has ever been complete is log entry 69. -/
def Obligations.SleepAndSidePackets : Prop :=
  ∀ (s : State) (rx : LinkRx) (bs : List Byte) (q : List (List Byte)) (o : Port),
    let p := rxPacket rx
    (s.packetGood rx = true →
      (p.typ = 7 → s.pil.lastComplete = some p.word →
        ∃ u, Ends (.sleep rx) s u ∧ u.get F.PIL_STATUS_SLEEP = 2 ∧ u.pil.sleepWant = none ∧ (s.domOn 33 = true → bitAt u.causes 0 = true)
          ∧ u.occ = [⟨75, 0⟩] ∧ OnlyRegs (taken s rx) u [R.PIL_STATUS, R.SRF_STATUS]
          ∧ ∀ k, s.backOn k = true → k < 4 → ∃ n gs ls, message k 6 n (beNats 4 p.word.toNat ++ [0, 0, 0, 0]) gs ls ∈ u.out)
      ∧ (p.typ = 7 → s.pil.lastComplete = none → s.pil.rx = none → s.pil.draining = none → s.sleepAcked = false →
        ∃ u, Ends (.sleep rx) s u ∧ u.get F.PIL_STATUS_SLEEP = 1 ∧ u.pil = { s.pil with sleepWant := some p.word } ∧ u.causes = s.causes
          ∧ RegsOnly (taken s rx) { u with pil := s.pil } [R.PIL_STATUS] ∧ u.occ = [⟨75, 0⟩] ∧ u.out = [])
      ∧ (p.typ = 8 → ∃ u, Ends (.wake rx) s u ∧ u.get F.PIL_STATUS_SLEEP = 0 ∧ bitAt u.causes 0 = false
          ∧ u.pil = { s.pil with sleepWant := none } ∧ u.occ = [⟨76, 0⟩]
          ∧ u.linkState = s.linkState ∧ RegsOnly (taken s rx) { u with pil := s.pil } [R.PIL_STATUS, R.SRF_STATUS])
      ∧ (p.typ = 9 → Ends (.metaPacket rx) s { taken s rx with pil := { s.pil with metaNew := some p.payload } })
      ∧ (p.typ = 1 → s.pil.metaNew = some bs →
        ∃ u, Ends (.frameStart rx () () () ()) s u ∧ u.pil.metaNew = none ∧ ⟨77, 0⟩ ∈ u.occ
          ∧ ∀ i, i < 7 → u.reg (R.PIL_META i) = beNat (slice bs (4 * i) 4))
      ∧ (p.typ = 10 → s.pil.aux.length < 4 →
        ∃ u, Ends (.auxPacket rx) s u ∧ u.pil = { s.pil with aux := s.pil.aux ++ [p.payload] } ∧ u.get F.PIL_AUX_STATUS_ENTRIES = s.pil.aux.length + 1
          ∧ (s.pil.aux = [] → u.get F.PIL_AUX_STATUS_LENGTH = p.payload.length)
          ∧ RegsOnly (taken s rx) { u with pil := s.pil } [R.PIL_AUX_STATUS] ∧ u.occ = [⟨78, 0⟩])
      ∧ (p.typ = 10 → 4 ≤ s.pil.aux.length →
        ∃ u, Ends (.auxPacket rx) s u ∧ RegsOnly (taken s rx) u [R.PIL_CNT_DISCARD] ∧ u.occ = [⟨79, 0⟩]))
    ∧ (s.engineOwner 1 = o.num → s.pil.aux = bs :: q → q.length < 256 →
      ∃ u, Ends (.auxPop o) s u ∧ u.occ = []
        ∧ u.out = [.readData o (leBytes 4 (beNat ((slice bs s.pil.auxPos 4 ++ [0, 0, 0, 0]).take 4)))]
        ∧ u.pil = (if bs.length ≤ s.pil.auxPos + 4 then { s.pil with aux := q, auxPos := 0 } else { s.pil with auxPos := s.pil.auxPos + 4 })
        ∧ (bs.length ≤ s.pil.auxPos + 4 → u.get F.PIL_AUX_STATUS_ENTRIES = q.length))
    ∧ (s.engineOwner 1 ≠ o.num ∨ s.pil.aux = [] → Ends (.auxPop o) s { accepted s (.host o) with out := [.readData o (leBytes 4 0)] })

/-! ### The pixel path (chapters 3 to 6) -/

/-- A pixel through the front end (R81, R82, R93). -/
def Obligations.FrontEndPixel : Prop :=
  ∀ (s : State) (x y : Nat) (i : InPixel),
    let p := s.fe.snap
    let set := p.feSet s.fe.fmt i.x
    let r := if s.fe.blank then (⟨0, 0, 0⟩, false, false) else feConvert (p.feParams set i.c) (p.hlgGain set)
    (s.feInput x y = some i → s.domOn 31 = true → s.snapshot.width 0 ≠ 0 → ¬ (x = 0 ∧ y = 0) → x < p.width 0 → y < p.lines 0 → ¬ (x + 1 = p.width 0 ∧ y + 1 = p.lines 0) →
      ∃ u, Ends (.fePixel x y) s u ∧ mget ⟨0, 0, 0⟩ u.fe.targets (2 * pixKey x y + s.spl.zoneParity) = r.1
        ∧ (∀ k, k ≠ 2 * pixKey x y + s.spl.zoneParity → mget ⟨0, 0, 0⟩ u.fe.targets k = mget ⟨0, 0, 0⟩ s.fe.targets k)
        ∧ u.occ = (if r.2.2 = true ∧ s.fe.limited = 0 then [⟨81, 0⟩] else [])
        ∧ u = { begun s with occ := u.occ, spl := { s.spl with lines := if x + 1 = p.width 0 then max s.spl.lines (y + 1) else s.spl.lines }, fe := { s.fe with
                  targets := u.fe.targets, gamut := s.fe.gamut + bit r.2.1, limited := s.fe.limited + bit r.2.2, set1 := s.fe.set1 + set } })
    ∧ (s.feInput x y = none → ¬ (x = 0 ∧ y = 0) → Ends (.fePixel x y) s (begun s))
    ∧ (s.domOn 31 = false → Ends (.fePixel x y) s (begun s))

/-- The store-mode reader (R31, R237, R240). -/
def Obligations.StoreModeReads : Prop :=
  ∀ (s : State) (bx bY : Nat) (l : BufLayout) (c : List (List Nat)) (len : Nat) (ecc eccBack : EccMap),
    let i := bY * l.cols + bx
    let a := s.slotAddr s.srf.readBuf l.comps i
    (s.layoutOf s.srf.readBuf = some l → l.w ≤ 16384 → bx < l.cols → i < l.slots → inFolds a = true →
        (∀ nn ∈ foldsIn a (slotSize l.comps), s.ownerMiss 1 nn = 0 ∧ s.ownerWaits 1 nn = false) → s.writesWait 1 = false →
        segAt s.fst.mem l.comps 12 a (a + slotSize l.comps) = .ok (c, len) →
      ∃ u, Ends (.storeModeRead bx bY [] []) s u ∧ u = { begun s with srf := { s.srf with readPix := u.srf.readPix, readSlots := i :: s.srf.readSlots } }
        ∧ ∀ v, v < 256 → 64 * bx + v % 64 < l.w → 4 * bY + v / 64 < l.h →
            mget ⟨⟨0, 0, 0⟩, 0⟩ u.srf.readPix (pixKey (64 * bx + v % 64) (4 * bY + v / 64)) =
              ⟨⟨(c.getD 0 []).getD v 0, (c.getD 1 []).getD v 0, (c.getD 2 []).getD v 0⟩, if l.comps = 4 then (c.getD 3 []).getD v 0 % 4 else 0⟩)
    ∧ (s.layoutOf s.srf.readBuf = none → Ends (.storeModeRead bx bY ecc eccBack) s (begun s))

/-- A zone row is decided (R101, R104, R116, R119, R123, R212). -/
def Obligations.ZoneRows : Prop :=
  ∀ (s : State) (zy zx : Nat),
    let p := s.spl.zoneSnap
    let g := p.geom
    let z := zy * g.zc + zx
    let decided (u : State) : Prop := u.spl.zonesDecided = zy + 1
        ∧ (s.splMode p = 2 → ∀ c, c < 3 → (u.zoneNow z).comp c = if p.zoneGain z c = 0 then 0 else p.get F.SPL_PEAK1_FIXED)
        ∧ (s.splMode p = 0 → ∀ c, c < 3 → (u.zoneNow z).comp c =
            (splFilter s.spl.seeding (p.zoneGain z c != 0) (s.zoneLambda p c zx zy) (p.get F.SPL_FILTER_ATTACK) (p.get F.SPL_FILTER_DECAY)
              (mget 0 s.spl.filter (4 * z + c))).2)
    (s.domOn 31 = true → zy = s.spl.zonesDecided → s.zoneRowDue zy = true → zx < g.zc → zy < g.zr → g.zc * g.zr ≤ 16384 →
      (s.spl.swap.bankDone = false → zy + 1 < g.zr →
        (s.domOn 32 = false →
          ∃ u, Ends (.zoneRowDecided zy) s u ∧ decided u ∧ u.occ = []
            ∧ u = { begun s with spl := { s.spl with zonesDecided := zy + 1, levels := u.spl.levels, filter := u.spl.filter, field := u.spl.field } })
        ∧ (s.domOn 32 = true → s.flag F.BLE_CFG_SOURCE = false →
          ∃ u, Ends (.zoneRowDecided zy) s u ∧ decided u ∧ u.occ = [] ∧ u.regs = s.regs
            ∧ (∀ c, c < 3 → u.zoneLevel (1 - s.bleBank) z c = (u.zoneNow z).comp c % 65536)
            ∧ (∀ z' c, z' < 16384 → c < 4 → u.zoneLevel s.bleBank z' c = s.zoneLevel s.bleBank z' c)
            ∧ u.ble.rowsWritten = zy :: s.ble.rowsWritten)
        ∧ (s.domOn 32 = true → s.flag F.BLE_CFG_SOURCE = true →
          ∃ u, Ends (.zoneRowDecided zy) s u ∧ decided u ∧ u.ble = s.ble
            ∧ u.reg R.BLE_CNT_SPL_DROP = min 0xFFFFFFFF (s.reg R.BLE_CNT_SPL_DROP + 3 * g.zc) ∧ OnlyRegs s u [R.BLE_CNT_SPL_DROP]))
      ∧ (s.spl.swap.bankDone = false → zy + 1 = g.zr →
        ∃ u, Ends (.zoneRowDecided zy) s u ∧ decided u ∧ (∀ i, i < g.zc * g.zr → mget ⟨0, 0, 0⟩ u.spl.lastLevels i = u.zoneNow i)
          ∧ (s.splitFeeds = false → u.spl.swap = s.spl.swap)
          ∧ (s.splitFeeds = true → s.spl.swap.deferred = false → u.spl.swap.bankDone = true ∧ u.spl.swap.no = s.spl.zoneNo ∧ u.bleBank = s.bleBank)
          ∧ (s.splitFeeds = true → s.spl.swap.deferred = true → u.spl.swap = {} ∧ u.bleBank = 1 - s.bleBank
              ∧ u.reg R.BLE_CNT_SWAP = min 0xFFFFFFFF (s.reg R.BLE_CNT_SWAP + 1)))
      ∧ (s.spl.swap.bankDone = true → zy = 0 → 1 < g.zr → s.splitFeeds = true →
        ∃ u, Ends (.zoneRowDecided zy) s u ∧ decided u ∧ u.spl.swap = {} ∧ u.bleBank = 1 - s.bleBank ∧ ⟨89, 3⟩ ∈ u.occ
          ∧ u.reg R.SPL_CNT_BL_SWAP = min 0xFFFFFFFF (s.reg R.SPL_CNT_BL_SWAP + 1)
          ∧ ∀ c, c < 3 → u.zoneLevel s.bleBank z c = (u.zoneNow z).comp c % 65536))
    ∧ (zy ≠ s.spl.zonesDecided ∨ s.zoneRowDue zy = false → Ends (.zoneRowDecided zy) s (begun s))

/-- A pixel of the split (R112, R113), and the request for a synchronising reset (R104). That a pixel before its field rows has no effect
is the model's choice (log entry 125). -/
def Obligations.SplitPixels : Prop :=
  ∀ (s : State) (x y : Nat) (ag : Agent),
    let p := s.spl.pixSnap
    let g := p.geom
    (s.domOn 31 = true → ¬ (x = 0 ∧ y = 0) → x < g.w → y < g.h → ¬ (x + 1 = g.w ∧ y + 1 = g.h) → s.bypassed (bandOf g.w x) = false → s.splitDue y = true →
      ∃ u, Ends (.splitPixel x y) s u ∧ mget ⟨0, 0, 0⟩ u.spl.tFront (pixKey x y) = (s.frontT x y).1
        ∧ u.spl.clip = s.spl.clip + bit (s.frontT x y).2 ∧ u.occ = (if (s.frontT x y).2 = true ∧ s.spl.clip = 0 then [⟨85, 0⟩] else [])
        ∧ (∀ k, k ≠ pixKey x y → mget ⟨0, 0, 0⟩ u.spl.tFront k = mget ⟨0, 0, 0⟩ s.spl.tFront k)
        ∧ (p.flag F.SPL_CFG_REAR_EN = true → g.firstOf x y = true →
            mget 0 u.spl.tRear (pixKey (g.rearX x) (g.rearY y)) = (s.rearT (g.rearX x) (g.rearY y)).1)
        ∧ (p.flag F.SPL_CFG_REAR_EN = false → u.spl.tRear = s.spl.tRear ∧ u.spl.tmin = s.spl.tmin)
        ∧ u = { begun s with occ := u.occ, spl := { s.spl with tFront := u.spl.tFront, clip := u.spl.clip, tRear := u.spl.tRear, tmin := u.spl.tmin } })
    ∧ (s.domOn 31 = false ∨ s.splitDue y = false → ¬ (x = 0 ∧ y = 0) → Ends (.splitPixel x y) s (begun s))
    ∧ (CanWrite s ag R.SPL_CTRL → Ends (.syncReset ag) s { accepted s ag with spl := { s.spl with syncPending := true } })

/-- Elements of panel compensation (R128, R129, R134, R139). -/
def Obligations.CompensationElements : Prop :=
  ∀ (s : State) (x y plane : Nat) (ecc : EccMap),
    let p := s.pcmSnap
    let w := (p.geom.layer false).1
    let h := (p.geom.layer false).2.1
    let key := elemKey plane x y
    let k := bandOf w x
    let c := mget 0 s.pcm.codeA key
    s.domOn 31 = true → plane < 3 → x < w → y < h →
    (∃ u, Ends (.stageA x y plane) s u
      ∧ mget 0 u.pcm.codeA key = splResponse (s.spl.pixSnap.response plane)
          (if s.bypassed k then (s.bypassT x y).comp plane
           else if s.pcmOn k then (s.stageAFront p.pcmLists plane x y).1 else s.splitTc plane x y)
      ∧ (∀ j, j ≠ key → mget 0 u.pcm.codeA j = mget 0 s.pcm.codeA j)
      ∧ (s.pcmOn k = false → u.occ = [] ∧ u.pcm.clip = s.pcm.clip)
      ∧ u = { begun s with occ := u.occ, pcm := { s.pcm with codeA := u.pcm.codeA, clip := u.pcm.clip, clippedAt := u.pcm.clippedAt } })
    ∧ (¬ (x + 1 = w ∧ y + 1 = h) → s.pcmOn k = false →
      ∃ u, Ends (.stageB x y plane ecc) s u ∧ mget 0 u.pcm.codeB key = c ∧ (∀ j, j ≠ key → mget 0 u.pcm.codeB j = mget 0 s.pcm.codeB j)
        ∧ u = { begun s with pcm := { s.pcm with codeB := u.pcm.codeB } })
    ∧ (¬ (x + 1 = w ∧ y + 1 = h) → s.pcmOn k = true →
        p.flag (F.PCM_PLANE_CFG_MURA_EN plane) = false → p.flag (F.PCM_PLANE_CFG_GAIN_EN plane) = false →
      ∃ u, Ends (.stageB x y plane ecc) s u
        ∧ mget 0 u.pcm.codeB key = (stageBCode p.pcmLists false plane x y c (p.driverBits false) (64 / 4 ^ p.get (F.PCM_PLANE_CFG_UNIT plane)) none none).1
        ∧ (∀ j, j ≠ key → mget 0 u.pcm.codeB j = mget 0 s.pcm.codeB j) ∧ u.pcm.codeA = s.pcm.codeA)

/-- Elements of overdrive and dither (R150, R153, R164 to R166). That a black frame's code (R186, Table 7.5) is dithered is log entry 97. -/
def Obligations.OverdriveAndDither : Prop :=
  ∀ (s : State) (x y plane : Nat) (ecc : EccMap) (mis : Bool), s.domOn 31 = true → plane < 3 →
    let key := elemKey plane x y
    let p := s.odr.snap
    let c := mget 0 s.pcm.codeB key
    let d := s.dth.snap
    let r := ditherCode (d.driverBits false) (d.get F.DTH_CFG_FRONT_MODE) (s.get F.DTH_STATUS_PHASE)
      (fun ty tx => tblByte d.tbl (0x2D0000 + 64 * ty + tx)) (x + d.get (F.DTH_PLANE_OFS_OX plane)) (y + d.get (F.DTH_PLANE_OFS_OY plane))
      (if s.tg.front.black then splResponse (d.response plane) 0 else mget 0 s.odr.codes key)
    (x < (p.geom.layer false).1 → y < (p.geom.layer false).2.1 → ¬ (x + 1 = (p.geom.layer false).1 ∧ y + 1 = (p.geom.layer false).2.1) →
      (p.odrOn false = false →
        ∃ u, Ends (.overdrive x y plane ecc mis) s u ∧ mget 0 u.odr.codes key = c ∧ (∀ j, j ≠ key → mget 0 u.odr.codes j = mget 0 s.odr.codes j)
          ∧ u = { begun s with odr := { s.odr with codes := u.odr.codes } })
      ∧ (p.odrOn false = true → s.bypassed (bandOf (p.geom.layer false).1 x) = false → s.odr.front.frame < 2 →
        ∃ u, Ends (.overdrive x y plane ecc false) s u ∧ mget 0 u.odr.codes key = s.odrOutput plane x y c (odrHist c) (odrHist c)
          ∧ mget 0 u.odr.front.samples key = odrHist c ∧ (∀ j, j ≠ key → mget 0 u.odr.codes j = mget 0 s.odr.codes j)
          ∧ u = { begun s with odr := { s.odr with codes := u.odr.codes, front := { s.odr.front with samples := u.odr.front.samples } } }))
    ∧ (x < (d.geom.layer false).1 → y < (d.geom.layer false).2.1 → ¬ (x + 1 = (d.geom.layer false).1 ∧ y + 1 = (d.geom.layer false).2.1) →
      ∃ u, Ends (.dither x y plane) s u ∧ mfind u.dth.values key = some r.1 ∧ u.dth.sat = s.dth.sat + bit r.2
        ∧ (∀ j, j ≠ key → mfind u.dth.values j = mfind s.dth.values j)
        ∧ u = { begun s with dth := { s.dth with values := u.dth.values, sat := u.dth.sat } })

/-- A thermistor's conversion (R155). -/
def Obligations.ThermistorConversions : Prop :=
  ∀ (s : State) (k code : Nat), k < 16 → code < 4096 → s.domOn 31 = true →
    let t := mget ({} : Thermistor) s.odr.inputs k
    (s.get F.ODR_TH_LIMITS_LO ≤ code → code ≤ s.get F.ODR_TH_LIMITS_HI → t.excluded = false →
      ∃ u, Ends (.thermistorConversion k code) s u ∧ mget ({} : Thermistor) u.odr.inputs k = ⟨(code :: t.codes).take 16, false, min 16 (t.good + 1)⟩
        ∧ u.flag (F.ODR_TH_READ_VALID k) = true ∧ u.get (F.ODR_TH_READ_ADC k) = odrMean ((code :: t.codes).take 16) % 4096
        ∧ u.get (F.ODR_TH_READ_TEMP k) =
            signedSat 16 (odrCurve (fun i => signed 16 (tblHalf s.tbl (0x2C1000 + 2 * i))) (odrMean ((code :: t.codes).take 16))) % 65536
        ∧ u.occ = [] ∧ OnlyRegs s u [R.ODR_TH_READ k] ∧ u = { begun s with regs := u.regs, odr := { s.odr with inputs := u.odr.inputs } })
    ∧ (code < s.get F.ODR_TH_LIMITS_LO ∨ s.get F.ODR_TH_LIMITS_HI < code → t.excluded = false →
      ∃ u cls, Ends (.thermistorConversion k code) s u ∧ mget ({} : Thermistor) u.odr.inputs k = ⟨t.codes, true, 0⟩
        ∧ u.flag (F.ODR_TH_READ_VALID k) = false ∧ u.reg R.ODR_CNT_TH_EXCL = min 0xFFFFFFFF (s.reg R.ODR_CNT_TH_EXCL + 1)
        ∧ u.occ = [⟨108, cls⟩] ∧ (cls = 2 ∨ cls = 3) ∧ OnlyRegs s u [R.ODR_TH_READ k, R.ODR_CNT_TH_EXCL])

/-! ### Timing generators and the panel (chapter 7) -/

/-- A frame of generator n has begun at an instant: its number is one more, and it is at the start of line 0. -/
def FrameBegun (s u : State) (n inst : Nat) : Prop :=
  u.reg (R.TG_FRAME_NO n) = (s.reg (R.TG_FRAME_NO n) + 1) % 2 ^ 32 ∧ (u.run n).on = true ∧ (u.run n).line = 0
  ∧ (u.run n).frameStart = inst ∧ (u.run n).lineStart = inst

/-- A generator's frame begins (R173, R179, R180, R211). -/
def Obligations.FramesBegin : Prop :=
  ∀ (s : State) (n t : Nat), n < 4 →
    (s.shadow = [] → s.tblShadow = [] → s.flag (F.TG_CFG_EN n) = true → (s.run n).stopPending = false →
      ((s.run n).on = true → (s.run n).planned ≤ (s.run n).line + 1 → s.stretches n = false →
        ∃ u, Ends (.tgFrameBoundary n) s u ∧ FrameBegun s u n ((s.run n).lineStart + (s.run n).period))
      ∧ (s.jumpTarget n = some t → ∃ u, Ends (.jump n) s u ∧ FrameBegun s u n t ∧ u.reg (R.TG_CNT_RELOCK n) = min 0xFFFFFFFF (s.reg (R.TG_CNT_RELOCK n) + 1))
      ∧ (s.restartTarget n = some t → ∃ u, Ends (.followerRestart n) s u ∧ FrameBegun s u n t)
      ∧ (n = 2 → s.get F.BLE_SYNC_SRC = 1 → (s.run 2).on = true → s.domOn 32 = true → s.ble.syncLast = none →
        ∃ u, Ends .blSyncIn s u ∧ FrameBegun s u 2 s.now ∧ u.flag F.BLE_STATUS_SYNC_IN_OK = true))
    ∧ ((s.run n).on = false → Ends (.tgFrameBoundary n) s (begun s))
    ∧ (s.jumpTarget n = none → Ends (.jump n) s (begun s))
    ∧ (s.restartTarget n = none → Ends (.followerRestart n) s (begun s))
    ∧ (s.get F.BLE_SYNC_SRC ≠ 1 → Ends .blSyncIn s (begun s))

/-- Lines, holdover and the stop of a generator (R175, R178, R187, R466). -/
def Obligations.LinesAndStops : Prop :=
  ∀ (s : State) (n : Nat), n < 4 →
    ((s.run n).on = true → (s.run n).line + 1 < (s.run n).planned →
      ∃ u, Ends (.lineStart n) s u ∧ (u.run n).line = (s.run n).line + 1 ∧ (u.run n).lineStart = (s.run n).lineStart + (s.run n).period
        ∧ (u.run n).frameStart = (s.run n).frameStart ∧ u.now = max s.now ((s.run n).lineStart + (s.run n).period)
        ∧ ((s.run n).line + 1 = (s.run n).vactive → ⟨112 + 4 * n, 0⟩ ∈ u.occ) ∧ u.reg (R.TG_FRAME_NO n) = s.reg (R.TG_FRAME_NO n))
    ∧ ((s.run n).on = false → Ends (.lineStart n) s (begun s) ∧ Ends (.tgHoldover n) s (begun s) ∧ Ends (.generatorStop n) s (begun s))
    ∧ ((s.run n).on = true → s.lockState n = 2 ∨ s.lockState n = 3 →
      (∀ t, s.lastRef n = some t → t + 2 * s.tgTf n ≤ s.now →
        ∃ u, Ends (.tgHoldover n) s u ∧ u.lockState n = 4 ∧ OnlyRegs s u ((List.range 4).map R.TG_STATUS) ∧ u = { begun s with regs := u.regs })
      ∧ ((∀ t, s.lastRef n = some t → s.now < t + 2 * s.tgTf n) → Ends (.tgHoldover n) s (begun s)))
    ∧ ((s.run n).on = true → (s.run n).stopPending = true →
      ∃ u, Ends (.generatorStop n) s u ∧ (u.run n).on = false ∧ u.lockState n = 0 ∧ u.reg (R.TG_FRAME_NO n) = s.reg (R.TG_FRAME_NO n)
        ∧ (s.jumpTarget n = none → s.restartTarget n = none → u.now = max s.now (s.run n).plannedEnd)
        ∧ (∀ t, s.jumpTarget n = some t → u.now = max s.now t))

/-- The panel (R183 to R186) and the preemption of a gate pad's short (R388). PROTECTED at the report itself is log entry 95, a preemption
that acts at once log entry 93. -/
def Obligations.PanelCommands : Prop :=
  ∀ (s : State) (ag : Agent) (l : Layer) (k sig : Nat), sig < 16 → k < 4 →
    let n := layerTg l
    (CanWrite s ag R.TG_PANEL_CTRL →
      (s.panelState l = 0 → s.flag (panelOnField l) = false →
        ∃ u, Ends (.panelOn ag l) s u ∧ u.panelState l = 1 ∧ u.flag (panelOnField l) = true ∧ u.panel l = {} ∧ (∀ i, i < 16 → u.pad l i = {}))
      ∧ (s.panelState l = 3 → s.flag (panelOnField l) = true →
        ∃ u, Ends (.panelOff ag l) s u ∧ u.flag (panelOnField l) = false ∧ (u.panel l).heldOn = false
          ∧ u.panelState l = (if (s.run n).on then 4 else 5)))
    ∧ (let m : Layer := if s.flag (F.TG_PANEL_EN_CFG_LAYER k) then .rear else .front
      (1 ≤ s.panelState m → s.panelState m ≤ 3 →
        ∃ u, Ends (.onDelayElapsed k) s u ∧ mget false u.tg.enables k = true ∧ u = { begun s with tg := { s.tg with enables := u.tg.enables } })
      ∧ (s.panelState m = 0 → Ends (.onDelayElapsed k) s (begun s)))
    ∧ (s.panelState l = 1 → ∃ u, Ends (.gateDelayElapsed l) s u ∧ (u.panel l).gateDelayDone = true ∧ u.regs = s.regs)
    ∧ (s.panelState l ≠ 1 → Ends (.gateDelayElapsed l) s (begun s))
    ∧ (s.panelState l = 5 → (s.panel l).heldOn = false → k ∈ s.panelEnables l → (∀ i, i ∈ s.panelEnables l → i ≠ k → i ∈ (s.panel l).released) →
      ∃ u, Ends (.panelEnableRelease l (some k)) s u ∧ u.panelState l = 0 ∧ (u.panel l).gates = .park ∧ mget false u.tg.enables k = false)
    ∧ (s.panelState l = 3 → Ends (.panelEnableRelease l (some k)) s (begun s))
    ∧ ((s.run n).on = true → (s.panel l).gates = .pattern →
      (s.gateLine n sig (s.run n).line = true → 16 ≤ s.gateWidth n sig →
        ∃ u, Ends (.gatePulseEdge n sig false) s u ∧ (u.pad l sig).pulse = true ∧ (u.pad l sig).hiZ = (s.pad l sig).hiZ
          ∧ u.now = max s.now ((s.run n).tick (s.get (F.TG_GATE_EDGE_START n sig))) ∧ u.regs = s.regs)
      ∧ ((s.pad l sig).pulse = true →
        ∃ u, Ends (.gatePulseEdge n sig true) s u ∧ (u.pad l sig).pulse = false ∧ (u.pad l sig).hiZ = (s.pad l sig).hiZ
          ∧ u.now = max s.now ((s.run n).tick (s.get (F.TG_GATE_EDGE_STOP n sig))) ∧ u.regs = s.regs))
    ∧ ((s.padLevel l sig).isSome = true →
      ∃ u, Ends (.gateShort l sig) s u ∧ u.pad l sig = { s.pad l sig with hiZ := true, pulse := false }
        ∧ bitAt (u.get (panelShortField l)) sig = true ∧ u.panelState l = 6 ∧ ⟨if l = .front then 14 else 15, 4⟩ ∈ u.occ
        ∧ (s.panelState l ≠ 6 → u.flag (panelOnField l) = false ∧ (u.panel l).gates = .discharge)
        ∧ ∀ p, p < 3 → u.seqRuns p = [])
    ∧ (s.padLevel l sig = none → Ends (.gateShort l sig) s (begun s))

/-! ### The driver link (chapter 8) -/

/-- A line slot of the front layer (R32, R192 to R194, R302, R305). -/
def Obligations.LineSlots : Prop :=
  ∀ (s : State) (nn : Nat) (bad : List Nat), (bad.all fun l => 32 ≤ l && l < 144) = true →
    let r := s.run 0
    let c := s.portCfg nn
    let values := (c.keys r.line).map (mget 0 s.dth.values ·)
    let nbits := s.dth.snap.driverBits false
    let sent (u : State) (typ count : Nat) (payload : List Byte) : Prop := ∃ sreq tag,
      let bs := portPacketBytes typ nbits (r.line == 0) sreq tag (s.reg (R.TG_FRAME_NO 0)) r.line count payload
      Output.portPacket nn ⟨typ, bs⟩ ∈ u.out ∧ ∀ l, l = laneA nn ∨ l = laneB nn → s.laneSends l = true →
        let p := s.txSend l (s.launchAt 0) (symK27_7 :: bs.map dSym ++ [symK29_7])
        Output.lanePacket l p.1 p.2.1 ∈ u.out
    let sends := nn < 56 ∧ c.en = true ∧ c.rear = false ∧ s.portState nn = 2 ∧ s.domOn (6 + nn / 7) = true
      ∧ (s.laneSends (laneA nn) = true ∨ s.laneSends (laneB nn) = true)
    (r.on = true → r.linesSent ≤ r.line → r.line < r.vactive →
      ∃ u, Ends (.lineSlot .front bad) s u ∧ (u.run 0).linesSent = r.line + 1 ∧ (u.run 0).line = r.line
        ∧ (∀ key, key % 4 ≠ 3 → key / 65536 = r.line → mfind u.dth.values key = none)
        ∧ (sends → s.panelState .front ≠ 1 → nn ∈ s.adl.live →
            (((c.keys r.line).all fun k => (mfind s.dth.values k).isSome) = true → sent u 1 c.channels (linePayload nbits values))
            ∧ (((c.keys r.line).all fun k => (mfind s.dth.values k).isSome) = false → sent u 2 0 []
                ∧ u.reg (R.ADL_PORT_CNT_REPEAT nn) = min 0xFFFFFFFF (s.reg (R.ADL_PORT_CNT_REPEAT nn) + 1)
                ∧ u.reg (R.TG_CNT_UNDERRUN 0) = min 0xFFFFFFFF (s.reg (R.TG_CNT_UNDERRUN 0) + 1)
                ∧ (u.run 0).underrun = true ∧ (r.underrun = false → ⟨115, 3⟩ ∈ u.occ))))
    ∧ (r.on = true → r.linesSent ≤ r.line → r.line = r.vactive →
      ∃ u, Ends (.lineSlot .front bad) s u ∧ (sends → sent u 3 0 (s.ctrlPayload false c.channels) ∧ nn ∈ u.adl.ctrlSent))
    ∧ (r.on = false → Ends (.lineSlot .front bad) s (begun s))

/-- Ports of the driver link (R198, R200, R202 to R204). -/
def Obligations.DriverPorts : Prop :=
  ∀ (s : State) (k nn l : Nat) (p : AdlPoll) (w : BitVec 40), k < 8 → nn / 7 = k → 32 ≤ l → l < 144 →
    (s.domOn (6 + k) = true →
      ∃ u, Ends (.portUp k none) s u ∧ u.flag (F.ADL_FLOCK_STATUS_LOCKN k) = true ∧ u.occ = []
        ∧ u.portState nn = (if s.portState nn = 1 then 2 else s.portState nn)
        ∧ (s.portState nn = 1 → nn ∉ u.adl.live ∧ nn ∉ u.adl.ctrlSent) ∧ (u.portState nn = 2 → u.flag (F.ADL_FLOCK_STATUS_POLLING k) = true))
    ∧ (s.domOn (6 + k) = false → Ends (.portUp k none) s (begun s))
    ∧ (s.adl.windowLeft = 0 → s.portState nn = 2 →
      ∃ u, Ends (.locknLost k) s u ∧ u.flag (F.ADL_FLOCK_STATUS_LOCKN k) = false ∧ u.flag (F.ADL_FLOCK_STATUS_POLLING k) = false
        ∧ u.reg R.ADL_CNT_LOCKN_LOST = min 0xFFFFFFFF (s.reg R.ADL_CNT_LOCKN_LOST + 1)
        ∧ ∀ i, (flockPorts k).find? (fun j => s.flag (F.ADL_PORT_CFG_EN j)) = some i → u.occ = [⟨128 + i, 3⟩] ∧ u.get (F.ADL_PORT_STATUS_LAST_CAUSE i) = 5)
    ∧ (0 < s.adl.windowLeft →
      ∃ u, Ends (.locknLost k) s u ∧ RegsOnly (begun s) u [R.ADL_FLOCK_STATUS k] ∧ u.flag (F.ADL_FLOCK_STATUS_LOCKN k) = false ∧ u.occ = [] ∧ u.tal = s.tal)
    ∧ (mfind s.adl.polls k = some p → p.asked = true → p.port = nn → p.discard = false →
      (∃ u, Ends (.statusReply k none) s u ∧ mfind u.adl.polls k = none
        ∧ u.reg (R.ADL_PORT_CNT_POLL_ERR nn) = min 0xFFFFFFFF (s.reg (R.ADL_PORT_CNT_POLL_ERR nn) + 1) ∧ OnlyRegs s u [R.ADL_PORT_CNT_POLL_ERR nn])
      ∧ (bits w.toNat 39 36 = p.tag → bits w.toNat 7 0 = crc8 (beBytes 4 (bits w.toNat 39 8)) → s.flag (F.ADL_FLOCK_STATUS_LOCKN k) = true →
        ∃ u, Ends (.statusReply k (some w)) s u ∧ mfind u.adl.polls k = none ∧ u.reg (R.ADL_PORT_REPLY nn) = bits w.toNat 39 8
          ∧ u.get (F.ADL_PORT_STATUS_TEMP nn) = bits w.toNat 15 8 ∧ u.flag (F.ADL_PORT_STATUS_FAR_A nn) = bitAt w.toNat 35
          ∧ u.flag (F.ADL_PORT_STATUS_FAR_B nn) = bitAt w.toNat 34 ∧ u.flag (F.ADL_PORT_STATUS_POL_A nn) = bitAt w.toNat 33
          ∧ u.flag (F.ADL_PORT_STATUS_POL_B nn) = bitAt w.toNat 32
          ∧ (bitAt w.toNat 31 = true →
              u.reg (R.ADL_PORT_CNT_FAR_ERR nn) = min 0xFFFFFFFF (s.reg (R.ADL_PORT_CNT_FAR_ERR nn) + 1) ∧ ⟨128 + nn, 0⟩ ∈ u.occ)
          ∧ (bitAt w.toNat 35 = false → s.laneIdle (laneA nn) = false → mfind s.adl.bad (laneA nn) = none → ⟨128 + nn, 2⟩ ∈ u.occ)
          ∧ (bitAt w.toNat 34 = false → s.laneIdle (laneB nn) = false → mfind s.adl.bad (laneB nn) = none → ⟨128 + nn, 2⟩ ∈ u.occ)
          ∧ (let ch := bits w.toNat 30 21
             (ch = 0x3FF → u.get (F.ADL_PORT_STATUS_OPEN_CH nn) = s.get (F.ADL_PORT_STATUS_OPEN_CH nn))
             ∧ (ch ≠ 0x3FF → (s.portCfg nn).channels ≤ ch →
                  u.reg (R.ADL_PORT_CNT_POLL_ERR nn) = min 0xFFFFFFFF (s.reg (R.ADL_PORT_CNT_POLL_ERR nn) + 1))
             ∧ (ch ≠ 0x3FF → ch < (s.portCfg nn).channels →
                  u.get (F.ADL_PORT_STATUS_OPEN_CH nn) = ch ∧ u.get (F.ADL_PORT_STATUS_LAST_CAUSE nn) = 4 ∧ ⟨128 + nn, 3⟩ ∈ u.occ
                  ∧ (s.flag F.PCM_CFG_AUTO_EN = true → u.pcm.autoDue = s.pcm.autoDue ++ [if (s.portCfg nn).rear then
                      (Layer.rear, 0, (s.portCfg nn).first + ch) else (Layer.front, ch % 3, (s.portCfg nn).first + ch / 3)])))))
    ∧ (mfind s.adl.polls k = none → Ends (.statusReply k (some w)) s (begun s))
    ∧ (16 ≤ mget 0 s.adl.bad l → s.flag (if l % 2 = 1 then F.ADL_PORT_STATUS_LANE_OFF_B ((l - 32) / 2) else F.ADL_PORT_STATUS_LANE_OFF_A ((l - 32) / 2)) = false →
      ∃ u, Ends (.laneOff l) s u ∧ (u.lane l).stopped = true
        ∧ u.flag (if l % 2 = 1 then F.ADL_PORT_STATUS_LANE_OFF_B ((l - 32) / 2) else F.ADL_PORT_STATUS_LANE_OFF_A ((l - 32) / 2)) = true
        ∧ ⟨128 + (l - 32) / 2, 2⟩ ∈ u.occ ∧ ⟨256 + l, 2⟩ ∈ u.occ)
    ∧ (mget 0 s.adl.bad l < 16 → Ends (.laneOff l) s (begun s))

/-! ### The backlight engine (chapter 9) -/

/-- Only chain c of the backlight changes, and what goes out of it. -/
def ChainOnly (s u : State) (c : Nat) : Prop :=
  u = { begun s with ble := { s.ble with chains := u.ble.chains, testNext := u.ble.testNext }, out := u.out } ∧ ∀ i, i ≠ c → u.chain i = s.chain i

/-- Transfers (R213, R219, R221, R227), and the writes behind them (R212, R225, R226). -/
def Obligations.ChainTransfers : Prop :=
  ∀ (s : State) (c q : Nat) (rest : List Nat) (ag : Agent) (a v : Word), c < 24 →
    let h := s.chain c
    let n := s.get (F.BLE_CHAIN_CFG_DRIVERS c) + 1
    let drivers := (List.range n).reverse
    (s.domOn 32 = true → s.chainState c ≠ 0 → h.running = none →
      (h.testStep = 1 → ∃ u, Ends (.transfer c) s u ∧ ChainOnly s u c ∧ u.chain c = { h with running := some .bypass, testStep := 2 }
        ∧ u.ble.testNext = s.ble.testNext ∧ u.out = [.chainWords c (drivers.flatMap fun d => stageWords [] 0x200000 c d)])
      ∧ (h.testStep = 2 → ∃ u, Ends (.transfer c) s u ∧ ChainOnly s u c ∧ u.chain c = { h with running := some .pattern, testStep := 0 }
        ∧ u.ble.testNext = s.ble.testNext ∧ u.out = [.chainBits c (loopPattern n)])
      ∧ (h.testStep = 0 → h.ready = [] → Ends (.transfer c) s (begun s))
      ∧ (h.testStep = 0 → h.ready = q :: rest →
        let es := ((bleEntries s.tbl).filter fun e => e.chain == c && (!s.bleMux || e.row == q % 16)).map fun e =>
          (e, s.entryWord (if 16 ≤ q then 1 - s.bleBank else s.bleBank) e)
        ∃ u, Ends (.transfer c) s u ∧ ChainOnly s u c ∧ (u.chain c).running = some (.words q) ∧ (u.chain c).ready = rest
          ∧ (u.chain c).served = (if 16 ≤ q then q % 16 :: h.served else h.served) ∧ (u.chain c).testStep = 0
          ∧ u.out = [.chainWords c (drivers.flatMap fun d => stageWords es (0x100000 + (if s.bleMux then q % 16 else 0) * 65536) c d)]))
    ∧ (s.domOn 32 = false ∨ s.chainState c = 0 ∨ h.running.isSome = true → Ends (.transfer c) s (begun s))
    ∧ (s.domOn 32 = true → s.chainState c = 2 → h.running = none → h.testStep = 0 →
      ∃ u, Ends (.nopTransfer c) s u ∧ ChainOnly s u c ∧ u.chain c = { h with running := some .nop } ∧ u.ble.testNext = s.ble.testNext
        ∧ u.out = [.chainWords c (drivers.flatMap fun d => stageWords [] 0 c d)])
    ∧ (s.chainState c ≠ 2 → Ends (.nopTransfer c) s (begun s))
    ∧ (s.chainState c = 3 →
      ∃ u, Ends (.loopTestRepeat c) s u ∧ u.chainState c = 1 ∧ u.chain c = { h with testStep := 1, badStatus := 0, wasBroken := true }
        ∧ OnlyRegs s u [R.BLE_CHAIN_STATUS c] ∧ u = { begun s with regs := u.regs, ble := { s.ble with chains := u.ble.chains } })
    ∧ (s.chainState c ≠ 3 → Ends (.loopTestRepeat c) s (begun s))
    ∧ (CanWrite s ag R.BLE_CTRL → s.domOn 32 = true →
      (∃ u, Ends (.loopTest ag) s u ∧ u = { accepted s ag with regs := u.regs, ble := { s.ble with chains := u.ble.chains } }
        ∧ OnlyRegs (accepted s ag) u ((List.range 24).map R.BLE_CHAIN_STATUS)
        ∧ (s.chainState c ≠ 0 → u.chainState c = 1
            ∧ u.chain c = { h with testStep := 1, badStatus := 0, wasBroken := h.wasBroken || s.chainState c == 3 })
        ∧ (s.chainState c = 0 → u.chainState c = 0 ∧ u.chain c = h))
      ∧ (∃ t, Ends (.clearDead ag) s { accepted s ag with ble := { s.ble with disabled := [], testNext := t } }
        ∧ ∀ k, k ∈ t ↔ (k ∈ s.ble.testNext ∨ k ∈ s.ble.disabled))
      ∧ ∃ u, Ends (.swap ag) s u ∧ RegsOnly (accepted s ag) u [R.BLE_STATUS] ∧ u.occ = [] ∧ u.out = []
        ∧ u.flag F.BLE_STATUS_SWAP_PENDING = (s.flag F.BLE_STATUS_SWAP_PENDING || s.flag F.BLE_CFG_SOURCE) ∧ u.bleBank = s.bleBank)
    ∧ (CanWrite s ag R.BLE_CTRL → s.domOn 32 = false → Ends (.swap ag) s (accepted s ag))
    ∧ (CanWrite s ag a.toNat → 0x380000 ≤ a.toNat → a.toNat < 0x3C0000 → a.toNat % 4 = 0 →
      let o := a.toNat - 0x380000
      (s.domOn 32 = true → s.flag F.BLE_CFG_SOURCE = true → o % 16 ≠ 12 →
        Ends (.zoneStoreWrite ag a v) s { accepted s ag with ble := { s.ble with
          zones := mset 0 s.ble.zones (65536 * (1 - s.bleBank) + 4 * (o / 16) + o % 16 / 4) (v.toNat % 65536) } })
      ∧ (s.domOn 32 = false ∨ s.flag F.BLE_CFG_SOURCE = false ∨ o % 16 = 12 → Ends (.zoneStoreWrite ag a v) s (accepted s ag)))

/-- Latches and strobe windows (R222, R224 to R227, R236). -/
def Obligations.LatchesAndWindows : Prop :=
  ∀ (s : State) (c q r : Nat) (status : List (List (BitVec 24))) (found : Option Nat), c < 24 → r < 16 →
    let h := s.chain c
    -- the window of row r, or with `old` the one under an old pair, is open or waits, and ends in this frame (R224)
    let inFrame (old : Bool) : Bool := let w := s.windowOf r old; (w.lit || w.waits) && s.strobeEnd w < 4096
    (h.running = none → Ends (.latch c status found) s (begun s))
    ∧ (h.running = some .bypass → ∃ u, Ends (.latch c status found) s u ∧ u.chain c = { h with running := none }
        ∧ (∀ i, i ≠ c → u.chain i = s.chain i) ∧ u = { begun s with ble := { s.ble with chains := u.ble.chains } })
    ∧ (h.running = some .pattern →
      (∃ u, Ends (.latch c status none) s u ∧ u.chainState c = 3 ∧ u.flag (F.BLE_CHAIN_STATUS_LOOP_OK c) = false ∧ u.occ = [⟨184 + c, 3⟩]
        ∧ (u.chain c).running = none ∧ u.get (F.BLE_CHAIN_STATUS_LAST_CAUSE c) = 4)
      ∧ ∃ u, Ends (.latch c status (some (s.get (F.BLE_CHAIN_CFG_DRIVERS c) + 1))) s u ∧ u.chainState c = 2
        ∧ u.flag (F.BLE_CHAIN_STATUS_LOOP_OK c) = true ∧ u.get (F.BLE_CHAIN_STATUS_LEN_FOUND c) = s.get (F.BLE_CHAIN_CFG_DRIVERS c)
        ∧ u.occ = (if h.wasBroken then [⟨184 + c, 0⟩] else []) ∧ (u.chain c).running = none ∧ (u.chain c).skipMark = true
        ∧ ∀ x, x ∈ s.chainRows c → x ∈ (u.chain c).ready)
    ∧ (h.running = some .nop → ∃ u, Ends (.latch c status found) s u ∧ (u.chain c).running = none ∧ (u.chain c).swept = true ∧ u.ble.sent = s.ble.sent)
    ∧ (h.running = some .nop → s.chainState c = 2 → h.skipMark = false →
      let n := s.get (F.BLE_CHAIN_CFG_DRIVERS c) + 1
      let w (d i : Nat) : Nat := statusWord status n d i
      let bad := ∃ d, d < n ∧ (bits (w d 0) 23 16 ≠ 0x5A ∨ bitAt (w d 0) 13 = true)
      (bad → ∃ u, Ends (.latch c status found) s u ∧ u.get (F.BLE_CHAIN_STATUS_LAST_CAUSE c) = 3 ∧ u.occ = [⟨184 + c, 1⟩]
        ∧ u.reg (R.BLE_CHAIN_CNT_MARK c) = min 0xFFFFFFFF (s.reg (R.BLE_CHAIN_CNT_MARK c) + 1)
        ∧ (if h.badStatus = 1 then u.chainState c = 1 ∧ (u.chain c).testStep = 1
            else u.chainState c = 2 ∧ (u.chain c).badStatus = h.badStatus + 1))
      ∧ (¬ bad → ∃ u, Ends (.latch c status found) s u ∧ u.chainState c = 2 ∧ (u.chain c).badStatus = 0
        ∧ (∀ d, d < n → bitAt (w d 0) 14 = true → ⟨184 + c, 0⟩ ∈ u.occ)
        ∧ ∀ d ch, d < n → ch < 48 → (bitAt (w d (ch + 1)) 23 = true ∨ bitAt (w d (ch + 1)) 22 = true) →
            chanKey c d ch ∉ s.ble.disabled → (∃ e ∈ bleEntries s.tbl, e.key = chanKey c d ch) →
            let short := bitAt (w d (ch + 1)) 23 = false
            chanKey c d ch ∈ u.ble.disabled ∧ ⟨184 + c, 3⟩ ∈ u.occ
            ∧ (∀ e ∈ bleEntries s.tbl, e.key = chanKey c d ch → (e.zone, e.colour) ∈ u.spl.deadDue)
            ∧ ((∀ d' ch', d' < n → ch' < 48 → d' ≠ d ∨ ch' ≠ ch → bitAt (w d' (ch' + 1)) 23 = false ∧ bitAt (w d' (ch' + 1)) 22 = false) →
                u.get (F.BLE_CHAIN_STATUS_LAST_CAUSE c) = (if short then 2 else 1)
                ∧ u.reg (R.BLE_CHAIN_FAULT c) = 2 ^ 31 + (if short then 2 ^ 30 else 0) + d * 2 ^ 24 + ch)))
    ∧ (h.running = some (.words q) → s.rowLit (q % 16) = true → Ends (.latch c status found) s (begun s))
    ∧ (h.running = some (.words q) → s.rowLit (q % 16) = false →
      ∃ u, Ends (.latch c status found) s u ∧ (u.chain c).running = none ∧ (u.chain c).swept = true ∧ (u.chain c).words = []
        ∧ u.ble.sent = h.words.foldl (fun m (e : Nat × Nat) => mset 0 m e.1 e.2) s.ble.sent)
    ∧ (s.bleLit = true → r < s.bleRows → s.get (F.BLE_STROBE_START r) ≠ s.get (F.BLE_STROBE_STOP r) → (s.run 2).on = true → s.domOn 32 = true →
      (s.run 2).line < (s.run 2).planned →
      let start := s.get (F.BLE_STROBE_START r)
      let stop := s.get (F.BLE_STROBE_STOP r)
      let t := max s.now (s.bleTick start)
      let old := if ((s.window r).lit || (s.window r).waits) = true ∧ start < s.strobeEnd (s.window r) then s.window r else s.olderWindow r
      (s.rowTransfers r = [] → ∃ u, Ends (.strobeWindowOpen r) s u ∧ u.window r = ⟨true, false, start, stop, (s.run 2).frameStart, t⟩
        ∧ u.olderWindow r = old ∧ r ∈ u.ble.scan ∧ (∀ i, i ≠ r → u.window i = s.window i ∧ u.olderWindow i = s.olderWindow i) ∧ u.now = t
        ∧ u = { begun s with
            now := u.now, house := u.house, ble := { s.ble with windows := u.ble.windows, older := u.ble.older, scan := u.ble.scan } })
      ∧ (s.rowTransfers r ≠ [] → ∃ u, Ends (.strobeWindowOpen r) s u ∧ u.window r = ⟨false, true, start, stop, (s.run 2).frameStart, t⟩
        ∧ u.olderWindow r = old ∧ (r ∈ u.ble.scan ↔ old.lit = true) ∧ u.now = t ∧ u.reg R.BLE_CNT_LATE = min 0xFFFFFFFF (s.reg R.BLE_CNT_LATE + 1)
        ∧ u.occ = (if s.ble.lateRaised then [] else [⟨210, 3⟩]) ∧ u.ble.lateRaised = true ∧ u.out = []))
    ∧ (s.bleLit = false ∨ (s.run 2).planned ≤ (s.run 2).line → Ends (.strobeWindowOpen r) s (begun s))
    ∧ ((s.run 2).line < (s.run 2).planned → ∀ old : Bool, inFrame old = true →
      (inFrame (!old) = true → s.strobeEnd (s.windowOf r old) < s.strobeEnd (s.windowOf r (!old))) →
      let w := s.windowOf r old
      let ended (u : State) : Prop := u.windowOf r old = {} ∧ u.windowOf r (!old) = s.windowOf r (!old)
        ∧ (r ∈ u.ble.scan ↔ (s.windowOf r (!old)).lit = true) ∧ u.now = max s.now (s.bleTick w.stop)
      (w.waits = false → ∃ u, Ends (.strobeWindowClose r) s u ∧ ended u
        ∧ (∀ i, i ≠ r → u.window i = s.window i ∧ u.olderWindow i = s.olderWindow i)
        ∧ u = { begun s with
            now := u.now, house := u.house, ble := { s.ble with windows := u.ble.windows, older := u.ble.older, scan := u.ble.scan } })
      ∧ (w.waits = true → ∃ u, Ends (.strobeWindowClose r) s u ∧ ended u
        ∧ u.reg R.BLE_CNT_SUPPRESS = min 0xFFFFFFFF (s.reg R.BLE_CNT_SUPPRESS + 1) ∧ u.occ = (if s.ble.suppressRaised then [] else [⟨211, 0⟩])))
    ∧ (inFrame false = false → inFrame true = false → Ends (.strobeWindowClose r) s (begun s))

/-- Sensor loops, drive counters, VLED and the sync's input and output (R210, R211, R217, R228 to R231, R448). That a drive counter takes a
write only while `BLE` is ON is log entry 36. -/
def Obligations.SensorsAndSupply : Prop :=
  ∀ (s : State) (k : Nat) (e : List Rat) (bs : List Byte) (nack : Bool) (ag : Agent) (v : Word) (y : Nat), k < 4 → y < 128 →
    (s.domOn 32 = true → s.flag (F.BLE_LOOP_CFG_EN k) = true → (s.loop k).reading = none →
      ∃ u, Ends (.sensorRead k) s u ∧ u.loop k = { s.loop k with reading := some (s.loopExpected k) } ∧ (∀ i, i ≠ k → u.loop i = s.loop i)
        ∧ u.out = [.sensorBus (s.get (F.BLE_LOOP_CFG_ADDR k)) [BitVec.ofNat 8 (s.get (F.BLE_LOOP_CFG_REG k))] 6]
        ∧ u = { begun s with ble := { s.ble with loops := u.ble.loops }, out := u.out })
    ∧ (s.flag (F.BLE_LOOP_CFG_EN k) = false → Ends (.sensorRead k) s (begun s))
    ∧ ((s.loop k).reading = none → Ends (.sensorReadDone k none) s (begun s))
    ∧ ((s.loop k).reading = some e → s.ble.snsWaits = false →
      (∃ u, Ends (.sensorReadDone k none) s u ∧ (u.loop k).reading = none ∧ (u.loop k).fails = min 4 ((s.loop k).fails + 1)
        ∧ (u.loop k).samples = (s.loop k).samples ∧ u.reg R.BLE_CNT_SNS_ERR = min 0xFFFFFFFF (s.reg R.BLE_CNT_SNS_ERR + 1) ∧ u.ble.gains = s.ble.gains
        ∧ (if 3 ≤ (s.loop k).fails ∧ s.get (F.BLE_LOOP_STATUS_STATE k) ≠ 3 then u.get (F.BLE_LOOP_STATUS_STATE k) = 3 ∧ u.occ = [⟨217, 2⟩]
          else u.get (F.BLE_LOOP_STATUS_STATE k) = s.get (F.BLE_LOOP_STATUS_STATE k) ∧ u.occ = []))
      ∧ (bs.length = 6 →
        let word (i : Nat) : Nat := if s.flag (F.BLE_LOOP_CFG_LE k) then leNat (slice bs (2 * i) 2) else beNat (slice bs (2 * i) 2)
        ∃ u, Ends (.sensorReadDone k (some bs)) s u ∧ (u.loop k).reading = none ∧ (u.loop k).fails = 0
          ∧ (if s.get (F.BLE_LOOP_STATUS_STATE k) = 3 then
              (u.loop k).samples = [] ∧ (u.loop k).count = 0 ∧ u.get (F.BLE_LOOP_STATUS_STATE k) = 1 ∧ u.get (F.BLE_LOOP_STATUS_OUTPUTS k) = 0
            else (u.loop k).samples = (⟨[word 0, word 1, word 2], e⟩ :: (s.loop k).samples).take 8 ∧ (u.loop k).count = (s.loop k).count + 1)))
    ∧ (s.flag F.BLE_SNS_CMD_GO = true → s.ble.snsWaits = false →
      ∃ u, Ends (.bleSnsDone nack) s u ∧ u.flag F.BLE_SNS_CMD_GO = false ∧ u.get F.BLE_SNS_CMD_RESULT = bit nack ∧ u.occ = [⟨219, 0⟩]
        ∧ RegsOnly (begun s) u [R.BLE_SNS_CMD] ∧ u.tal = s.tal)
    ∧ (s.flag F.BLE_SNS_CMD_GO = false → Ends (.bleSnsDone nack) s (begun s))
    ∧ (s.domOn 32 = true → s.flag F.BLE_VLED_CFG_EN = true → (∀ c, c < 24 → s.chainState c = 2 → (s.chain c).swept = true) →
      let v := s.get F.BLE_VLED_NOW_MV
      let low := (upTo 24 fun c => s.chainState c == 2).any fun c => (s.chain c).lowHead
      let v' := if low then min (s.get F.BLE_VLED_LIMITS_MAX) (v + 50) else max (s.get F.BLE_VLED_LIMITS_MIN) (v - 25)
      (∃ u, Ends (.vledEvaluation true) s u ∧ u.get F.BLE_VLED_NOW_MV = v'
        ∧ u.out = (if v' = v then [] else [.pmbus (s.get F.BLE_VLED_CFG_ADDR) (voutCode v' (s.get F.BLE_VLED_CFG_EXP)) (s.flag F.BLE_VLED_CFG_PEC)])
        ∧ u.occ = (if low = true ∧ v = s.get F.BLE_VLED_LIMITS_MAX then [⟨215, 3⟩] else [])
        ∧ (v < v' → u.reg R.BLE_CNT_VLED_UP = min 0xFFFFFFFF (s.reg R.BLE_CNT_VLED_UP + 1))
        ∧ (v' < v → u.reg R.BLE_CNT_VLED_DOWN = min 0xFFFFFFFF (s.reg R.BLE_CNT_VLED_DOWN + 1))
        ∧ ∀ c, c < 24 → (u.chain c).swept = false ∧ (u.chain c).lowHead = false)
      ∧ (v' ≠ v → ∃ u, Ends (.vledEvaluation false) s u ∧ u.get F.BLE_VLED_NOW_MV = v ∧ u.ble.vledFails = min 3 (s.ble.vledFails + 1)
        ∧ (u.flag F.BLE_VLED_NOW_FAULT = true ↔ (s.flag F.BLE_VLED_NOW_FAULT = true ∨ 2 ≤ s.ble.vledFails))))
    ∧ (s.flag F.BLE_VLED_CFG_EN = false → Ends (.vledEvaluation true) s (begun s))
    ∧ (s.get F.BLE_SYNC_SRC = 1 → s.flag F.BLE_STATUS_SYNC_IN_OK = true → s.domOn 32 = true →
      ∃ u, Ends .bleSyncInLost s u ∧ u.flag F.BLE_STATUS_SYNC_IN_OK = false ∧ u.ble = { s.ble with syncLast := none } ∧ u.occ = [⟨212, 0⟩]
        ∧ OnlyRegs s u [R.BLE_STATUS] ∧ u = { begun s with regs := u.regs, ble := u.ble, occ := u.occ })
    ∧ (s.flag F.BLE_STATUS_SYNC_IN_OK = false → Ends .bleSyncInLost s (begun s))
    ∧ (CanWrite s ag R.BLE_SNS_CMD →
      (s.flag F.BLE_SNS_CMD_GO = true → Ends (.bleSnsCmd ag v) s (accepted s ag))
      ∧ (s.flag F.BLE_SNS_CMD_GO = false →
        ∃ u, Ends (.bleSnsCmd ag v) s u ∧ OnlyRegs (accepted s ag) u [R.BLE_SNS_CMD] ∧ u.occ = []
          ∧ u = { accepted s ag with regs := u.regs, out := u.out, ble := { s.ble with snsWaits := u.ble.snsWaits } }
          ∧ u.reg R.BLE_SNS_CMD = bit (v.getLsbD 31 && s.domOn 32) * 2 ^ 31 + bits v.toNat 30 8 * 256 + s.get F.BLE_SNS_CMD_RESULT
          ∧ (v.getLsbD 31 = false ∨ s.domOn 32 = false → u.out = [] ∧ u.ble.snsWaits = s.ble.snsWaits)
          ∧ (v.getLsbD 31 = true → s.domOn 32 = true →
              ((∃ j, j < 4 ∧ (s.loop j).reading.isSome = true) → u.out = [] ∧ u.ble.snsWaits = true)
              ∧ ((∀ j, j < 4 → (s.loop j).reading = none) → u.ble.snsWaits = false
                ∧ u.out = [.sensorBus (bits v.toNat 30 24) [BitVec.ofNat 8 (bits v.toNat 23 16), BitVec.ofNat 8 (bits v.toNat 15 8)] 0]))))
    ∧ ((s.loop k).reading = some e → s.ble.snsWaits = true → (∀ j, j < 4 → j ≠ k → (s.loop j).reading = none) →
      ∃ u, Ends (.sensorReadDone k none) s u ∧ u.ble.snsWaits = false ∧ Output.sensorBus (s.get F.BLE_SNS_CMD_ADDR)
        [BitVec.ofNat 8 (s.get F.BLE_SNS_CMD_REG), BitVec.ofNat 8 (s.get F.BLE_SNS_CMD_DATA)] 0 ∈ u.out)
    ∧ (CanWrite s ag (0x342000 + 4 * y) →
      (s.domOn 32 = true → ∃ u, Ends (.driveCounterWrite ag y v) s u ∧ u.ble = { s.ble with drive := mset (0 : Rat) s.ble.drive y v.toNat }
        ∧ mget 0 u.tal.live (talDrive y) = v.toNat ∧ u = { accepted s ag with ble := u.ble, tal := u.tal })
      ∧ (s.domOn 32 = false → Ends (.driveCounterWrite ag y v) s (accepted s ag)))
    ∧ Ends .blSyncPulseEnd s { begun s with ble := { s.ble with syncHigh := false } }

/-! ### Self-refresh and regions (chapter 10) -/

/-- Self-refresh (R31, R241, R253, R255). -/
def Obligations.SelfRefresh : Prop :=
  ∀ (s : State) (ag : Agent) (p : Port) (n : Nat), n < 3 →
    (CanWrite s ag R.SRF_CTRL →
      (s.domOn 33 = false → Ends (.srfEnter ag) s (accepted s ag))
      ∧ (s.domOn 33 = true → ∃ u, Ends (.srfEnter ag) s u ∧ u.causes = setBit s.causes 3 true ∧ OnlyRegs (accepted s ag) u [R.SRF_STATUS] ∧ u.occ = [] ∧ u.out = []
        ∧ u.srf.exiting = false ∧ (s.srf.exiting = false → u.srf = s.srf ∧ u.pil = s.pil) ∧ u.fst = s.fst)
      ∧ ∃ u, Ends (.srfExit ag) s u ∧ u.causes = setBit s.causes 3 false ∧ RegsOnly (accepted s ag) u [R.SRF_STATUS] ∧ u.occ = [] ∧ u.out = [])
    ∧ (s.domOn 33 = true → 0 < s.get F.SRF_CFG_IDLE_FRAMES → s.linkState = 2 → s.pil.startSeen = false →
        s.get F.SRF_CFG_IDLE_FRAMES ≤ s.pil.idleFrames + (if s.frameEnding then 1 else 0) →
      ∃ u, Ends .stall s u ∧ u.causes = setBit s.causes 2 true ∧ OnlyRegs s u [R.SRF_STATUS] ∧ u.occ = [])
    ∧ (s.get F.SRF_CFG_IDLE_FRAMES = 0 ∨ s.linkState ≠ 2 ∨ s.pil.startSeen = true
        ∨ s.pil.idleFrames + (if s.frameEnding then 1 else 0) < s.get F.SRF_CFG_IDLE_FRAMES → Ends .stall s (begun s))
    ∧ ((s.run 0).on = false → Ends .readStart s (begun s))
    ∧ ((s.run 0).on = true →
      (s.selfRefresh = false →
        let this := (s.frontBuf, mget 0#32 s.srf.frontNo s.frontBuf)
        ∃ u, Ends .readStart s u ∧ u = { begun s with srf := u.srf, regs := u.regs, tal := u.tal } ∧ OnlyRegs s u [R.SRF_CNT_HELD]
          ∧ u.srf.readBuf = s.frontBuf ∧ u.srf.readDue = true ∧ u.srf.readPix = [] ∧ u.srf.lastRead = some this
          ∧ (u.srf.readHeld = true ↔ s.srf.lastRead = some this)
          ∧ u.reg R.SRF_CNT_HELD = (if s.srf.lastRead = some this then min 0xFFFFFFFF (s.reg R.SRF_CNT_HELD + 1) else s.reg R.SRF_CNT_HELD))
      ∧ (s.selfRefresh = true → s.srf.exiting = false → s.srf.complete ≠ [] →
        (s.srf.inFlight.isSome = true →
          ∃ u, Ends .readStart s u ∧ u.frontBuf = s.frontBuf ∧ u.srf.complete = s.srf.complete ∧ u.srf.holdStarts = true ∧ u.occ = [⟨226, 0⟩]
            ∧ u.reg R.SRF_CNT_SWAP_WAIT = min 0xFFFFFFFF (s.reg R.SRF_CNT_SWAP_WAIT + 1) ∧ u.srf.readBuf = s.frontBuf)
        ∧ (s.srf.inFlight = none →
          ∃ u, Ends .readStart s u ∧ u.frontBuf = 1 - s.frontBuf ∧ u.srf.complete = [] ∧ u.srf.swapped = s.srf.swapped ++ s.srf.complete
            ∧ u.reg R.SRF_FRONT_NO = (mget 0#32 s.srf.frontNo (1 - s.frontBuf)).toNat ∧ u.occ = []
            ∧ u.reg R.SRF_CNT_SWAP = min 0xFFFFFFFF (s.reg R.SRF_CNT_SWAP + 1) ∧ u.srf.readBuf = 1 - s.frontBuf ∧ u.srf.readDue = true)))
    ∧ (∀ r q, p.num = n → mget ([] : List SrfResult) s.srf.results n = r :: q →
      ∃ u, Ends (.srfResultPop p n) s u ∧ mget ([] : List SrfResult) u.srf.results n = q ∧ (∀ m, m ≠ n → mget ([] : List SrfResult) u.srf.results m = mget [] s.srf.results m)
        ∧ u.out = [.readData p (leBytes 4 (2 ^ 31 + q.length * 2 ^ 24 + r.slot * 2 ^ 20 + r.frame * 256 + r.outcome))]
        ∧ u.reg (R.SRF_H_RESULT_HI n) = r.tag.toNat ∧ OnlyRegs (accepted s (.host p)) u [R.SRF_H_RESULT_HI n] ∧ u.occ = [])
    ∧ (p.num ≠ n ∨ mget ([] : List SrfResult) s.srf.results n = [] →
      Ends (.srfResultPop p n) s { accepted s (.host p) with out := [.readData p (leBytes 4 0)] })

/-- Region slots (R244 to R246, R250) and copies (R240, R252, R254). That a completion which waits has no effect is log entry 125. -/
def Obligations.RegionsAndCopies : Prop :=
  ∀ (s : State) (ag : Agent) (slot : Nat) (v : Word) (o : OpenUpd) (upd : RegionUpd) (us : List RegionUpd) (l : BufLayout) (ecc : EccMap) (wrong : List Nat), slot < 16 → upd.slot < 16 →
    let (f, b) := (s.frontBuf, 1 - s.frontBuf)
    let waits (is : List Nat) : Bool := s.slotsWait f l.comps is || s.slotsWait b l.comps is
    let copied (is : List Nat) : State := (begun s).each is fun t i => t.copySlot f b l.comps i s.freeEcc
    (CanWrite s ag (R.SRF_RS_CFG slot) →
      (∃ u, Ends (.slotCfgWrite ag slot v) s u ∧ u.reg (R.SRF_RS_CFG slot) = bits v.toNat 31 30 * 2 ^ 30
        ∧ (s.flag (F.SRF_RS_CFG_EN slot) = true → bitAt v.toNat 31 = false → mfind u.srf.waiting slot = none)
        ∧ u.srf.running = s.srf.running
        ∧ (s.slotLinked slot = true → mfind s.srf.opens slot = some o → bitAt v.toNat 31 = false ∨ bitAt v.toNat 30 = false →
            mfind u.srf.opens slot = none ∧ mfind u.srf.cut slot = some o.tag ∧ u.get (F.SRF_RS_STATUS_LAST_OUTCOME slot) = 1)
        ∧ (mfind s.srf.waiting slot = none → mfind s.srf.opens slot = none → RegsOnly (accepted s ag) u [R.SRF_RS_CFG slot] ∧ u.occ = [] ∧ u.out = [])))
    ∧ (CanWrite s ag (R.SRF_RS_CMD slot) → s.domOn 33 = false → Ends (.regionHostCommit ag slot) s (accepted s ag))
    ∧ (CanWrite s ag (R.SRF_RS_CMD slot) → s.domOn 33 = true →
      (s.commitVerdict slot (s.slotOwner slot) = 1 → s.unshown = [] →
        ∃ u r, Ends (.regionHostCommit ag slot) s u ∧ mfind u.srf.running slot = some r ∧ u.occ = [] ∧ u.get (F.SRF_RS_STATUS_CMD_RESULT slot) = 1
          ∧ r.id = s.srf.nextId ∧ u.srf.nextId = s.srf.nextId + 1 ∧ r.owner = s.slotOwner slot ∧ r.slot = slot
          ∧ r.x = s.get (F.SRF_RS_RECT0_X slot) ∧ r.y = s.get (F.SRF_RS_RECT0_Y slot) ∧ r.w = s.get (F.SRF_RS_RECT1_W slot)
          ∧ r.h = s.get (F.SRF_RS_RECT1_H slot) ∧ r.data = s.reg (R.SRF_RS_DATA slot) ∧ OnlyRegs (accepted s ag) u [R.SRF_RS_STATUS slot])
      ∧ (s.commitVerdict slot (s.slotOwner slot) ≠ 1 →
        ∃ u, Ends (.regionHostCommit ag slot) s u ∧ u.srf = s.srf ∧ u.get (F.SRF_RS_STATUS_CMD_RESULT slot) = s.commitVerdict slot (s.slotOwner slot)
          ∧ u.reg R.SRF_CNT_REFUSED = min 0xFFFFFFFF (s.reg R.SRF_CNT_REFUSED + 1)
          ∧ u.occ = (if s.commitVerdict slot (s.slotOwner slot) = 2 then [⟨49, 0⟩] else [])
          ∧ ∀ b, isPortReg b = false → b ≠ R.SRF_RS_STATUS slot → b ≠ R.SRF_CNT_REFUSED → u.reg b = s.reg b))
    ∧ (s.srf.inFlight = some .fill → s.layoutOf s.frontBuf = some l →
      (waits (List.range l.slots) = true → Ends .fillComplete s (begun s))
      ∧ (waits (List.range l.slots) = false → ∃ u, Ends .fillComplete s u ∧ mfind u.srf.layouts (1 - s.frontBuf) = some l ∧ u.frontBuf = s.frontBuf
        ∧ u.fst = (copied (List.range l.slots)).fst ∧ mget 0#32 u.srf.frontNo (1 - s.frontBuf) = mget 0#32 s.srf.frontNo s.frontBuf ∧ (s.srf.fillDue = false → u.srf.inFlight ≠ some .fill)))
    ∧ (s.srf.inFlight = some (.update upd) →
      let lost (u : State) : Prop := u.srf.complete = s.srf.complete ∧ ⟨230, 3⟩ ∈ u.occ ∧ u.reg R.SRF_CNT_LOST = min 0xFFFFFFFF (s.reg R.SRF_CNT_LOST + 1)
        ∧ mfind u.srf.running upd.slot = mfind s.srf.waiting upd.slot ∧ mfind u.srf.waiting upd.slot = none
      (s.layoutOf (1 - s.frontBuf) = none → ∃ u, Ends (.updateCopyComplete ⟨ecc, wrong⟩) s u ∧ lost u)
      ∧ (s.layoutOf (1 - s.frontBuf) = some l → s.updateWaits upd l = true → Ends (.updateCopyComplete ⟨ecc, wrong⟩) s (begun s))
      ∧ (s.layoutOf (1 - s.frontBuf) = some l → s.updateWaits upd l = false →
        let r := (begun s).copyEnds.readRows upd.owner.isNone ecc (s.updRows upd)
        let q := r.2.copyBlocks upd l ecc wrong (upd.slots l)
        (r.1 = false ∨ q.1 = false → ∃ u, Ends (.updateCopyComplete ⟨ecc, wrong⟩) s u ∧ lost u)
        ∧ (r.1 = true → q.1 = true →
          ∃ u, Ends (.updateCopyComplete ⟨ecc, wrong⟩) s u ∧ u.srf.complete = s.srf.complete ++ [upd] ∧ u.fst = q.2.fst
            ∧ u.reg R.SRF_CNT_LOST = s.reg R.SRF_CNT_LOST ∧ mfind u.srf.running upd.slot = mfind s.srf.waiting upd.slot
            ∧ mfind u.srf.waiting upd.slot = none)))
    ∧ (s.srf.inFlight = some (.echo us) → s.layoutOf s.frontBuf = some l →
      let is := us.flatMap (·.slots l)
      (waits is = true → Ends .echoComplete s (begun s))
      ∧ (waits is = false → ∃ u, Ends .echoComplete s u ∧ u.fst = (copied is).fst ∧ u.srf.complete = s.srf.complete ∧ u.srf.running = s.srf.running
        ∧ (us ∉ s.srf.echoes → u.srf.inFlight ≠ some (.echo us))))
    ∧ (s.srf.inFlight = some (.rollback upd) → s.layoutOf s.frontBuf = some l →
      let is := upd.slots l
      (waits is = true → Ends .rollbackComplete s (begun s))
      ∧ (waits is = false → ∃ u, Ends .rollbackComplete s u ∧ u.fst = (copied is).fst ∧ u.srf.complete = s.srf.complete ∧ u.srf.running = s.srf.running
        ∧ (upd ∉ s.srf.rollbacks → u.srf.inFlight ≠ some (.rollback upd))))
    ∧ (s.layoutOf s.frontBuf = none → (s.srf.inFlight = some .fill → ∃ u, Ends .fillComplete s u ∧ u.fst = s.fst)
      ∧ (s.srf.inFlight = some (.echo us) → ∃ u, Ends .echoComplete s u ∧ u.fst = s.fst)
      ∧ (s.srf.inFlight = some (.rollback upd) → ∃ u, Ends .rollbackComplete s u ∧ u.fst = s.fst))
    ∧ (s.srf.inFlight = none → Ends .fillComplete s (begun s) ∧ Ends (.updateCopyComplete ⟨ecc, wrong⟩) s (begun s)
        ∧ Ends .echoComplete s (begun s) ∧ Ends .rollbackComplete s (begun s))

/-! ### The frame store (chapter 11) -/

/-- The frame store (R265 to R271, R276, R467). That a GRAZE_STEP which waits has no effect is log entry 125. -/
def Obligations.FrameStore : Prop :=
  ∀ (s : State) (ag : Agent) (nn : Nat) (v : Word) (w : HeldWrite) (ecc : Ecc), nn < 64 →
    (CanWrite s ag (R.FST_FOLD_OWNER nn) →
      let o := v.toNat % 64
      (8 < o % 16 ∨ o / 16 = 3 → ∃ u, Ends (.foldOwnerWrite ag nn v) s u ∧ u.occ = [⟨49, 0⟩] ∧ u.fst = s.fst ∧ ∀ b, isPortReg b = false → u.reg b = s.reg b)
      ∧ (o % 16 ≤ 8 → o / 16 < 3 → o = s.reg (R.FST_FOLD_OWNER nn) → Ends (.foldOwnerWrite ag nn v) s (accepted s ag))
      ∧ (o % 16 ≤ 8 → o / 16 < 3 → o ≠ s.reg (R.FST_FOLD_OWNER nn) →
        ∃ u, Ends (.foldOwnerWrite ag nn v) s u ∧ u.reg (R.FST_FOLD_OWNER nn) = o ∧ u.flag (F.FST_FOLD_STATUS_OWNER_CHANGING nn) = true
          ∧ OnlyRegs (accepted s ag) u [R.FST_FOLD_OWNER nn, R.FST_FOLD_STATUS nn] ∧ u.fst.mem = s.fst.mem ∧ u.occ = []
          ∧ (s.flag (F.FST_FOLD_STATUS_OWNER_CHANGING nn) = false → mget 0 u.fst.prevOwner nn = s.reg (R.FST_FOLD_OWNER nn))))
    ∧ (s.flag (F.FST_FOLD_STATUS_OWNER_CHANGING nn) = false → Ends (.fstHandover nn) s (begun s))
    ∧ (s.flag (F.FST_FOLD_STATUS_OWNER_CHANGING nn) = true → s.portHeld .hp1 = false → s.portHeld .hp2 = false →
      s.fst.waits = [] →
      (s.portHeld .hp0 = false →
        ∃ u, Ends (.fstHandover nn) s u ∧ u.flag (F.FST_FOLD_STATUS_OWNER_CHANGING nn) = false ∧ OnlyRegs s u [R.FST_FOLD_STATUS nn]
          ∧ u = { begun s with regs := u.regs, occ := [⟨244, 0⟩], fst := { s.fst with prevOwner := merase s.fst.prevOwner nn } })
      ∧ ((mget ({} : HptPort) s.hpt 0).held = some w → w.bytes ≠ [] → foldBase nn ≤ w.addr → w.addr + w.bytes.length ≤ foldBase (nn + 1) →
          s.beforeRun = false → ownerIsHost (s.reg (R.FST_FOLD_OWNER nn)) .hp0 = true → s.foldOn nn = true → s.flag (F.FST_FOLD_STATUS_INIT nn) = false →
        ∃ u, Ends (.fstHandover nn) s u ∧ u.flag (F.FST_FOLD_STATUS_OWNER_CHANGING nn) = false ∧ u.fst.mem = memWrite s.fst.mem w.addr w.bytes
          ∧ u.portHeld .hp0 = false ∧ u.occ = [⟨244, 0⟩] ∧ OnlyRegs s u [R.FST_FOLD_STATUS nn]))
    ∧ (s.flag F.FST_CFG_GRAZE_EN = false → Ends (.grazeStep ecc) s (begun s))
    ∧ (s.flag F.FST_CFG_GRAZE_EN = true → s.fst.graze / 2 ^ 24 = nn → s.foldOn nn = true → s.flag (F.FST_FOLD_STATUS_INIT nn) = true → Ends (.grazeStep ecc) s (begun s))
    ∧ (s.flag F.FST_CFG_GRAZE_EN = true → s.fst.graze / 2 ^ 24 = nn → s.foldOn nn = true → s.flag (F.FST_FOLD_STATUS_INIT nn) = false →
      (s.fst.graze + 8) % 2 ^ 24 ≠ 0 →
      Ends (.grazeStep .good) s { begun s with fst := { s.fst with graze := s.fst.graze + 8 } }
      ∧ (∃ u, Ends (.grazeStep .single) s u ∧ u.fst = { s.fst with graze := s.fst.graze + 8 } ∧ u.occ = [⟨240, 1⟩]
        ∧ u.reg R.FST_CNT_CE = min 0xFFFFFFFF (s.reg R.FST_CNT_CE + 1) ∧ OnlyRegs s u [R.FST_CNT_CE, R.FST_FOLD_STATUS nn])
      ∧ ∃ u, Ends (.grazeStep .double) s u ∧ u.fst = { s.fst with graze := s.fst.graze + 8 } ∧ u.occ = [⟨241, 0⟩]
        ∧ u.reg R.FST_CNT_UE = min 0xFFFFFFFF (s.reg R.FST_CNT_UE + 1) ∧ u.reg R.FST_UE_ADDR = (0x40000000 + s.fst.graze) / 8 * 8
        ∧ OnlyRegs s u [R.FST_CNT_UE, R.FST_UE_ADDR, R.FST_FOLD_STATUS nn])
    ∧ (∃ u, Ends .tampern s u ∧ u.fst.locked = [] ∧ u.fst.mem = s.fst.mem ∧ u.get F.FST_LOCKED_STATUS_WIPES = min 255 (s.get F.FST_LOCKED_STATUS_WIPES + 1)
        ∧ u.get F.FST_LOCKED_STATUS_CAUSE = 2 ∧ u.flag F.FST_LOCKED_STATUS_WIPING = true ∧ u.occ = [⟨245, 0⟩] ∧ OnlyRegs s u [R.FST_LOCKED_STATUS])
    ∧ ∃ u, Ends .lockedFoldWipeComplete s u ∧ u.flag F.FST_LOCKED_STATUS_WIPING = false ∧ OnlyRegs s u [R.FST_LOCKED_STATUS]
        ∧ u = { begun s with regs := u.regs }

/-! ### The compression engine (chapter 12) -/

/-- Compression rings and jobs (R287, R288, R290 to R296, R298). That a JOB_START or JOB_COMPLETE which waits has no effect is log entry
125. -/
def Obligations.CompressionJobs : Prop :=
  ∀ (s : State) (ag : Agent) (r : Nat) (v : Word) (d : List Word) (ecc : EccMap) (vf : List Nat) (p : Port), r < 4 →
    (CanWrite s ag (R.CPR_RING_TAIL r) →
      (s.ringEntries r ≤ v.toNat % 256 → ∃ u, Ends (.tailWrite ag r v) s u ∧ u.occ = [⟨49, 0⟩] ∧ ∀ b, isPortReg b = false → u.reg b = s.reg b)
      ∧ (v.toNat % 256 < s.ringEntries r →
        ∃ u, Ends (.tailWrite ag r v) s u ∧ u.reg (R.CPR_RING_TAIL r) = v.toNat % 256 ∧ RegsOnly (accepted s ag) u [R.CPR_RING_TAIL r] ∧ u.occ = []))
    ∧ (s.engineOn 12 = true → s.flag F.CPR_CFG_EN = true → s.cpr.job = none →
      (s.nextRing = none → Ends (.jobStart ecc) s (begun s))
      ∧ (s.nextRing = some r →
        let ok := ((begun s).dmaRead (s.headAddr r) 32 ecc 0).1
        let d := s.descriptor r
        (s.dmaWaits (s.headAddr r) 32 = true → Ends (.jobStart ecc) s (begun s))
        ∧ (s.dmaWaits (s.headAddr r) 32 = false →
          ∃ u, Ends (.jobStart ecc) s u
            ∧ u.cpr = { s.cpr with lastRing := r, foreignHit := false, jobBad := s.badDesc d, job := some (r, if ok then d else []) }
            ∧ u.flag F.CPR_STATUS_BUSY = true ∧ u.get F.CPR_STATUS_RING = r
            ∧ (ok = false → u.fst = s.fst)
            ∧ (ok = true → s.badDesc d = false → (cprJob d).op = 1 → s.rangeWaits 6 (cprJob d).outAddr 8 = false →
              memBytes u.fst.mem (cprJob d).outAddr 8 = List.replicate 8 0#8))))
    ∧ (s.engineOn 12 = false ∨ s.cpr.job.isSome = true → Ends (.jobStart ecc) s (begun s))
    ∧ (s.cpr.job = none → Ends (.jobComplete ecc vf) s (begun s))
    ∧ (s.cpr.job = some (r, d) →
      let j := cprJob d
      let ends (u : State) (c : CprRecord) : Prop := u.cprRecords r = s.cprRecords r ++ [c] ∧ ⟨248 + r, 0⟩ ∈ u.occ ∧ (c.status ≠ 0 → ⟨253, 0⟩ ∈ u.occ)
        ∧ u.reg (R.CPR_RING_HEAD r) = (s.get (F.CPR_RING_HEAD_INDEX r) + 1) % max 1 (s.ringEntries r)
      let halts (u : State) : Prop := u.cprRecords r = s.cprRecords r ∧ u.flag (F.CPR_RING_STATUS_HALTED r) = true ∧ u.get (F.CPR_RING_STATUS_FAIL r) = 7
        ∧ ⟨252, 0⟩ ∈ u.occ ∧ u.reg (R.CPR_RING_HEAD r) = s.reg (R.CPR_RING_HEAD r)
      let inOk := ((begun s).dmaRead j.inAddr j.inLen ecc 0).1
      let outMiss := (foldsIn j.outAddr j.outLimit).any fun nn => s.ownerMiss 6 nn != 0
      (d ≠ [] → s.cpr.jobBad = false → s.jobWaits j = true → Ends (.jobComplete ecc vf) s (begun s))
      ∧ ((d = [] ∨ s.cpr.jobBad = true ∨ s.jobWaits j = false) →
        ∃ u, Ends (.jobComplete ecc vf) s u ∧ u.cpr.job = none ∧ u.flag F.CPR_STATUS_BUSY = false
          ∧ u.reg R.CPR_CNT_JOBS = min 0xFFFFFFFF (s.reg R.CPR_CNT_JOBS + 1)
          ∧ (d = [] → ends u ⟨5, 0#32, 0⟩)
          ∧ (d ≠ [] → s.cpr.jobBad = true → ends u ⟨6, j.tag, 0⟩)
          ∧ (d ≠ [] → s.cpr.jobBad = false → inOk = false ∨ s.cpr.foreignHit = true ∨ outMiss = true → ends u ⟨5, j.tag, 0⟩)
          ∧ (d ≠ [] → s.cpr.jobBad = false → inOk = true → s.cpr.foreignHit = false → s.badDesc d = false →
            (j.op = 1 → vf = [] →
              let total := (List.range j.segments).foldl (fun n k => n + (s.jobSegment j k).1.length) 8
              total ≤ j.outLimit → j.grow = true ∨ total - 8 < j.segments * (2 + 32 * j.bits * j.comps) →
              ends u ⟨0, j.tag, total⟩ ∧ memBytes u.fst.mem j.outAddr 8 = cprMarker (total - 8))
            ∧ (j.op = 1 → halts u ∨ (∃ st, (st = 1 ∨ st = 2) ∧ ends u ⟨st, j.tag, 0⟩)
              ∨ ∃ len, ends u ⟨0, j.tag, len⟩ ∧ memBytes u.fst.mem j.outAddr 8 = cprMarker (len - 8))
            ∧ (j.op = 2 → halts u ∨ (∃ st, (st = 3 ∨ st = 4) ∧ ends u ⟨st, j.tag, 0⟩) ∨ ends u ⟨0, j.tag, j.raw⟩))))
    ∧ (CanWrite s ag (R.CPR_RING_CTRL r) →
      (s.flag (F.CPR_RING_STATUS_HALTED r) = false → Ends (.resume ag r) s (accepted s ag) ∧ Ends (.skip ag r) s (accepted s ag))
      ∧ (s.flag (F.CPR_RING_STATUS_HALTED r) = true →
        (∃ u, Ends (.resume ag r) s u ∧ u.flag (F.CPR_RING_STATUS_HALTED r) = false ∧ RegsOnly (accepted s ag) u [R.CPR_RING_STATUS r] ∧ u.occ = [])
        ∧ ∃ u, Ends (.skip ag r) s u ∧ u.flag (F.CPR_RING_STATUS_HALTED r) = false ∧ u.cprRecords r = s.cprRecords r ++ [⟨8, (s.descriptor r).getD 1 0#32, 0⟩]
          ∧ u.reg (R.CPR_RING_HEAD r) = (s.get (F.CPR_RING_HEAD_INDEX r) + 1) % max 1 (s.ringEntries r) ∧ u.occ = [⟨248 + r, 0⟩, ⟨253, 0⟩]
          ∧ OnlyRegs (accepted s ag) u [R.CPR_RING_STATUS r, R.CPR_RING_HEAD r]))
    ∧ (∀ c q, p.num = r → s.cprRecords r = c :: q →
      ∃ u, Ends (.cprDonePop (.host p) r) s u ∧ u.cprRecords r = q ∧ u.out = [.readData p (leBytes 4 (2 ^ 31 + q.length * 2 ^ 25 + c.status))]
        ∧ u.reg (R.CPR_RING_DONE_HI r) = c.tag.toNat ∧ u.reg (R.CPR_RING_DONE_LEN r) = c.len % 2 ^ 32 ∧ u.occ = []
        ∧ OnlyRegs (accepted s (.host p)) u [R.CPR_RING_DONE_HI r, R.CPR_RING_DONE_LEN r])
    ∧ (p.num ≠ r ∨ s.cprRecords r = [] → Ends (.cprDonePop (.host p) r) s { accepted s (.host p) with out := [.readData p (leBytes 4 0)] })

/-! ### Lanes (chapter 13) -/

/-- The lane commands (R301 to R312, R340); the groups are those of the table that log entry 100 takes, the restart of the comma search is log
entry 86, and what `OUTPUT_SHORT` makes of `CUR_LIMIT` log entry 35. -/
def Obligations.LaneCommands : Prop :=
  ∀ (s : State) (ag : Agent) (p l pos gap e x y dw : Nat) (v : Word) (six : BitVec 6) (four : BitVec 4) (limiting elapsed : Bool) (taps : List Int) (ctle : Int) (ph vo : List Bool) (residual : Nat),
    p < 12 → l < 144 → pos < 10 → taps.length = 5 → ph.length = 64 → vo.length = 128 → x < 64 → y < 128 →
    let g := six.toNat * 16 + four.toNat
    (s.domOn (pllDomain p) = true → s.pllLocked p = false →
      ∃ u, Ends (.pllLock p) s u ∧ u.pllLocked p = true ∧ (∀ q, q ≠ p → u.pllLocked q = s.pllLocked q)
        ∧ (∀ i, i ∈ pllLanes p → u.rxState i =
            if s.rxState i = 1 then (if i < 32 ∧ s.flag (F.LNS_LANE_CFG_TEST i) = true then 5 else 2) else s.rxState i)
        ∧ (∀ i, i ∈ pllLanes p → hasTx i = true → (s.lane i).stopped = false → (i < 32 → bitAt (s.get F.PIL_CFG_FLOCK_EN) (i / 8) = true) →
            let e := encodeSyms false (if i < 32 then idleUnit else idlePair)
            (u.lane i).txRd = false ∧ Output.laneStarts i e.1 (s.txLevels i false e.2 e.1) ∈ u.out)
        ∧ u = { begun s with regs := u.regs, lns := u.lns, out := u.out, freeCtr := u.freeCtr }
        ∧ OnlyRegs s u (R.LNS_PLL_STATUS :: (pllLanes p).map R.LNS_LANE_STATUS))
    ∧ (s.domOn (pllDomain p) = false ∨ s.pllLocked p = true → Ends (.pllLock p) s (begun s))
    ∧ (s.pllLocked p = true →
      ∃ u, Ends (.pllUnlock p) s u ∧ u.pllLocked p = false ∧ (∀ i, i ∈ pllLanes p → u.rxState i = if s.rxState i = 0 then 0 else 1)
        ∧ u.occ = [⟨256 + (pllLanes p).headD 0, 3⟩] ∧ u.get (F.LNS_LANE_STATUS_LAST_CAUSE ((pllLanes p).headD 0)) = 7
        ∧ OnlyRegs s u (R.LNS_PLL_STATUS :: (pllLanes p).map R.LNS_LANE_STATUS))
    ∧ (s.pllLocked p = false → Ends (.pllUnlock p) s (begun s))
    ∧ (s.rxState l = 2 → ∃ u, Ends (.cdrLock l) s u ∧ u.rxState l = 3 ∧ (u.lane l).comma = none ∧ OnlyRegs s u [R.LNS_LANE_STATUS l]
        ∧ u = { begun s with regs := u.regs, lns := u.lns })
    ∧ (s.rxState l ≠ 2 → Ends (.cdrLock l) s (begun s))
    ∧ (s.rxState l = 3 ∨ s.rxState l = 4 → ∃ u, Ends (.signalLoss l) s u ∧ u.rxState l = 2 ∧ RegsOnly (begun s) u [R.LNS_LANE_STATUS l] ∧ u.occ = [])
    ∧ (s.rxState l < 3 → Ends (.signalLoss l) s (begun s))
    ∧ (s.rxState l = 3 →
      ((s.lane l).comma = some pos → gap ≤ 2048 → ∃ u, Ends (.commaAligned l ⟨pos, gap⟩) s u ∧ u.rxState l = 4
        ∧ u.get (F.LNS_LANE_STATUS_BIT_POS l) = pos ∧ u.flag (F.LNS_LANE_EYE_VALID l) = false ∧ (u.lane l).comma = none
        ∧ OnlyRegs s u [R.LNS_LANE_STATUS l, R.LNS_LANE_EYE l] ∧ u = { begun s with regs := u.regs, lns := u.lns })
      ∧ ((s.lane l).comma ≠ some pos ∨ 2048 < gap → ∃ u, Ends (.commaAligned l ⟨pos, gap⟩) s u ∧ u.rxState l = 3
        ∧ u.get (F.LNS_LANE_STATUS_BIT_POS l) = pos ∧ (u.lane l).comma = some pos
        ∧ OnlyRegs s u [R.LNS_LANE_STATUS l] ∧ u = { begun s with regs := u.regs, lns := u.lns }))
    ∧ (s.rxState l = 4 → s.get (F.LNS_LANE_STATUS_BIT_POS l) = pos → Ends (.commaAligned l ⟨pos, gap⟩) s (begun s))
    ∧ (s.rxState l = 4 → s.get (F.LNS_LANE_STATUS_BIT_POS l) ≠ pos → ∃ u, Ends (.commaAligned l ⟨pos, gap⟩) s u ∧ OnlyRegs s u [R.LNS_LANE_CNT_SYM l]
        ∧ u.reg (R.LNS_LANE_CNT_SYM l) = min 0xFFFFFFFF (s.reg (R.LNS_LANE_CNT_SYM l) + 1)
        ∧ (l < 32 → (mget ({} : PilLane) u.pil.lanes l).invalidSeen = true ∧ (mget ({} : PilLane) u.pil.lanes l).marked = false))
    ∧ (s.rxState l < 4 → Ends (.invalidSymbol l six four) s (begun s))
    ∧ (s.rxState l = 5 → ∃ u, Ends (.invalidSymbol l six four) s u ∧ u.get (F.LNS_LANE_STATUS_CODE l) = g ∧ RegsOnly (begun s) u [R.LNS_LANE_STATUS l] ∧ u.occ = [])
    ∧ (s.rxState l = 4 →
      let rd := s.rxRd l
      let invalid (u : State) : Prop := l < 32 → (mget ({} : PilLane) u.pil.lanes l).invalidSeen = true ∧ (mget ({} : PilLane) u.pil.lanes l).marked = false
      ∃ u, Ends (.invalidSymbol l six four) s u ∧ u.occ = [] ∧ u.out = [] ∧ u.lns = s.lns ∧ u.rxState l = 4
        ∧ match decodeGroup rd g with
          | .invalid => invalid u ∧ u.rxRd l = rd ∧ OnlyRegs s u [R.LNS_LANE_CNT_SYM l]
            ∧ u.reg (R.LNS_LANE_CNT_SYM l) = min 0xFFFFFFFF (s.reg (R.LNS_LANE_CNT_SYM l) + 1)
          | .disparity _ => invalid u ∧ u.rxRd l = impliedRd rd g ∧ OnlyRegs s u [R.LNS_LANE_CNT_DISP l, R.LNS_LANE_STATUS l]
            ∧ u.reg (R.LNS_LANE_CNT_DISP l) = min 0xFFFFFFFF (s.reg (R.LNS_LANE_CNT_DISP l) + 1)
          | .good c => u.rxRd l = groupDisparity rd g ∧ OnlyRegs s u [R.LNS_LANE_STATUS l] ∧ (c = symK28_2 → invalid u)
            ∧ (c ≠ symK28_2 ∨ 32 ≤ l → u = { begun s with regs := u.regs }))
    ∧ (l < 32 → s.rxState l = 4 → s.get (F.LNS_LANE_CFG_POL l) = 0 → s.flag (F.LNS_LANE_STATUS_POL_INV l) = false →
      ∃ u, Ends (.polarityInvert l) s u ∧ u.flag (F.LNS_LANE_STATUS_POL_INV l) = true ∧ bitAt (u.get (F.PIL_FLOCK_STATUS_POL_INV (l / 8))) (l % 8) = true
        ∧ u.get (F.LNS_LANE_STATUS_LAST_CAUSE l) = 2 ∧ u.rxState l = 4 ∧ u.occ = [⟨256 + l, 1⟩, ⟨67, 1⟩]
        ∧ OnlyRegs s u [R.LNS_LANE_STATUS l, R.PIL_FLOCK_STATUS (l / 8)])
    ∧ (32 ≤ l ∨ s.rxState l ≠ 4 → Ends (.polarityInvert l) s (begun s))
    ∧ (CanWrite s ag (R.LNS_LANE_SLIP l) →
      (s.rxState l ≠ 5 → ∃ u, Ends (.slip ag l) s u ∧ u.occ = [⟨49, 0⟩] ∧ ∀ b, isPortReg b = false → u.reg b = s.reg b)
      ∧ (s.rxState l = 5 → ∃ u, Ends (.slip ag l) s u ∧ u.get (F.LNS_LANE_STATUS_BIT_POS l) = (s.get (F.LNS_LANE_STATUS_BIT_POS l) + 1) % 10
          ∧ u.rxState l = 5 ∧ OnlyRegs (accepted s ag) u [R.LNS_LANE_STATUS l] ∧ u = { accepted s ag with regs := u.regs, freeCtr := s.freeCtr + 1 }))
    ∧ (s.rxState l ≠ 4 ∨ s.flag (F.LNS_LANE_CFG_FREEZE l) = true → Ends (.adaptStep l taps ctle) s (begun s))
    ∧ (s.rxState l = 4 → s.flag (F.LNS_LANE_CFG_FREEZE l) = false →
      ∃ u, Ends (.adaptStep l taps ctle) s u ∧ RegsOnly (begun s) u [R.LNS_LANE_DFE l] ∧ u.occ = []
        ∧ (∀ x, x ∈ [(F.LNS_LANE_DFE_H1 l, 6, 0), (F.LNS_LANE_DFE_H2 l, 6, 1), (F.LNS_LANE_DFE_H3 l, 5, 2), (F.LNS_LANE_DFE_H4 l, 5, 3), (F.LNS_LANE_DFE_H5 l, 5, 4)] →
          u.get x.1 = signedSat x.2.1 (signed x.2.1 (s.get x.1) + (taps.getD x.2.2 0).sign))
        ∧ (s.flag (F.LNS_LANE_RX_CTLE_AUTO l) = false → u.get (F.LNS_LANE_DFE_CTLE_NOW l) = s.get (F.LNS_LANE_RX_CTLE l))
        ∧ (s.flag (F.LNS_LANE_RX_CTLE_AUTO l) = true →
          (u.get (F.LNS_LANE_DFE_CTLE_NOW l) : Int) = clampInt 0 15 (s.get (F.LNS_LANE_DFE_CTLE_NOW l) + ctle.sign)))
    ∧ (s.get F.LNS_CFG_MON_MS ≠ 0 → s.rxState l = 4 → s.laneFallow l = false → s.flag (F.LNS_LANE_SCAN_GO l) = false →
      ∃ u, Ends (.eyeMonitor l) s u ∧ u.lane l = { s.lane l with monitoring := true } ∧ (∀ i, i ≠ l → u.lane i = s.lane i) ∧ u = { begun s with lns := u.lns })
    ∧ (s.get F.LNS_CFG_MON_MS = 0 ∨ s.rxState l ≠ 4 → Ends (.eyeMonitor l) s (begun s))
    ∧ ((s.lane l).monitoring = true → s.flag (F.LNS_LANE_SCAN_GO l) = false → s.laneFallow l = false → s.rxState l = 4 →
      let opened := ph.getD 32 false && vo.getD 64 false
      let w := if opened then openRun ph 32 else 0
      let h := if opened then openRun vo 64 else 0
      let low := w < s.get F.LNS_CFG_EYE_MIN_W || h < s.get F.LNS_CFG_EYE_MIN_H
      ∃ u, Ends (.eyeMeasurementDone l ph vo residual) s u ∧ u.reg (R.LNS_LANE_EYE l) = 2 ^ 31 + w * 2 ^ 24 + divRound (5 * h) 2 * 2 ^ 15 + min 255 residual * 128
        ∧ (u.lane l).monitoring = false ∧ (u.lane l).eyeLow = low ∧ u.occ = (if low && !(s.lane l).eyeLow then [⟨256 + l, 0⟩] else []))
    ∧ ((s.lane l).monitoring = false → Ends (.eyeMeasurementDone l ph vo residual) s (begun s))
    ∧ (CanWrite s ag (R.LNS_LANE_SCAN l) →
      (s.flag (F.LNS_LANE_SCAN_GO l) = true → bitAt v.toNat 31 = true → Ends (.scanGo ag l v) s (accepted s ag))
      ∧ (s.flag (F.LNS_LANE_SCAN_GO l) = false → bitAt v.toNat 31 = true →
        ∃ u, Ends (.scanGo ag l v) s u ∧ u.reg (R.LNS_LANE_SCAN l) = 2 ^ 31 + bits v.toNat 21 16 * 65536 + bits v.toNat 6 0
          ∧ u.flag (F.LNS_LANE_SCAN_RESULT_DONE l) = false ∧ (u.lane l).scanWaits = s.laneFallow l
          ∧ (u.lane l).point = some (bits v.toNat 21 16, bits v.toNat 6 0, s.get F.LNS_CFG_DWELL) ∧ u.occ = []
          ∧ OnlyRegs (accepted s ag) u [R.LNS_LANE_SCAN l, R.LNS_LANE_SCAN_RESULT l]))
    ∧ ((s.lane l).point = some (x, y, dw) → s.flag (F.LNS_LANE_SCAN_GO l) = true → s.laneFallow l = false → s.domOn (laneDomain l) = true →
      ∃ u, Ends (.scanDone l ⟨x, y, e⟩) s u ∧ u.flag (F.LNS_LANE_SCAN_GO l) = false ∧ (u.lane l).scanWaits = false ∧ (u.lane l).point = none
        ∧ u.occ = [⟨256 + l, 0⟩]
        ∧ u.reg (R.LNS_LANE_SCAN_RESULT l) = 2 ^ 31 + bit (s.lane l).scanWaits * 2 ^ 30 + min 0xFFFFFF (min (2 ^ (16 + dw)) e))
    ∧ (s.flag (F.LNS_LANE_SCAN_GO l) = false ∨ (∀ n, (s.lane l).point ≠ some (x, y, n)) → Ends (.scanDone l ⟨x, y, e⟩) s (begun s))
    ∧ (hasTx l = true → s.laneSends l = true →
      (∃ u, Ends (.outputShort ⟨l, false, elapsed⟩) s u ∧ u.flag (F.LNS_LANE_STATUS_CUR_LIMIT l) = false ∧ RegsOnly (begun s) u [R.LNS_LANE_STATUS l] ∧ u.occ = [])
      ∧ (∃ u, Ends (.outputShort ⟨l, true, false⟩) s u ∧ u.flag (F.LNS_LANE_STATUS_CUR_LIMIT l) = true ∧ RegsOnly (begun s) u [R.LNS_LANE_STATUS l] ∧ u.occ = [])
      ∧ ∃ u, Ends (.outputShort ⟨l, true, true⟩) s u ∧ u.laneSends l = false ∧ u.flag (F.LNS_LANE_STATUS_SHORT l) = true
        ∧ u.flag (F.LNS_LANE_STATUS_CUR_LIMIT l) = false ∧ u.get (F.LNS_LANE_STATUS_LAST_CAUSE l) = 3 ∧ ⟨256 + l, 2⟩ ∈ u.occ
        ∧ (l < 32 → u.occ = [⟨256 + l, 2⟩] ∧ (∀ i, i ≠ l → u.lane i = s.lane i) ∧ OnlyRegs s u [R.LNS_LANE_STATUS l])
        ∧ (32 ≤ l →
          let nn := (l - 32) / 2
          (s.portState nn ≠ 0 → s.laneIdle (if l % 2 = 0 then l + 1 else l - 1) = true → u.portState nn = 3)
          ∧ u.cal.runs = s.cal.runs.filter (fun r => r.unit ≠ 0x40 + nn)
          ∧ ((∀ r ∈ s.cal.runs, r.unit ≠ 0x40 + nn) → s.mgt.recovering.any (·.group == 16 + nn) = false →
              (∀ i, i ≠ l → u.lane i = s.lane i)
              ∧ OnlyRegs s u [R.LNS_LANE_STATUS l, R.ADL_PORT_STATUS nn, R.ADL_FLOCK_STATUS (nn / 7)])))
    ∧ (s.laneSends l = false → Ends (.outputShort ⟨l, limiting, elapsed⟩) s (begun s))

/-! ### House time (chapter 14) -/

/-- House time's commands (R315 to R327); the grid point of a stamp is the choice of log entry 128. -/
def Obligations.HouseTimeCommands : Prop :=
  ∀ (s : State) (ag : Agent) (p : Port) (v target ip : Word) (mac : BitVec 48) (sender q rp : Nat) (t1 : PtpTime) (c li : Int) (m : AnnounceMsg) (b : Bool)
    (h : PtpHeader) (vlan : Option Nat)
    (w : PendingSync) (d : Rat) (data : BitVec 16),
    let good := s.domOn 1 = true ∧ h.vlan = s.netTag ∧ h.domain = s.get F.HTM_CFG_DOMAIN ∧ h.sums = true
    (∃ u, Ends (.htmNowLatch p) s u ∧ u.out = [.readData p (leBytes 4 s.house.ns)] ∧ u.occ = [] ∧ u.house = s.house
      ∧ (mget ({} : HptPort) u.hpt p.num).nowLo = some (BitVec.ofNat 32 s.house.sec) ∧ u.regs = (accepted s (.host p)).regs)
    ∧ (CanWrite s ag R.HTM_STEP_NS →
      ∃ u, Ends (.htmStep ag v) s u ∧ u.house = s.house.step (signed 32 (s.reg R.HTM_STEP_SEC) * 1000000000 + signed 32 v.toNat)
        ∧ u.reg R.HTM_CNT_STEP = min 0xFFFFFFFF (s.reg R.HTM_CNT_STEP + 1) ∧ ⟨418, 0⟩ ∈ u.occ ∧ u.htm = { s.htm with freshServo := true, inLock := 0 }
        ∧ u.get F.HTM_STATUS_STATE = (if s.htmSrc = 2 ∨ s.coreRuns = false then s.get F.HTM_STATUS_STATE else 1))
    ∧ (s.domOn 1 = false → Ends (.sync h sender q b t1 c li) s (begun s) ∧ Ends (.followUp h sender q ⟨t1, c⟩) s (begun s)
        ∧ Ends (.delayResp h sender rp q ⟨t1, c⟩ li) s (begun s) ∧ Ends (.announce { m with head := h }) s (begun s))
    ∧ (s.domOn 1 = true → ¬ good →
      ∃ u, RegsOnly (begun s) u [R.HTM_CNT_DROP] ∧ u.occ = [] ∧ u.out = [] ∧ u.reg R.HTM_CNT_DROP = min 0xFFFFFFFF (s.reg R.HTM_CNT_DROP + 1)
        ∧ Ends (.sync h sender q b t1 c li) s u ∧ Ends (.followUp h sender q ⟨t1, c⟩) s u ∧ Ends (.delayResp h sender rp q ⟨t1, c⟩ li) s u
        ∧ Ends (.announce { m with head := h }) s u)
    ∧ (s.ptpOn = false → Ends (.delayReq ()) s (begun s) ∧ Ends .announceTimeout s (begun s)
      ∧ (good → Ends (.sync h sender q b t1 c li) s (begun s) ∧ Ends (.followUp h sender q ⟨t1, c⟩) s (begun s)
        ∧ Ends (.delayResp h sender rp q ⟨t1, c⟩ li) s (begun s) ∧ Ends (.announce { m with head := h }) s (begun s)))
    ∧ (good → s.htm.selected ≠ some sender → Ends (.sync h sender q b t1 c li) s (begun s))
    ∧ (good → s.ptpOn = true → s.htm.selected = some sender →
      let t2 := s.stamp - s.get F.HTM_LAT_RX * 65536
      let m' := { s.htm with logSync := some li, syncHeard := s.now }
      (∃ u, Ends (.sync h sender q true t1 c li) s u ∧ u.htm = { m' with pendingSync := some ⟨sender, q, t2, c, li⟩ }
        ∧ u.flag F.HTM_STATUS_TWO_STEP = true ∧ OnlyRegs s u [R.HTM_STATUS])
      ∧ (s.htm.pathDelay = none → ∃ u, Ends (.sync h sender q false t1 c li) s u ∧ u.flag F.HTM_STATUS_TWO_STEP = false ∧ OnlyRegs s u [R.HTM_STATUS]
        ∧ u.htm = { m' with lastT1 := some (ptpUnits t1), syncTimes := some (ptpUnits t1, t2, c), pendingSync := none })
      ∧ (s.htm.pathDelay = some d → ∃ u, Ends (.sync h sender q false t1 c li) s u ∧ u.reg R.HTM_OFFSET = nsField (nsOf (t2 - ptpUnits t1 - c) - d)
        ∧ u.reg R.HTM_CNT_SYNC = min 0xFFFFFFFF (s.reg R.HTM_CNT_SYNC + 1) ∧ u.htm.syncTimes = some (ptpUnits t1, t2, c))
      ∧ (s.htm.pendingSync = some w → w.sender = sender → w.seqId = q → s.htm.pathDelay = some d →
        ∃ u, Ends (.followUp h sender q ⟨t1, c⟩) s u ∧ u.reg R.HTM_OFFSET = nsField (nsOf (w.t2 - ptpUnits t1 - (w.corr + c)) - d)
          ∧ u.htm.syncTimes = some (ptpUnits t1, w.t2, w.corr + c) ∧ u.htm.pendingSync = none)
      ∧ (s.reg R.HTM_IP ≠ 0 → ∃ u, Ends (.delayReq ()) s u
        ∧ u.out = [.delayReq s.netTag (s.reg R.HTM_IP) (s.get F.HTM_NET_DSCP) ((s.htm.delayReqSeq + 1) % 65536)]
        ∧ u = { begun s with out := u.out, htm := { s.htm with
            delayReqSeq := (s.htm.delayReqSeq + 1) % 65536, delayReqT3 := some (s.stamp + s.get F.HTM_LAT_TX * 65536) } })
      ∧ (∀ t3 a1 a2 cs, s.htm.delayReqT3 = some t3 → rp = s.portIdentity → q = s.htm.delayReqSeq → s.htm.syncTimes = some (a1, a2, cs) →
        let x := nsOf ((a2 - a1 - cs) + (ptpUnits t1 - t3 - c)) / 2
        let y := match s.htm.pathDelay with | none => x | some o => o + (x - o) / 8
        ∃ u, Ends (.delayResp h sender rp q ⟨t1, c⟩ li) s u ∧ u.htm = { s.htm with delayReqT3 := none, logMinDelayReq := some li, pathDelay := some y }
          ∧ u.reg R.HTM_PATH_DELAY = nsField y ∧ u.reg R.HTM_CNT_DELAY = min 0xFFFFFFFF (s.reg R.HTM_CNT_DELAY + 1)
          ∧ OnlyRegs s u [R.HTM_PATH_DELAY, R.HTM_CNT_DELAY])
      ∧ (rp ≠ s.portIdentity → ∃ u, Ends (.delayResp h sender rp q ⟨t1, c⟩ li) s u ∧ u.htm = s.htm ∧ RegsOnly (begun s) u [R.HTM_CNT_DROP]
        ∧ u.reg R.HTM_CNT_DROP = min 0xFFFFFFFF (s.reg R.HTM_CNT_DROP + 1)))
    ∧ (s.ptpOn = true → s.htm.selected = some sender →
      (∀ f, f ∈ s.htm.foreign → f.heard + 3 * s.announceInterval ≤ s.now ∨ f.sender = sender ∧ s.htm.syncHeard + 16 * s.syncInterval ≤ s.now) →
        ∃ u, Ends .announceTimeout s u ∧ u.htm.selected = none ∧ u.htm.foreign = [] ∧ ⟨419, 0⟩ ∈ u.occ
          ∧ (s.get F.HTM_STATUS_STATE = 1 ∨ s.get F.HTM_STATUS_STATE = 2 → u.get F.HTM_STATUS_STATE = 3 ∧ ⟨417, 2⟩ ∈ u.occ))
    ∧ (good → s.htm.pendingSync = none → Ends (.followUp h sender q ⟨t1, c⟩) s (begun s))
    ∧ (good → s.ptpOn = true → s.htm.foreign = [] → s.htm.selected = none →
      Ends (.announce { m with head := h }) s { begun s with htm := { s.htm with foreign := [⟨m.sender, { m with head := h }, s.now, false⟩] } })
    ∧ (∀ f, good → s.ptpOn = true → s.htm.foreign = [f] → f.sender = m.sender → s.now ≤ f.heard + 4 * s.announceInterval → s.htm.selected = none →
      ∃ u, Ends (.announce { m with head := h }) s u ∧ u.htm.selected = some m.sender ∧ u.reg R.HTM_GM_ID_LO = m.gmId.toNat % 2 ^ 32 ∧ u.reg R.HTM_GM_ID_HI = m.gmId.toNat / 2 ^ 32
        ∧ ⟨419, 0⟩ ∈ u.occ ∧ u.get F.HTM_STATUS_STATE = 1)
    ∧ (s.domOn 1 = true →
      (∃ u, Ends .droppedFrame s u ∧ RegsOnly (begun s) u [R.HTM_CNT_DROP] ∧ u.occ = [] ∧ u.out = [] ∧ u.reg R.HTM_CNT_DROP = min 0xFFFFFFFF (s.reg R.HTM_CNT_DROP + 1)
        ∧ (target.toNat ≠ s.reg R.HTM_IP ∨ vlan ≠ s.netTag → Ends (.arpRequest vlan target ⟨mac, ip⟩) s u))
      ∧ (target.toNat = s.reg R.HTM_IP →
        Ends (.arpRequest s.netTag target ⟨mac, ip⟩) s { begun s with out := [.arpReply s.netTag mac ip s.macAddress (s.reg R.HTM_IP)] })
      ∧ Ends .igmpQuery s { begun s with out := [.igmpReport s.netTag] }
      ∧ (s.flag F.HTM_STATUS_LINK = b → Ends (.phyPoll b) s { begun s with out := [.mdio (s.get F.HTM_NET_PHY_ADDR) 1 none] })
      ∧ (s.flag F.HTM_STATUS_LINK ≠ b → ∃ u, Ends (.phyPoll b) s u ∧ u.flag F.HTM_STATUS_LINK = b ∧ u.occ = [⟨421, 0⟩] ∧ RegsOnly (begun s) u [R.HTM_STATUS]
        ∧ u.out = .mdio (s.get F.HTM_NET_PHY_ADDR) 1 none :: (if b then [.igmpReport s.netTag] else [])))
    ∧ (s.domOn 1 = false → Ends .droppedFrame s (begun s) ∧ Ends (.arpRequest vlan target ⟨mac, ip⟩) s (begun s) ∧ Ends .igmpQuery s (begun s)
        ∧ Ends (.phyPoll b) s (begun s))
    ∧ (s.htmSrc = 1 →
      (s.htm.ppsLast = none → s.coreRuns = true →
        ∃ u, Ends (.ppsEdge ()) s u ∧ u.reg R.HTM_OFFSET = nsField (s.ppsOffset s.stamp) ∧ u.htm.ppsArmed = false ∧ u.htm.ppsLast = some s.now)
      ∧ (∀ l, s.htm.ppsLast = some l → s.now < l + 500000 * usUnit ∨ l + 1500000 * usUnit < s.now →
        ∃ u, Ends (.ppsEdge ()) s u ∧ RegsOnly (begun s) u [R.HTM_CNT_PPS_IGN] ∧ u.occ = [] ∧ u.reg R.HTM_CNT_PPS_IGN = min 0xFFFFFFFF (s.reg R.HTM_CNT_PPS_IGN + 1))
      ∧ (∀ l, s.htm.ppsSince = some l → l + 2000000 * usUnit ≤ s.now →
        ∃ u, Ends .htmPpsLost s u ∧ ⟨420, 2⟩ ∈ u.occ ∧ u.htm.ppsSince = none ∧ u.get F.HTM_STATUS_STATE =
          if s.get F.HTM_STATUS_STATE = 1 ∨ s.get F.HTM_STATUS_STATE = 2 then 3 else s.get F.HTM_STATUS_STATE))
    ∧ (s.htmSrc ≠ 1 → Ends (.ppsEdge ()) s (begun s))
    ∧ (s.htmSrc ≠ 1 ∨ s.htm.ppsSince = none → Ends .htmPpsLost s (begun s))
    ∧ (CanWrite s ag R.HTM_PPS_TOD_HI → ∃ u, Ends (.ppsTodArm ag v) s u ∧ u.reg R.HTM_PPS_TOD_HI = v.toNat % 65536 ∧ u.htm = { s.htm with ppsArmed := true }
        ∧ OnlyRegs (accepted s ag) u [R.HTM_PPS_TOD_HI] ∧ u.occ = [])
    ∧ (CanWrite s ag R.HTM_MDIO →
      (s.flag F.HTM_MDIO_GO = true → Ends (.mdioGo ag v) s (accepted s ag))
      ∧ (s.flag F.HTM_MDIO_GO = false → bitAt v.toNat 31 = true → s.domOn 1 = true →
        ∃ u, Ends (.mdioGo ag v) s u ∧ u.flag F.HTM_MDIO_GO = true ∧ RegsOnly (accepted s ag) u [R.HTM_MDIO] ∧ u.occ = []
          ∧ u.out = [.mdio (bits v.toNat 29 25) (bits v.toNat 24 20) (if bitAt v.toNat 30 then some (bits v.toNat 15 0) else none)]))
    ∧ (s.flag F.HTM_MDIO_GO = true → ∃ u, Ends (.mdioDone data) s u ∧ u.flag F.HTM_MDIO_GO = false ∧ RegsOnly (begun s) u [R.HTM_MDIO] ∧ u.occ = []
        ∧ u.get F.HTM_MDIO_DATA = if s.flag F.HTM_MDIO_WRITE then s.get F.HTM_MDIO_DATA else data.toNat)
    ∧ (s.flag F.HTM_MDIO_GO = false → Ends (.mdioDone data) s (begun s))

/-! ### Pop registers and the owner of house time, rule by rule -/

/-- R382, whole: each pop register belongs to port n or r, `PIL_AUX_POP` to the owner of `PIL`; any other port's read returns 0, pops
nothing and raises no error. -/
def Obligations.PopRegisters : Prop :=
  ∀ (s : State) (p : Port) (n : Nat), n < 3 →
    let zero : State := { accepted s (.host p) with out := [.readData p (leBytes 4 0)] }
    (p.num ≠ n → Ends (.evtPop (.host p) n) s zero ∧ Ends (.srfResultPop p n) s zero ∧ Ends (.mgtDonePop p n) s zero ∧ Ends (.seqDonePop p n) s zero
      ∧ Ends (.cprDonePop (.host p) n) s zero)
    ∧ (s.engineOwner 1 ≠ p.num → Ends (.auxPop p) s zero)
    ∧ (p.num = n →
      (∀ r q, (s.target n).queue = r :: q → (s.target n).held = [] → ∃ u, Ends (.evtPop (.host p) n) s u ∧ (u.target n).queue = q ∧ u.out = [.readData p (leBytes 4 (r.word q.length))])
      ∧ (∀ r q, mget ([] : List SrfResult) s.srf.results n = r :: q → ∃ u, Ends (.srfResultPop p n) s u ∧ mget ([] : List SrfResult) u.srf.results n = q
        ∧ u.out = [.readData p (leBytes 4 (2 ^ 31 + q.length * 2 ^ 24 + r.slot * 2 ^ 20 + r.frame * 256 + r.outcome))])
      ∧ (∀ r q, s.mbDone n = r :: q → ∃ u, Ends (.mgtDonePop p n) s u ∧ u.mbDone n = q ∧ u.mgt.cmds = s.mgt.cmds ∧ u.occ = []
        ∧ u.out = [.readData p (leBytes 4 (2 ^ 31 + q.length * 2 ^ 27 + r.op * 65536 + r.status))] ∧ u.reg (R.MGT_MB_DONE_DATA n) = r.data.toNat
        ∧ OnlyRegs (accepted s (.host p)) u [R.MGT_MB_DONE_HI n, R.MGT_MB_DONE_DATA n])
      ∧ (∀ r q, mget ([] : List SeqDone) s.seq.done n = r :: q → ∃ u, Ends (.seqDonePop p n) s u ∧ mget ([] : List SeqDone) u.seq.done n = q ∧ u.occ = []
        ∧ u.out = [.readData p (leBytes 4 (2 ^ 31 + min 7 q.length * 2 ^ 27 + r.slot * 2 ^ 24 + r.status * 2 ^ 20 + r.next))]
        ∧ u.reg (R.SEQ_H_DONE_HI n) = r.tag.toNat ∧ OnlyRegs (accepted s (.host p)) u [R.SEQ_H_DONE_HI n])
      ∧ (∀ r q, s.cprRecords n = r :: q → ∃ u, Ends (.cprDonePop (.host p) n) s u ∧ u.cprRecords n = q
        ∧ u.out = [.readData p (leBytes 4 (2 ^ 31 + q.length * 2 ^ 25 + r.status))]))
    ∧ (∀ bs q, s.engineOwner 1 = p.num → s.pil.aux = bs :: q →
      ∃ u, Ends (.auxPop p) s u ∧ u.out = [.readData p (leBytes 4 (beNat ((slice bs s.pil.auxPos 4 ++ [0#8, 0#8, 0#8, 0#8]).take 4)))]
        ∧ (bs.length ≤ s.pil.auxPos + 4 → u.pil.aux = q ∧ u.pil.auxPos = 0)
        ∧ (s.pil.auxPos + 4 < bs.length → u.pil.aux = bs :: q ∧ u.pil.auxPos = s.pil.auxPos + 4))

/-- R318, whole. A host's command is one of its port: `REGISTER_WRITE` of the word. -/
def Obligations.HouseTimeWriters : Prop :=
  ∀ (s : State) (ag : Agent) (v : Word) (same : Bool),
    (∀ p a, ag = .host p → s.htmSrc = 0 ∨ s.htmSrc = 1 → s.portHeld p = false →
      a = BitVec.ofNat 32 R.HTM_FREQ ∨ a = BitVec.ofNat 32 R.HTM_STEP_SEC ∨ a = BitVec.ofNat 32 R.HTM_STEP_NS →
      ∃ u, Ends (.registerWrite ag a ⟨v, same⟩) s u ∧ u.occ = [⟨50, 0⟩] ∧ u.house = s.house ∧ u.htm = s.htm ∧ ∀ b, isPortReg b = false → u.reg b = s.reg b)
    ∧ (ag = .core ∨ (∃ p, ag = .host p ∧ s.htmSrc = 2 ∧ s.engineOwner 14 = p.num ∧ s.beforeRun = false ∧ s.portHeld p = false) →
      (∃ u, Ends (.registerWrite ag (BitVec.ofNat 32 R.HTM_FREQ) ⟨v, same⟩) s u ∧ u.reg R.HTM_FREQ = v.toNat ∧ RegsOnly (accepted s ag) u [R.HTM_FREQ] ∧ u.occ = [])
      ∧ (∃ u, Ends (.registerWrite ag (BitVec.ofNat 32 R.HTM_STEP_SEC) ⟨v, same⟩) s u ∧ u.reg R.HTM_STEP_SEC = v.toNat ∧ RegsOnly (accepted s ag) u [R.HTM_STEP_SEC] ∧ u.occ = [])
      ∧ ∃ u, Ends (.registerWrite ag (BitVec.ofNat 32 R.HTM_STEP_NS) ⟨v, same⟩) s u ∧ ⟨418, 0⟩ ∈ u.occ
        ∧ u.house = s.house.step (signed 32 (s.reg R.HTM_STEP_SEC) * 1000000000 + signed 32 v.toNat))

/-! ### Calibration and rotation (chapter 15) -/

/-- Calibration (R330 to R335, R340) and the checks of the slices (R343 to R345, R354, R362). The clauses of a comparison in a slice's
return (`back`) and of its self-tests are the model's reading (log entry 102). -/
def Obligations.CalibrationCommands : Prop :=
  ∀ (s : State) (ag : Agent) (v : Word) (n un k line : Nat) (t t0 a b c : Int) (d : CalDue) (r : CalRun) (bt : CalBist) (vs qs : List Int) (pass : Bool),
    n < 32 → un < 255 → k < 17 →
    let notDue (w : Nat) : Prop := s.calRun w = none ∧ s.cal.due.any (fun x => x.unit == w) = false
    let settled : Prop := s.cal.recalled = [] ∧ ∀ x, x ∈ allUnits → s.unitUsed x = true → (mfind s.cal.endedAt x).isSome = true
    let quiet : Prop := (∀ x, x ∈ s.cal.runs → 17 ≤ x.unit) ∧ s.mgt.recovering = none
    let nowDue (u : State) (w tr : Nat) : Prop := u.cal.due = s.cal.due ++ [{ unit := w, trigger := tr, order := s.cal.dueNext }] ∧ u.cal.dueNext = s.cal.dueNext + 1
    (CanWrite s ag R.CAL_REQ →
      (validUnit (v.toNat % 256) = false → ∃ u, Ends (.calReq ag v) s u ∧ u.occ = [⟨49, 0⟩] ∧ u.cal = s.cal ∧ ∀ x, isPortReg x = false → u.reg x = s.reg x)
      ∧ (validUnit (v.toNat % 256) = true → notDue (v.toNat % 256) → s.cal.recalled = [] → s.unitUsed (v.toNat % 256) = true →
        mfind s.cal.endedAt (v.toNat % 256) = none → ∃ u, Ends (.calReq ag v) s u ∧ ∃ x, x ∈ u.cal.due ∧ x.unit = v.toNat % 256 ∧ x.trigger = 0)
      ∧ (validUnit (v.toNat % 256) = true → settled → notDue (v.toNat % 256) →
        ∃ u, Ends (.calReq ag v) s u ∧ nowDue u (v.toNat % 256) 1 ∧ u = { accepted s ag with cal := u.cal })
      ∧ (validUnit (v.toNat % 256) = true → settled → s.cal.due.any (fun x => x.unit == v.toNat % 256) = true → Ends (.calReq ag v) s (accepted s ag)))
    ∧ (s.cal.refTemp = [] → Ends (.calTemp n t) s { begun s with cal := { s.cal with sensors := mput s.cal.sensors n t } })
    ∧ (s.cal.refTemp = [(un, t0)] → unitSensor un = n → 16 * s.get F.CAL_CFG_DELTA_T < (t - t0).natAbs → notDue un →
      ∃ u, Ends (.calTemp n t) s u ∧ nowDue u un 2 ∧ mfind u.cal.sensors n = some t ∧ u = { begun s with cal := u.cal })
    ∧ (∀ te, mfind s.cal.endedAt un = some te → s.get F.CAL_CFG_INTERVAL ≠ 0 →
      (te + s.get F.CAL_CFG_INTERVAL * 1000000 * usUnit ≤ s.now → notDue un →
        ∃ u, Ends (.calInterval un) s u ∧ nowDue u un 3 ∧ u = { begun s with cal := u.cal })
      ∧ (s.now < te + s.get F.CAL_CFG_INTERVAL * 1000000 * usUnit → Ends (.calInterval un) s (begun s)))
    ∧ (s.get F.CAL_CFG_INTERVAL = 0 ∨ mfind s.cal.endedAt un = none → Ends (.calInterval un) s (begun s))
    ∧ (s.calMay = false → Ends .calUnitStart s (begun s))
    ∧ (s.calMay = true → settled →
      (s.cal.due = [] → Ends .calUnitStart s (begun s))
      ∧ (s.cal.due = [d] → d.skipped = false → d.postponed = none → s.calRoom d.unit = true → s.get F.MGT_STATUS_DEFER = 3 →
        ∃ u, Ends .calUnitStart s u ∧ u.cal = { s.cal with due := [{ d with postponed := some s.now }] } ∧ u.occ = []
          ∧ u.reg R.CAL_CNT_POSTPONE = min 0xFFFFFFFF (s.reg R.CAL_CNT_POSTPONE + 1))
      ∧ (s.cal.due = [d] → d.skipped = false → s.calRoom d.unit = true → s.get F.MGT_STATUS_DEFER ≠ 3 →
        (s.hasStandIn d.unit = false → ∃ u, Ends .calUnitStart s u ∧ u.cal.due = [{ d with skipped := true, postponed := none }] ∧ u.cal.runs = s.cal.runs
          ∧ u.reg R.CAL_CNT_SKIP = min 0xFFFFFFFF (s.reg R.CAL_CNT_SKIP + 1) ∧ u.occ = [⟨424, 0⟩])
        ∧ (s.hasStandIn d.unit = true →
          let starts (u : State) (ph : CalPhase) : Prop := u.cal.due = [] ∧ u.cal.runs = s.cal.runs ++ [{ unit := d.unit, trigger := d.trigger, phase := ph }]
          (d.unit < 16 → ∃ u, Ends .calUnitStart s u ∧ starts u .waiting ∧ u = { begun s with cal := u.cal })
          ∧ (d.unit = 16 → ∃ u, Ends .calUnitStart s u ∧ starts u (if (s.run 0).on then .waiting else .fallow) ∧ ((s.run 0).on = false → u.role 16 = 3))
          ∧ (0x20 ≤ d.unit → d.unit < 0x40 → s.laneIdOf (d.unit - 0x20) = 7 → ∃ u, Ends .calUnitStart s u ∧ starts u .fallow
            ∧ u.cal.fallowLanes = s.cal.fallowLanes ++ [d.unit - 0x20])
          ∧ (0x20 ≤ d.unit → d.unit < 0x40 → s.laneIdOf (d.unit - 0x20) ≠ 7 → ∃ u, Ends .calUnitStart s u ∧ starts u .parallel)
          ∧ (0x40 ≤ d.unit → ∃ u, Ends .calUnitStart s u ∧ starts u .fallow ∧ u.cal.fallowLanes = s.cal.fallowLanes ++ [laneA (d.unit - 0x40)]
            ∧ (s.flag (F.LNS_LANE_SCAN_GO (laneA (d.unit - 0x40))) = true → (u.lane (laneA (d.unit - 0x40))).scanWaits = true)))))
    ∧ (s.cal.due = [] → Ends (.calSkipRetry un) s (begun s))
    ∧ (s.cal.due = [d] → d.unit = un → d.skipped = true → s.calMay = true → s.calRoom un = true → s.get F.MGT_STATUS_DEFER ≠ 3 →
      (s.hasStandIn un = false → ∃ u, Ends (.calSkipRetry un) s u ∧ u.cal.due = [{ d with skipped := true, postponed := none }] ∧ u.reg R.CAL_CNT_SKIP = min 0xFFFFFFFF (s.reg R.CAL_CNT_SKIP + 1) ∧ u.occ = [⟨424, 0⟩])
      ∧ (s.hasStandIn un = true → un < 16 →
        Ends (.calSkipRetry un) s { begun s with cal := { s.cal with
          due := [], runs := s.cal.runs ++ [{ unit := un, trigger := d.trigger, phase := .waiting }] } }))
    ∧ (vs.length = (if un < 17 then 5 else 1) → qs.length = vs.length →
      (s.calRun un = none → Ends (.calRunComplete un vs qs) s (begun s))
      ∧ (s.calRun un = some r → r.phase ≠ .fallow → r.phase ≠ .returning ∨ un < 0x20 ∨ 0x40 ≤ un → Ends (.calRunComplete un vs qs) s (begun s))
      ∧ (s.calRun un = some r → r.phase = .returning → 0x20 ≤ un → un < 0x40 →
        ∃ u, Ends (.calRunComplete un vs qs) s u ∧ u.calRun un = some { r with quality := qs } ∧ u = { begun s with cal := u.cal })
      ∧ (s.calRun un = some r → r.phase = .fallow → un < 17 → r.runs = [] → (∀ x, x ∈ vs → x ≤ 63) →
        let trim (x : Int) : Nat := tapTrim x.toNat (s.get F.CAL_CFG_MARGIN)
        ∃ u, Ends (.calRunComplete un vs qs) s u ∧ u.calRun un = some { r with runs := [vs.map fun x => min 63 (trim x : Int)] } ∧ u.regs = s.regs
          ∧ u.occ = List.replicate (vs.filter fun x => 63 < trim x).length ⟨427, 0⟩)
      ∧ (s.calRun un = some r → r.phase = .fallow → 0x20 ≤ un → vs = [b] →
        (r.runs = [] → ∃ u, Ends (.calRunComplete un vs qs) s u ∧ u.calRun un = some { r with runs := [[clampInt (-128) 127 b]] } ∧ u.occ = [] ∧ u.regs = s.regs)
        ∧ (r.runs = [[a]] → r.unstable = false → (a - clampInt (-128) 127 b).natAbs ≤ 2 →
          ∃ u, Ends (.calRunComplete un vs qs) s u ∧ u.calRun un = some { r with
            runs := [[a], [clampInt (-128) 127 b]], made := max r.made 2, agreed := r.agreed ++ [roundAway (((a + clampInt (-128) 127 b : Int) : Rat) / 2)]
            quality := r.quality ++ qs, phase := .applying } ∧ u.occ = [] ∧ u.regs = s.regs)
        ∧ (r.runs = [[a], [c]] → 2 < (a - c).natAbs → 2 < (a - clampInt (-128) 127 b).natAbs → 2 < (c - clampInt (-128) 127 b).natAbs →
          ∃ u, Ends (.calRunComplete un vs qs) s u ∧ u.occ = [⟨423, 0⟩] ∧ u.reg R.CAL_CNT_UNSTABLE = min 0xFFFFFFFF (s.reg R.CAL_CNT_UNSTABLE + 1)
            ∧ (∃ x, u.calRun un = some x ∧ x.phase = .applying ∧ x.agreed = [] ∧ x.unstable = true))))
    ∧ (s.comparing = none → Ends (.sliceLineCompare line pass) s (begun s))
    ∧ (∀ h back, s.comparing = some (h, back) →
      (∃ u, Ends (.sliceLineCompare line true) s u ∧ u.regs = s.regs ∧ u.cal = s.cal ∧ u.occ = [])
      ∧ ∃ u, Ends (.sliceLineCompare line false) s u ∧ u.reg R.CAL_CNT_MISMATCH = min 0xFFFFFFFF (s.reg R.CAL_CNT_MISMATCH + 1)
        ∧ (h < 16 → u.role (if back then h else 16) = 6) ∧ u.cal.bist = some ⟨if back then h else 16, h, false, back⟩
        ∧ (back = false → ∀ x, x ∈ u.cal.runs → x.unit < 17 → x.phase ≠ .waiting ∧ x.phase ≠ .parallel))
    ∧ (s.cal.bist = none → Ends (.sliceBistComplete k pass) s (begun s))
    ∧ (s.cal.bist = some bt → bt.slice ≠ k → Ends (.sliceBistComplete k pass) s (begun s))
    ∧ (s.cal.bist = some bt → bt.slice = k → bt.home < 16 → bt.back = false →
      (bt.second = false →
        (∃ u, Ends (.sliceBistComplete k true) s u ∧ u.role 16 = 1 ∧ u.cal.takeover = some bt.home ∧ u.cal.bist = none
          ∧ u.cal.bistNext = some ⟨bt.home, bt.home, true, false⟩ ∧ u.occ = [])
        ∧ ∃ u, Ends (.sliceBistComplete k false) s u ∧ u.role 16 = 5 ∧ u.reg R.CAL_CNT_RETIRE = min 0xFFFFFFFF (s.reg R.CAL_CNT_RETIRE + 1)
          ∧ ⟨416, 2⟩ ∈ u.occ ∧ (quiet → u.occ = [⟨416, 2⟩]) ∧ u.cal.bist = none)
      ∧ (bt.second = true →
        (∃ u, Ends (.sliceBistComplete k false) s u ∧ u.role bt.home = 5 ∧ u.cal.permanent = true ∧ ⟨400 + bt.home, 3⟩ ∈ u.occ
          ∧ (quiet → u.occ = [⟨400 + bt.home, 2⟩, ⟨400 + bt.home, 3⟩]) ∧ u.reg R.CAL_CNT_RETIRE = min 0xFFFFFFFF (s.reg R.CAL_CNT_RETIRE + 1))
        ∧ (mfind s.cal.transientAt bt.home = none → ∃ u, Ends (.sliceBistComplete k true) s u ∧ u.role bt.home = 1 ∧ (quiet → u.occ = [⟨400 + bt.home, 1⟩])
          ∧ mfind u.cal.transientAt bt.home = some s.now ∧ u.reg R.CAL_CNT_RETIRE = s.reg R.CAL_CNT_RETIRE)
        ∧ (∀ x, mfind s.cal.transientAt bt.home = some x → s.now ≤ x + 600 * 1000000 * usUnit →
          ∃ u, Ends (.sliceBistComplete k true) s u ∧ u.role bt.home = 5 ∧ u.cal.permanent = true ∧ ⟨400 + bt.home, 3⟩ ∈ u.occ
            ∧ u.reg R.CAL_CNT_RETIRE = min 0xFFFFFFFF (s.reg R.CAL_CNT_RETIRE + 1))))
    ∧ (s.cal.bist = some bt → bt.slice = k → bt.home < 16 → bt.back = true →
      (bt.second = false →
        (∃ u, Ends (.sliceBistComplete k true) s u ∧ u.role bt.home = 1 ∧ u.cal.takeBack = some bt.home ∧ u.cal.bist = none
          ∧ u.cal.bistNext = some ⟨16, bt.home, true, true⟩ ∧ u.occ = [])
        ∧ ∃ u, Ends (.sliceBistComplete k false) s u ∧ u.role bt.home = 5 ∧ u.cal.permanent = true ∧ u.cal.bist = none
          ∧ (quiet → u.occ = [⟨400 + bt.home, 2⟩]))
      ∧ (bt.second = true →
        (∃ u, Ends (.sliceBistComplete k false) s u ∧ u.role 16 = 5 ∧ (quiet → u.occ = [⟨416, 2⟩, ⟨400 + bt.home, 3⟩]))
        ∧ (mfind s.cal.transientAt bt.home = none → ∃ u, Ends (.sliceBistComplete k true) s u ∧ u.role 16 = 1 ∧ (quiet → u.occ = [⟨400 + bt.home, 1⟩]))
        ∧ (∀ x, mfind s.cal.transientAt bt.home = some x → s.now ≤ x + 600 * 1000000 * usUnit → s.role bt.home ≠ 5 →
          ∃ u, Ends (.sliceBistComplete k true) s u ∧ u.role bt.home = 5 ∧ u.cal.takeover = some bt.home ∧ ⟨400 + bt.home, 3⟩ ∈ u.occ)))
    ∧ (s.role k = 5 ∨ s.role k = 7 → ∃ u, Ends (.tileFault k) s u ∧ u.regs = s.regs ∧ u.occ = [] ∧ u.cal.runs = s.cal.runs)
    ∧ (k < 16 → s.role k = 0 →
      ∃ u, Ends (.tileFault k) s u ∧ u.role k = 5 ∧ u.reg R.CAL_CNT_RETIRE = min 0xFFFFFFFF (s.reg R.CAL_CNT_RETIRE + 1)
        ∧ (s.spareIdle = true → u.cal.takeover = some k ∧ ⟨400 + k, 2⟩ ∈ u.occ)
        ∧ (s.spareIdle = false → s.cal.bist = none → s.cal.bistNext = none → s.cal.takeover ≠ some k → quiet →
          (s.revived = none → ⟨400 + k, 3⟩ ∈ u.occ) ∧ ∀ x, s.revived = some x → u.cal.covers = s.cal.covers ++ [(x, k)]))

/-! ### The management core, its mailboxes, tallies and the lifetime log (chapters 16 and 19) -/

/-- Management (R350 to R361), tallies (R405 to R409) and the lifetime log (R411, R413). The model's own: `HEADLESS` clears at the next
good service (log entry 92), the guard's step from V = 0 (log entry 131), LOG_READ waits for its folds (log entry 125), which lanes
REVIVE_UNIT takes (log entry 132), a hold during a fill (log entry 135) and the list of a core that has booted again (log entry 142). -/
def Obligations.CoreTalliesAndLog : Prop :=
  ∀ (s : State) (ag : Agent) (p : Port) (load : Nat) (cmd : MbCmd) (cs : List MbCmd) (w : BitVec 16) (ms : List Nat) (ack : Bool) (f : TallyFill)
    (slot : Nat) (bs : List Byte), load ≤ 100 → ms.length = 17 →
    let n := p.num
    let served (u : State) (status : Nat) (data : Word) : Prop := u.mbCmds n = cs ∧ u.mbDone n = s.mbDone n ++ [⟨cmd.op, cmd.tag, status, 0, data⟩] ∧ ⟨40 + n, 0⟩ ∈ u.occ
    let inHold (u : State) (cause : Nat) : Prop := u.mgtState = 2 ∧ u.get F.MGT_STATUS_CAUSE = cause ∧ ⟨32, 2⟩ ∈ u.occ
      ∧ u.reg R.MGT_CNT_DOG = min 0xFFFFFFFF (s.reg R.MGT_CNT_DOG + 1)
    (s.domOn 1 = false ∨ s.mgtState = 2 ∨ s.mgtState = 5 → Ends (.loadUpdate load) s (begun s) ∧ Ends (.sheepdogService w) s (begun s))
    ∧ (s.domOn 1 = true → s.mgtState ≠ 2 → s.mgtState ≠ 5 →
      (∃ u, Ends (.loadUpdate load) s u ∧ u.reg R.MGT_LOAD = (((load :: s.mgt.loads).take 1000).foldl max 0 * 256 + load) % 2 ^ 32
        ∧ (90 < load → 15 ≤ s.mgt.highUpdates → s.get F.MGT_STATUS_DEFER < 3 → u.get F.MGT_STATUS_DEFER = s.get F.MGT_STATUS_DEFER + 1 ∧ u.occ = [⟨35, 0⟩])
        ∧ (load ≤ 80 → 15 ≤ s.mgt.lowUpdates → 0 < s.get F.MGT_STATUS_DEFER → u.get F.MGT_STATUS_DEFER = s.get F.MGT_STATUS_DEFER - 1 ∧ u.occ = [⟨35, 0⟩])
        ∧ (80 < load → load ≤ 90 → u.get F.MGT_STATUS_DEFER = s.get F.MGT_STATUS_DEFER ∧ u.mgt.highUpdates = 0 ∧ u.mgt.lowUpdates = 0))
      ∧ (w.toNat = Nat.xor (s.get F.MGT_DOG_KEY) 0xB7E1 →
        ∃ u, Ends (.sheepdogService w) s u ∧ u.mgtState = 1 ∧ u.get F.MGT_DOG_KEY ≠ s.get F.MGT_DOG_KEY
          ∧ (s.mgtState = 3 ∨ s.mgtState = 4 → u.flag F.DEV_STATUS_HEADLESS = false ∧ ⟨33, 0⟩ ∈ u.occ)
          ∧ (s.mgtState ≠ 1 → u.mgt.recovering = none ∧ ∀ x, x ∈ u.mgt.recoveries ↔ x ∈ s.faultList)
          ∧ (s.mgtState = 1 → u.mgt.recovering = s.mgt.recovering ∧ u.mgt.recoveries = s.mgt.recoveries))
      ∧ (w.toNat ≠ Nat.xor (s.get F.MGT_DOG_KEY) 0xB7E1 → ∃ u, Ends (.sheepdogService w) s u ∧ inHold u 2))
    ∧ (s.domOn 1 = true → s.mgtState ≤ 1 → s.mgt.dogSuspended = false → ∃ u, Ends .sheepdogTimeout s u ∧ inHold u 1)
    ∧ (2 ≤ s.mgtState → Ends .sheepdogTimeout s (begun s))
    ∧ (CanWrite s ag R.MGT_CTRL →
      (s.mgtState = 1 → s.domOn 1 = true → ∃ u, Ends (.mgtRestart ag) s u ∧ inHold u 3)
      ∧ (s.mgtState ≠ 1 → Ends (.mgtRestart ag) s (accepted s ag))
      ∧ (s.mgtState = 5 → s.domOn 1 = true → ∃ u, Ends (.revive ag) s u ∧ u.mgtState = 3 ∧ u.flag F.TAL_LOG_STATUS_VALID = true)
      ∧ (s.mgtState ≠ 5 → Ends (.revive ag) s (accepted s ag)))
    ∧ (if s.mgtState = 2 then ∃ u, Ends .reboot1 s u ∧ u.mgtState = 3 ∧ u.flag F.TAL_LOG_STATUS_VALID = true else Ends .reboot1 s (begun s))
    ∧ (if s.mgtState = 3 then ∃ u, Ends .reboot2 s u ∧ u.mgtState = 4 ∧ u.flag F.TAL_LOG_STATUS_VALID = true else Ends .reboot2 s (begun s))
    ∧ (if s.mgtState = 4 then ∃ u, Ends .mgtHeadless s u ∧ u.mgtState = 5 ∧ u.flag F.DEV_STATUS_HEADLESS = true ∧ u.occ = [⟨34, 2⟩]
          ∧ u.reg R.MGT_CNT_REBOOT_FAIL = min 0xFFFFFFFF (s.reg R.MGT_CNT_REBOOT_FAIL + 1)
        else Ends .mgtHeadless s (begun s))
    -- mailboxes
    ∧ (s.mbCmds n = [] → Ends (.echo p) s (begun s) ∧ Ends (.version p) s (begun s) ∧ Ends (.logRead p) s (begun s) ∧ Ends (.reviveUnit p ack) s (begun s)
        ∧ Ends (.thermal p) s (begun s) ∧ Ends (.mailboxReservedOp p) s (begun s) ∧ Ends (.logWrite p ack) s (begun s))
    ∧ (s.mbCmds n = cmd :: cs → s.coreRuns = true → s.get F.MGT_STATUS_DEFER < 2 →
      (cmd.op = 1 → ∃ u, Ends (.echo p) s u ∧ served u 0 (BitVec.ofNat 32 (cmd.arg 0)) ∧ u.regs = s.regs)
      ∧ (cmd.op = 2 → ∃ u, Ends (.version p) s u ∧ served u 0 (BitVec.ofNat 32 (s.reg R.MGT_STATUS % 65536)) ∧ u.regs = s.regs)
      ∧ (s.logReadWaits p = true → Ends (.logRead p) s (begun s))
      ∧ (cmd.op = 3 → s.logReadWaits p = false →
        (cmd.arg 2 = 0 ∨ 64 < cmd.arg 2 → ∃ u, Ends (.logRead p) s u ∧ served u 3 0#32 ∧ u.fst = s.fst)
        ∧ (1 ≤ cmd.arg 2 → cmd.arg 2 ≤ 64 → s.hostRange p (cmd.arg 0) (4096 * cmd.arg 2) = true → (foldsIn (cmd.arg 0) (4096 * cmd.arg 2)).all s.foldOn = false →
          ∃ u, Ends (.logRead p) s u ∧ served u 5 0#32 ∧ u.fst = s.fst)
        ∧ (1 ≤ cmd.arg 2 → cmd.arg 2 ≤ 64 → s.hostRange p (cmd.arg 0) (4096 * cmd.arg 2) = true → (foldsIn (cmd.arg 0) (4096 * cmd.arg 2)).all s.foldOn = true →
          let rec' (sl : Nat) : List Byte := s.nvBytes (logSlotAddr sl) 4096
          let isNo (no sl : Nat) : Bool := logValid (rec' sl) && beNat (slice (rec' sl) 8 4) == no
          let found := (List.range (cmd.arg 2)).filter fun i => (List.range 64).any (isNo (cmd.arg 1 + i))
          ∃ u, Ends (.logRead p) s u ∧ served u 0 (BitVec.ofNat 32 found.length) ∧ u.nvm = s.nvm
            ∧ (cmd.arg 2 = 1 → found = [] → u.fst = s.fst)
            ∧ (cmd.arg 2 = 1 → ∀ sl, sl < 64 → isNo (cmd.arg 1) sl = true → (∀ j, j < sl → isNo (cmd.arg 1) j = false) →
              u.fst.mem = memWrite s.fst.mem (cmd.arg 0) (rec' sl))))
      ∧ (cmd.op = 4 → s.tal.log.writing = none → s.nvmDevice ≠ .absent →
        (∃ u, Ends (.logWrite p true) s u ∧ served u 0 (BitVec.ofNat 32 (min 0xFFFFFFFF (s.reg R.TAL_LOG_SEQ + 1))) ∧ u.reg R.TAL_LOG_SEQ = min 0xFFFFFFFF (s.reg R.TAL_LOG_SEQ + 1)
          ∧ ⟨434, 0⟩ ∈ u.occ ∧ u.tal.log.newestSlot = (s.tal.log.newestSlot + 1) % 64)
        ∧ ∃ u, Ends (.logWrite p false) s u ∧ served u 5 0#32 ∧ u.reg R.TAL_LOG_SEQ = s.reg R.TAL_LOG_SEQ ∧ ⟨435, 2⟩ ∈ u.occ)
      ∧ (cmd.op = 5 → cmd.arg 0 < 17 →
        (s.role (cmd.arg 0) ≠ 5 → ∃ u, Ends (.reviveUnit p true) s u ∧ served u 3 0#32 ∧ u.regs = s.regs)
        ∧ (s.role (cmd.arg 0) = 5 → s.domOn (14 + cmd.arg 0) = true → ∃ u, Ends (.reviveUnit p true) s u ∧ served u 0 1#32 ∧ u.role (cmd.arg 0) = 1)
        ∧ (s.role (cmd.arg 0) = 5 → ∃ u, Ends (.reviveUnit p false) s u ∧ served u 0 0#32 ∧ u.regs = s.regs))
      ∧ (cmd.op = 5 → ∀ l, l < 32 → cmd.arg 0 = 0x20 + l →
        ((s.pilLane l).lost = false → ∃ u, Ends (.reviveUnit p true) s u ∧ served u 3 0#32 ∧ u.regs = s.regs)
        ∧ ((s.pilLane l).lost = true → (∃ u, Ends (.reviveUnit p true) s u ∧ served u 0 1#32 ∧ (u.pilLane l).lost = false)
          ∧ ∃ u, Ends (.reviveUnit p false) s u ∧ served u 0 0#32 ∧ u.regs = s.regs))
      ∧ (cmd.op = 5 → ∀ nn, nn < 56 → cmd.arg 0 = 0x40 + nn → s.flag (F.ADL_PORT_STATUS_LANE_OFF_A nn) = true →
        (∃ u, Ends (.reviveUnit p true) s u ∧ served u 0 1#32 ∧ u.flag (F.ADL_PORT_STATUS_LANE_OFF_A nn) = false)
        ∧ ∃ u, Ends (.reviveUnit p false) s u ∧ served u 0 0#32 ∧ u.regs = s.regs)
      ∧ (cmd.op = 6 → ∀ t, s.junction = some t → ∃ u, Ends (.thermal p) s u ∧ served u 0 (BitVec.ofInt 32 t) ∧ u.regs = s.regs)
      ∧ (cmd.op = 0 ∨ 7 ≤ cmd.op → ∃ u, Ends (.mailboxReservedOp p) s u ∧ served u 2 0#32 ∧ u.regs = s.regs))
    ∧ (s.mbCmds n = cmd :: cs → s.coreRuns = true → 2 ≤ s.get F.MGT_STATUS_DEFER → cmd.op = 1 →
      ∃ u, Ends (.echo p) s u ∧ u.mbDone n = s.mbDone n ++ [⟨1, cmd.tag, 1, s.get F.MGT_CFG_RETRY_MS, 0#32⟩]
        ∧ u.reg R.MGT_CNT_DEFER_C3 = min 0xFFFFFFFF (s.reg R.MGT_CNT_DEFER_C3 + 1))
    -- the voltage loop
    ∧ (s.flag F.MGT_AVS_CFG_EN = false → Ends (.avsLoop ms ack) s (begun s))
    ∧ ((upTo 17 s.carries) ≠ [] →
      let m := ((upTo 17 s.carries).map fun k => min 255 (ms.getD k 0)).foldl min 255
      let v := s.get F.MGT_AVS_NOW_MV
      let v' := if m < s.get F.MGT_AVS_CFG_TARGET then min (s.get F.MGT_AVS_LIMITS_VMAX) (v + 10)
        else if s.get F.MGT_AVS_CFG_TARGET + s.get F.MGT_AVS_CFG_HYST < m ∧ 9 ≤ s.mgt.avsSince then max (s.get F.MGT_AVS_LIMITS_VMIN) (v - 5) else v
      let g := if v = 0 then s.get F.MGT_AVS_LIMITS_VMAX else min (s.get F.MGT_AVS_LIMITS_VMAX) (v + 20)
      let sends (x : Nat) : Output := .pmbus (s.get F.MGT_AVS_CFG_ADDR) (voutCode x (s.get F.MGT_AVS_CFG_EXP)) (s.flag F.MGT_AVS_CFG_PEC)
      (s.flag F.MGT_AVS_CFG_EN = true → s.coreRuns = true → s.avsHeld = false → s.mgt.avsRetry = none →
        ∃ u, Ends (.avsLoop ms ack) s u ∧ u.get F.MGT_AVS_NOW_MARGIN = m ∧ u.get F.MGT_AVS_NOW_MV = (if ack then v' else v)
          ∧ u.out = (if v' = v then [] else [sends v']) ∧ u.mgt.avsRetry = (if v' = v ∨ ack = true then none else some v'))
      ∧ (s.flag F.MGT_AVS_CFG_EN = true → s.coreRuns = true → s.avsHeld = false → ∀ x, x < 65536 → s.mgt.avsRetry = some x →
        ∃ u, Ends (.avsLoop ms ack) s u ∧ u.get F.MGT_AVS_NOW_MARGIN = m ∧ u.get F.MGT_AVS_NOW_MV = (if ack then x else v) ∧ u.out = [sends x]
          ∧ u.mgt.avsRetry = (if ack then none else some x))
      ∧ (s.flag F.MGT_AVS_CFG_EN = true → s.coreRuns = true → s.avsHeld = true → ∃ u, Ends (.avsLoop ms ack) s u ∧ u.get F.MGT_AVS_NOW_MV = v ∧ u.out = [])
      ∧ (10 ≤ m → ∃ u, Ends (.avsGuard ms ack) s u ∧ u.flag F.MGT_AVS_NOW_GUARD = false ∧ u.get F.MGT_AVS_NOW_MV = v ∧ u.out = [])
      ∧ (m < 10 → s.get F.MGT_AVS_LIMITS_VMAX ≤ v → ∃ u, Ends (.avsGuard ms ack) s u ∧ u.flag F.MGT_AVS_NOW_GUARD = true ∧ u.get F.MGT_AVS_NOW_MV = v ∧ u.occ = [⟨38, 3⟩])
      ∧ (m < 10 → v < s.get F.MGT_AVS_LIMITS_VMAX → ∃ u, Ends (.avsGuard ms true) s u ∧ u.flag F.MGT_AVS_NOW_GUARD = true ∧ u.get F.MGT_AVS_NOW_MV = g
        ∧ u.occ = [⟨37, 1⟩] ∧ u.reg R.MGT_CNT_GUARD = min 0xFFFFFFFF (s.reg R.MGT_CNT_GUARD + 1)))
    ∧ (s.coreRuns = false → Ends .recoveryStart s (begun s) ∧ Ends .logPeriodic s (begun s) ∧ Ends .driveSecondsCopy s (begun s))
    ∧ (s.coreRuns = true →
      (s.mgt.recoveries = [] → Ends .recoveryStart s { begun s with mgt := { s.mgt with recovering := none } })
      ∧ (∀ before r after, s.mgt.recoveries = before ++ r :: after → (∀ x, x ∈ before → x.cls < r.cls) → (∀ x, x ∈ after → x.cls ≤ r.cls) →
        Ends .recoveryStart s { begun s with mgt := { s.mgt with recovering := some r, recoveries := before ++ after } })
      -- the lifetime log
      ∧ (s.get F.MGT_STATUS_DEFER = 0 → s.tal.log.writing = none →
        let sl := (s.tal.log.newestSlot + 1) % 64
        ∃ u, Ends .logPeriodic s u ∧ u.tal.log.newestSlot = sl ∧ u.regs = s.regs
          ∧ u.tal.log.writing = some (sl, (s.logAdd 1252 1).logRecord (min 0xFFFFFFFF (s.reg R.TAL_LOG_SEQ + 1)) 0)
          ∧ ∀ a, u.nvByte a = if logSlotAddr sl ≤ a ∧ a < logSlotAddr sl + 4096 then 0xFF else s.nvByte a)
      ∧ (1 ≤ s.get F.MGT_STATUS_DEFER → ∃ u, Ends .logPeriodic s u ∧ u.mgt = { s.mgt with deferredC4 := s.mgt.deferredC4 + 1 } ∧ u.tal.log = s.tal.log
        ∧ u.reg R.MGT_CNT_DEFER_C4 = min 0xFFFFFFFF (s.reg R.MGT_CNT_DEFER_C4 + 1))
      ∧ (s.domOn 32 = true → ∃ u, Ends .driveSecondsCopy s u ∧ u.regs = s.regs ∧ ∀ y, y < 128 → u.logField (740 + 4 * y) = s.driveSeconds y))
    ∧ (s.tal.log.writing = none → s.tal.log.supplyDue = false → s.mgt.deferredC4 = 0 → Ends (.talLogWritten ack) s (begun s))
    ∧ (s.tal.log.writing = some (slot, bs) → s.tal.log.supplyDue = true → s.coreRuns = true →
      ∃ u, Ends (.talLogWritten ack) s u ∧ u.tal.log.supplyDue = false ∧ ∃ x, u.tal.log.writing = some ((s.tal.log.newestSlot + 1) % 64, x))
    ∧ (s.tal.log.writing = some (slot, bs) → s.tal.log.supplyDue = false → s.mgt.deferredC4 = 0 → slot < 64 →
      (s.nvmDevice ≠ .absent → ∃ u, Ends (.talLogWritten true) s u ∧ u.tal.log.writing = none ∧ u.reg R.TAL_LOG_SEQ = min 0xFFFFFFFF (s.reg R.TAL_LOG_SEQ + 1) ∧ u.get F.TAL_LOG_STATUS_SLOT = slot
        ∧ u.nvBytes (logSlotAddr slot) bs.length = bs ∧ u.occ = [⟨434, 0⟩] ∧ u.reg R.TAL_CNT_LOG_WRITE = min 0xFFFFFFFF (s.reg R.TAL_CNT_LOG_WRITE + 1))
      ∧ (ack = false ∨ s.nvmDevice = .absent → ∃ u, Ends (.talLogWritten ack) s u ∧ u.tal.log.writing = none ∧ u.reg R.TAL_LOG_SEQ = s.reg R.TAL_LOG_SEQ ∧ u.occ = [⟨435, 2⟩]
        ∧ u.reg R.TAL_CNT_LOG_FAIL = min 0xFFFFFFFF (s.reg R.TAL_CNT_LOG_FAIL + 1)))
    -- tallies
    ∧ (CanWrite s ag R.TAL_CTRL → s.tal.req = none → s.tal.fill = none → s.flag (F.TAL_BANK_HOLD_HOLD s.talTarget) = false →
      ((s.run 0).on = true → Ends (.tally ag) s { accepted s ag with tal := { (accepted s ag).tal with req := some ⟨true, false, false⟩ } })
      ∧ ((s.run 0).on = false → ∃ u, Ends (.tally ag) s u ∧ u.tal.req = none ∧ u.tal.fill = none ∧ u.tal.seq = (s.tal.seq + 1) % 2 ^ 32
        ∧ u.tal.newest = s.talTarget ∧ u.occ = [⟨432, 0⟩]))
    ∧ ((s.run 0).on = true → s.tal.fill = none → Ends .timedCopy s (begun s))
    ∧ ((s.run 0).on = true → s.tal.fill = some f → (∀ b, b ∈ f.left → b ∈ s.talUnits.map (·.base)) → s.flag (F.TAL_BANK_HOLD_HOLD f.bank) = false →
      ∃ u, Ends .timedCopy s u ∧ u.tal.fill = none ∧ u.tal.seq = f.seq ∧ u.tal.newest = f.bank ∧ u.occ = [⟨432, 0⟩])
    ∧ ((s.run 0).on = true → s.tal.fill = some f → s.flag (F.TAL_BANK_HOLD_HOLD f.bank) = true → Ends .timedCopy s (begun s))

/-! ### Sequences (chapter 17) -/

/-- The sequence engine (R383 to R390) while its domain is ON (R448). The model's own: which row stands for a step, in its port's turn
(log entries 12 and 18), that the boundaries themselves end a wait (log entry 19), that a step list in a fold that waits is not yet
read (log entry 125). -/
def Obligations.SequenceCommands : Prop :=
  ∀ (s : State) (ag : Agent) (p : Port) (slot st : Nat) (r : SeqRun) (d : RegDef) (ecc : EccMap) (same : Bool), slot < 8 → st < 65536 → r.slot < 8 →
    let n := p.num
    let hold := s.reg (R.SEQ_SLOT_HOLD slot) % 2 ^ 24
    let reports (u : State) (status next : Nat) : Prop := u.slotState r.slot = seqEndState status ∧ u.get (F.SEQ_SLOT_STATUS_RESULT r.slot) = status
      ∧ u.get (F.SEQ_SLOT_STATUS_NEXT r.slot) = seqNext next ∧ ⟨51 + n, 0⟩ ∈ u.occ
      ∧ mget ([] : List SeqDone) u.seq.done n = mget [] s.seq.done n ++ [⟨r.slot, status, seqNext next, r.tag⟩]
    let goesOn (u : State) (last : Nat) : Prop := u.seqRuns n = [{ r with step := r.step + 1, waiting := false, words := [] }]
      ∧ u.get (F.SEQ_SLOT_STATUS_NEXT r.slot) = seqNext (r.step + 1) ∧ u.seq.last = last
    let t := s.stepOf r
    let waits (u : State) (left tg : Nat) : Prop := u.seqRuns n = [{ r with
        waiting := true, words := [t.w0, t.w1, t.w2, t.w3].map (BitVec.ofNat 32), waitLeft := left, waitTg := tg }] ∧ u.regs = s.regs ∧ u.occ = []
        ∧ u.seq.last = n
    let noStep : Prop := Ends (.stepWrite p ⟨ecc, same⟩) s (begun s) ∧ Ends (.stepModify p ⟨ecc, same⟩) s (begun s) ∧ Ends (.stepCopy p ⟨ecc, same⟩ ecc) s (begun s)
        ∧ Ends (.stepPoll p ecc) s (begun s) ∧ Ends (.stepWaitFrame p ecc) s (begun s) ∧ Ends (.stepDelay p ecc) s (begun s)
        ∧ Ends (.stepCommit p ecc) s (begun s) ∧ Ends (.stepEnd p ecc) s (begun s)
    (CanWrite s ag (R.SEQ_SLOT_CTRL slot) → s.domOn 35 = false →
      Ends (.seqStart ag slot st) s (accepted s ag) ∧ Ends (.seqCancel ag slot) s (accepted s ag) ∧ Ends (.seqRelease ag slot) s (accepted s ag))
    ∧ (CanWrite s ag (R.SEQ_SLOT_CTRL slot) → s.seqPort ag slot = some p → s.domOn 35 = true →
      (s.slotState slot = 1 ∨ s.slotState slot = 2 ∨ s.reg (R.SEQ_SLOT_BASE slot) % 16 ≠ 0 →
        ∃ u, Ends (.seqStart ag slot st) s u ∧ u.occ = [⟨49, 0⟩] ∧ u.seq = s.seq ∧ ∀ a, isPortReg a = false → u.reg a = s.reg a)
      ∧ (s.slotState slot ≠ 1 → s.slotState slot ≠ 2 → s.reg (R.SEQ_SLOT_BASE slot) % 16 = 0 →
        ((∃ e, e < 24 ∧ bitAt hold e = true ∧ s.engineOwner e ≠ n) →
          ∃ u, Ends (.seqStart ag slot st) s u ∧ u.occ = [⟨50, 0⟩] ∧ u.seq = s.seq ∧ ∀ a, isPortReg a = false → u.reg a = s.reg a)
        ∧ ((∀ e, e < 24 → bitAt hold e = true → s.engineOwner e = n) →
          let q : SeqRun := { slot := slot, base := s.reg (R.SEQ_SLOT_BASE slot), tag := BitVec.ofNat 32 (s.reg (R.SEQ_SLOT_TAG slot)), hold := hold, step := st }
          (s.seqRuns n = [] → ∃ u, Ends (.seqStart ag slot st) s u ∧ u.seqRuns n = [q] ∧ u.slotState slot = 2 ∧ mget 0 u.seq.holds slot = hold
            ∧ u.get (F.SEQ_SLOT_STATUS_NEXT slot) = st ∧ u.get (F.SEQ_SLOT_STATUS_RESULT slot) = 0 ∧ OnlyRegs (accepted s ag) u [R.SEQ_SLOT_STATUS slot] ∧ u.occ = [])
          ∧ (s.seqRuns n ≠ [] → ∃ u, Ends (.seqStart ag slot st) s u ∧ u.seqRuns n = s.seqRuns n ++ [q] ∧ u.slotState slot = 1 ∧ u.seq.holds = s.seq.holds
            ∧ OnlyRegs (accepted s ag) u [R.SEQ_SLOT_STATUS slot] ∧ u.occ = []))))
    ∧ (CanWrite s ag (R.SEQ_SLOT_CTRL slot) → s.domOn 35 = true →
      (∃ u, Ends (.seqRelease ag slot) s u ∧ mget 0 u.seq.holds slot = 0 ∧ u.flag (F.SEQ_SLOT_STATUS_HOLDING slot) = false ∧ u.slotState slot = s.slotState slot
        ∧ OnlyRegs (accepted s ag) u [R.SEQ_SLOT_STATUS slot] ∧ u.occ = []
        ∧ ∀ m, m < 3 → (∀ x l, s.seqRuns m = x :: l → u.seqRuns m = (if x.slot = slot then { x with hold := 0 } else x) :: l)
          ∧ (s.seqRuns m = [] → u.seqRuns m = []))
      ∧ (r.slot = slot → s.seqRuns n = [r] → (∀ m, m < 3 → m ≠ n → ∀ x, x ∈ s.seqRuns m → x.slot ≠ slot) →
        ∃ u, Ends (.seqCancel ag slot) s u ∧ (∀ m, m < 3 → m ≠ n → u.seqRuns m = s.seqRuns m)
          ∧ (if r.waiting then u.seqRuns n = [{ r with cancelled := true }] ∧ u.occ = []
            else u.seqRuns n = [] ∧ reports u 6 r.step ∧ mget 0 u.seq.holds slot = 0)))
    ∧ Ends (.seqHoldLong slot) s { begun s with occ := if mget 0 s.seq.holds slot = 0 then [] else [⟨55, 0⟩] }
    ∧ (s.domOn 35 = false → noStep)
    ∧ (s.seqRuns n = [] → noStep ∧ Ends (.pollTimeout p) s (begun s))
    ∧ (s.seqRuns n = [r] → r.waiting = false → s.seqTurnOf p = false → noStep)
    ∧ (s.seqRuns n = [r] → r.waiting = true → s.domOn 35 = true →
      (stepOp t = 4 → ∃ u, Ends (.pollTimeout p) s u ∧ u.seqRuns n = [] ∧ reports u 4 r.step ∧ mget 0 u.seq.holds r.slot = r.hold)
      ∧ (stepOp t = 6 → r.cancelled = false → ∃ u, Ends (.stepDelay p ecc) s u ∧ goesOn u s.seq.last ∧ u.occ = [])
      ∧ (stepOp t ≠ 0 → Ends (.stepEnd p ecc) s (begun s)))
    ∧ (s.seqRuns n = [r] → r.waiting = false → inFolds (stepAddr r) = true → s.seqWaits p (stepAddr r) 16 = true → noStep)
    ∧ (s.seqRuns n = [r] → r.waiting = false → s.domOn 35 = true → s.seqTurnOf p = true → inFolds (stepAddr r) = false →
      ∃ u, Ends (.stepEnd p ecc) s u ∧ u.seqRuns n = [] ∧ reports u 7 r.step)
    ∧ (s.seqRuns n = [r] → r.waiting = false → r.cancelled = false → s.domOn 35 = true → s.seqTurnOf p = true →
        inFolds (stepAddr r) = true → s.seqWaits p (stepAddr r) 16 = false → (foldsIn (stepAddr r) 16).all (fun nn => s.hostMiss p nn == 0) = true →
      (stepOp t ≠ 0 → stepOp t < 8 → Ends (.stepEnd p []) s (begun s))
      ∧ (s.badStep p t = true → stepOp t = 0 → ∃ u, Ends (.stepEnd p []) s u ∧ u.seqRuns n = [] ∧ reports u 3 r.step)
      ∧ (∃ u, Ends (.stepEnd p [(stepAddr r / 8, .double)]) s u ∧ u.seqRuns n = [] ∧ reports u 7 r.step ∧ ⟨241, 0⟩ ∈ u.occ)
      ∧ (s.badStep p t = false →
        (stepOp t = 1 → s.permits (.host p) t.w1 = 2 → ∃ u, Ends (.stepWrite p ⟨[], same⟩) s u ∧ u.seqRuns n = [] ∧ reports u 1 r.step ∧ ⟨50, 0⟩ ∈ u.occ)
        ∧ (stepOp t = 1 → s.permits (.host p) t.w1 = 0 → t.w1 / 0x4000 ∈ [2, 4, 5, 6, 8] → regDef? t.w1 = some d → d.rws = true →
            goodWord t.w1 (Nat.land t.w2 d.w) = true →
          ∃ u, Ends (.stepWrite p ⟨[], same⟩) s u ∧ goesOn u n ∧ mfind u.shadow t.w1 = some (BitVec.ofNat 32 (Nat.land t.w2 d.w)) ∧ u.occ = [])
        ∧ (stepOp t = 2 → s.permits (.host p) t.w1 = 0 → t.w1 / 0x4000 ∈ [2, 4, 5, 6, 8] → regDef? t.w1 = some d → d.rws = true →
            goodWord t.w1 (Nat.land (s.modified p t.w1 t.w2 t.w3) d.w) = true →
          ∃ u, Ends (.stepModify p ⟨[], same⟩) s u ∧ goesOn u n ∧ mfind u.shadow t.w1 = some (BitVec.ofNat 32 (Nat.land (s.modified p t.w1 t.w2 t.w3) d.w)) ∧ u.occ = [])
        ∧ (stepOp t = 3 → s.seqWaits p t.w1 t.w3 = false → (foldsIn t.w1 t.w3).all (fun nn => s.hostMiss p nn == 0) = true → inFolds t.w2 = true →
            t.w2 + t.w3 ≤ foldBase (foldOf t.w2 + 1) → s.seqWaits p t.w2 t.w3 = false → s.foldWriteCode p (foldOf t.w2) = 0 → s.foldOn (foldOf t.w2) = true →
          ∃ u, Ends (.stepCopy p ⟨[], same⟩ []) s u ∧ goesOn u n ∧ u.fst.mem = memWrite s.fst.mem t.w2 (memBytes s.fst.mem t.w1 t.w3) ∧ u.occ = [])
        ∧ (stepOp t = 4 →
          (Nat.land (s.viewWord p t.w1) t.w3 = Nat.land t.w2 t.w3 → ∃ u, Ends (.stepPoll p []) s u ∧ goesOn u n ∧ u.occ = [])
          ∧ (Nat.land (s.viewWord p t.w1) t.w3 ≠ Nat.land t.w2 t.w3 → ∃ u, Ends (.stepPoll p []) s u ∧ waits u 0 0))
        ∧ (stepOp t = 5 → ∃ u, Ends (.stepWaitFrame p []) s u ∧ waits u (t.w0 % 65536) (bits t.w0 25 24))
        ∧ (stepOp t = 6 → ∃ u, Ends (.stepDelay p []) s u ∧ waits u 0 0)
        ∧ (stepOp t = 7 → s.shadow = [] → s.tblShadow = [] → ∃ u, Ends (.stepCommit p []) s u ∧ goesOn u n)
        ∧ (stepOp t = 0 → ∃ u, Ends (.stepEnd p []) s u ∧ u.seqRuns n = [] ∧ reports u 0 r.step ∧ mget 0 u.seq.holds r.slot = 0 ∧ u.occ = [⟨51 + n, 0⟩])))
end

