-- ==== Sys2Proof/Laws/State.lean ====
section
/-! SUPPORT. What each named operation on the state leaves as it is: one lemma per operation and field. -/

namespace Sys2Proof.Machine

variable (s : State)

/-! `State.setReg` -/

@[simp] theorem State.setReg_pending (a v : Nat) : (s.setReg a v).pending = s.pending := (rfl)
@[simp] theorem State.setReg_occ (a v : Nat) : (s.setReg a v).occ = s.occ := (rfl)
@[simp] theorem State.setReg_out (a v : Nat) : (s.setReg a v).out = s.out := (rfl)
@[simp] theorem State.setReg_now (a v : Nat) : (s.setReg a v).now = s.now := (rfl)
@[simp] theorem State.setReg_house (a v : Nat) : (s.setReg a v).house = s.house := (rfl)
@[simp] theorem State.setReg_freeCtr (a v : Nat) : (s.setReg a v).freeCtr = s.freeCtr := (rfl)
@[simp] theorem State.setReg_sameCycle (a v : Nat) : (s.setReg a v).sameCycle = s.sameCycle := (rfl)
@[simp] theorem State.setReg_shadow (a v : Nat) : (s.setReg a v).shadow = s.shadow := (rfl)
@[simp] theorem State.setReg_tbl (a v : Nat) : (s.setReg a v).tbl = s.tbl := (rfl)
@[simp] theorem State.setReg_tblShadow (a v : Nat) : (s.setReg a v).tblShadow = s.tblShadow := (rfl)
@[simp] theorem State.setReg_nvm (a v : Nat) : (s.setReg a v).nvm = s.nvm := (rfl)
@[simp] theorem State.setReg_nvmDevice (a v : Nat) : (s.setReg a v).nvmDevice = s.nvmDevice := (rfl)
@[simp] theorem State.setReg_nvmTorn (a v : Nat) : (s.setReg a v).nvmTorn = s.nvmTorn := (rfl)
@[simp] theorem State.setReg_hpt (a v : Nat) : (s.setReg a v).hpt = s.hpt := (rfl)
@[simp] theorem State.setReg_seq (a v : Nat) : (s.setReg a v).seq = s.seq := (rfl)
@[simp] theorem State.setReg_evt (a v : Nat) : (s.setReg a v).evt = s.evt := (rfl)
@[simp] theorem State.setReg_mgt (a v : Nat) : (s.setReg a v).mgt = s.mgt := (rfl)
@[simp] theorem State.setReg_htm (a v : Nat) : (s.setReg a v).htm = s.htm := (rfl)
@[simp] theorem State.setReg_tal (a v : Nat) : (s.setReg a v).tal = s.tal := (rfl)
@[simp] theorem State.setReg_cfg (a v : Nat) : (s.setReg a v).cfg = s.cfg := (rfl)
@[simp] theorem State.setReg_pwr (a v : Nat) : (s.setReg a v).pwr = s.pwr := (rfl)
@[simp] theorem State.setReg_pil (a v : Nat) : (s.setReg a v).pil = s.pil := (rfl)
@[simp] theorem State.setReg_tg (a v : Nat) : (s.setReg a v).tg = s.tg := (rfl)
@[simp] theorem State.setReg_srf (a v : Nat) : (s.setReg a v).srf = s.srf := (rfl)
@[simp] theorem State.setReg_fst (a v : Nat) : (s.setReg a v).fst = s.fst := (rfl)
@[simp] theorem State.setReg_lns (a v : Nat) : (s.setReg a v).lns = s.lns := (rfl)
@[simp] theorem State.setReg_cpr (a v : Nat) : (s.setReg a v).cpr = s.cpr := (rfl)
@[simp] theorem State.setReg_cal (a v : Nat) : (s.setReg a v).cal = s.cal := (rfl)
@[simp] theorem State.setReg_fe (a v : Nat) : (s.setReg a v).fe = s.fe := (rfl)
@[simp] theorem State.setReg_spl (a v : Nat) : (s.setReg a v).spl = s.spl := (rfl)
@[simp] theorem State.setReg_pcm (a v : Nat) : (s.setReg a v).pcm = s.pcm := (rfl)
@[simp] theorem State.setReg_odr (a v : Nat) : (s.setReg a v).odr = s.odr := (rfl)
@[simp] theorem State.setReg_dth (a v : Nat) : (s.setReg a v).dth = s.dth := (rfl)
@[simp] theorem State.setReg_adl (a v : Nat) : (s.setReg a v).adl = s.adl := (rfl)
@[simp] theorem State.setReg_ble (a v : Nat) : (s.setReg a v).ble = s.ble := (rfl)

/-! `State.put` -/

@[simp] theorem State.put_pending (f : FRef) (v : Nat) : (s.put f v).pending = s.pending := (rfl)
@[simp] theorem State.put_occ (f : FRef) (v : Nat) : (s.put f v).occ = s.occ := (rfl)
@[simp] theorem State.put_out (f : FRef) (v : Nat) : (s.put f v).out = s.out := (rfl)
@[simp] theorem State.put_now (f : FRef) (v : Nat) : (s.put f v).now = s.now := (rfl)
@[simp] theorem State.put_house (f : FRef) (v : Nat) : (s.put f v).house = s.house := (rfl)
@[simp] theorem State.put_freeCtr (f : FRef) (v : Nat) : (s.put f v).freeCtr = s.freeCtr := (rfl)
@[simp] theorem State.put_sameCycle (f : FRef) (v : Nat) : (s.put f v).sameCycle = s.sameCycle := (rfl)
@[simp] theorem State.put_shadow (f : FRef) (v : Nat) : (s.put f v).shadow = s.shadow := (rfl)
@[simp] theorem State.put_tbl (f : FRef) (v : Nat) : (s.put f v).tbl = s.tbl := (rfl)
@[simp] theorem State.put_tblShadow (f : FRef) (v : Nat) : (s.put f v).tblShadow = s.tblShadow := (rfl)
@[simp] theorem State.put_nvm (f : FRef) (v : Nat) : (s.put f v).nvm = s.nvm := (rfl)
@[simp] theorem State.put_nvmDevice (f : FRef) (v : Nat) : (s.put f v).nvmDevice = s.nvmDevice := (rfl)
@[simp] theorem State.put_nvmTorn (f : FRef) (v : Nat) : (s.put f v).nvmTorn = s.nvmTorn := (rfl)
@[simp] theorem State.put_hpt (f : FRef) (v : Nat) : (s.put f v).hpt = s.hpt := (rfl)
@[simp] theorem State.put_seq (f : FRef) (v : Nat) : (s.put f v).seq = s.seq := (rfl)
@[simp] theorem State.put_evt (f : FRef) (v : Nat) : (s.put f v).evt = s.evt := (rfl)
@[simp] theorem State.put_mgt (f : FRef) (v : Nat) : (s.put f v).mgt = s.mgt := (rfl)
@[simp] theorem State.put_htm (f : FRef) (v : Nat) : (s.put f v).htm = s.htm := (rfl)
@[simp] theorem State.put_tal (f : FRef) (v : Nat) : (s.put f v).tal = s.tal := (rfl)
@[simp] theorem State.put_cfg (f : FRef) (v : Nat) : (s.put f v).cfg = s.cfg := (rfl)
@[simp] theorem State.put_pwr (f : FRef) (v : Nat) : (s.put f v).pwr = s.pwr := (rfl)
@[simp] theorem State.put_pil (f : FRef) (v : Nat) : (s.put f v).pil = s.pil := (rfl)
@[simp] theorem State.put_tg (f : FRef) (v : Nat) : (s.put f v).tg = s.tg := (rfl)
@[simp] theorem State.put_srf (f : FRef) (v : Nat) : (s.put f v).srf = s.srf := (rfl)
@[simp] theorem State.put_fst (f : FRef) (v : Nat) : (s.put f v).fst = s.fst := (rfl)
@[simp] theorem State.put_lns (f : FRef) (v : Nat) : (s.put f v).lns = s.lns := (rfl)
@[simp] theorem State.put_cpr (f : FRef) (v : Nat) : (s.put f v).cpr = s.cpr := (rfl)
@[simp] theorem State.put_cal (f : FRef) (v : Nat) : (s.put f v).cal = s.cal := (rfl)
@[simp] theorem State.put_fe (f : FRef) (v : Nat) : (s.put f v).fe = s.fe := (rfl)
@[simp] theorem State.put_spl (f : FRef) (v : Nat) : (s.put f v).spl = s.spl := (rfl)
@[simp] theorem State.put_pcm (f : FRef) (v : Nat) : (s.put f v).pcm = s.pcm := (rfl)
@[simp] theorem State.put_odr (f : FRef) (v : Nat) : (s.put f v).odr = s.odr := (rfl)
@[simp] theorem State.put_dth (f : FRef) (v : Nat) : (s.put f v).dth = s.dth := (rfl)
@[simp] theorem State.put_adl (f : FRef) (v : Nat) : (s.put f v).adl = s.adl := (rfl)
@[simp] theorem State.put_ble (f : FRef) (v : Nat) : (s.put f v).ble = s.ble := (rfl)

/-! `State.putB` -/

@[simp] theorem State.putB_pending (f : FRef) (b : Bool) : (s.putB f b).pending = s.pending := (rfl)
@[simp] theorem State.putB_occ (f : FRef) (b : Bool) : (s.putB f b).occ = s.occ := (rfl)
@[simp] theorem State.putB_out (f : FRef) (b : Bool) : (s.putB f b).out = s.out := (rfl)
@[simp] theorem State.putB_now (f : FRef) (b : Bool) : (s.putB f b).now = s.now := (rfl)
@[simp] theorem State.putB_house (f : FRef) (b : Bool) : (s.putB f b).house = s.house := (rfl)
@[simp] theorem State.putB_freeCtr (f : FRef) (b : Bool) : (s.putB f b).freeCtr = s.freeCtr := (rfl)
@[simp] theorem State.putB_sameCycle (f : FRef) (b : Bool) : (s.putB f b).sameCycle = s.sameCycle := (rfl)
@[simp] theorem State.putB_shadow (f : FRef) (b : Bool) : (s.putB f b).shadow = s.shadow := (rfl)
@[simp] theorem State.putB_tbl (f : FRef) (b : Bool) : (s.putB f b).tbl = s.tbl := (rfl)
@[simp] theorem State.putB_tblShadow (f : FRef) (b : Bool) : (s.putB f b).tblShadow = s.tblShadow := (rfl)
@[simp] theorem State.putB_nvm (f : FRef) (b : Bool) : (s.putB f b).nvm = s.nvm := (rfl)
@[simp] theorem State.putB_nvmDevice (f : FRef) (b : Bool) : (s.putB f b).nvmDevice = s.nvmDevice := (rfl)
@[simp] theorem State.putB_nvmTorn (f : FRef) (b : Bool) : (s.putB f b).nvmTorn = s.nvmTorn := (rfl)
@[simp] theorem State.putB_hpt (f : FRef) (b : Bool) : (s.putB f b).hpt = s.hpt := (rfl)
@[simp] theorem State.putB_seq (f : FRef) (b : Bool) : (s.putB f b).seq = s.seq := (rfl)
@[simp] theorem State.putB_evt (f : FRef) (b : Bool) : (s.putB f b).evt = s.evt := (rfl)
@[simp] theorem State.putB_mgt (f : FRef) (b : Bool) : (s.putB f b).mgt = s.mgt := (rfl)
@[simp] theorem State.putB_htm (f : FRef) (b : Bool) : (s.putB f b).htm = s.htm := (rfl)
@[simp] theorem State.putB_tal (f : FRef) (b : Bool) : (s.putB f b).tal = s.tal := (rfl)
@[simp] theorem State.putB_cfg (f : FRef) (b : Bool) : (s.putB f b).cfg = s.cfg := (rfl)
@[simp] theorem State.putB_pwr (f : FRef) (b : Bool) : (s.putB f b).pwr = s.pwr := (rfl)
@[simp] theorem State.putB_pil (f : FRef) (b : Bool) : (s.putB f b).pil = s.pil := (rfl)
@[simp] theorem State.putB_tg (f : FRef) (b : Bool) : (s.putB f b).tg = s.tg := (rfl)
@[simp] theorem State.putB_srf (f : FRef) (b : Bool) : (s.putB f b).srf = s.srf := (rfl)
@[simp] theorem State.putB_fst (f : FRef) (b : Bool) : (s.putB f b).fst = s.fst := (rfl)
@[simp] theorem State.putB_lns (f : FRef) (b : Bool) : (s.putB f b).lns = s.lns := (rfl)
@[simp] theorem State.putB_cpr (f : FRef) (b : Bool) : (s.putB f b).cpr = s.cpr := (rfl)
@[simp] theorem State.putB_cal (f : FRef) (b : Bool) : (s.putB f b).cal = s.cal := (rfl)
@[simp] theorem State.putB_fe (f : FRef) (b : Bool) : (s.putB f b).fe = s.fe := (rfl)
@[simp] theorem State.putB_spl (f : FRef) (b : Bool) : (s.putB f b).spl = s.spl := (rfl)
@[simp] theorem State.putB_pcm (f : FRef) (b : Bool) : (s.putB f b).pcm = s.pcm := (rfl)
@[simp] theorem State.putB_odr (f : FRef) (b : Bool) : (s.putB f b).odr = s.odr := (rfl)
@[simp] theorem State.putB_dth (f : FRef) (b : Bool) : (s.putB f b).dth = s.dth := (rfl)
@[simp] theorem State.putB_adl (f : FRef) (b : Bool) : (s.putB f b).adl = s.adl := (rfl)
@[simp] theorem State.putB_ble (f : FRef) (b : Bool) : (s.putB f b).ble = s.ble := (rfl)

/-! `State.raise` -/

@[simp] theorem State.raise_pending (k c : Nat) : (s.raise k c).pending = s.pending := (rfl)
@[simp] theorem State.raise_out (k c : Nat) : (s.raise k c).out = s.out := (rfl)
@[simp] theorem State.raise_now (k c : Nat) : (s.raise k c).now = s.now := (rfl)
@[simp] theorem State.raise_house (k c : Nat) : (s.raise k c).house = s.house := (rfl)
@[simp] theorem State.raise_freeCtr (k c : Nat) : (s.raise k c).freeCtr = s.freeCtr := (rfl)
@[simp] theorem State.raise_sameCycle (k c : Nat) : (s.raise k c).sameCycle = s.sameCycle := (rfl)
@[simp] theorem State.raise_regs (k c : Nat) : (s.raise k c).regs = s.regs := (rfl)
@[simp] theorem State.raise_shadow (k c : Nat) : (s.raise k c).shadow = s.shadow := (rfl)
@[simp] theorem State.raise_tbl (k c : Nat) : (s.raise k c).tbl = s.tbl := (rfl)
@[simp] theorem State.raise_tblShadow (k c : Nat) : (s.raise k c).tblShadow = s.tblShadow := (rfl)
@[simp] theorem State.raise_nvm (k c : Nat) : (s.raise k c).nvm = s.nvm := (rfl)
@[simp] theorem State.raise_nvmDevice (k c : Nat) : (s.raise k c).nvmDevice = s.nvmDevice := (rfl)
@[simp] theorem State.raise_nvmTorn (k c : Nat) : (s.raise k c).nvmTorn = s.nvmTorn := (rfl)
@[simp] theorem State.raise_hpt (k c : Nat) : (s.raise k c).hpt = s.hpt := (rfl)
@[simp] theorem State.raise_seq (k c : Nat) : (s.raise k c).seq = s.seq := (rfl)
@[simp] theorem State.raise_evt (k c : Nat) : (s.raise k c).evt = s.evt := (rfl)
@[simp] theorem State.raise_mgt (k c : Nat) : (s.raise k c).mgt = s.mgt := (rfl)
@[simp] theorem State.raise_htm (k c : Nat) : (s.raise k c).htm = s.htm := (rfl)
@[simp] theorem State.raise_tal (k c : Nat) : (s.raise k c).tal = s.tal := (rfl)
@[simp] theorem State.raise_cfg (k c : Nat) : (s.raise k c).cfg = s.cfg := (rfl)
@[simp] theorem State.raise_pwr (k c : Nat) : (s.raise k c).pwr = s.pwr := (rfl)
@[simp] theorem State.raise_pil (k c : Nat) : (s.raise k c).pil = s.pil := (rfl)
@[simp] theorem State.raise_tg (k c : Nat) : (s.raise k c).tg = s.tg := (rfl)
@[simp] theorem State.raise_srf (k c : Nat) : (s.raise k c).srf = s.srf := (rfl)
@[simp] theorem State.raise_fst (k c : Nat) : (s.raise k c).fst = s.fst := (rfl)
@[simp] theorem State.raise_lns (k c : Nat) : (s.raise k c).lns = s.lns := (rfl)
@[simp] theorem State.raise_cpr (k c : Nat) : (s.raise k c).cpr = s.cpr := (rfl)
@[simp] theorem State.raise_cal (k c : Nat) : (s.raise k c).cal = s.cal := (rfl)
@[simp] theorem State.raise_fe (k c : Nat) : (s.raise k c).fe = s.fe := (rfl)
@[simp] theorem State.raise_spl (k c : Nat) : (s.raise k c).spl = s.spl := (rfl)
@[simp] theorem State.raise_pcm (k c : Nat) : (s.raise k c).pcm = s.pcm := (rfl)
@[simp] theorem State.raise_odr (k c : Nat) : (s.raise k c).odr = s.odr := (rfl)
@[simp] theorem State.raise_dth (k c : Nat) : (s.raise k c).dth = s.dth := (rfl)
@[simp] theorem State.raise_adl (k c : Nat) : (s.raise k c).adl = s.adl := (rfl)
@[simp] theorem State.raise_ble (k c : Nat) : (s.raise k c).ble = s.ble := (rfl)

/-! `State.emit` -/

@[simp] theorem State.emit_pending (o : Output) : (s.emit o).pending = s.pending := (rfl)
@[simp] theorem State.emit_occ (o : Output) : (s.emit o).occ = s.occ := (rfl)
@[simp] theorem State.emit_now (o : Output) : (s.emit o).now = s.now := (rfl)
@[simp] theorem State.emit_house (o : Output) : (s.emit o).house = s.house := (rfl)
@[simp] theorem State.emit_freeCtr (o : Output) : (s.emit o).freeCtr = s.freeCtr := (rfl)
@[simp] theorem State.emit_sameCycle (o : Output) : (s.emit o).sameCycle = s.sameCycle := (rfl)
@[simp] theorem State.emit_regs (o : Output) : (s.emit o).regs = s.regs := (rfl)
@[simp] theorem State.emit_shadow (o : Output) : (s.emit o).shadow = s.shadow := (rfl)
@[simp] theorem State.emit_tbl (o : Output) : (s.emit o).tbl = s.tbl := (rfl)
@[simp] theorem State.emit_tblShadow (o : Output) : (s.emit o).tblShadow = s.tblShadow := (rfl)
@[simp] theorem State.emit_nvm (o : Output) : (s.emit o).nvm = s.nvm := (rfl)
@[simp] theorem State.emit_nvmDevice (o : Output) : (s.emit o).nvmDevice = s.nvmDevice := (rfl)
@[simp] theorem State.emit_nvmTorn (o : Output) : (s.emit o).nvmTorn = s.nvmTorn := (rfl)
@[simp] theorem State.emit_hpt (o : Output) : (s.emit o).hpt = s.hpt := (rfl)
@[simp] theorem State.emit_seq (o : Output) : (s.emit o).seq = s.seq := (rfl)
@[simp] theorem State.emit_evt (o : Output) : (s.emit o).evt = s.evt := (rfl)
@[simp] theorem State.emit_mgt (o : Output) : (s.emit o).mgt = s.mgt := (rfl)
@[simp] theorem State.emit_htm (o : Output) : (s.emit o).htm = s.htm := (rfl)
@[simp] theorem State.emit_tal (o : Output) : (s.emit o).tal = s.tal := (rfl)
@[simp] theorem State.emit_cfg (o : Output) : (s.emit o).cfg = s.cfg := (rfl)
@[simp] theorem State.emit_pwr (o : Output) : (s.emit o).pwr = s.pwr := (rfl)
@[simp] theorem State.emit_pil (o : Output) : (s.emit o).pil = s.pil := (rfl)
@[simp] theorem State.emit_tg (o : Output) : (s.emit o).tg = s.tg := (rfl)
@[simp] theorem State.emit_srf (o : Output) : (s.emit o).srf = s.srf := (rfl)
@[simp] theorem State.emit_fst (o : Output) : (s.emit o).fst = s.fst := (rfl)
@[simp] theorem State.emit_lns (o : Output) : (s.emit o).lns = s.lns := (rfl)
@[simp] theorem State.emit_cpr (o : Output) : (s.emit o).cpr = s.cpr := (rfl)
@[simp] theorem State.emit_cal (o : Output) : (s.emit o).cal = s.cal := (rfl)
@[simp] theorem State.emit_fe (o : Output) : (s.emit o).fe = s.fe := (rfl)
@[simp] theorem State.emit_spl (o : Output) : (s.emit o).spl = s.spl := (rfl)
@[simp] theorem State.emit_pcm (o : Output) : (s.emit o).pcm = s.pcm := (rfl)
@[simp] theorem State.emit_odr (o : Output) : (s.emit o).odr = s.odr := (rfl)
@[simp] theorem State.emit_dth (o : Output) : (s.emit o).dth = s.dth := (rfl)
@[simp] theorem State.emit_adl (o : Output) : (s.emit o).adl = s.adl := (rfl)
@[simp] theorem State.emit_ble (o : Output) : (s.emit o).ble = s.ble := (rfl)

/-! `State.useFree` -/

@[simp] theorem State.useFree_pending : (s.useFree).pending = s.pending := (rfl)
@[simp] theorem State.useFree_occ : (s.useFree).occ = s.occ := (rfl)
@[simp] theorem State.useFree_out : (s.useFree).out = s.out := (rfl)
@[simp] theorem State.useFree_now : (s.useFree).now = s.now := (rfl)
@[simp] theorem State.useFree_house : (s.useFree).house = s.house := (rfl)
@[simp] theorem State.useFree_sameCycle : (s.useFree).sameCycle = s.sameCycle := (rfl)
@[simp] theorem State.useFree_regs : (s.useFree).regs = s.regs := (rfl)
@[simp] theorem State.useFree_shadow : (s.useFree).shadow = s.shadow := (rfl)
@[simp] theorem State.useFree_tbl : (s.useFree).tbl = s.tbl := (rfl)
@[simp] theorem State.useFree_tblShadow : (s.useFree).tblShadow = s.tblShadow := (rfl)
@[simp] theorem State.useFree_nvm : (s.useFree).nvm = s.nvm := (rfl)
@[simp] theorem State.useFree_nvmDevice : (s.useFree).nvmDevice = s.nvmDevice := (rfl)
@[simp] theorem State.useFree_nvmTorn : (s.useFree).nvmTorn = s.nvmTorn := (rfl)
@[simp] theorem State.useFree_hpt : (s.useFree).hpt = s.hpt := (rfl)
@[simp] theorem State.useFree_seq : (s.useFree).seq = s.seq := (rfl)
@[simp] theorem State.useFree_evt : (s.useFree).evt = s.evt := (rfl)
@[simp] theorem State.useFree_mgt : (s.useFree).mgt = s.mgt := (rfl)
@[simp] theorem State.useFree_htm : (s.useFree).htm = s.htm := (rfl)
@[simp] theorem State.useFree_tal : (s.useFree).tal = s.tal := (rfl)
@[simp] theorem State.useFree_cfg : (s.useFree).cfg = s.cfg := (rfl)
@[simp] theorem State.useFree_pwr : (s.useFree).pwr = s.pwr := (rfl)
@[simp] theorem State.useFree_pil : (s.useFree).pil = s.pil := (rfl)
@[simp] theorem State.useFree_tg : (s.useFree).tg = s.tg := (rfl)
@[simp] theorem State.useFree_srf : (s.useFree).srf = s.srf := (rfl)
@[simp] theorem State.useFree_fst : (s.useFree).fst = s.fst := (rfl)
@[simp] theorem State.useFree_lns : (s.useFree).lns = s.lns := (rfl)
@[simp] theorem State.useFree_cpr : (s.useFree).cpr = s.cpr := (rfl)
@[simp] theorem State.useFree_cal : (s.useFree).cal = s.cal := (rfl)
@[simp] theorem State.useFree_fe : (s.useFree).fe = s.fe := (rfl)
@[simp] theorem State.useFree_spl : (s.useFree).spl = s.spl := (rfl)
@[simp] theorem State.useFree_pcm : (s.useFree).pcm = s.pcm := (rfl)
@[simp] theorem State.useFree_odr : (s.useFree).odr = s.odr := (rfl)
@[simp] theorem State.useFree_dth : (s.useFree).dth = s.dth := (rfl)
@[simp] theorem State.useFree_adl : (s.useFree).adl = s.adl := (rfl)
@[simp] theorem State.useFree_ble : (s.useFree).ble = s.ble := (rfl)

/-! `State.tally` -/

@[simp] theorem State.tally_pending (o n : Nat) : (s.tally o n).pending = s.pending := (rfl)
@[simp] theorem State.tally_occ (o n : Nat) : (s.tally o n).occ = s.occ := (rfl)
@[simp] theorem State.tally_out (o n : Nat) : (s.tally o n).out = s.out := (rfl)
@[simp] theorem State.tally_now (o n : Nat) : (s.tally o n).now = s.now := (rfl)
@[simp] theorem State.tally_house (o n : Nat) : (s.tally o n).house = s.house := (rfl)
@[simp] theorem State.tally_freeCtr (o n : Nat) : (s.tally o n).freeCtr = s.freeCtr := (rfl)
@[simp] theorem State.tally_sameCycle (o n : Nat) : (s.tally o n).sameCycle = s.sameCycle := (rfl)
@[simp] theorem State.tally_regs (o n : Nat) : (s.tally o n).regs = s.regs := (rfl)
@[simp] theorem State.tally_shadow (o n : Nat) : (s.tally o n).shadow = s.shadow := (rfl)
@[simp] theorem State.tally_tbl (o n : Nat) : (s.tally o n).tbl = s.tbl := (rfl)
@[simp] theorem State.tally_tblShadow (o n : Nat) : (s.tally o n).tblShadow = s.tblShadow := (rfl)
@[simp] theorem State.tally_nvm (o n : Nat) : (s.tally o n).nvm = s.nvm := (rfl)
@[simp] theorem State.tally_nvmDevice (o n : Nat) : (s.tally o n).nvmDevice = s.nvmDevice := (rfl)
@[simp] theorem State.tally_nvmTorn (o n : Nat) : (s.tally o n).nvmTorn = s.nvmTorn := (rfl)
@[simp] theorem State.tally_hpt (o n : Nat) : (s.tally o n).hpt = s.hpt := (rfl)
@[simp] theorem State.tally_seq (o n : Nat) : (s.tally o n).seq = s.seq := (rfl)
@[simp] theorem State.tally_evt (o n : Nat) : (s.tally o n).evt = s.evt := (rfl)
@[simp] theorem State.tally_mgt (o n : Nat) : (s.tally o n).mgt = s.mgt := (rfl)
@[simp] theorem State.tally_htm (o n : Nat) : (s.tally o n).htm = s.htm := (rfl)
@[simp] theorem State.tally_cfg (o n : Nat) : (s.tally o n).cfg = s.cfg := (rfl)
@[simp] theorem State.tally_pwr (o n : Nat) : (s.tally o n).pwr = s.pwr := (rfl)
@[simp] theorem State.tally_pil (o n : Nat) : (s.tally o n).pil = s.pil := (rfl)
@[simp] theorem State.tally_tg (o n : Nat) : (s.tally o n).tg = s.tg := (rfl)
@[simp] theorem State.tally_srf (o n : Nat) : (s.tally o n).srf = s.srf := (rfl)
@[simp] theorem State.tally_fst (o n : Nat) : (s.tally o n).fst = s.fst := (rfl)
@[simp] theorem State.tally_lns (o n : Nat) : (s.tally o n).lns = s.lns := (rfl)
@[simp] theorem State.tally_cpr (o n : Nat) : (s.tally o n).cpr = s.cpr := (rfl)
@[simp] theorem State.tally_cal (o n : Nat) : (s.tally o n).cal = s.cal := (rfl)
@[simp] theorem State.tally_fe (o n : Nat) : (s.tally o n).fe = s.fe := (rfl)
@[simp] theorem State.tally_spl (o n : Nat) : (s.tally o n).spl = s.spl := (rfl)
@[simp] theorem State.tally_pcm (o n : Nat) : (s.tally o n).pcm = s.pcm := (rfl)
@[simp] theorem State.tally_odr (o n : Nat) : (s.tally o n).odr = s.odr := (rfl)
@[simp] theorem State.tally_dth (o n : Nat) : (s.tally o n).dth = s.dth := (rfl)
@[simp] theorem State.tally_adl (o n : Nat) : (s.tally o n).adl = s.adl := (rfl)
@[simp] theorem State.tally_ble (o n : Nat) : (s.tally o n).ble = s.ble := (rfl)

/-! `State.setRun` -/

@[simp] theorem State.setRun_pending (n : Nat) (r : TgRun) : (s.setRun n r).pending = s.pending := (rfl)
@[simp] theorem State.setRun_occ (n : Nat) (r : TgRun) : (s.setRun n r).occ = s.occ := (rfl)
@[simp] theorem State.setRun_out (n : Nat) (r : TgRun) : (s.setRun n r).out = s.out := (rfl)
@[simp] theorem State.setRun_now (n : Nat) (r : TgRun) : (s.setRun n r).now = s.now := (rfl)
@[simp] theorem State.setRun_house (n : Nat) (r : TgRun) : (s.setRun n r).house = s.house := (rfl)
@[simp] theorem State.setRun_freeCtr (n : Nat) (r : TgRun) : (s.setRun n r).freeCtr = s.freeCtr := (rfl)
@[simp] theorem State.setRun_sameCycle (n : Nat) (r : TgRun) : (s.setRun n r).sameCycle = s.sameCycle := (rfl)
@[simp] theorem State.setRun_regs (n : Nat) (r : TgRun) : (s.setRun n r).regs = s.regs := (rfl)
@[simp] theorem State.setRun_shadow (n : Nat) (r : TgRun) : (s.setRun n r).shadow = s.shadow := (rfl)
@[simp] theorem State.setRun_tbl (n : Nat) (r : TgRun) : (s.setRun n r).tbl = s.tbl := (rfl)
@[simp] theorem State.setRun_tblShadow (n : Nat) (r : TgRun) : (s.setRun n r).tblShadow = s.tblShadow := (rfl)
@[simp] theorem State.setRun_nvm (n : Nat) (r : TgRun) : (s.setRun n r).nvm = s.nvm := (rfl)
@[simp] theorem State.setRun_nvmDevice (n : Nat) (r : TgRun) : (s.setRun n r).nvmDevice = s.nvmDevice := (rfl)
@[simp] theorem State.setRun_nvmTorn (n : Nat) (r : TgRun) : (s.setRun n r).nvmTorn = s.nvmTorn := (rfl)
@[simp] theorem State.setRun_hpt (n : Nat) (r : TgRun) : (s.setRun n r).hpt = s.hpt := (rfl)
@[simp] theorem State.setRun_seq (n : Nat) (r : TgRun) : (s.setRun n r).seq = s.seq := (rfl)
@[simp] theorem State.setRun_evt (n : Nat) (r : TgRun) : (s.setRun n r).evt = s.evt := (rfl)
@[simp] theorem State.setRun_mgt (n : Nat) (r : TgRun) : (s.setRun n r).mgt = s.mgt := (rfl)
@[simp] theorem State.setRun_htm (n : Nat) (r : TgRun) : (s.setRun n r).htm = s.htm := (rfl)
@[simp] theorem State.setRun_tal (n : Nat) (r : TgRun) : (s.setRun n r).tal = s.tal := (rfl)
@[simp] theorem State.setRun_cfg (n : Nat) (r : TgRun) : (s.setRun n r).cfg = s.cfg := (rfl)
@[simp] theorem State.setRun_pwr (n : Nat) (r : TgRun) : (s.setRun n r).pwr = s.pwr := (rfl)
@[simp] theorem State.setRun_pil (n : Nat) (r : TgRun) : (s.setRun n r).pil = s.pil := (rfl)
@[simp] theorem State.setRun_srf (n : Nat) (r : TgRun) : (s.setRun n r).srf = s.srf := (rfl)
@[simp] theorem State.setRun_fst (n : Nat) (r : TgRun) : (s.setRun n r).fst = s.fst := (rfl)
@[simp] theorem State.setRun_lns (n : Nat) (r : TgRun) : (s.setRun n r).lns = s.lns := (rfl)
@[simp] theorem State.setRun_cpr (n : Nat) (r : TgRun) : (s.setRun n r).cpr = s.cpr := (rfl)
@[simp] theorem State.setRun_cal (n : Nat) (r : TgRun) : (s.setRun n r).cal = s.cal := (rfl)
@[simp] theorem State.setRun_fe (n : Nat) (r : TgRun) : (s.setRun n r).fe = s.fe := (rfl)
@[simp] theorem State.setRun_spl (n : Nat) (r : TgRun) : (s.setRun n r).spl = s.spl := (rfl)
@[simp] theorem State.setRun_pcm (n : Nat) (r : TgRun) : (s.setRun n r).pcm = s.pcm := (rfl)
@[simp] theorem State.setRun_odr (n : Nat) (r : TgRun) : (s.setRun n r).odr = s.odr := (rfl)
@[simp] theorem State.setRun_dth (n : Nat) (r : TgRun) : (s.setRun n r).dth = s.dth := (rfl)
@[simp] theorem State.setRun_adl (n : Nat) (r : TgRun) : (s.setRun n r).adl = s.adl := (rfl)
@[simp] theorem State.setRun_ble (n : Nat) (r : TgRun) : (s.setRun n r).ble = s.ble := (rfl)

/-! `State.setTarget` -/

@[simp] theorem State.setTarget_pending (n : Nat) (t : EvtTarget) : (s.setTarget n t).pending = s.pending := (rfl)
@[simp] theorem State.setTarget_occ (n : Nat) (t : EvtTarget) : (s.setTarget n t).occ = s.occ := (rfl)
@[simp] theorem State.setTarget_out (n : Nat) (t : EvtTarget) : (s.setTarget n t).out = s.out := (rfl)
@[simp] theorem State.setTarget_now (n : Nat) (t : EvtTarget) : (s.setTarget n t).now = s.now := (rfl)
@[simp] theorem State.setTarget_house (n : Nat) (t : EvtTarget) : (s.setTarget n t).house = s.house := (rfl)
@[simp] theorem State.setTarget_freeCtr (n : Nat) (t : EvtTarget) : (s.setTarget n t).freeCtr = s.freeCtr := (rfl)
@[simp] theorem State.setTarget_sameCycle (n : Nat) (t : EvtTarget) : (s.setTarget n t).sameCycle = s.sameCycle := (rfl)
@[simp] theorem State.setTarget_regs (n : Nat) (t : EvtTarget) : (s.setTarget n t).regs = s.regs := (rfl)
@[simp] theorem State.setTarget_shadow (n : Nat) (t : EvtTarget) : (s.setTarget n t).shadow = s.shadow := (rfl)
@[simp] theorem State.setTarget_tbl (n : Nat) (t : EvtTarget) : (s.setTarget n t).tbl = s.tbl := (rfl)
@[simp] theorem State.setTarget_tblShadow (n : Nat) (t : EvtTarget) : (s.setTarget n t).tblShadow = s.tblShadow := (rfl)
@[simp] theorem State.setTarget_nvm (n : Nat) (t : EvtTarget) : (s.setTarget n t).nvm = s.nvm := (rfl)
@[simp] theorem State.setTarget_nvmDevice (n : Nat) (t : EvtTarget) : (s.setTarget n t).nvmDevice = s.nvmDevice := (rfl)
@[simp] theorem State.setTarget_nvmTorn (n : Nat) (t : EvtTarget) : (s.setTarget n t).nvmTorn = s.nvmTorn := (rfl)
@[simp] theorem State.setTarget_hpt (n : Nat) (t : EvtTarget) : (s.setTarget n t).hpt = s.hpt := (rfl)
@[simp] theorem State.setTarget_seq (n : Nat) (t : EvtTarget) : (s.setTarget n t).seq = s.seq := (rfl)
@[simp] theorem State.setTarget_mgt (n : Nat) (t : EvtTarget) : (s.setTarget n t).mgt = s.mgt := (rfl)
@[simp] theorem State.setTarget_htm (n : Nat) (t : EvtTarget) : (s.setTarget n t).htm = s.htm := (rfl)
@[simp] theorem State.setTarget_tal (n : Nat) (t : EvtTarget) : (s.setTarget n t).tal = s.tal := (rfl)
@[simp] theorem State.setTarget_cfg (n : Nat) (t : EvtTarget) : (s.setTarget n t).cfg = s.cfg := (rfl)
@[simp] theorem State.setTarget_pwr (n : Nat) (t : EvtTarget) : (s.setTarget n t).pwr = s.pwr := (rfl)
@[simp] theorem State.setTarget_pil (n : Nat) (t : EvtTarget) : (s.setTarget n t).pil = s.pil := (rfl)
@[simp] theorem State.setTarget_tg (n : Nat) (t : EvtTarget) : (s.setTarget n t).tg = s.tg := (rfl)
@[simp] theorem State.setTarget_srf (n : Nat) (t : EvtTarget) : (s.setTarget n t).srf = s.srf := (rfl)
@[simp] theorem State.setTarget_fst (n : Nat) (t : EvtTarget) : (s.setTarget n t).fst = s.fst := (rfl)
@[simp] theorem State.setTarget_lns (n : Nat) (t : EvtTarget) : (s.setTarget n t).lns = s.lns := (rfl)
@[simp] theorem State.setTarget_cpr (n : Nat) (t : EvtTarget) : (s.setTarget n t).cpr = s.cpr := (rfl)
@[simp] theorem State.setTarget_cal (n : Nat) (t : EvtTarget) : (s.setTarget n t).cal = s.cal := (rfl)
@[simp] theorem State.setTarget_fe (n : Nat) (t : EvtTarget) : (s.setTarget n t).fe = s.fe := (rfl)
@[simp] theorem State.setTarget_spl (n : Nat) (t : EvtTarget) : (s.setTarget n t).spl = s.spl := (rfl)
@[simp] theorem State.setTarget_pcm (n : Nat) (t : EvtTarget) : (s.setTarget n t).pcm = s.pcm := (rfl)
@[simp] theorem State.setTarget_odr (n : Nat) (t : EvtTarget) : (s.setTarget n t).odr = s.odr := (rfl)
@[simp] theorem State.setTarget_dth (n : Nat) (t : EvtTarget) : (s.setTarget n t).dth = s.dth := (rfl)
@[simp] theorem State.setTarget_adl (n : Nat) (t : EvtTarget) : (s.setTarget n t).adl = s.adl := (rfl)
@[simp] theorem State.setTarget_ble (n : Nat) (t : EvtTarget) : (s.setTarget n t).ble = s.ble := (rfl)

/-! `State.logAdd` -/

@[simp] theorem State.logAdd_pending (o n : Nat) : (s.logAdd o n).pending = s.pending := (rfl)
@[simp] theorem State.logAdd_occ (o n : Nat) : (s.logAdd o n).occ = s.occ := (rfl)
@[simp] theorem State.logAdd_out (o n : Nat) : (s.logAdd o n).out = s.out := (rfl)
@[simp] theorem State.logAdd_now (o n : Nat) : (s.logAdd o n).now = s.now := (rfl)
@[simp] theorem State.logAdd_house (o n : Nat) : (s.logAdd o n).house = s.house := (rfl)
@[simp] theorem State.logAdd_freeCtr (o n : Nat) : (s.logAdd o n).freeCtr = s.freeCtr := (rfl)
@[simp] theorem State.logAdd_sameCycle (o n : Nat) : (s.logAdd o n).sameCycle = s.sameCycle := (rfl)
@[simp] theorem State.logAdd_regs (o n : Nat) : (s.logAdd o n).regs = s.regs := (rfl)
@[simp] theorem State.logAdd_shadow (o n : Nat) : (s.logAdd o n).shadow = s.shadow := (rfl)
@[simp] theorem State.logAdd_tbl (o n : Nat) : (s.logAdd o n).tbl = s.tbl := (rfl)
@[simp] theorem State.logAdd_tblShadow (o n : Nat) : (s.logAdd o n).tblShadow = s.tblShadow := (rfl)
@[simp] theorem State.logAdd_nvm (o n : Nat) : (s.logAdd o n).nvm = s.nvm := (rfl)
@[simp] theorem State.logAdd_nvmDevice (o n : Nat) : (s.logAdd o n).nvmDevice = s.nvmDevice := (rfl)
@[simp] theorem State.logAdd_nvmTorn (o n : Nat) : (s.logAdd o n).nvmTorn = s.nvmTorn := (rfl)
@[simp] theorem State.logAdd_hpt (o n : Nat) : (s.logAdd o n).hpt = s.hpt := (rfl)
@[simp] theorem State.logAdd_seq (o n : Nat) : (s.logAdd o n).seq = s.seq := (rfl)
@[simp] theorem State.logAdd_evt (o n : Nat) : (s.logAdd o n).evt = s.evt := (rfl)
@[simp] theorem State.logAdd_mgt (o n : Nat) : (s.logAdd o n).mgt = s.mgt := (rfl)
@[simp] theorem State.logAdd_htm (o n : Nat) : (s.logAdd o n).htm = s.htm := (rfl)
@[simp] theorem State.logAdd_cfg (o n : Nat) : (s.logAdd o n).cfg = s.cfg := (rfl)
@[simp] theorem State.logAdd_pwr (o n : Nat) : (s.logAdd o n).pwr = s.pwr := (rfl)
@[simp] theorem State.logAdd_pil (o n : Nat) : (s.logAdd o n).pil = s.pil := (rfl)
@[simp] theorem State.logAdd_tg (o n : Nat) : (s.logAdd o n).tg = s.tg := (rfl)
@[simp] theorem State.logAdd_srf (o n : Nat) : (s.logAdd o n).srf = s.srf := (rfl)
@[simp] theorem State.logAdd_fst (o n : Nat) : (s.logAdd o n).fst = s.fst := (rfl)
@[simp] theorem State.logAdd_lns (o n : Nat) : (s.logAdd o n).lns = s.lns := (rfl)
@[simp] theorem State.logAdd_cpr (o n : Nat) : (s.logAdd o n).cpr = s.cpr := (rfl)
@[simp] theorem State.logAdd_cal (o n : Nat) : (s.logAdd o n).cal = s.cal := (rfl)
@[simp] theorem State.logAdd_fe (o n : Nat) : (s.logAdd o n).fe = s.fe := (rfl)
@[simp] theorem State.logAdd_spl (o n : Nat) : (s.logAdd o n).spl = s.spl := (rfl)
@[simp] theorem State.logAdd_pcm (o n : Nat) : (s.logAdd o n).pcm = s.pcm := (rfl)
@[simp] theorem State.logAdd_odr (o n : Nat) : (s.logAdd o n).odr = s.odr := (rfl)
@[simp] theorem State.logAdd_dth (o n : Nat) : (s.logAdd o n).dth = s.dth := (rfl)
@[simp] theorem State.logAdd_adl (o n : Nat) : (s.logAdd o n).adl = s.adl := (rfl)
@[simp] theorem State.logAdd_ble (o n : Nat) : (s.logAdd o n).ble = s.ble := (rfl)

/-! `State.raiseIf` -/

@[simp] theorem State.raiseIf_pending (b : Bool) (k c : Nat) : (s.raiseIf b k c).pending = s.pending := by cases b <;> rfl
@[simp] theorem State.raiseIf_out (b : Bool) (k c : Nat) : (s.raiseIf b k c).out = s.out := by cases b <;> rfl
@[simp] theorem State.raiseIf_now (b : Bool) (k c : Nat) : (s.raiseIf b k c).now = s.now := by cases b <;> rfl
@[simp] theorem State.raiseIf_house (b : Bool) (k c : Nat) : (s.raiseIf b k c).house = s.house := by cases b <;> rfl
@[simp] theorem State.raiseIf_freeCtr (b : Bool) (k c : Nat) : (s.raiseIf b k c).freeCtr = s.freeCtr := by cases b <;> rfl
@[simp] theorem State.raiseIf_sameCycle (b : Bool) (k c : Nat) : (s.raiseIf b k c).sameCycle = s.sameCycle := by cases b <;> rfl
@[simp] theorem State.raiseIf_regs (b : Bool) (k c : Nat) : (s.raiseIf b k c).regs = s.regs := by cases b <;> rfl
@[simp] theorem State.raiseIf_shadow (b : Bool) (k c : Nat) : (s.raiseIf b k c).shadow = s.shadow := by cases b <;> rfl
@[simp] theorem State.raiseIf_tbl (b : Bool) (k c : Nat) : (s.raiseIf b k c).tbl = s.tbl := by cases b <;> rfl
@[simp] theorem State.raiseIf_tblShadow (b : Bool) (k c : Nat) : (s.raiseIf b k c).tblShadow = s.tblShadow := by cases b <;> rfl
@[simp] theorem State.raiseIf_nvm (b : Bool) (k c : Nat) : (s.raiseIf b k c).nvm = s.nvm := by cases b <;> rfl
@[simp] theorem State.raiseIf_nvmDevice (b : Bool) (k c : Nat) : (s.raiseIf b k c).nvmDevice = s.nvmDevice := by cases b <;> rfl
@[simp] theorem State.raiseIf_nvmTorn (b : Bool) (k c : Nat) : (s.raiseIf b k c).nvmTorn = s.nvmTorn := by cases b <;> rfl
@[simp] theorem State.raiseIf_hpt (b : Bool) (k c : Nat) : (s.raiseIf b k c).hpt = s.hpt := by cases b <;> rfl
@[simp] theorem State.raiseIf_seq (b : Bool) (k c : Nat) : (s.raiseIf b k c).seq = s.seq := by cases b <;> rfl
@[simp] theorem State.raiseIf_evt (b : Bool) (k c : Nat) : (s.raiseIf b k c).evt = s.evt := by cases b <;> rfl
@[simp] theorem State.raiseIf_mgt (b : Bool) (k c : Nat) : (s.raiseIf b k c).mgt = s.mgt := by cases b <;> rfl
@[simp] theorem State.raiseIf_htm (b : Bool) (k c : Nat) : (s.raiseIf b k c).htm = s.htm := by cases b <;> rfl
@[simp] theorem State.raiseIf_tal (b : Bool) (k c : Nat) : (s.raiseIf b k c).tal = s.tal := by cases b <;> rfl
@[simp] theorem State.raiseIf_cfg (b : Bool) (k c : Nat) : (s.raiseIf b k c).cfg = s.cfg := by cases b <;> rfl
@[simp] theorem State.raiseIf_pwr (b : Bool) (k c : Nat) : (s.raiseIf b k c).pwr = s.pwr := by cases b <;> rfl
@[simp] theorem State.raiseIf_pil (b : Bool) (k c : Nat) : (s.raiseIf b k c).pil = s.pil := by cases b <;> rfl
@[simp] theorem State.raiseIf_tg (b : Bool) (k c : Nat) : (s.raiseIf b k c).tg = s.tg := by cases b <;> rfl
@[simp] theorem State.raiseIf_srf (b : Bool) (k c : Nat) : (s.raiseIf b k c).srf = s.srf := by cases b <;> rfl
@[simp] theorem State.raiseIf_fst (b : Bool) (k c : Nat) : (s.raiseIf b k c).fst = s.fst := by cases b <;> rfl
@[simp] theorem State.raiseIf_lns (b : Bool) (k c : Nat) : (s.raiseIf b k c).lns = s.lns := by cases b <;> rfl
@[simp] theorem State.raiseIf_cpr (b : Bool) (k c : Nat) : (s.raiseIf b k c).cpr = s.cpr := by cases b <;> rfl
@[simp] theorem State.raiseIf_cal (b : Bool) (k c : Nat) : (s.raiseIf b k c).cal = s.cal := by cases b <;> rfl
@[simp] theorem State.raiseIf_fe (b : Bool) (k c : Nat) : (s.raiseIf b k c).fe = s.fe := by cases b <;> rfl
@[simp] theorem State.raiseIf_spl (b : Bool) (k c : Nat) : (s.raiseIf b k c).spl = s.spl := by cases b <;> rfl
@[simp] theorem State.raiseIf_pcm (b : Bool) (k c : Nat) : (s.raiseIf b k c).pcm = s.pcm := by cases b <;> rfl
@[simp] theorem State.raiseIf_odr (b : Bool) (k c : Nat) : (s.raiseIf b k c).odr = s.odr := by cases b <;> rfl
@[simp] theorem State.raiseIf_dth (b : Bool) (k c : Nat) : (s.raiseIf b k c).dth = s.dth := by cases b <;> rfl
@[simp] theorem State.raiseIf_adl (b : Bool) (k c : Nat) : (s.raiseIf b k c).adl = s.adl := by cases b <;> rfl
@[simp] theorem State.raiseIf_ble (b : Bool) (k c : Nat) : (s.raiseIf b k c).ble = s.ble := by cases b <;> rfl

/-! `State.tallyTwin` -/

@[simp] theorem State.tallyTwin_pending (a n : Nat) : (s.tallyTwin a n).pending = s.pending := by unfold State.tallyTwin; split <;> rfl
@[simp] theorem State.tallyTwin_occ (a n : Nat) : (s.tallyTwin a n).occ = s.occ := by unfold State.tallyTwin; split <;> rfl
@[simp] theorem State.tallyTwin_out (a n : Nat) : (s.tallyTwin a n).out = s.out := by unfold State.tallyTwin; split <;> rfl
@[simp] theorem State.tallyTwin_now (a n : Nat) : (s.tallyTwin a n).now = s.now := by unfold State.tallyTwin; split <;> rfl
@[simp] theorem State.tallyTwin_house (a n : Nat) : (s.tallyTwin a n).house = s.house := by unfold State.tallyTwin; split <;> rfl
@[simp] theorem State.tallyTwin_freeCtr (a n : Nat) : (s.tallyTwin a n).freeCtr = s.freeCtr := by unfold State.tallyTwin; split <;> rfl
@[simp] theorem State.tallyTwin_sameCycle (a n : Nat) : (s.tallyTwin a n).sameCycle = s.sameCycle := by unfold State.tallyTwin; split <;> rfl
@[simp] theorem State.tallyTwin_regs (a n : Nat) : (s.tallyTwin a n).regs = s.regs := by unfold State.tallyTwin; split <;> rfl
@[simp] theorem State.tallyTwin_shadow (a n : Nat) : (s.tallyTwin a n).shadow = s.shadow := by unfold State.tallyTwin; split <;> rfl
@[simp] theorem State.tallyTwin_tbl (a n : Nat) : (s.tallyTwin a n).tbl = s.tbl := by unfold State.tallyTwin; split <;> rfl
@[simp] theorem State.tallyTwin_tblShadow (a n : Nat) : (s.tallyTwin a n).tblShadow = s.tblShadow := by unfold State.tallyTwin; split <;> rfl
@[simp] theorem State.tallyTwin_nvm (a n : Nat) : (s.tallyTwin a n).nvm = s.nvm := by unfold State.tallyTwin; split <;> rfl
@[simp] theorem State.tallyTwin_nvmDevice (a n : Nat) : (s.tallyTwin a n).nvmDevice = s.nvmDevice := by unfold State.tallyTwin; split <;> rfl
@[simp] theorem State.tallyTwin_nvmTorn (a n : Nat) : (s.tallyTwin a n).nvmTorn = s.nvmTorn := by unfold State.tallyTwin; split <;> rfl
@[simp] theorem State.tallyTwin_hpt (a n : Nat) : (s.tallyTwin a n).hpt = s.hpt := by unfold State.tallyTwin; split <;> rfl
@[simp] theorem State.tallyTwin_seq (a n : Nat) : (s.tallyTwin a n).seq = s.seq := by unfold State.tallyTwin; split <;> rfl
@[simp] theorem State.tallyTwin_evt (a n : Nat) : (s.tallyTwin a n).evt = s.evt := by unfold State.tallyTwin; split <;> rfl
@[simp] theorem State.tallyTwin_mgt (a n : Nat) : (s.tallyTwin a n).mgt = s.mgt := by unfold State.tallyTwin; split <;> rfl
@[simp] theorem State.tallyTwin_htm (a n : Nat) : (s.tallyTwin a n).htm = s.htm := by unfold State.tallyTwin; split <;> rfl
@[simp] theorem State.tallyTwin_cfg (a n : Nat) : (s.tallyTwin a n).cfg = s.cfg := by unfold State.tallyTwin; split <;> rfl
@[simp] theorem State.tallyTwin_pwr (a n : Nat) : (s.tallyTwin a n).pwr = s.pwr := by unfold State.tallyTwin; split <;> rfl
@[simp] theorem State.tallyTwin_pil (a n : Nat) : (s.tallyTwin a n).pil = s.pil := by unfold State.tallyTwin; split <;> rfl
@[simp] theorem State.tallyTwin_tg (a n : Nat) : (s.tallyTwin a n).tg = s.tg := by unfold State.tallyTwin; split <;> rfl
@[simp] theorem State.tallyTwin_srf (a n : Nat) : (s.tallyTwin a n).srf = s.srf := by unfold State.tallyTwin; split <;> rfl
@[simp] theorem State.tallyTwin_fst (a n : Nat) : (s.tallyTwin a n).fst = s.fst := by unfold State.tallyTwin; split <;> rfl
@[simp] theorem State.tallyTwin_lns (a n : Nat) : (s.tallyTwin a n).lns = s.lns := by unfold State.tallyTwin; split <;> rfl
@[simp] theorem State.tallyTwin_cpr (a n : Nat) : (s.tallyTwin a n).cpr = s.cpr := by unfold State.tallyTwin; split <;> rfl
@[simp] theorem State.tallyTwin_cal (a n : Nat) : (s.tallyTwin a n).cal = s.cal := by unfold State.tallyTwin; split <;> rfl
@[simp] theorem State.tallyTwin_fe (a n : Nat) : (s.tallyTwin a n).fe = s.fe := by unfold State.tallyTwin; split <;> rfl
@[simp] theorem State.tallyTwin_spl (a n : Nat) : (s.tallyTwin a n).spl = s.spl := by unfold State.tallyTwin; split <;> rfl
@[simp] theorem State.tallyTwin_pcm (a n : Nat) : (s.tallyTwin a n).pcm = s.pcm := by unfold State.tallyTwin; split <;> rfl
@[simp] theorem State.tallyTwin_odr (a n : Nat) : (s.tallyTwin a n).odr = s.odr := by unfold State.tallyTwin; split <;> rfl
@[simp] theorem State.tallyTwin_dth (a n : Nat) : (s.tallyTwin a n).dth = s.dth := by unfold State.tallyTwin; split <;> rfl
@[simp] theorem State.tallyTwin_adl (a n : Nat) : (s.tallyTwin a n).adl = s.adl := by unfold State.tallyTwin; split <;> rfl
@[simp] theorem State.tallyTwin_ble (a n : Nat) : (s.tallyTwin a n).ble = s.ble := by unfold State.tallyTwin; split <;> rfl

/-! `State.count` -/

@[simp] theorem State.count_pending (a n : Nat) : (s.count a n).pending = s.pending := by simp [State.count]
@[simp] theorem State.count_occ (a n : Nat) : (s.count a n).occ = s.occ := by simp [State.count]
@[simp] theorem State.count_out (a n : Nat) : (s.count a n).out = s.out := by simp [State.count]
@[simp] theorem State.count_now (a n : Nat) : (s.count a n).now = s.now := by simp [State.count]
@[simp] theorem State.count_house (a n : Nat) : (s.count a n).house = s.house := by simp [State.count]
@[simp] theorem State.count_freeCtr (a n : Nat) : (s.count a n).freeCtr = s.freeCtr := by simp [State.count]
@[simp] theorem State.count_sameCycle (a n : Nat) : (s.count a n).sameCycle = s.sameCycle := by simp [State.count]
@[simp] theorem State.count_shadow (a n : Nat) : (s.count a n).shadow = s.shadow := by simp [State.count]
@[simp] theorem State.count_tbl (a n : Nat) : (s.count a n).tbl = s.tbl := by simp [State.count]
@[simp] theorem State.count_tblShadow (a n : Nat) : (s.count a n).tblShadow = s.tblShadow := by simp [State.count]
@[simp] theorem State.count_nvm (a n : Nat) : (s.count a n).nvm = s.nvm := by simp [State.count]
@[simp] theorem State.count_nvmDevice (a n : Nat) : (s.count a n).nvmDevice = s.nvmDevice := by simp [State.count]
@[simp] theorem State.count_nvmTorn (a n : Nat) : (s.count a n).nvmTorn = s.nvmTorn := by simp [State.count]
@[simp] theorem State.count_hpt (a n : Nat) : (s.count a n).hpt = s.hpt := by simp [State.count]
@[simp] theorem State.count_seq (a n : Nat) : (s.count a n).seq = s.seq := by simp [State.count]
@[simp] theorem State.count_evt (a n : Nat) : (s.count a n).evt = s.evt := by simp [State.count]
@[simp] theorem State.count_mgt (a n : Nat) : (s.count a n).mgt = s.mgt := by simp [State.count]
@[simp] theorem State.count_htm (a n : Nat) : (s.count a n).htm = s.htm := by simp [State.count]
@[simp] theorem State.count_cfg (a n : Nat) : (s.count a n).cfg = s.cfg := by simp [State.count]
@[simp] theorem State.count_pwr (a n : Nat) : (s.count a n).pwr = s.pwr := by simp [State.count]
@[simp] theorem State.count_pil (a n : Nat) : (s.count a n).pil = s.pil := by simp [State.count]
@[simp] theorem State.count_tg (a n : Nat) : (s.count a n).tg = s.tg := by simp [State.count]
@[simp] theorem State.count_srf (a n : Nat) : (s.count a n).srf = s.srf := by simp [State.count]
@[simp] theorem State.count_fst (a n : Nat) : (s.count a n).fst = s.fst := by simp [State.count]
@[simp] theorem State.count_lns (a n : Nat) : (s.count a n).lns = s.lns := by simp [State.count]
@[simp] theorem State.count_cpr (a n : Nat) : (s.count a n).cpr = s.cpr := by simp [State.count]
@[simp] theorem State.count_cal (a n : Nat) : (s.count a n).cal = s.cal := by simp [State.count]
@[simp] theorem State.count_fe (a n : Nat) : (s.count a n).fe = s.fe := by simp [State.count]
@[simp] theorem State.count_spl (a n : Nat) : (s.count a n).spl = s.spl := by simp [State.count]
@[simp] theorem State.count_pcm (a n : Nat) : (s.count a n).pcm = s.pcm := by simp [State.count]
@[simp] theorem State.count_odr (a n : Nat) : (s.count a n).odr = s.odr := by simp [State.count]
@[simp] theorem State.count_dth (a n : Nat) : (s.count a n).dth = s.dth := by simp [State.count]
@[simp] theorem State.count_adl (a n : Nat) : (s.count a n).adl = s.adl := by simp [State.count]
@[simp] theorem State.count_ble (a n : Nat) : (s.count a n).ble = s.ble := by simp [State.count]

/-! `State.countIf` -/

@[simp] theorem State.countIf_pending (b : Bool) (a : Nat) : (s.countIf b a).pending = s.pending := by cases b <;> simp [State.countIf]
@[simp] theorem State.countIf_occ (b : Bool) (a : Nat) : (s.countIf b a).occ = s.occ := by cases b <;> simp [State.countIf]
@[simp] theorem State.countIf_out (b : Bool) (a : Nat) : (s.countIf b a).out = s.out := by cases b <;> simp [State.countIf]
@[simp] theorem State.countIf_now (b : Bool) (a : Nat) : (s.countIf b a).now = s.now := by cases b <;> simp [State.countIf]
@[simp] theorem State.countIf_house (b : Bool) (a : Nat) : (s.countIf b a).house = s.house := by cases b <;> simp [State.countIf]
@[simp] theorem State.countIf_freeCtr (b : Bool) (a : Nat) : (s.countIf b a).freeCtr = s.freeCtr := by cases b <;> simp [State.countIf]
@[simp] theorem State.countIf_sameCycle (b : Bool) (a : Nat) : (s.countIf b a).sameCycle = s.sameCycle := by cases b <;> simp [State.countIf]
@[simp] theorem State.countIf_shadow (b : Bool) (a : Nat) : (s.countIf b a).shadow = s.shadow := by cases b <;> simp [State.countIf]
@[simp] theorem State.countIf_tbl (b : Bool) (a : Nat) : (s.countIf b a).tbl = s.tbl := by cases b <;> simp [State.countIf]
@[simp] theorem State.countIf_tblShadow (b : Bool) (a : Nat) : (s.countIf b a).tblShadow = s.tblShadow := by cases b <;> simp [State.countIf]
@[simp] theorem State.countIf_nvm (b : Bool) (a : Nat) : (s.countIf b a).nvm = s.nvm := by cases b <;> simp [State.countIf]
@[simp] theorem State.countIf_nvmDevice (b : Bool) (a : Nat) : (s.countIf b a).nvmDevice = s.nvmDevice := by cases b <;> simp [State.countIf]
@[simp] theorem State.countIf_nvmTorn (b : Bool) (a : Nat) : (s.countIf b a).nvmTorn = s.nvmTorn := by cases b <;> simp [State.countIf]
@[simp] theorem State.countIf_hpt (b : Bool) (a : Nat) : (s.countIf b a).hpt = s.hpt := by cases b <;> simp [State.countIf]
@[simp] theorem State.countIf_seq (b : Bool) (a : Nat) : (s.countIf b a).seq = s.seq := by cases b <;> simp [State.countIf]
@[simp] theorem State.countIf_evt (b : Bool) (a : Nat) : (s.countIf b a).evt = s.evt := by cases b <;> simp [State.countIf]
@[simp] theorem State.countIf_mgt (b : Bool) (a : Nat) : (s.countIf b a).mgt = s.mgt := by cases b <;> simp [State.countIf]
@[simp] theorem State.countIf_htm (b : Bool) (a : Nat) : (s.countIf b a).htm = s.htm := by cases b <;> simp [State.countIf]
@[simp] theorem State.countIf_cfg (b : Bool) (a : Nat) : (s.countIf b a).cfg = s.cfg := by cases b <;> simp [State.countIf]
@[simp] theorem State.countIf_pwr (b : Bool) (a : Nat) : (s.countIf b a).pwr = s.pwr := by cases b <;> simp [State.countIf]
@[simp] theorem State.countIf_pil (b : Bool) (a : Nat) : (s.countIf b a).pil = s.pil := by cases b <;> simp [State.countIf]
@[simp] theorem State.countIf_tg (b : Bool) (a : Nat) : (s.countIf b a).tg = s.tg := by cases b <;> simp [State.countIf]
@[simp] theorem State.countIf_srf (b : Bool) (a : Nat) : (s.countIf b a).srf = s.srf := by cases b <;> simp [State.countIf]
@[simp] theorem State.countIf_fst (b : Bool) (a : Nat) : (s.countIf b a).fst = s.fst := by cases b <;> simp [State.countIf]
@[simp] theorem State.countIf_lns (b : Bool) (a : Nat) : (s.countIf b a).lns = s.lns := by cases b <;> simp [State.countIf]
@[simp] theorem State.countIf_cpr (b : Bool) (a : Nat) : (s.countIf b a).cpr = s.cpr := by cases b <;> simp [State.countIf]
@[simp] theorem State.countIf_cal (b : Bool) (a : Nat) : (s.countIf b a).cal = s.cal := by cases b <;> simp [State.countIf]
@[simp] theorem State.countIf_fe (b : Bool) (a : Nat) : (s.countIf b a).fe = s.fe := by cases b <;> simp [State.countIf]
@[simp] theorem State.countIf_spl (b : Bool) (a : Nat) : (s.countIf b a).spl = s.spl := by cases b <;> simp [State.countIf]
@[simp] theorem State.countIf_pcm (b : Bool) (a : Nat) : (s.countIf b a).pcm = s.pcm := by cases b <;> simp [State.countIf]
@[simp] theorem State.countIf_odr (b : Bool) (a : Nat) : (s.countIf b a).odr = s.odr := by cases b <;> simp [State.countIf]
@[simp] theorem State.countIf_dth (b : Bool) (a : Nat) : (s.countIf b a).dth = s.dth := by cases b <;> simp [State.countIf]
@[simp] theorem State.countIf_adl (b : Bool) (a : Nat) : (s.countIf b a).adl = s.adl := by cases b <;> simp [State.countIf]
@[simp] theorem State.countIf_ble (b : Bool) (a : Nat) : (s.countIf b a).ble = s.ble := by cases b <;> simp [State.countIf]

/-! `State.latchCount` -/

@[simp] theorem State.latchCount_pending (a n : Nat) : (s.latchCount a n).pending = s.pending := by simp [State.latchCount]
@[simp] theorem State.latchCount_occ (a n : Nat) : (s.latchCount a n).occ = s.occ := by simp [State.latchCount]
@[simp] theorem State.latchCount_out (a n : Nat) : (s.latchCount a n).out = s.out := by simp [State.latchCount]
@[simp] theorem State.latchCount_now (a n : Nat) : (s.latchCount a n).now = s.now := by simp [State.latchCount]
@[simp] theorem State.latchCount_house (a n : Nat) : (s.latchCount a n).house = s.house := by simp [State.latchCount]
@[simp] theorem State.latchCount_freeCtr (a n : Nat) : (s.latchCount a n).freeCtr = s.freeCtr := by simp [State.latchCount]
@[simp] theorem State.latchCount_sameCycle (a n : Nat) : (s.latchCount a n).sameCycle = s.sameCycle := by simp [State.latchCount]
@[simp] theorem State.latchCount_shadow (a n : Nat) : (s.latchCount a n).shadow = s.shadow := by simp [State.latchCount]
@[simp] theorem State.latchCount_tbl (a n : Nat) : (s.latchCount a n).tbl = s.tbl := by simp [State.latchCount]
@[simp] theorem State.latchCount_tblShadow (a n : Nat) : (s.latchCount a n).tblShadow = s.tblShadow := by simp [State.latchCount]
@[simp] theorem State.latchCount_nvm (a n : Nat) : (s.latchCount a n).nvm = s.nvm := by simp [State.latchCount]
@[simp] theorem State.latchCount_nvmDevice (a n : Nat) : (s.latchCount a n).nvmDevice = s.nvmDevice := by simp [State.latchCount]
@[simp] theorem State.latchCount_nvmTorn (a n : Nat) : (s.latchCount a n).nvmTorn = s.nvmTorn := by simp [State.latchCount]
@[simp] theorem State.latchCount_hpt (a n : Nat) : (s.latchCount a n).hpt = s.hpt := by simp [State.latchCount]
@[simp] theorem State.latchCount_seq (a n : Nat) : (s.latchCount a n).seq = s.seq := by simp [State.latchCount]
@[simp] theorem State.latchCount_evt (a n : Nat) : (s.latchCount a n).evt = s.evt := by simp [State.latchCount]
@[simp] theorem State.latchCount_mgt (a n : Nat) : (s.latchCount a n).mgt = s.mgt := by simp [State.latchCount]
@[simp] theorem State.latchCount_htm (a n : Nat) : (s.latchCount a n).htm = s.htm := by simp [State.latchCount]
@[simp] theorem State.latchCount_cfg (a n : Nat) : (s.latchCount a n).cfg = s.cfg := by simp [State.latchCount]
@[simp] theorem State.latchCount_pwr (a n : Nat) : (s.latchCount a n).pwr = s.pwr := by simp [State.latchCount]
@[simp] theorem State.latchCount_pil (a n : Nat) : (s.latchCount a n).pil = s.pil := by simp [State.latchCount]
@[simp] theorem State.latchCount_tg (a n : Nat) : (s.latchCount a n).tg = s.tg := by simp [State.latchCount]
@[simp] theorem State.latchCount_srf (a n : Nat) : (s.latchCount a n).srf = s.srf := by simp [State.latchCount]
@[simp] theorem State.latchCount_fst (a n : Nat) : (s.latchCount a n).fst = s.fst := by simp [State.latchCount]
@[simp] theorem State.latchCount_lns (a n : Nat) : (s.latchCount a n).lns = s.lns := by simp [State.latchCount]
@[simp] theorem State.latchCount_cpr (a n : Nat) : (s.latchCount a n).cpr = s.cpr := by simp [State.latchCount]
@[simp] theorem State.latchCount_cal (a n : Nat) : (s.latchCount a n).cal = s.cal := by simp [State.latchCount]
@[simp] theorem State.latchCount_fe (a n : Nat) : (s.latchCount a n).fe = s.fe := by simp [State.latchCount]
@[simp] theorem State.latchCount_spl (a n : Nat) : (s.latchCount a n).spl = s.spl := by simp [State.latchCount]
@[simp] theorem State.latchCount_pcm (a n : Nat) : (s.latchCount a n).pcm = s.pcm := by simp [State.latchCount]
@[simp] theorem State.latchCount_odr (a n : Nat) : (s.latchCount a n).odr = s.odr := by simp [State.latchCount]
@[simp] theorem State.latchCount_dth (a n : Nat) : (s.latchCount a n).dth = s.dth := by simp [State.latchCount]
@[simp] theorem State.latchCount_adl (a n : Nat) : (s.latchCount a n).adl = s.adl := by simp [State.latchCount]
@[simp] theorem State.latchCount_ble (a n : Nat) : (s.latchCount a n).ble = s.ble := by simp [State.latchCount]

/-! `State.cycle` -/

@[simp] theorem State.cycle_pending (b : Bool) : (s.cycle b).pending = s.pending := (rfl)
@[simp] theorem State.cycle_occ (b : Bool) : (s.cycle b).occ = s.occ := (rfl)
@[simp] theorem State.cycle_out (b : Bool) : (s.cycle b).out = s.out := (rfl)
@[simp] theorem State.cycle_now (b : Bool) : (s.cycle b).now = s.now := (rfl)
@[simp] theorem State.cycle_house (b : Bool) : (s.cycle b).house = s.house := (rfl)
@[simp] theorem State.cycle_freeCtr (b : Bool) : (s.cycle b).freeCtr = s.freeCtr := (rfl)
@[simp] theorem State.cycle_regs (b : Bool) : (s.cycle b).regs = s.regs := (rfl)
@[simp] theorem State.cycle_shadow (b : Bool) : (s.cycle b).shadow = s.shadow := (rfl)
@[simp] theorem State.cycle_tbl (b : Bool) : (s.cycle b).tbl = s.tbl := (rfl)
@[simp] theorem State.cycle_tblShadow (b : Bool) : (s.cycle b).tblShadow = s.tblShadow := (rfl)
@[simp] theorem State.cycle_nvm (b : Bool) : (s.cycle b).nvm = s.nvm := (rfl)
@[simp] theorem State.cycle_nvmDevice (b : Bool) : (s.cycle b).nvmDevice = s.nvmDevice := (rfl)
@[simp] theorem State.cycle_nvmTorn (b : Bool) : (s.cycle b).nvmTorn = s.nvmTorn := (rfl)
@[simp] theorem State.cycle_hpt (b : Bool) : (s.cycle b).hpt = s.hpt := (rfl)
@[simp] theorem State.cycle_seq (b : Bool) : (s.cycle b).seq = s.seq := (rfl)
@[simp] theorem State.cycle_evt (b : Bool) : (s.cycle b).evt = s.evt := (rfl)
@[simp] theorem State.cycle_mgt (b : Bool) : (s.cycle b).mgt = s.mgt := (rfl)
@[simp] theorem State.cycle_htm (b : Bool) : (s.cycle b).htm = s.htm := (rfl)
@[simp] theorem State.cycle_tal (b : Bool) : (s.cycle b).tal = s.tal := (rfl)
@[simp] theorem State.cycle_cfg (b : Bool) : (s.cycle b).cfg = s.cfg := (rfl)
@[simp] theorem State.cycle_pwr (b : Bool) : (s.cycle b).pwr = s.pwr := (rfl)
@[simp] theorem State.cycle_pil (b : Bool) : (s.cycle b).pil = s.pil := (rfl)
@[simp] theorem State.cycle_tg (b : Bool) : (s.cycle b).tg = s.tg := (rfl)
@[simp] theorem State.cycle_srf (b : Bool) : (s.cycle b).srf = s.srf := (rfl)
@[simp] theorem State.cycle_fst (b : Bool) : (s.cycle b).fst = s.fst := (rfl)
@[simp] theorem State.cycle_lns (b : Bool) : (s.cycle b).lns = s.lns := (rfl)
@[simp] theorem State.cycle_cpr (b : Bool) : (s.cycle b).cpr = s.cpr := (rfl)
@[simp] theorem State.cycle_cal (b : Bool) : (s.cycle b).cal = s.cal := (rfl)
@[simp] theorem State.cycle_fe (b : Bool) : (s.cycle b).fe = s.fe := (rfl)
@[simp] theorem State.cycle_spl (b : Bool) : (s.cycle b).spl = s.spl := (rfl)
@[simp] theorem State.cycle_pcm (b : Bool) : (s.cycle b).pcm = s.pcm := (rfl)
@[simp] theorem State.cycle_odr (b : Bool) : (s.cycle b).odr = s.odr := (rfl)
@[simp] theorem State.cycle_dth (b : Bool) : (s.cycle b).dth = s.dth := (rfl)
@[simp] theorem State.cycle_adl (b : Bool) : (s.cycle b).adl = s.adl := (rfl)
@[simp] theorem State.cycle_ble (b : Bool) : (s.cycle b).ble = s.ble := (rfl)

/-! `State.advanceTo` -/

@[simp] theorem State.advanceTo_pending (t : Nat) : (s.advanceTo t).pending = s.pending := by unfold State.advanceTo; split <;> rfl
@[simp] theorem State.advanceTo_occ (t : Nat) : (s.advanceTo t).occ = s.occ := by unfold State.advanceTo; split <;> rfl
@[simp] theorem State.advanceTo_out (t : Nat) : (s.advanceTo t).out = s.out := by unfold State.advanceTo; split <;> rfl
@[simp] theorem State.advanceTo_freeCtr (t : Nat) : (s.advanceTo t).freeCtr = s.freeCtr := by unfold State.advanceTo; split <;> rfl
@[simp] theorem State.advanceTo_sameCycle (t : Nat) : (s.advanceTo t).sameCycle = s.sameCycle := by unfold State.advanceTo; split <;> rfl
@[simp] theorem State.advanceTo_regs (t : Nat) : (s.advanceTo t).regs = s.regs := by unfold State.advanceTo; split <;> rfl
@[simp] theorem State.advanceTo_shadow (t : Nat) : (s.advanceTo t).shadow = s.shadow := by unfold State.advanceTo; split <;> rfl
@[simp] theorem State.advanceTo_tbl (t : Nat) : (s.advanceTo t).tbl = s.tbl := by unfold State.advanceTo; split <;> rfl
@[simp] theorem State.advanceTo_tblShadow (t : Nat) : (s.advanceTo t).tblShadow = s.tblShadow := by unfold State.advanceTo; split <;> rfl
@[simp] theorem State.advanceTo_nvm (t : Nat) : (s.advanceTo t).nvm = s.nvm := by unfold State.advanceTo; split <;> rfl
@[simp] theorem State.advanceTo_nvmDevice (t : Nat) : (s.advanceTo t).nvmDevice = s.nvmDevice := by unfold State.advanceTo; split <;> rfl
@[simp] theorem State.advanceTo_nvmTorn (t : Nat) : (s.advanceTo t).nvmTorn = s.nvmTorn := by unfold State.advanceTo; split <;> rfl
@[simp] theorem State.advanceTo_hpt (t : Nat) : (s.advanceTo t).hpt = s.hpt := by unfold State.advanceTo; split <;> rfl
@[simp] theorem State.advanceTo_seq (t : Nat) : (s.advanceTo t).seq = s.seq := by unfold State.advanceTo; split <;> rfl
@[simp] theorem State.advanceTo_evt (t : Nat) : (s.advanceTo t).evt = s.evt := by unfold State.advanceTo; split <;> rfl
@[simp] theorem State.advanceTo_mgt (t : Nat) : (s.advanceTo t).mgt = s.mgt := by unfold State.advanceTo; split <;> rfl
@[simp] theorem State.advanceTo_htm (t : Nat) : (s.advanceTo t).htm = s.htm := by unfold State.advanceTo; split <;> rfl
@[simp] theorem State.advanceTo_tal (t : Nat) : (s.advanceTo t).tal = s.tal := by unfold State.advanceTo; split <;> rfl
@[simp] theorem State.advanceTo_cfg (t : Nat) : (s.advanceTo t).cfg = s.cfg := by unfold State.advanceTo; split <;> rfl
@[simp] theorem State.advanceTo_pwr (t : Nat) : (s.advanceTo t).pwr = s.pwr := by unfold State.advanceTo; split <;> rfl
@[simp] theorem State.advanceTo_pil (t : Nat) : (s.advanceTo t).pil = s.pil := by unfold State.advanceTo; split <;> rfl
@[simp] theorem State.advanceTo_tg (t : Nat) : (s.advanceTo t).tg = s.tg := by unfold State.advanceTo; split <;> rfl
@[simp] theorem State.advanceTo_srf (t : Nat) : (s.advanceTo t).srf = s.srf := by unfold State.advanceTo; split <;> rfl
@[simp] theorem State.advanceTo_fst (t : Nat) : (s.advanceTo t).fst = s.fst := by unfold State.advanceTo; split <;> rfl
@[simp] theorem State.advanceTo_lns (t : Nat) : (s.advanceTo t).lns = s.lns := by unfold State.advanceTo; split <;> rfl
@[simp] theorem State.advanceTo_cpr (t : Nat) : (s.advanceTo t).cpr = s.cpr := by unfold State.advanceTo; split <;> rfl
@[simp] theorem State.advanceTo_cal (t : Nat) : (s.advanceTo t).cal = s.cal := by unfold State.advanceTo; split <;> rfl
@[simp] theorem State.advanceTo_fe (t : Nat) : (s.advanceTo t).fe = s.fe := by unfold State.advanceTo; split <;> rfl
@[simp] theorem State.advanceTo_spl (t : Nat) : (s.advanceTo t).spl = s.spl := by unfold State.advanceTo; split <;> rfl
@[simp] theorem State.advanceTo_pcm (t : Nat) : (s.advanceTo t).pcm = s.pcm := by unfold State.advanceTo; split <;> rfl
@[simp] theorem State.advanceTo_odr (t : Nat) : (s.advanceTo t).odr = s.odr := by unfold State.advanceTo; split <;> rfl
@[simp] theorem State.advanceTo_dth (t : Nat) : (s.advanceTo t).dth = s.dth := by unfold State.advanceTo; split <;> rfl
@[simp] theorem State.advanceTo_adl (t : Nat) : (s.advanceTo t).adl = s.adl := by unfold State.advanceTo; split <;> rfl
@[simp] theorem State.advanceTo_ble (t : Nat) : (s.advanceTo t).ble = s.ble := by unfold State.advanceTo; split <;> rfl

end Sys2Proof.Machine
end

