-- ==== Sys2Proof/Laws/Deliver.lean ====
section
/-! SUPPORT. What the end of a command does: delivering its occurrences changes event routing, tallies, the lifetime log's
working record and the core's recoveries, and nothing else. -/

namespace Sys2Proof.Laws

open Sys2Proof.Machine

/-- Two states that differ at most in the event unit, the tallies, the core's state and the occurrences. -/
def SameBut (s t : State) : Prop := t = { s with evt := t.evt, tal := t.tal, mgt := t.mgt, occ := t.occ }

theorem SameBut.rfl' (s : State) : SameBut s s := rfl

theorem SameBut.trans {s t u : State} (h : SameBut s t) (k : SameBut t u) : SameBut s u := by
  unfold SameBut at *
  rw [k, h]

theorem sameBut_each {α : Type} (l : List α) (f : State → α → State) (h : ∀ s x, SameBut s (f s x)) : ∀ s : State, SameBut s (s.each l f) := by
  induction l with
  | nil => intro s; rfl
  | cons x l ih => intro s; exact (h s x).trans (ih (f s x))

theorem sameBut_talDefer (s : State) : SameBut s s.talDefer := rfl

theorem sameBut_tal (s : State) (x : TalState) : SameBut s { s with tal := x } := rfl

theorem sameBut_talDefer_of {s t : State} (h : SameBut s t) : SameBut s t.talDefer := h.trans (sameBut_talDefer t)

theorem sameBut_ite {s a b : State} (c : Bool) (h : SameBut s a) (k : SameBut s b) : SameBut s (if c then a else b) := by
  cases c <;> assumption

theorem sameBut_talRequest (s : State) (k : Nat) : SameBut s (s.talRequest k) := by
  unfold State.talRequest
  exact sameBut_ite _ (sameBut_talDefer_of (sameBut_tal s _)) (sameBut_tal s _)

theorem sameBut_talHeader (s : State) (b o v : Nat) : SameBut s (s.talHeader b o v) := rfl

theorem sameBut_raise (s : State) (k c : Nat) : SameBut s (s.raise k c) := rfl

theorem sameBut_talCopyUnit (s : State) (f : TallyFill) (c : SMap Nat) (b : Bool) (u : TalUnit) : SameBut s (s.talCopyUnit f c b u) := by
  unfold State.talCopyUnit
  exact sameBut_tal s _

theorem sameBut_talCopy (s : State) (g : Nat) (c : SMap Nat) (b : Bool) : SameBut s (s.talCopy g c b) := by
  unfold State.talCopy
  split
  · rfl
  split
  · rfl
  · exact (sameBut_each _ _ (fun t u => sameBut_talCopyUnit t _ _ _ u) _).trans (sameBut_tal _ _)

theorem sameBut_talPublish (s : State) : SameBut s s.talPublish := by
  unfold State.talPublish
  split
  · rfl
  · split
    · rfl
    · refine SameBut.trans ?_ (sameBut_raise _ _ _)
      refine SameBut.trans ?_ (sameBut_tal _ _)
      refine SameBut.trans ?_ (sameBut_talHeader _ _ _ _)
      refine SameBut.trans ?_ (sameBut_talHeader _ _ _ _)
      refine SameBut.trans ?_ (sameBut_talHeader _ _ _ _)
      refine SameBut.trans ?_ (sameBut_talHeader _ _ _ _)
      refine SameBut.trans ?_ (sameBut_talHeader _ _ _ _)
      exact sameBut_talHeader _ _ _ _

theorem sameBut_talEarly (s : State) (cut g : Nat) : SameBut s (s.talEarly cut g) := by
  unfold State.talEarly
  split
  · split
    · exact sameBut_talCopy _ _ _ _
    · rfl
  · rfl

theorem sameBut_talAll (s : State) : SameBut s s.talAll :=
  (sameBut_each _ _ (fun t g => sameBut_talCopy t g (t.talLive g) true) s).trans (sameBut_talPublish _)

theorem sameBut_talAtCut (s : State) (cut : Nat) : SameBut s (s.talAtCut cut) := by
  unfold State.talAtCut
  refine SameBut.trans ?_ (sameBut_talPublish _)
  refine SameBut.trans ?_ (sameBut_talEarly _ _ _)
  refine SameBut.trans ?_ (sameBut_talEarly _ _ _)
  refine SameBut.trans ?_ (sameBut_talEarly _ _ _)
  exact (sameBut_talCopy _ _ _ _).trans (sameBut_talCopy _ _ _ _)

theorem sameBut_talOpen (s : State) (r : TallyReq) (cut : Nat) (b : Bool) : SameBut s (s.talOpen r cut b) :=
  (sameBut_tal s _).trans (sameBut_talHeader _ _ _ _)

/-- A tally's cut changes the tallies and raises at most its own events. -/
theorem sameBut_talCut (s : State) (cut : Nat) (stopped : Bool) : SameBut s (s.talCut cut stopped) := by
  unfold State.talCut
  split
  · rfl
  · split
    · rfl
    · split
      · split
        · rfl
        · exact sameBut_talDefer s
      · split
        · exact (sameBut_talOpen _ _ _ _).trans (sameBut_talAll _)
        · exact (sameBut_talOpen _ _ _ _).trans (sameBut_talAtCut _ _)

theorem sameBut_talTrigger (s : State) : SameBut s s.talTrigger := by
  unfold State.talTrigger
  dsimp only
  split
  · rfl
  · generalize s.occ.filter _ = l
    refine (sameBut_each l (fun t _ => t.talRequest 2) (fun t _ => sameBut_talRequest t 2) s).trans ?_
    unfold State.talStoppedCut
    split
    · rfl
    · exact sameBut_talCut _ _ _

theorem sameBut_learn (s : State) (g k c : Nat) : SameBut s (s.learn g k c) := by
  unfold State.learn
  dsimp only
  split
  · rfl
  · split
    · split <;> rfl
    · rfl

theorem sameBut_planOne (s : State) : SameBut s s.planOne := by
  unfold State.planOne
  split <;> rfl

theorem sameBut_evtCount (s : State) (n k : Nat) : SameBut s (s.evtCount n k) := by
  unfold State.evtCount
  split <;> rfl

theorem sameBut_setTarget (s : State) (n : Nat) (t : EvtTarget) : SameBut s (s.setTarget n t) := rfl

theorem sameBut_occur (s : State) (k c : Nat) : SameBut s (s.occur k c) := by
  unfold State.occur
  split
  · rfl
  · exact (sameBut_setTarget _ _ _).trans (sameBut_evtCount _ _ _)

theorem sameBut_report (s : State) (g : Nat) (o : Occ) : SameBut s (s.report g o) := by
  unfold State.report
  exact (show SameBut s (s.logAdd (704 + 4 * o.cls) 1) from rfl).trans ((sameBut_learn _ _ _ _).trans (sameBut_occur _ _ _))

/-- The end of a command changes nothing but event routing, tallies, the core's recoveries and the occurrences. -/
theorem sameBut_deliver (s : State) : SameBut s s.deliver := by
  unfold State.deliver
  refine (sameBut_talTrigger s).trans (SameBut.trans (t := { s.talTrigger with occ := [] }) rfl ?_)
  exact (sameBut_each _ _ (fun s o => sameBut_report s _ o) _).trans (sameBut_planOne _)

theorem sameBut_settle (s : State) : SameBut s s.settle := sameBut_each _ _ (fun _ _ => sameBut_setTarget _ _ _) _

/-- A well-formed command goes on. -/
theorem checked_next {i : Instr} (h : i.wellFormed = true) (s : State) (eff : State → State) :
    checked i s eff = .next { (eff { s with occ := [], out := [], sameCycle := false }).deliver.settle with pending := s.pending, sameCycle := false } := by
  simp [checked, h]

/-- An ill-formed command is refused, and only such a one is. -/
theorem checked_refused {i : Instr} (h : i.wellFormed = false) (s : State) (eff : State → State) :
    checked i s eff = .refused .illFormed := by simp [checked, h]

end Sys2Proof.Laws
end

