-- ==== Sys2Proof/Laws/Maps.lean ====
section
/-! SUPPORT. The laws of the sparse maps: what a read after a write gives, and that every operation keeps the canonical form. -/

namespace Sys2Proof.Laws

open Sys2Proof.Machine

variable {α : Type}

/-! ### Reads after writes -/

theorem mfind_merase_self (m : SMap α) (a : Nat) : mfind (merase m a) a = none := by
  induction m with
  | nil => rfl
  | cons e m ih =>
    obtain ⟨k, v⟩ := e
    by_cases h : k = a
    · subst h; simpa [merase] using ih
    · have h' : a ≠ k := fun e => h e.symm
      simp [merase, h, mfind, h'] at ih ⊢
      exact ih

theorem mfind_merase_ne (m : SMap α) {a b : Nat} (h : b ≠ a) : mfind (merase m a) b = mfind m b := by
  induction m with
  | nil => rfl
  | cons e m ih =>
    obtain ⟨k, v⟩ := e
    by_cases hk : k = a
    · subst hk
      simp [merase, mfind, h] at ih ⊢
      exact ih
    · simp [merase, hk, mfind] at ih ⊢
      rw [ih]

theorem mfind_mins_self (m : SMap α) (a : Nat) (v : α) (h : mfind m a = none) : mfind (mins m a v) a = some v := by
  induction m with
  | nil => simp [mins, mfind]
  | cons e m ih =>
    obtain ⟨k, w⟩ := e
    have hk : a ≠ k := by
      intro e; subst e; simp [mfind] at h
    have h' : mfind m a = none := by simpa [mfind, hk] using h
    by_cases hl : a < k
    · simp [mins, hl, mfind]
    · simp [mins, hl, mfind, hk, ih h']

theorem mfind_mins_ne (m : SMap α) {a b : Nat} (v : α) (h : b ≠ a) : mfind (mins m a v) b = mfind m b := by
  induction m with
  | nil => simp [mins, mfind, h]
  | cons e m ih =>
    obtain ⟨k, w⟩ := e
    by_cases hl : a < k
    · simp [mins, hl, mfind, h]
    · simp [mins, hl, mfind, ih]

@[simp] theorem mfind_mput_self (m : SMap α) (a : Nat) (v : α) : mfind (mput m a v) a = some v :=
  mfind_mins_self _ _ _ (mfind_merase_self _ _)

theorem mfind_mput_ne (m : SMap α) {a b : Nat} (v : α) (h : b ≠ a) : mfind (mput m a v) b = mfind m b := by
  rw [mput, mfind_mins_ne _ _ h, mfind_merase_ne _ h]

@[simp] theorem mget_mput_self (d : α) (m : SMap α) (a : Nat) (v : α) : mget d (mput m a v) a = v := by simp [mget]

theorem mget_mput_ne (d : α) (m : SMap α) {a b : Nat} (v : α) (h : b ≠ a) : mget d (mput m a v) b = mget d m b := by
  simp [mget, mfind_mput_ne m v h]

@[simp] theorem mget_nil (d : α) (a : Nat) : mget d ([] : SMap α) a = d := rfl

variable [DecidableEq α]

@[simp] theorem mget_mset_self (d : α) (m : SMap α) (a : Nat) (v : α) : mget d (mset d m a v) a = v := by
  unfold mset
  split
  · next h => subst h; simp [mget, mfind_merase_self]
  · simp

theorem mget_mset_ne (d : α) (m : SMap α) {a b : Nat} (v : α) (h : b ≠ a) : mget d (mset d m a v) b = mget d m b := by
  unfold mset
  split
  · simp [mget, mfind_merase_ne m h]
  · exact mget_mput_ne d m v h

/-! ### The canonical form -/

/-- Every key of a map lies above a bound. -/
def above (n : Nat) (m : SMap α) : Prop := ∀ e ∈ m, n < e.1

theorem mwf_cons (d : α) (k : Nat) (v : α) (m : SMap α) :
    mwf d ((k, v) :: m) = true ↔ v ≠ d ∧ above k m ∧ mwf d m = true := by
  simp [mwf, above, and_assoc]

theorem mwf_filter (d : α) (m : SMap α) (p : Nat × α → Bool) (h : mwf d m = true) : mwf d (m.filter p) = true := by
  induction m with
  | nil => rfl
  | cons e m ih =>
    obtain ⟨k, v⟩ := e
    rw [mwf_cons] at h
    by_cases hp : p (k, v) = true
    · rw [List.filter_cons_of_pos hp, mwf_cons]
      exact ⟨h.1, fun e he => h.2.1 e (List.mem_of_mem_filter he), ih h.2.2⟩
    · rw [List.filter_cons_of_neg hp]
      exact ih h.2.2

theorem mwf_merase (d : α) (m : SMap α) (a : Nat) (h : mwf d m = true) : mwf d (merase m a) = true := mwf_filter d m _ h

omit [DecidableEq α] in
theorem above_mins {n : Nat} {m : SMap α} {a : Nat} {v : α} (hm : above n m) (ha : n < a) : above n (mins m a v) := by
  induction m with
  | nil => intro e he; simp [mins] at he; subst he; exact ha
  | cons x m ih =>
    obtain ⟨k, w⟩ := x
    intro e he
    by_cases hl : a < k
    · simp [mins, hl] at he
      rcases he with rfl | rfl | he
      · exact ha
      · exact hm _ (by simp)
      · exact hm _ (by simp [he])
    · simp [mins, hl] at he
      rcases he with rfl | he
      · exact hm _ (by simp)
      · exact ih (fun y hy => hm y (by simp [hy])) e he

theorem mwf_mins (d : α) (m : SMap α) (a : Nat) (v : α) (h : mwf d m = true) (hv : v ≠ d) (ha : ∀ e ∈ m, e.1 ≠ a) :
    mwf d (mins m a v) = true := by
  induction m with
  | nil => simp [mins, mwf, hv]
  | cons x m ih =>
    obtain ⟨k, w⟩ := x
    have h' := (mwf_cons d k w m).1 h
    by_cases hl : a < k
    · simp only [mins, hl, if_true]
      rw [mwf_cons]
      refine ⟨hv, ?_, h⟩
      intro e he
      simp only [List.mem_cons] at he
      rcases he with rfl | he
      · exact hl
      · exact Nat.lt_trans hl (h'.2.1 e he)
    · simp only [mins, hl, if_false]
      rw [mwf_cons]
      have hk : k ≠ a := ha (k, w) (by simp)
      have hk' : k < a := Nat.lt_of_le_of_ne (Nat.le_of_not_lt hl) hk
      exact ⟨h'.1, above_mins h'.2.1 hk', ih h'.2.2 fun e he => ha e (by simp [he])⟩

theorem mwf_mput (d : α) (m : SMap α) (a : Nat) (v : α) (h : mwf d m = true) (hv : v ≠ d) : mwf d (mput m a v) = true := by
  refine mwf_mins d _ a v (mwf_merase d m a h) hv ?_
  intro e he
  simpa [merase] using (List.mem_filter.1 he).2

theorem mwf_mset (d : α) (m : SMap α) (a : Nat) (v : α) (h : mwf d m = true) : mwf d (mset d m a v) = true := by
  unfold mset
  split
  · exact mwf_merase d m a h
  · next hv => exact mwf_mput d m a v h hv

theorem mwf_mupd (d : α) (m : SMap α) (a : Nat) (f : α → α) (h : mwf d m = true) : mwf d (mupd d m a f) = true := mwf_mset d m a _ h

/-- Two canonical maps that read alike are the same list. -/
theorem mwf_ext (d : α) (m n : SMap α) (hm : mwf d m = true) (hn : mwf d n = true) (h : ∀ a, mget d m a = mget d n a) : m = n := by
  have low : ∀ (k : Nat) (m : SMap α), above k m → ∀ a ≤ k, mget d m a = d := by
    intro k m hk a ha
    induction m with
    | nil => rfl
    | cons x m ih =>
      obtain ⟨j, w⟩ := x
      have hj : k < j := hk (j, w) (by simp)
      have : a ≠ j := by omega
      simpa [mget, mfind, this] using ih fun y hy => hk y (by simp [hy])
  induction m generalizing n with
  | nil =>
    cases n with
    | nil => rfl
    | cons y n =>
      obtain ⟨j, w⟩ := y
      have hw := ((mwf_cons d j w n).1 hn).1
      exact absurd (by simpa [mget, mfind] using (h j).symm) hw
  | cons x m ih =>
    obtain ⟨k, v⟩ := x
    have hm' := (mwf_cons d k v m).1 hm
    cases n with
    | nil => exact absurd (by simpa [mget, mfind] using h k) hm'.1
    | cons y n =>
      obtain ⟨j, w⟩ := y
      have hn' := (mwf_cons d j w n).1 hn
      have hkj : k = j := by
        rcases Nat.lt_trichotomy k j with hl | he | hl
        · have e1 : mget d ((k, v) :: m) k = v := by simp [mget, mfind]
          have e2 : mget d ((j, w) :: n) k = d := by
            have hne : k ≠ j := by omega
            have := low j n hn'.2.1 k (by omega)
            simpa [mget, mfind, hne] using this
          exact absurd (by rw [← e1, h k, e2]) hm'.1
        · exact he
        · have e1 : mget d ((j, w) :: n) j = w := by simp [mget, mfind]
          have e2 : mget d ((k, v) :: m) j = d := by
            have hne : j ≠ k := by omega
            have := low k m hm'.2.1 j (by omega)
            simpa [mget, mfind, hne] using this
          exact absurd (by rw [← e1, ← h j, e2]) hn'.1
      subst hkj
      have hvw : v = w := by simpa [mget, mfind] using h k
      subst hvw
      congr 1
      refine ih n hm'.2.2 hn'.2.2 ?_
      intro a
      by_cases ha : a ≤ k
      · rw [low k m hm'.2.1 a ha, low k n hn'.2.1 a ha]
      · have hne : a ≠ k := by omega
        simpa [mget, mfind, hne] using h a

/-! ### Memories -/

theorem wf_memSet (m : List Host.Cell) (a : Nat) (b : Byte) (h : Memory.wf 0 m) : Memory.wf 0 (memSet m a b) := mwf_mset 0 m a b h

theorem wf_memWrite (bs : List Byte) : ∀ (m : List Host.Cell) (a : Nat), Memory.wf 0 m → Memory.wf 0 (memWrite m a bs) := by
  induction bs with
  | nil => intro m a h; exact h
  | cons b bs ih => intro m a h; exact ih _ _ (wf_memSet m a b h)

theorem wf_memClear (m : List Host.Cell) (lo hi : Nat) (h : Memory.wf 0 m) : Memory.wf 0 (memClear m lo hi) := mwf_filter 0 m _ h

theorem wf_nvWrite (bs : List Byte) : ∀ (m : List Host.Cell) (a : Nat), Memory.wf 0xFF m → Memory.wf 0xFF (nvWrite m a bs) := by
  induction bs with
  | nil => intro m a h; exact h
  | cons b bs ih => intro m a h; exact ih _ _ (mwf_mset 0xFF m a b h)

/-- A byte outside the bytes written reads as before. -/
theorem memByte_memWrite_outside (bs : List Byte) : ∀ (m : List Host.Cell) (a x : Nat), x < a ∨ a + bs.length ≤ x →
    memByte (memWrite m a bs) x = memByte m x := by
  induction bs with
  | nil => intro m a x _; rfl
  | cons b bs ih =>
    intro m a x h
    simp only [List.length_cons] at h
    rw [memWrite, ih _ _ _ (by omega)]
    exact mget_mset_ne 0 m b (by omega)

/-- A byte written reads as written. -/
theorem memByte_memWrite_inside (bs : List Byte) : ∀ (m : List Host.Cell) (a i : Nat) (h : i < bs.length),
    memByte (memWrite m a bs) (a + i) = bs[i] := by
  induction bs with
  | nil => intro m a i h; simp at h
  | cons b bs ih =>
    intro m a i h
    cases i with
    | zero =>
      rw [memWrite, Nat.add_zero, memByte_memWrite_outside _ _ _ _ (by omega)]
      exact mget_mset_self 0 m a b
    | succ i =>
      have := ih (memSet m a b) (a + 1) i (by simpa using h)
      rw [memWrite]
      simpa [Nat.add_assoc, Nat.add_comm 1 i] using this

end Sys2Proof.Laws
end

