-- ==== Sys2Proof/Laws/Fields.lean ====
section
/-! SUPPORT. What a register and a field read after a write. -/

namespace Sys2Proof.Laws

open Sys2Proof.Machine

/-- A register written reads its new value, 32 bits. -/
@[simp] theorem reg_setReg_self (s : State) (a v : Nat) : (s.setReg a v).reg a = v % 2 ^ 32 := by
  unfold State.setReg State.reg
  by_cases h : v % 2 ^ 32 = resetOf a
  · simp only [h, if_true, mfind_merase_self]
  · simp only [h, if_false, mfind_mput_self, BitVec.toNat_ofNat]

/-- Another register reads as before. -/
theorem reg_setReg_ne (s : State) {a b : Nat} (v : Nat) (h : b ≠ a) : (s.setReg a v).reg b = s.reg b := by
  unfold State.setReg State.reg
  by_cases hv : v % 2 ^ 32 = resetOf a
  · simp only [hv, if_true, mfind_merase_ne s.regs h]
  · simp only [hv, if_false, mfind_mput_ne s.regs _ h]

/-- Two states with the same registers read alike. -/
theorem reg_congr {s t : State} (h : s.regs = t.regs) (a : Nat) : s.reg a = t.reg a := by simp [State.reg, h]

/-- Two states with the same registers have the same fields. -/
theorem get_congr {s t : State} (h : s.regs = t.regs) (f : FRef) : s.get f = t.get f := by simp [State.get, reg_congr h]

/-- Two states with the same registers have the same flags. -/
theorem flag_congr {s t : State} (h : s.regs = t.regs) (f : FRef) : s.flag f = t.flag f := by simp [State.flag, get_congr h]

theorem bits_putBits_self (w hi lo v : Nat) (h : lo ≤ hi) : bits (putBits w hi lo v) hi lo = v % 2 ^ (hi + 1 - lo) := by
  unfold bits putBits
  have e : 2 ^ (hi + 1) = 2 ^ (hi + 1 - lo) * 2 ^ lo := by rw [← Nat.pow_add]; congr 1; omega
  have hp : 0 < 2 ^ lo := by positivity
  rw [e, show w / (2 ^ (hi + 1 - lo) * 2 ^ lo) * (2 ^ (hi + 1 - lo) * 2 ^ lo) + v % 2 ^ (hi + 1 - lo) * 2 ^ lo + w % 2 ^ lo
        = w % 2 ^ lo + (w / (2 ^ (hi + 1 - lo) * 2 ^ lo) * 2 ^ (hi + 1 - lo) + v % 2 ^ (hi + 1 - lo)) * 2 ^ lo by ring]
  rw [Nat.add_mul_div_right _ _ hp, Nat.div_eq_of_lt (Nat.mod_lt _ hp), Nat.zero_add, Nat.mul_add_mod_of_lt]
  exact Nat.mod_lt _ (by positivity)

theorem putBits_lt (w hi lo v : Nat) (h : lo ≤ hi) (hh : hi < 32) (hw : w < 2 ^ 32) : putBits w hi lo v < 2 ^ 32 := by
  unfold putBits
  have e : 2 ^ (hi + 1) = 2 ^ (hi + 1 - lo) * 2 ^ lo := by rw [← Nat.pow_add]; congr 1; omega
  have e2 : 2 ^ 32 = 2 ^ (32 - (hi + 1)) * 2 ^ (hi + 1) := by rw [← Nat.pow_add]; congr 1; omega
  have h1 : v % 2 ^ (hi + 1 - lo) * 2 ^ lo + w % 2 ^ lo < 2 ^ (hi + 1) := by
    have a1 : v % 2 ^ (hi + 1 - lo) < 2 ^ (hi + 1 - lo) := Nat.mod_lt _ (by positivity)
    have a2 : w % 2 ^ lo < 2 ^ lo := Nat.mod_lt _ (by positivity)
    rw [e]
    calc v % 2 ^ (hi + 1 - lo) * 2 ^ lo + w % 2 ^ lo < v % 2 ^ (hi + 1 - lo) * 2 ^ lo + 2 ^ lo := by omega
      _ = (v % 2 ^ (hi + 1 - lo) + 1) * 2 ^ lo := by ring
      _ ≤ 2 ^ (hi + 1 - lo) * 2 ^ lo := Nat.mul_le_mul_right _ a1
  have h2 : w / 2 ^ (hi + 1) < 2 ^ (32 - (hi + 1)) := by
    rw [Nat.div_lt_iff_lt_mul (by positivity), ← e2]; exact hw
  calc w / 2 ^ (hi + 1) * 2 ^ (hi + 1) + v % 2 ^ (hi + 1 - lo) * 2 ^ lo + w % 2 ^ lo
      < w / 2 ^ (hi + 1) * 2 ^ (hi + 1) + 2 ^ (hi + 1) := by omega
    _ = (w / 2 ^ (hi + 1) + 1) * 2 ^ (hi + 1) := by ring
    _ ≤ 2 ^ (32 - (hi + 1)) * 2 ^ (hi + 1) := Nat.mul_le_mul_right _ h2
    _ = 2 ^ 32 := e2.symm

/-- Bits that lie wholly outside the bits replaced are unchanged. -/
theorem bits_putBits_disjoint (w hi lo v hi' lo' : Nat) (h : lo ≤ hi) (h' : lo' ≤ hi') (hd : hi < lo' ∨ hi' < lo) :
    bits (putBits w hi lo v) hi' lo' = bits w hi' lo' := by
  have tb (x n : Nat) (b i : Nat) : (x / 2 ^ b % 2 ^ n).testBit i = (decide (i < n) && x.testBit (b + i)) := by
    rw [Nat.testBit_mod_two_pow, Nat.testBit_div_two_pow]; simp [Nat.add_comm]
  have e : 2 ^ (hi + 1) = 2 ^ (hi + 1 - lo) * 2 ^ lo := by rw [← Nat.pow_add]; congr 1; omega
  rcases hd with hd | hd
  · -- above the field: the quotient by 2^(hi+1) is unchanged
    have hlt : v % 2 ^ (hi + 1 - lo) * 2 ^ lo + w % 2 ^ lo < 2 ^ (hi + 1) := by
      have a1 : v % 2 ^ (hi + 1 - lo) < 2 ^ (hi + 1 - lo) := Nat.mod_lt _ (by positivity)
      have a2 : w % 2 ^ lo < 2 ^ lo := Nat.mod_lt _ (by positivity)
      rw [e]
      calc v % 2 ^ (hi + 1 - lo) * 2 ^ lo + w % 2 ^ lo < v % 2 ^ (hi + 1 - lo) * 2 ^ lo + 2 ^ lo := by omega
        _ = (v % 2 ^ (hi + 1 - lo) + 1) * 2 ^ lo := by ring
        _ ≤ 2 ^ (hi + 1 - lo) * 2 ^ lo := Nat.mul_le_mul_right _ a1
    have hq : putBits w hi lo v / 2 ^ (hi + 1) = w / 2 ^ (hi + 1) := by
      unfold putBits
      rw [Nat.add_assoc, Nat.add_comm, Nat.add_mul_div_right _ _ (by positivity), Nat.div_eq_of_lt hlt, Nat.zero_add]
    have e3 : 2 ^ lo' = 2 ^ (hi + 1) * 2 ^ (lo' - (hi + 1)) := by rw [← Nat.pow_add]; congr 1; omega
    unfold bits
    rw [e3, ← Nat.div_div_eq_div_mul, ← Nat.div_div_eq_div_mul, hq]
  · -- below the field: the residue modulo 2^lo is unchanged
    have hr : putBits w hi lo v % 2 ^ lo = w % 2 ^ lo := by
      unfold putBits
      rw [e, show w / (2 ^ (hi + 1 - lo) * 2 ^ lo) * (2 ^ (hi + 1 - lo) * 2 ^ lo) + v % 2 ^ (hi + 1 - lo) * 2 ^ lo + w % 2 ^ lo
        = w % 2 ^ lo + 2 ^ lo * (w / (2 ^ (hi + 1 - lo) * 2 ^ lo) * 2 ^ (hi + 1 - lo) + v % 2 ^ (hi + 1 - lo)) by ring]
      rw [Nat.add_mul_mod_self_left, Nat.mod_mod]
    have key (x : Nat) : bits x hi' lo' = bits (x % 2 ^ lo) hi' lo' := by
      apply Nat.eq_of_testBit_eq
      intro i
      unfold bits
      rw [tb, tb, Nat.testBit_mod_two_pow]
      by_cases hi1 : i < hi' + 1 - lo'
      · have : lo' + i < lo := by omega
        simp [hi1, this]
      · simp [hi1]
    rw [key (putBits w hi lo v), hr, ← key]

/-- A register is below 2^32 once it is written; `reg` of a listed register always is. -/
theorem reg_setReg_lt (s : State) (a v : Nat) : (s.setReg a v).reg a < 2 ^ 32 := by
  rw [reg_setReg_self]; exact Nat.mod_lt _ (by positivity)

theorem bits_mod (w hi lo : Nat) (hh : hi < 32) : bits (w % 2 ^ 32) hi lo = bits w hi lo := by
  apply Nat.eq_of_testBit_eq
  intro i
  unfold bits
  rw [Nat.testBit_mod_two_pow, Nat.testBit_div_two_pow, Nat.testBit_mod_two_pow, Nat.testBit_mod_two_pow, Nat.testBit_div_two_pow]
  by_cases h : i < hi + 1 - lo
  · have : i + lo < 32 := by omega
    simp [h, this]
  · simp [h]

/-- A field written reads its new value. -/
theorem get_put_self (s : State) (f : FRef) (v : Nat) (h : f.lo ≤ f.hi) (hh : f.hi < 32) :
    (s.put f v).get f = v % 2 ^ (f.hi + 1 - f.lo) := by
  unfold State.get State.put
  rw [reg_setReg_self, bits_mod _ _ _ hh, bits_putBits_self _ _ _ _ h]

/-- A field of another register reads as before. -/
theorem get_put_ne (s : State) (f g : FRef) (v : Nat) (h : g.addr ≠ f.addr) : (s.put f v).get g = s.get g := by
  unfold State.get State.put
  rw [reg_setReg_ne _ _ h]

/-- A field of the same register that shares no bit with the one written reads as before. -/
theorem get_put_disjoint (s : State) (f g : FRef) (v : Nat) (h : f.lo ≤ f.hi) (hg : g.lo ≤ g.hi) (hh : g.hi < 32)
    (hd : f.hi < g.lo ∨ g.hi < f.lo) : (s.put f v).get g = s.get g := by
  by_cases ha : g.addr = f.addr
  · unfold State.get State.put
    rw [ha, reg_setReg_self, bits_mod _ _ _ hh, bits_putBits_disjoint _ _ _ _ _ _ h hg hd]
  · exact get_put_ne s f g v ha

theorem flag_putB_self (s : State) (f : FRef) (b : Bool) (h : f.lo ≤ f.hi) (hh : f.hi < 32) : (s.putB f b).flag f = b := by
  unfold State.flag State.putB
  rw [get_put_self _ _ _ h hh]
  have h2 : 2 ≤ 2 ^ (f.hi + 1 - f.lo) := by
    calc 2 = 2 ^ 1 := rfl
      _ ≤ 2 ^ (f.hi + 1 - f.lo) := Nat.pow_le_pow_right (by norm_num) (by omega)
  cases b
  · simp [bit]
  · rw [Nat.mod_eq_of_lt (by simp [bit]; omega)]; simp [bit]

end Sys2Proof.Laws
end

