-- ==== Sys2Proof/Laws/Ports.lean ====
section
/-! SUPPORT. What a port's bookkeeping and a refusal leave as they are: one lemma per operation and field. -/

namespace Sys2Proof.Machine

variable (s : State)

/-! `State.refusal` -/

@[simp] theorem State.refusal_pending (c : Nat) : (s.refusal c).pending = s.pending := (rfl)
@[simp] theorem State.refusal_out (c : Nat) : (s.refusal c).out = s.out := (rfl)
@[simp] theorem State.refusal_now (c : Nat) : (s.refusal c).now = s.now := (rfl)
@[simp] theorem State.refusal_house (c : Nat) : (s.refusal c).house = s.house := (rfl)
@[simp] theorem State.refusal_freeCtr (c : Nat) : (s.refusal c).freeCtr = s.freeCtr := (rfl)
@[simp] theorem State.refusal_sameCycle (c : Nat) : (s.refusal c).sameCycle = s.sameCycle := (rfl)
@[simp] theorem State.refusal_regs (c : Nat) : (s.refusal c).regs = s.regs := (rfl)
@[simp] theorem State.refusal_shadow (c : Nat) : (s.refusal c).shadow = s.shadow := (rfl)
@[simp] theorem State.refusal_tbl (c : Nat) : (s.refusal c).tbl = s.tbl := (rfl)
@[simp] theorem State.refusal_tblShadow (c : Nat) : (s.refusal c).tblShadow = s.tblShadow := (rfl)
@[simp] theorem State.refusal_nvm (c : Nat) : (s.refusal c).nvm = s.nvm := (rfl)
@[simp] theorem State.refusal_nvmDevice (c : Nat) : (s.refusal c).nvmDevice = s.nvmDevice := (rfl)
@[simp] theorem State.refusal_nvmTorn (c : Nat) : (s.refusal c).nvmTorn = s.nvmTorn := (rfl)
@[simp] theorem State.refusal_hpt (c : Nat) : (s.refusal c).hpt = s.hpt := (rfl)
@[simp] theorem State.refusal_seq (c : Nat) : (s.refusal c).seq = s.seq := (rfl)
@[simp] theorem State.refusal_evt (c : Nat) : (s.refusal c).evt = s.evt := (rfl)
@[simp] theorem State.refusal_mgt (c : Nat) : (s.refusal c).mgt = s.mgt := (rfl)
@[simp] theorem State.refusal_htm (c : Nat) : (s.refusal c).htm = s.htm := (rfl)
@[simp] theorem State.refusal_tal (c : Nat) : (s.refusal c).tal = s.tal := (rfl)
@[simp] theorem State.refusal_cfg (c : Nat) : (s.refusal c).cfg = s.cfg := (rfl)
@[simp] theorem State.refusal_pwr (c : Nat) : (s.refusal c).pwr = s.pwr := (rfl)
@[simp] theorem State.refusal_pil (c : Nat) : (s.refusal c).pil = s.pil := (rfl)
@[simp] theorem State.refusal_tg (c : Nat) : (s.refusal c).tg = s.tg := (rfl)
@[simp] theorem State.refusal_srf (c : Nat) : (s.refusal c).srf = s.srf := (rfl)
@[simp] theorem State.refusal_fst (c : Nat) : (s.refusal c).fst = s.fst := (rfl)
@[simp] theorem State.refusal_lns (c : Nat) : (s.refusal c).lns = s.lns := (rfl)
@[simp] theorem State.refusal_cpr (c : Nat) : (s.refusal c).cpr = s.cpr := (rfl)
@[simp] theorem State.refusal_cal (c : Nat) : (s.refusal c).cal = s.cal := (rfl)
@[simp] theorem State.refusal_fe (c : Nat) : (s.refusal c).fe = s.fe := (rfl)
@[simp] theorem State.refusal_spl (c : Nat) : (s.refusal c).spl = s.spl := (rfl)
@[simp] theorem State.refusal_pcm (c : Nat) : (s.refusal c).pcm = s.pcm := (rfl)
@[simp] theorem State.refusal_odr (c : Nat) : (s.refusal c).odr = s.odr := (rfl)
@[simp] theorem State.refusal_dth (c : Nat) : (s.refusal c).dth = s.dth := (rfl)
@[simp] theorem State.refusal_adl (c : Nat) : (s.refusal c).adl = s.adl := (rfl)
@[simp] theorem State.refusal_ble (c : Nat) : (s.refusal c).ble = s.ble := (rfl)

/-! `State.refuseWord` -/

@[simp] theorem State.refuseWord_pending : (s.refuseWord).pending = s.pending := (rfl)
@[simp] theorem State.refuseWord_out : (s.refuseWord).out = s.out := (rfl)
@[simp] theorem State.refuseWord_now : (s.refuseWord).now = s.now := (rfl)
@[simp] theorem State.refuseWord_house : (s.refuseWord).house = s.house := (rfl)
@[simp] theorem State.refuseWord_freeCtr : (s.refuseWord).freeCtr = s.freeCtr := (rfl)
@[simp] theorem State.refuseWord_sameCycle : (s.refuseWord).sameCycle = s.sameCycle := (rfl)
@[simp] theorem State.refuseWord_regs : (s.refuseWord).regs = s.regs := (rfl)
@[simp] theorem State.refuseWord_shadow : (s.refuseWord).shadow = s.shadow := (rfl)
@[simp] theorem State.refuseWord_tbl : (s.refuseWord).tbl = s.tbl := (rfl)
@[simp] theorem State.refuseWord_tblShadow : (s.refuseWord).tblShadow = s.tblShadow := (rfl)
@[simp] theorem State.refuseWord_nvm : (s.refuseWord).nvm = s.nvm := (rfl)
@[simp] theorem State.refuseWord_nvmDevice : (s.refuseWord).nvmDevice = s.nvmDevice := (rfl)
@[simp] theorem State.refuseWord_nvmTorn : (s.refuseWord).nvmTorn = s.nvmTorn := (rfl)
@[simp] theorem State.refuseWord_hpt : (s.refuseWord).hpt = s.hpt := (rfl)
@[simp] theorem State.refuseWord_seq : (s.refuseWord).seq = s.seq := (rfl)
@[simp] theorem State.refuseWord_evt : (s.refuseWord).evt = s.evt := (rfl)
@[simp] theorem State.refuseWord_mgt : (s.refuseWord).mgt = s.mgt := (rfl)
@[simp] theorem State.refuseWord_htm : (s.refuseWord).htm = s.htm := (rfl)
@[simp] theorem State.refuseWord_tal : (s.refuseWord).tal = s.tal := (rfl)
@[simp] theorem State.refuseWord_cfg : (s.refuseWord).cfg = s.cfg := (rfl)
@[simp] theorem State.refuseWord_pwr : (s.refuseWord).pwr = s.pwr := (rfl)
@[simp] theorem State.refuseWord_pil : (s.refuseWord).pil = s.pil := (rfl)
@[simp] theorem State.refuseWord_tg : (s.refuseWord).tg = s.tg := (rfl)
@[simp] theorem State.refuseWord_srf : (s.refuseWord).srf = s.srf := (rfl)
@[simp] theorem State.refuseWord_fst : (s.refuseWord).fst = s.fst := (rfl)
@[simp] theorem State.refuseWord_lns : (s.refuseWord).lns = s.lns := (rfl)
@[simp] theorem State.refuseWord_cpr : (s.refuseWord).cpr = s.cpr := (rfl)
@[simp] theorem State.refuseWord_cal : (s.refuseWord).cal = s.cal := (rfl)
@[simp] theorem State.refuseWord_fe : (s.refuseWord).fe = s.fe := (rfl)
@[simp] theorem State.refuseWord_spl : (s.refuseWord).spl = s.spl := (rfl)
@[simp] theorem State.refuseWord_pcm : (s.refuseWord).pcm = s.pcm := (rfl)
@[simp] theorem State.refuseWord_odr : (s.refuseWord).odr = s.odr := (rfl)
@[simp] theorem State.refuseWord_dth : (s.refuseWord).dth = s.dth := (rfl)
@[simp] theorem State.refuseWord_adl : (s.refuseWord).adl = s.adl := (rfl)
@[simp] theorem State.refuseWord_ble : (s.refuseWord).ble = s.ble := (rfl)

/-! `State.portLast` -/

@[simp] theorem State.portLast_pending (p : Port) (b : Bool) : (s.portLast p b).pending = s.pending := by simp [State.portLast]
@[simp] theorem State.portLast_occ (p : Port) (b : Bool) : (s.portLast p b).occ = s.occ := by simp [State.portLast]
@[simp] theorem State.portLast_out (p : Port) (b : Bool) : (s.portLast p b).out = s.out := by simp [State.portLast]
@[simp] theorem State.portLast_now (p : Port) (b : Bool) : (s.portLast p b).now = s.now := by simp [State.portLast]
@[simp] theorem State.portLast_house (p : Port) (b : Bool) : (s.portLast p b).house = s.house := by simp [State.portLast]
@[simp] theorem State.portLast_freeCtr (p : Port) (b : Bool) : (s.portLast p b).freeCtr = s.freeCtr := by simp [State.portLast]
@[simp] theorem State.portLast_sameCycle (p : Port) (b : Bool) : (s.portLast p b).sameCycle = s.sameCycle := by simp [State.portLast]
@[simp] theorem State.portLast_shadow (p : Port) (b : Bool) : (s.portLast p b).shadow = s.shadow := by simp [State.portLast]
@[simp] theorem State.portLast_tbl (p : Port) (b : Bool) : (s.portLast p b).tbl = s.tbl := by simp [State.portLast]
@[simp] theorem State.portLast_tblShadow (p : Port) (b : Bool) : (s.portLast p b).tblShadow = s.tblShadow := by simp [State.portLast]
@[simp] theorem State.portLast_nvm (p : Port) (b : Bool) : (s.portLast p b).nvm = s.nvm := by simp [State.portLast]
@[simp] theorem State.portLast_nvmDevice (p : Port) (b : Bool) : (s.portLast p b).nvmDevice = s.nvmDevice := by simp [State.portLast]
@[simp] theorem State.portLast_nvmTorn (p : Port) (b : Bool) : (s.portLast p b).nvmTorn = s.nvmTorn := by simp [State.portLast]
@[simp] theorem State.portLast_seq (p : Port) (b : Bool) : (s.portLast p b).seq = s.seq := by simp [State.portLast]
@[simp] theorem State.portLast_evt (p : Port) (b : Bool) : (s.portLast p b).evt = s.evt := by simp [State.portLast]
@[simp] theorem State.portLast_mgt (p : Port) (b : Bool) : (s.portLast p b).mgt = s.mgt := by simp [State.portLast]
@[simp] theorem State.portLast_htm (p : Port) (b : Bool) : (s.portLast p b).htm = s.htm := by simp [State.portLast]
@[simp] theorem State.portLast_tal (p : Port) (b : Bool) : (s.portLast p b).tal = s.tal := by simp [State.portLast]
@[simp] theorem State.portLast_cfg (p : Port) (b : Bool) : (s.portLast p b).cfg = s.cfg := by simp [State.portLast]
@[simp] theorem State.portLast_pwr (p : Port) (b : Bool) : (s.portLast p b).pwr = s.pwr := by simp [State.portLast]
@[simp] theorem State.portLast_pil (p : Port) (b : Bool) : (s.portLast p b).pil = s.pil := by simp [State.portLast]
@[simp] theorem State.portLast_tg (p : Port) (b : Bool) : (s.portLast p b).tg = s.tg := by simp [State.portLast]
@[simp] theorem State.portLast_srf (p : Port) (b : Bool) : (s.portLast p b).srf = s.srf := by simp [State.portLast]
@[simp] theorem State.portLast_fst (p : Port) (b : Bool) : (s.portLast p b).fst = s.fst := by simp [State.portLast]
@[simp] theorem State.portLast_lns (p : Port) (b : Bool) : (s.portLast p b).lns = s.lns := by simp [State.portLast]
@[simp] theorem State.portLast_cpr (p : Port) (b : Bool) : (s.portLast p b).cpr = s.cpr := by simp [State.portLast]
@[simp] theorem State.portLast_cal (p : Port) (b : Bool) : (s.portLast p b).cal = s.cal := by simp [State.portLast]
@[simp] theorem State.portLast_fe (p : Port) (b : Bool) : (s.portLast p b).fe = s.fe := by simp [State.portLast]
@[simp] theorem State.portLast_spl (p : Port) (b : Bool) : (s.portLast p b).spl = s.spl := by simp [State.portLast]
@[simp] theorem State.portLast_pcm (p : Port) (b : Bool) : (s.portLast p b).pcm = s.pcm := by simp [State.portLast]
@[simp] theorem State.portLast_odr (p : Port) (b : Bool) : (s.portLast p b).odr = s.odr := by simp [State.portLast]
@[simp] theorem State.portLast_dth (p : Port) (b : Bool) : (s.portLast p b).dth = s.dth := by simp [State.portLast]
@[simp] theorem State.portLast_adl (p : Port) (b : Bool) : (s.portLast p b).adl = s.adl := by simp [State.portLast]
@[simp] theorem State.portLast_ble (p : Port) (b : Bool) : (s.portLast p b).ble = s.ble := by simp [State.portLast]

/-! `State.notAccepted` -/

@[simp] theorem State.notAccepted_pending (p : Port) : (s.notAccepted p).pending = s.pending := by simp [State.notAccepted]
@[simp] theorem State.notAccepted_occ (p : Port) : (s.notAccepted p).occ = s.occ := by simp [State.notAccepted]
@[simp] theorem State.notAccepted_out (p : Port) : (s.notAccepted p).out = s.out := by simp [State.notAccepted]
@[simp] theorem State.notAccepted_now (p : Port) : (s.notAccepted p).now = s.now := by simp [State.notAccepted]
@[simp] theorem State.notAccepted_house (p : Port) : (s.notAccepted p).house = s.house := by simp [State.notAccepted]
@[simp] theorem State.notAccepted_freeCtr (p : Port) : (s.notAccepted p).freeCtr = s.freeCtr := by simp [State.notAccepted]
@[simp] theorem State.notAccepted_sameCycle (p : Port) : (s.notAccepted p).sameCycle = s.sameCycle := by simp [State.notAccepted]
@[simp] theorem State.notAccepted_shadow (p : Port) : (s.notAccepted p).shadow = s.shadow := by simp [State.notAccepted]
@[simp] theorem State.notAccepted_tbl (p : Port) : (s.notAccepted p).tbl = s.tbl := by simp [State.notAccepted]
@[simp] theorem State.notAccepted_tblShadow (p : Port) : (s.notAccepted p).tblShadow = s.tblShadow := by simp [State.notAccepted]
@[simp] theorem State.notAccepted_nvm (p : Port) : (s.notAccepted p).nvm = s.nvm := by simp [State.notAccepted]
@[simp] theorem State.notAccepted_nvmDevice (p : Port) : (s.notAccepted p).nvmDevice = s.nvmDevice := by simp [State.notAccepted]
@[simp] theorem State.notAccepted_nvmTorn (p : Port) : (s.notAccepted p).nvmTorn = s.nvmTorn := by simp [State.notAccepted]
@[simp] theorem State.notAccepted_hpt (p : Port) : (s.notAccepted p).hpt = s.hpt := by simp [State.notAccepted]
@[simp] theorem State.notAccepted_seq (p : Port) : (s.notAccepted p).seq = s.seq := by simp [State.notAccepted]
@[simp] theorem State.notAccepted_evt (p : Port) : (s.notAccepted p).evt = s.evt := by simp [State.notAccepted]
@[simp] theorem State.notAccepted_mgt (p : Port) : (s.notAccepted p).mgt = s.mgt := by simp [State.notAccepted]
@[simp] theorem State.notAccepted_htm (p : Port) : (s.notAccepted p).htm = s.htm := by simp [State.notAccepted]
@[simp] theorem State.notAccepted_tal (p : Port) : (s.notAccepted p).tal = s.tal := by simp [State.notAccepted]
@[simp] theorem State.notAccepted_cfg (p : Port) : (s.notAccepted p).cfg = s.cfg := by simp [State.notAccepted]
@[simp] theorem State.notAccepted_pwr (p : Port) : (s.notAccepted p).pwr = s.pwr := by simp [State.notAccepted]
@[simp] theorem State.notAccepted_pil (p : Port) : (s.notAccepted p).pil = s.pil := by simp [State.notAccepted]
@[simp] theorem State.notAccepted_tg (p : Port) : (s.notAccepted p).tg = s.tg := by simp [State.notAccepted]
@[simp] theorem State.notAccepted_srf (p : Port) : (s.notAccepted p).srf = s.srf := by simp [State.notAccepted]
@[simp] theorem State.notAccepted_fst (p : Port) : (s.notAccepted p).fst = s.fst := by simp [State.notAccepted]
@[simp] theorem State.notAccepted_lns (p : Port) : (s.notAccepted p).lns = s.lns := by simp [State.notAccepted]
@[simp] theorem State.notAccepted_cpr (p : Port) : (s.notAccepted p).cpr = s.cpr := by simp [State.notAccepted]
@[simp] theorem State.notAccepted_cal (p : Port) : (s.notAccepted p).cal = s.cal := by simp [State.notAccepted]
@[simp] theorem State.notAccepted_fe (p : Port) : (s.notAccepted p).fe = s.fe := by simp [State.notAccepted]
@[simp] theorem State.notAccepted_spl (p : Port) : (s.notAccepted p).spl = s.spl := by simp [State.notAccepted]
@[simp] theorem State.notAccepted_pcm (p : Port) : (s.notAccepted p).pcm = s.pcm := by simp [State.notAccepted]
@[simp] theorem State.notAccepted_odr (p : Port) : (s.notAccepted p).odr = s.odr := by simp [State.notAccepted]
@[simp] theorem State.notAccepted_dth (p : Port) : (s.notAccepted p).dth = s.dth := by simp [State.notAccepted]
@[simp] theorem State.notAccepted_adl (p : Port) : (s.notAccepted p).adl = s.adl := by simp [State.notAccepted]
@[simp] theorem State.notAccepted_ble (p : Port) : (s.notAccepted p).ble = s.ble := by simp [State.notAccepted]

/-! `State.portAccept` -/

@[simp] theorem State.portAccept_pending (p : Port) : (s.portAccept p).pending = s.pending := by simp [State.portAccept]
@[simp] theorem State.portAccept_occ (p : Port) : (s.portAccept p).occ = s.occ := by simp [State.portAccept]
@[simp] theorem State.portAccept_out (p : Port) : (s.portAccept p).out = s.out := by simp [State.portAccept]
@[simp] theorem State.portAccept_now (p : Port) : (s.portAccept p).now = s.now := by simp [State.portAccept]
@[simp] theorem State.portAccept_house (p : Port) : (s.portAccept p).house = s.house := by simp [State.portAccept]
@[simp] theorem State.portAccept_freeCtr (p : Port) : (s.portAccept p).freeCtr = s.freeCtr := by simp [State.portAccept]
@[simp] theorem State.portAccept_sameCycle (p : Port) : (s.portAccept p).sameCycle = s.sameCycle := by simp [State.portAccept]
@[simp] theorem State.portAccept_shadow (p : Port) : (s.portAccept p).shadow = s.shadow := by simp [State.portAccept]
@[simp] theorem State.portAccept_tbl (p : Port) : (s.portAccept p).tbl = s.tbl := by simp [State.portAccept]
@[simp] theorem State.portAccept_tblShadow (p : Port) : (s.portAccept p).tblShadow = s.tblShadow := by simp [State.portAccept]
@[simp] theorem State.portAccept_nvm (p : Port) : (s.portAccept p).nvm = s.nvm := by simp [State.portAccept]
@[simp] theorem State.portAccept_nvmDevice (p : Port) : (s.portAccept p).nvmDevice = s.nvmDevice := by simp [State.portAccept]
@[simp] theorem State.portAccept_nvmTorn (p : Port) : (s.portAccept p).nvmTorn = s.nvmTorn := by simp [State.portAccept]
@[simp] theorem State.portAccept_seq (p : Port) : (s.portAccept p).seq = s.seq := by simp [State.portAccept]
@[simp] theorem State.portAccept_evt (p : Port) : (s.portAccept p).evt = s.evt := by simp [State.portAccept]
@[simp] theorem State.portAccept_mgt (p : Port) : (s.portAccept p).mgt = s.mgt := by simp [State.portAccept]
@[simp] theorem State.portAccept_htm (p : Port) : (s.portAccept p).htm = s.htm := by simp [State.portAccept]
@[simp] theorem State.portAccept_cfg (p : Port) : (s.portAccept p).cfg = s.cfg := by simp [State.portAccept]
@[simp] theorem State.portAccept_pwr (p : Port) : (s.portAccept p).pwr = s.pwr := by simp [State.portAccept]
@[simp] theorem State.portAccept_pil (p : Port) : (s.portAccept p).pil = s.pil := by simp [State.portAccept]
@[simp] theorem State.portAccept_tg (p : Port) : (s.portAccept p).tg = s.tg := by simp [State.portAccept]
@[simp] theorem State.portAccept_srf (p : Port) : (s.portAccept p).srf = s.srf := by simp [State.portAccept]
@[simp] theorem State.portAccept_fst (p : Port) : (s.portAccept p).fst = s.fst := by simp [State.portAccept]
@[simp] theorem State.portAccept_lns (p : Port) : (s.portAccept p).lns = s.lns := by simp [State.portAccept]
@[simp] theorem State.portAccept_cpr (p : Port) : (s.portAccept p).cpr = s.cpr := by simp [State.portAccept]
@[simp] theorem State.portAccept_cal (p : Port) : (s.portAccept p).cal = s.cal := by simp [State.portAccept]
@[simp] theorem State.portAccept_fe (p : Port) : (s.portAccept p).fe = s.fe := by simp [State.portAccept]
@[simp] theorem State.portAccept_spl (p : Port) : (s.portAccept p).spl = s.spl := by simp [State.portAccept]
@[simp] theorem State.portAccept_pcm (p : Port) : (s.portAccept p).pcm = s.pcm := by simp [State.portAccept]
@[simp] theorem State.portAccept_odr (p : Port) : (s.portAccept p).odr = s.odr := by simp [State.portAccept]
@[simp] theorem State.portAccept_dth (p : Port) : (s.portAccept p).dth = s.dth := by simp [State.portAccept]
@[simp] theorem State.portAccept_adl (p : Port) : (s.portAccept p).adl = s.adl := by simp [State.portAccept]
@[simp] theorem State.portAccept_ble (p : Port) : (s.portAccept p).ble = s.ble := by simp [State.portAccept]

/-! `State.portReject` -/

@[simp] theorem State.portReject_pending (p : Port) (c a : Nat) : (s.portReject p c a).pending = s.pending := by simp only [State.portReject]; split <;> simp
@[simp] theorem State.portReject_occ (p : Port) (c a : Nat) : (s.portReject p c a).occ = s.occ := by simp only [State.portReject]; split <;> simp
@[simp] theorem State.portReject_out (p : Port) (c a : Nat) : (s.portReject p c a).out = s.out := by simp only [State.portReject]; split <;> simp
@[simp] theorem State.portReject_now (p : Port) (c a : Nat) : (s.portReject p c a).now = s.now := by simp only [State.portReject]; split <;> simp
@[simp] theorem State.portReject_house (p : Port) (c a : Nat) : (s.portReject p c a).house = s.house := by simp only [State.portReject]; split <;> simp
@[simp] theorem State.portReject_freeCtr (p : Port) (c a : Nat) : (s.portReject p c a).freeCtr = s.freeCtr := by simp only [State.portReject]; split <;> simp
@[simp] theorem State.portReject_sameCycle (p : Port) (c a : Nat) : (s.portReject p c a).sameCycle = s.sameCycle := by simp only [State.portReject]; split <;> simp
@[simp] theorem State.portReject_shadow (p : Port) (c a : Nat) : (s.portReject p c a).shadow = s.shadow := by simp only [State.portReject]; split <;> simp
@[simp] theorem State.portReject_tbl (p : Port) (c a : Nat) : (s.portReject p c a).tbl = s.tbl := by simp only [State.portReject]; split <;> simp
@[simp] theorem State.portReject_tblShadow (p : Port) (c a : Nat) : (s.portReject p c a).tblShadow = s.tblShadow := by simp only [State.portReject]; split <;> simp
@[simp] theorem State.portReject_nvm (p : Port) (c a : Nat) : (s.portReject p c a).nvm = s.nvm := by simp only [State.portReject]; split <;> simp
@[simp] theorem State.portReject_nvmDevice (p : Port) (c a : Nat) : (s.portReject p c a).nvmDevice = s.nvmDevice := by simp only [State.portReject]; split <;> simp
@[simp] theorem State.portReject_nvmTorn (p : Port) (c a : Nat) : (s.portReject p c a).nvmTorn = s.nvmTorn := by simp only [State.portReject]; split <;> simp
@[simp] theorem State.portReject_seq (p : Port) (c a : Nat) : (s.portReject p c a).seq = s.seq := by simp only [State.portReject]; split <;> simp
@[simp] theorem State.portReject_evt (p : Port) (c a : Nat) : (s.portReject p c a).evt = s.evt := by simp only [State.portReject]; split <;> simp
@[simp] theorem State.portReject_mgt (p : Port) (c a : Nat) : (s.portReject p c a).mgt = s.mgt := by simp only [State.portReject]; split <;> simp
@[simp] theorem State.portReject_htm (p : Port) (c a : Nat) : (s.portReject p c a).htm = s.htm := by simp only [State.portReject]; split <;> simp
@[simp] theorem State.portReject_cfg (p : Port) (c a : Nat) : (s.portReject p c a).cfg = s.cfg := by simp only [State.portReject]; split <;> simp
@[simp] theorem State.portReject_pwr (p : Port) (c a : Nat) : (s.portReject p c a).pwr = s.pwr := by simp only [State.portReject]; split <;> simp
@[simp] theorem State.portReject_pil (p : Port) (c a : Nat) : (s.portReject p c a).pil = s.pil := by simp only [State.portReject]; split <;> simp
@[simp] theorem State.portReject_tg (p : Port) (c a : Nat) : (s.portReject p c a).tg = s.tg := by simp only [State.portReject]; split <;> simp
@[simp] theorem State.portReject_srf (p : Port) (c a : Nat) : (s.portReject p c a).srf = s.srf := by simp only [State.portReject]; split <;> simp
@[simp] theorem State.portReject_fst (p : Port) (c a : Nat) : (s.portReject p c a).fst = s.fst := by simp only [State.portReject]; split <;> simp
@[simp] theorem State.portReject_lns (p : Port) (c a : Nat) : (s.portReject p c a).lns = s.lns := by simp only [State.portReject]; split <;> simp
@[simp] theorem State.portReject_cpr (p : Port) (c a : Nat) : (s.portReject p c a).cpr = s.cpr := by simp only [State.portReject]; split <;> simp
@[simp] theorem State.portReject_cal (p : Port) (c a : Nat) : (s.portReject p c a).cal = s.cal := by simp only [State.portReject]; split <;> simp
@[simp] theorem State.portReject_fe (p : Port) (c a : Nat) : (s.portReject p c a).fe = s.fe := by simp only [State.portReject]; split <;> simp
@[simp] theorem State.portReject_spl (p : Port) (c a : Nat) : (s.portReject p c a).spl = s.spl := by simp only [State.portReject]; split <;> simp
@[simp] theorem State.portReject_pcm (p : Port) (c a : Nat) : (s.portReject p c a).pcm = s.pcm := by simp only [State.portReject]; split <;> simp
@[simp] theorem State.portReject_odr (p : Port) (c a : Nat) : (s.portReject p c a).odr = s.odr := by simp only [State.portReject]; split <;> simp
@[simp] theorem State.portReject_dth (p : Port) (c a : Nat) : (s.portReject p c a).dth = s.dth := by simp only [State.portReject]; split <;> simp
@[simp] theorem State.portReject_adl (p : Port) (c a : Nat) : (s.portReject p c a).adl = s.adl := by simp only [State.portReject]; split <;> simp
@[simp] theorem State.portReject_ble (p : Port) (c a : Nat) : (s.portReject p c a).ble = s.ble := by simp only [State.portReject]; split <;> simp

/-! `State.portBusy` -/

@[simp] theorem State.portBusy_pending (p : Port) : (s.portBusy p).pending = s.pending := by simp [State.portBusy]
@[simp] theorem State.portBusy_occ (p : Port) : (s.portBusy p).occ = s.occ := by simp [State.portBusy]
@[simp] theorem State.portBusy_out (p : Port) : (s.portBusy p).out = s.out := by simp [State.portBusy]
@[simp] theorem State.portBusy_now (p : Port) : (s.portBusy p).now = s.now := by simp [State.portBusy]
@[simp] theorem State.portBusy_house (p : Port) : (s.portBusy p).house = s.house := by simp [State.portBusy]
@[simp] theorem State.portBusy_freeCtr (p : Port) : (s.portBusy p).freeCtr = s.freeCtr := by simp [State.portBusy]
@[simp] theorem State.portBusy_sameCycle (p : Port) : (s.portBusy p).sameCycle = s.sameCycle := by simp [State.portBusy]
@[simp] theorem State.portBusy_shadow (p : Port) : (s.portBusy p).shadow = s.shadow := by simp [State.portBusy]
@[simp] theorem State.portBusy_tbl (p : Port) : (s.portBusy p).tbl = s.tbl := by simp [State.portBusy]
@[simp] theorem State.portBusy_tblShadow (p : Port) : (s.portBusy p).tblShadow = s.tblShadow := by simp [State.portBusy]
@[simp] theorem State.portBusy_nvm (p : Port) : (s.portBusy p).nvm = s.nvm := by simp [State.portBusy]
@[simp] theorem State.portBusy_nvmDevice (p : Port) : (s.portBusy p).nvmDevice = s.nvmDevice := by simp [State.portBusy]
@[simp] theorem State.portBusy_nvmTorn (p : Port) : (s.portBusy p).nvmTorn = s.nvmTorn := by simp [State.portBusy]
@[simp] theorem State.portBusy_seq (p : Port) : (s.portBusy p).seq = s.seq := by simp [State.portBusy]
@[simp] theorem State.portBusy_evt (p : Port) : (s.portBusy p).evt = s.evt := by simp [State.portBusy]
@[simp] theorem State.portBusy_mgt (p : Port) : (s.portBusy p).mgt = s.mgt := by simp [State.portBusy]
@[simp] theorem State.portBusy_htm (p : Port) : (s.portBusy p).htm = s.htm := by simp [State.portBusy]
@[simp] theorem State.portBusy_cfg (p : Port) : (s.portBusy p).cfg = s.cfg := by simp [State.portBusy]
@[simp] theorem State.portBusy_pwr (p : Port) : (s.portBusy p).pwr = s.pwr := by simp [State.portBusy]
@[simp] theorem State.portBusy_pil (p : Port) : (s.portBusy p).pil = s.pil := by simp [State.portBusy]
@[simp] theorem State.portBusy_tg (p : Port) : (s.portBusy p).tg = s.tg := by simp [State.portBusy]
@[simp] theorem State.portBusy_srf (p : Port) : (s.portBusy p).srf = s.srf := by simp [State.portBusy]
@[simp] theorem State.portBusy_fst (p : Port) : (s.portBusy p).fst = s.fst := by simp [State.portBusy]
@[simp] theorem State.portBusy_lns (p : Port) : (s.portBusy p).lns = s.lns := by simp [State.portBusy]
@[simp] theorem State.portBusy_cpr (p : Port) : (s.portBusy p).cpr = s.cpr := by simp [State.portBusy]
@[simp] theorem State.portBusy_cal (p : Port) : (s.portBusy p).cal = s.cal := by simp [State.portBusy]
@[simp] theorem State.portBusy_fe (p : Port) : (s.portBusy p).fe = s.fe := by simp [State.portBusy]
@[simp] theorem State.portBusy_spl (p : Port) : (s.portBusy p).spl = s.spl := by simp [State.portBusy]
@[simp] theorem State.portBusy_pcm (p : Port) : (s.portBusy p).pcm = s.pcm := by simp [State.portBusy]
@[simp] theorem State.portBusy_odr (p : Port) : (s.portBusy p).odr = s.odr := by simp [State.portBusy]
@[simp] theorem State.portBusy_dth (p : Port) : (s.portBusy p).dth = s.dth := by simp [State.portBusy]
@[simp] theorem State.portBusy_adl (p : Port) : (s.portBusy p).adl = s.adl := by simp [State.portBusy]
@[simp] theorem State.portBusy_ble (p : Port) : (s.portBusy p).ble = s.ble := by simp [State.portBusy]

/-! `State.portRefused` -/

@[simp] theorem State.portRefused_pending (p : Port) (c a : Nat) : (s.portRefused p c a).pending = s.pending := by simp [State.portRefused]
@[simp] theorem State.portRefused_occ (p : Port) (c a : Nat) : (s.portRefused p c a).occ = s.occ := by simp [State.portRefused]
@[simp] theorem State.portRefused_out (p : Port) (c a : Nat) : (s.portRefused p c a).out = s.out := by simp [State.portRefused]
@[simp] theorem State.portRefused_now (p : Port) (c a : Nat) : (s.portRefused p c a).now = s.now := by simp [State.portRefused]
@[simp] theorem State.portRefused_house (p : Port) (c a : Nat) : (s.portRefused p c a).house = s.house := by simp [State.portRefused]
@[simp] theorem State.portRefused_freeCtr (p : Port) (c a : Nat) : (s.portRefused p c a).freeCtr = s.freeCtr := by simp [State.portRefused]
@[simp] theorem State.portRefused_sameCycle (p : Port) (c a : Nat) : (s.portRefused p c a).sameCycle = s.sameCycle := by simp [State.portRefused]
@[simp] theorem State.portRefused_shadow (p : Port) (c a : Nat) : (s.portRefused p c a).shadow = s.shadow := by simp [State.portRefused]
@[simp] theorem State.portRefused_tbl (p : Port) (c a : Nat) : (s.portRefused p c a).tbl = s.tbl := by simp [State.portRefused]
@[simp] theorem State.portRefused_tblShadow (p : Port) (c a : Nat) : (s.portRefused p c a).tblShadow = s.tblShadow := by simp [State.portRefused]
@[simp] theorem State.portRefused_nvm (p : Port) (c a : Nat) : (s.portRefused p c a).nvm = s.nvm := by simp [State.portRefused]
@[simp] theorem State.portRefused_nvmDevice (p : Port) (c a : Nat) : (s.portRefused p c a).nvmDevice = s.nvmDevice := by simp [State.portRefused]
@[simp] theorem State.portRefused_nvmTorn (p : Port) (c a : Nat) : (s.portRefused p c a).nvmTorn = s.nvmTorn := by simp [State.portRefused]
@[simp] theorem State.portRefused_hpt (p : Port) (c a : Nat) : (s.portRefused p c a).hpt = s.hpt := by simp [State.portRefused]
@[simp] theorem State.portRefused_seq (p : Port) (c a : Nat) : (s.portRefused p c a).seq = s.seq := by simp [State.portRefused]
@[simp] theorem State.portRefused_evt (p : Port) (c a : Nat) : (s.portRefused p c a).evt = s.evt := by simp [State.portRefused]
@[simp] theorem State.portRefused_mgt (p : Port) (c a : Nat) : (s.portRefused p c a).mgt = s.mgt := by simp [State.portRefused]
@[simp] theorem State.portRefused_htm (p : Port) (c a : Nat) : (s.portRefused p c a).htm = s.htm := by simp [State.portRefused]
@[simp] theorem State.portRefused_cfg (p : Port) (c a : Nat) : (s.portRefused p c a).cfg = s.cfg := by simp [State.portRefused]
@[simp] theorem State.portRefused_pwr (p : Port) (c a : Nat) : (s.portRefused p c a).pwr = s.pwr := by simp [State.portRefused]
@[simp] theorem State.portRefused_pil (p : Port) (c a : Nat) : (s.portRefused p c a).pil = s.pil := by simp [State.portRefused]
@[simp] theorem State.portRefused_tg (p : Port) (c a : Nat) : (s.portRefused p c a).tg = s.tg := by simp [State.portRefused]
@[simp] theorem State.portRefused_srf (p : Port) (c a : Nat) : (s.portRefused p c a).srf = s.srf := by simp [State.portRefused]
@[simp] theorem State.portRefused_fst (p : Port) (c a : Nat) : (s.portRefused p c a).fst = s.fst := by simp [State.portRefused]
@[simp] theorem State.portRefused_lns (p : Port) (c a : Nat) : (s.portRefused p c a).lns = s.lns := by simp [State.portRefused]
@[simp] theorem State.portRefused_cpr (p : Port) (c a : Nat) : (s.portRefused p c a).cpr = s.cpr := by simp [State.portRefused]
@[simp] theorem State.portRefused_cal (p : Port) (c a : Nat) : (s.portRefused p c a).cal = s.cal := by simp [State.portRefused]
@[simp] theorem State.portRefused_fe (p : Port) (c a : Nat) : (s.portRefused p c a).fe = s.fe := by simp [State.portRefused]
@[simp] theorem State.portRefused_spl (p : Port) (c a : Nat) : (s.portRefused p c a).spl = s.spl := by simp [State.portRefused]
@[simp] theorem State.portRefused_pcm (p : Port) (c a : Nat) : (s.portRefused p c a).pcm = s.pcm := by simp [State.portRefused]
@[simp] theorem State.portRefused_odr (p : Port) (c a : Nat) : (s.portRefused p c a).odr = s.odr := by simp [State.portRefused]
@[simp] theorem State.portRefused_dth (p : Port) (c a : Nat) : (s.portRefused p c a).dth = s.dth := by simp [State.portRefused]
@[simp] theorem State.portRefused_adl (p : Port) (c a : Nat) : (s.portRefused p c a).adl = s.adl := by simp [State.portRefused]
@[simp] theorem State.portRefused_ble (p : Port) (c a : Nat) : (s.portRefused p c a).ble = s.ble := by simp [State.portRefused]

end Sys2Proof.Machine
end

