-- ==== Sys2Proof/Laws/Ends.lean ====
section
/-! SUPPORT. How a command ends: the effect that its meaning hands to `checked` is the one that `Ends` names; what the state in which a
write's effect begins shows of the state before. -/

namespace Sys2Proof.Laws

open Sys2Proof Sys2Proof.Machine

/-- A well-formed command ends with the effect that its meaning gives. -/
theorem ends_of {c : Instr} {s : State} {eff : State → State} (h : c.wellFormed = true) (e : exec c s = checked c s eff) :
    Ends c s (eff (begun s)) := by
  rw [Ends, e]
  simp [checked, h, finish, begun]

/-- What the delivery of a command's events leaves as its effect left it. -/
theorem sameBut_finish (s u : State) : SameBut { u with pending := s.pending, sameCycle := false } (finish s u) := by
  have h := (sameBut_deliver u).trans (sameBut_settle u.deliver)
  unfold SameBut at *
  unfold finish
  conv_lhs => rw [h]

@[simp] theorem begun_regs (s : State) : (begun s).regs = s.regs := rfl

theorem begun_reg (s : State) (a : Nat) : (begun s).reg a = s.reg a := rfl
theorem begun_get (s : State) (f : FRef) : (begun s).get f = s.get f := rfl
theorem begun_flag (s : State) (f : FRef) : (begun s).flag f = s.flag f := rfl
theorem begun_permits (s : State) (ag : Agent) (a : Nat) : (begun s).permits ag a = s.permits ag a := rfl
theorem begun_portHeld (s : State) (p : Port) : (begun s).portHeld p = s.portHeld p := rfl

/-- A write that is let through has its effect on the accepted state; its word may then show a refusal of the register's own rule. -/
theorem asWrite_ok {s : State} {ag : Agent} {a : Nat} (h : CanWrite s ag a) (eff : State → State) :
    (begun s).asWrite ag a eff =
      match agentPort ag with
      | none => eff (accepted s ag)
      | some p =>
        let c := newRefusal (accepted s ag) (eff (accepted s ag))
        if c = 0 ∨ a = R.DEV_COMMIT then eff (accepted s ag) else (eff (accepted s ag)).portRefused p c a := by
  unfold State.asWrite
  rw [begun_permits, h.1]
  cases hp : agentPort ag with
  | none => simp [accepted, hp]
  | some p => simp [accepted, hp, begun_portHeld, h.2 p hp]

/-- A write that is let through and whose rule refuses nothing has its effect on the accepted state. -/
theorem asWrite_quiet {s : State} {ag : Agent} {a : Nat} (h : CanWrite s ag a) (eff : State → State)
    (q : newRefusal (accepted s ag) (eff (accepted s ag)) = 0) : (begun s).asWrite ag a eff = eff (accepted s ag) := by
  rw [asWrite_ok h]
  cases hp : agentPort ag with
  | none => rfl
  | some p => simp [q]

@[simp] theorem accepted_occ (s : State) (ag : Agent) : (accepted s ag).occ = [] := by unfold accepted; split <;> simp [begun]

/-- No occurrence of 49 or 50 among the new ones: nothing is refused. -/
theorem newRefusal_of {s t : State} {l : List Occ} (h : t.occ = s.occ ++ l) (q : ∀ o ∈ l, o.src ≠ 49 ∧ o.src ≠ 50) : newRefusal s t = 0 := by
  unfold newRefusal
  rw [h, List.drop_left]
  have : ∀ l : List Occ, (∀ o ∈ l, o.src ≠ 49 ∧ o.src ≠ 50) →
      l.foldl (fun (c : Nat) o => if o.src = 49 then 1 else if o.src = 50 then 2 else c) 0 = 0 := by
    intro l
    induction l with
    | nil => intro _; rfl
    | cons o l ih =>
      intro q
      have := q o (by simp)
      simp only [List.foldl_cons, this.1, this.2, if_false]
      exact ih fun o' h' => q o' (by simp [h'])
  exact this l q

/-- An effect that raises nothing is refused nothing. -/
theorem newRefusal_same {s t : State} (h : t.occ = s.occ) : newRefusal s t = 0 :=
  newRefusal_of (l := []) (by simp [h]) (by simp)

end Sys2Proof.Laws
end

