-- ==== Sys2Proof/Laws/Exec.lean ====
section
/-! SUPPORT. The effect with which each command ends, one lemma per command. -/

namespace Sys2Proof.Laws

open Sys2Proof Sys2Proof.Machine

theorem ends_registerWrite (ag : Agent) (a : Word) (w : RegWord) (s : State) (wf : ((.registerWrite ag a w) : Instr).wellFormed = true) : Ends (.registerWrite ag a w) s ((fun s => (s.cycle w.same).writeWord ag a.toNat w.value.toNat) (begun s)) :=
  ends_of (eff := fun s => (s.cycle w.same).writeWord ag a.toNat w.value.toNat) wf rfl

theorem ends_devCommit (ag : Agent) (s : State) (wf : ((.devCommit ag) : Instr).wellFormed = true) : Ends (.devCommit ag) s ((fun s => s.asWrite ag R.DEV_COMMIT fun s => s.devCommit ag) (begun s)) :=
  ends_of (eff := fun s => s.asWrite ag R.DEV_COMMIT fun s => s.devCommit ag) wf rfl

theorem ends_qspiWrite (p : Port) (how : WriteEnd) (a : Word) (bs : List Byte) (s : State) (wf : ((.qspiWrite p how a bs) : Instr).wellFormed = true) : Ends (.qspiWrite p how a bs) s ((fun s =>
    if how.complete then (s.cycle how.same).writeTx (.host p) a.toNat bs else s.incomplete p) (begun s)) :=
  ends_of (eff := fun s =>
    if how.complete then (s.cycle how.same).writeTx (.host p) a.toNat bs else s.incomplete p) wf rfl

theorem ends_qspiRead (ag : Agent) (complete : Bool) (a : Word) (n : Nat) (notReady collide : Option Nat) (ecc : EccMap) (s : State) (wf : ((.qspiRead ag complete a n notReady collide ecc) : Instr).wellFormed = true) : Ends (.qspiRead ag complete a n notReady collide ecc) s ((fun s => s.agentRead ag complete a.toNat n notReady collide ecc) (begun s)) :=
  ends_of (eff := fun s => s.agentRead ag complete a.toNat n notReady collide ecc) wf rfl

theorem ends_qspiStatus (p : Port) (n : Nat) (s : State) (wf : ((.qspiStatus p n) : Instr).wellFormed = true) : Ends (.qspiStatus p n) s ((fun s => s.statusRead p n) (begun s)) :=
  ends_of (eff := fun s => s.statusRead p n) wf rfl

theorem ends_badCmd (p : Port) (cmd : Byte) (s : State) (wf : ((.badCmd p cmd) : Instr).wellFormed = true) : Ends (.badCmd p cmd) s ((fun s => if (qspiOp cmd).isSome then s else s.portReject p 4 (s.reg (R.HPT_P_ERR_ADDR p.num))) (begun s)) :=
  ends_of (eff := fun s => if (qspiOp cmd).isSome then s else s.portReject p 4 (s.reg (R.HPT_P_ERR_ADDR p.num))) wf rfl

theorem ends_i2cWrite (dev : BitVec 7) (how : WriteEnd) (a : Word) (bs : List Byte) (s : State) (wf : ((.i2cWrite dev how a bs) : Instr).wellFormed = true) : Ends (.i2cWrite dev how a bs) s ((fun s =>
    if !s.isHp2 dev then s
    else if how.complete then (s.cycle how.same).writeTx (.host .hp2) a.toNat bs else s.incomplete .hp2) (begun s)) :=
  ends_of (eff := fun s =>
    if !s.isHp2 dev then s
    else if how.complete then (s.cycle how.same).writeTx (.host .hp2) a.toNat bs else s.incomplete .hp2) wf rfl

theorem ends_i2cRead (dev : BitVec 7) (complete : Bool) (a : Word) (n : Nat) (notReady collide : Option Nat) (ecc : EccMap) (s : State) (wf : ((.i2cRead dev complete a n notReady collide ecc) : Instr).wellFormed = true) : Ends (.i2cRead dev complete a n notReady collide ecc) s ((fun s =>
    if !s.isHp2 dev then s
    else if complete then s.readTx .hp2 a.toNat n notReady collide ecc else s.incomplete .hp2) (begun s)) :=
  ends_of (eff := fun s =>
    if !s.isHp2 dev then s
    else if complete then s.readTx .hp2 a.toNat n notReady collide ecc else s.incomplete .hp2) wf rfl

theorem ends_i2cStatusRead (dev : BitVec 7) (n : Nat) (s : State) (wf : ((.i2cStatusRead dev n) : Instr).wellFormed = true) : Ends (.i2cStatusRead dev n) s ((fun s => if s.isHp2 dev then s.statusRead .hp2 n else s) (begun s)) :=
  ends_of (eff := fun s => if s.isHp2 dev then s.statusRead .hp2 n else s) wf rfl

theorem ends_pairRegisterLatch (p : Port) (a : Word) (s : State) (wf : ((.pairRegisterLatch p a) : Instr).wellFormed = true) : Ends (.pairRegisterLatch p a) s ((fun s =>
    if inPair a.toNat ∧ a.toNat % 8 = 0 then s.readTx p a.toNat 4 none none [] else s) (begun s)) :=
  ends_of (eff := fun s =>
    if inPair a.toNat ∧ a.toNat % 8 = 0 then s.readTx p a.toNat 4 none none [] else s) wf rfl

theorem ends_pilCfgWrite (ag : Agent) (v : Word) (s : State) (wf : ((.pilCfgWrite ag v) : Instr).wellFormed = true) : Ends (.pilCfgWrite ag v) s ((fun s => s.asWrite ag R.PIL_CFG fun s => s.pilConfig v.toNat) (begun s)) :=
  ends_of (eff := fun s => s.asWrite ag R.PIL_CFG fun s => s.pilConfig v.toNat) wf rfl

theorem ends_laneStatus  (s : State) (wf : (.laneStatus : Instr).wellFormed = true) : Ends .laneStatus s (State.laneStatus (begun s)) :=
  ends_of (eff := State.laneStatus) wf rfl

theorem ends_creditPeriodic  (s : State) (wf : (.creditPeriodic : Instr).wellFormed = true) : Ends .creditPeriodic s ((fun s => s.each (List.range 16) fun s i => s.sendCredit i) (begun s)) :=
  ends_of (eff := fun s => s.each (List.range 16) fun s i => s.sendCredit i) wf rfl

theorem ends_laneMarker (k j : Nat) (id seq chk : Byte) (pos : Nat) (agree : Bool) (s : State) (wf : ((.laneMarker k j id seq chk pos agree) : Instr).wellFormed = true) : Ends (.laneMarker k j id seq chk pos agree) s ((fun s => s.laneMarker k j id seq chk pos agree) (begun s)) :=
  ends_of (eff := fun s => s.laneMarker k j id seq chk pos agree) wf rfl

theorem ends_laneLost (l : Nat) (b : Blank) (s : State) (wf : ((.laneLost l b) : Instr).wellFormed = true) : Ends (.laneLost l b) s ((fun s => s.laneLost l) (begun s)) :=
  ends_of (eff := fun s => s.laneLost l) wf rfl

theorem ends_rotDupRepeat (k : Nat) (s : State) (wf : ((.rotDupRepeat k) : Instr).wellFormed = true) : Ends (.rotDupRepeat k) s ((fun s => s.rotDupRepeat k) (begun s)) :=
  ends_of (eff := fun s => s.rotDupRepeat k) wf rfl

theorem ends_rotNoCoop (k : Nat) (s : State) (wf : ((.rotNoCoop k) : Instr).wellFormed = true) : Ends (.rotNoCoop k) s ((fun s => s.rotNoCoop k) (begun s)) :=
  ends_of (eff := fun s => s.rotNoCoop k) wf rfl

theorem ends_rotReturn (k : Nat) (s : State) (wf : ((.rotReturn k) : Instr).wellFormed = true) : Ends (.rotReturn k) s ((fun s => s.rotReturn k) (begun s)) :=
  ends_of (eff := fun s => s.rotReturn k) wf rfl

theorem ends_degradedLinkLoss  (s : State) (wf : (.degradedLinkLoss : Instr).wellFormed = true) : Ends .degradedLinkLoss s (State.degradedLoss (begun s)) :=
  ends_of (eff := State.degradedLoss) wf rfl

theorem ends_frameStart (rx : LinkRx) (b1 b2 b3 b4 : Blank) (s : State) (wf : ((.frameStart rx b1 b2 b3 b4) : Instr).wellFormed = true) : Ends (.frameStart rx b1 b2 b3 b4) s ((fun s => s.packet 1 rx fun p s =>
    let h := p.frameHead
    s.frameStart h.no h.stamp h.w h.h h.fmt rx.check) (begun s)) :=
  ends_of (eff := fun s => s.packet 1 rx fun p s =>
    let h := p.frameHead
    s.frameStart h.no h.stamp h.w h.h h.fmt rx.check) wf rfl

theorem ends_vidLine (rx : LinkRx) (bands : List Nat) (b1 b2 b3 b4 b5 : Blank) (s : State) (wf : ((.vidLine rx bands b1 b2 b3 b4 b5) : Instr).wellFormed = true) : Ends (.vidLine rx bands b1 b2 b3 b4 b5) s ((fun s => s.packet 2 rx fun p s => s.vidPacket p bands rx.check) (begun s)) :=
  ends_of (eff := fun s => s.packet 2 rx fun p s => s.vidPacket p bands rx.check) wf rfl

theorem ends_frameEnd (rx : LinkRx) (s : State) (wf : ((.frameEnd rx) : Instr).wellFormed = true) : Ends (.frameEnd rx) s ((fun s => s.packet 3 rx fun _ s => (s.frameEnd rx.check).sleepCheck) (begun s)) :=
  ends_of (eff := fun s => s.packet 3 rx fun _ s => (s.frameEnd rx.check).sleepCheck) wf rfl

theorem ends_failedPacket (rx : LinkRx) (b : Blank) (s : State) (wf : ((.failedPacket rx b) : Instr).wellFormed = true) : Ends (.failedPacket rx b) s ((fun s => s.failure rx) (begun s)) :=
  ends_of (eff := fun s => s.failure rx) wf rfl

theorem ends_regionBegin (rx : LinkRx) (b1 b2 b3 b4 b5 : Blank) (s : State) (wf : ((.regionBegin rx b1 b2 b3 b4 b5) : Instr).wellFormed = true) : Ends (.regionBegin rx b1 b2 b3 b4 b5) s ((fun s => s.packet 4 rx fun p s => s.inSlot p fun s =>
    let (x, y, w, h, tag) := p.rect
    s.regionBegin p.id x y w h tag) (begun s)) :=
  ends_of (eff := fun s => s.packet 4 rx fun p s => s.inSlot p fun s =>
    let (x, y, w, h, tag) := p.rect
    s.regionBegin p.id x y w h tag) wf rfl

theorem ends_regionLine (rx : LinkRx) (b1 b2 b3 b4 b5 b6 : Blank) (s : State) (wf : ((.regionLine rx b1 b2 b3 b4 b5 b6) : Instr).wellFormed = true) : Ends (.regionLine rx b1 b2 b3 b4 b5 b6) s ((fun s => s.packet 5 rx fun p s => s.inSlot p fun s =>
    s.regionLine p.id p.line p.firstX p.count p.fmt p.lineEnd p.payload) (begun s)) :=
  ends_of (eff := fun s => s.packet 5 rx fun p s => s.inSlot p fun s =>
    s.regionLine p.id p.line p.firstX p.count p.fmt p.lineEnd p.payload) wf rfl

theorem ends_regionCommit (rx : LinkRx) (b : Blank) (s : State) (wf : ((.regionCommit rx b) : Instr).wellFormed = true) : Ends (.regionCommit rx b) s ((fun s => s.packet 6 rx fun p s => s.inSlot p fun s => s.regionCommit p.id p.word) (begun s)) :=
  ends_of (eff := fun s => s.packet 6 rx fun p s => s.inSlot p fun s => s.regionCommit p.id p.word) wf rfl

theorem ends_sleep (rx : LinkRx) (s : State) (wf : ((.sleep rx) : Instr).wellFormed = true) : Ends (.sleep rx) s ((fun s => s.packet 7 rx fun p s => s.sleepMsg p.word) (begun s)) :=
  ends_of (eff := fun s => s.packet 7 rx fun p s => s.sleepMsg p.word) wf rfl

theorem ends_wake (rx : LinkRx) (s : State) (wf : ((.wake rx) : Instr).wellFormed = true) : Ends (.wake rx) s ((fun s => s.packet 8 rx fun _ s => s.wakeMsg) (begun s)) :=
  ends_of (eff := fun s => s.packet 8 rx fun _ s => s.wakeMsg) wf rfl

theorem ends_metaPacket (rx : LinkRx) (s : State) (wf : ((.metaPacket rx) : Instr).wellFormed = true) : Ends (.metaPacket rx) s ((fun s => s.packet 9 rx fun p s => { s with pil := { s.pil with metaNew := some p.payload } }) (begun s)) :=
  ends_of (eff := fun s => s.packet 9 rx fun p s => { s with pil := { s.pil with metaNew := some p.payload } }) wf rfl

theorem ends_auxPacket (rx : LinkRx) (s : State) (wf : ((.auxPacket rx) : Instr).wellFormed = true) : Ends (.auxPacket rx) s ((fun s => s.packet 10 rx fun p s => s.auxRx p.payload) (begun s)) :=
  ends_of (eff := fun s => s.packet 10 rx fun p s => s.auxRx p.payload) wf rfl

theorem ends_auxPop (p : Port) (s : State) (wf : ((.auxPop p) : Instr).wellFormed = true) : Ends (.auxPop p) s ((fun s => s.answer p (s.popAux p)) (begun s)) :=
  ends_of (eff := fun s => s.answer p (s.popAux p)) wf rfl

theorem ends_sourceFrameComplete  (s : State) (wf : (.sourceFrameComplete : Instr).wellFormed = true) : Ends .sourceFrameComplete s (State.frameComplete (begun s)) :=
  ends_of (eff := State.frameComplete) wf rfl

theorem ends_tableShadowWrite (ag : Agent) (a : Word) (bs : List Byte) (s : State) (wf : ((.tableShadowWrite ag a bs) : Instr).wellFormed = true) : Ends (.tableShadowWrite ag a bs) s ((fun s =>
    if 0x200000 ≤ a.toNat ∧ a.toNat < 0x400000 then s.writeTx ag a.toNat bs else s) (begun s)) :=
  ends_of (eff := fun s =>
    if 0x200000 ≤ a.toNat ∧ a.toNat < 0x400000 then s.writeTx ag a.toNat bs else s) wf rfl

theorem ends_fePixel (x y : Nat) (s : State) (wf : ((.fePixel x y) : Instr).wellFormed = true) : Ends (.fePixel x y) s ((fun s => s.frontEnd x y) (begun s)) :=
  ends_of (eff := fun s => s.frontEnd x y) wf rfl

theorem ends_storeModeRead (bx bY : Nat) (ecc eccBack : EccMap) (s : State) (wf : ((.storeModeRead bx bY ecc eccBack) : Instr).wellFormed = true) : Ends (.storeModeRead bx bY ecc eccBack) s ((fun s => s.storeRead bx bY (ecc ++ eccBack)) (begun s)) :=
  ends_of (eff := fun s => s.storeRead bx bY (ecc ++ eccBack)) wf rfl

theorem ends_zoneRowDecided (zy : Nat) (s : State) (wf : ((.zoneRowDecided zy) : Instr).wellFormed = true) : Ends (.zoneRowDecided zy) s ((fun s => s.zoneRowDecided zy) (begun s)) :=
  ends_of (eff := fun s => s.zoneRowDecided zy) wf rfl

theorem ends_splitPixel (x y : Nat) (s : State) (wf : ((.splitPixel x y) : Instr).wellFormed = true) : Ends (.splitPixel x y) s ((fun s => s.splitPixel x y) (begun s)) :=
  ends_of (eff := fun s => s.splitPixel x y) wf rfl

theorem ends_syncReset (ag : Agent) (s : State) (wf : ((.syncReset ag) : Instr).wellFormed = true) : Ends (.syncReset ag) s ((fun s => s.asWrite ag R.SPL_CTRL State.requestSync) (begun s)) :=
  ends_of (eff := fun s => s.asWrite ag R.SPL_CTRL State.requestSync) wf rfl

theorem ends_stageA (x y plane : Nat) (s : State) (wf : ((.stageA x y plane) : Instr).wellFormed = true) : Ends (.stageA x y plane) s ((fun s => s.stageA x y plane) (begun s)) :=
  ends_of (eff := fun s => s.stageA x y plane) wf rfl

theorem ends_stageB (x y plane : Nat) (ecc : EccMap) (s : State) (wf : ((.stageB x y plane ecc) : Instr).wellFormed = true) : Ends (.stageB x y plane ecc) s ((fun s => s.stageB x y plane ecc) (begun s)) :=
  ends_of (eff := fun s => s.stageB x y plane ecc) wf rfl

theorem ends_pcmListWrite (ag : Agent) (a : Word) (bs : List Byte) (s : State) (wf : ((.pcmListWrite ag a bs) : Instr).wellFormed = true) : Ends (.pcmListWrite ag a bs) s ((fun s => if tblEngine a.toNat = some 4 then s.writeTx ag a.toNat bs else s) (begun s)) :=
  ends_of (eff := fun s => if tblEngine a.toNat = some 4 then s.writeTx ag a.toNat bs else s) wf rfl

theorem ends_overdrive (x y plane : Nat) (ecc : EccMap) (mismatch : Bool) (s : State) (wf : ((.overdrive x y plane ecc mismatch) : Instr).wellFormed = true) : Ends (.overdrive x y plane ecc mismatch) s ((fun s => s.overdrive x y plane ecc mismatch) (begun s)) :=
  ends_of (eff := fun s => s.overdrive x y plane ecc mismatch) wf rfl

theorem ends_dither (x y plane : Nat) (s : State) (wf : ((.dither x y plane) : Instr).wellFormed = true) : Ends (.dither x y plane) s ((fun s => s.dither x y plane) (begun s)) :=
  ends_of (eff := fun s => s.dither x y plane) wf rfl

theorem ends_thermistorConversion (k code : Nat) (s : State) (wf : ((.thermistorConversion k code) : Instr).wellFormed = true) : Ends (.thermistorConversion k code) s ((fun s => s.thermistor k code) (begun s)) :=
  ends_of (eff := fun s => s.thermistor k code) wf rfl

theorem ends_tgFrameBoundary (n : Nat) (s : State) (wf : ((.tgFrameBoundary n) : Instr).wellFormed = true) : Ends (.tgFrameBoundary n) s ((fun s =>
    let r := s.run n
    if !r.on || r.line + 1 < r.planned || s.stretches n || r.stopPending then s else s.boundary n (r.lineStart + r.period) {}) (begun s)) :=
  ends_of (eff := fun s =>
    let r := s.run n
    if !r.on || r.line + 1 < r.planned || s.stretches n || r.stopPending then s else s.boundary n (r.lineStart + r.period) {}) wf rfl

theorem ends_lineStart (n : Nat) (s : State) (wf : ((.lineStart n) : Instr).wellFormed = true) : Ends (.lineStart n) s ((fun s =>
    let s' := s.lineStart n
    let r := s'.run n
    if n = 0 ∧ r.line ≠ (s.run 0).line ∧ r.line < r.vactive then s'.sliceLine else if n = 2 then s'.bleLine else s') (begun s)) :=
  ends_of (eff := fun s =>
    let s' := s.lineStart n
    let r := s'.run n
    if n = 0 ∧ r.line ≠ (s.run 0).line ∧ r.line < r.vactive then s'.sliceLine else if n = 2 then s'.bleLine else s') wf rfl

theorem ends_jump (n : Nat) (s : State) (wf : ((.jump n) : Instr).wellFormed = true) : Ends (.jump n) s ((fun s =>
    match s.jumpTarget n with
    | some t => s.boundary n t { jump := true, early := decide (t < (s.run n).plannedEnd) }
    | none => s) (begun s)) :=
  ends_of (eff := fun s =>
    match s.jumpTarget n with
    | some t => s.boundary n t { jump := true, early := decide (t < (s.run n).plannedEnd) }
    | none => s) wf rfl

theorem ends_followerRestart (n : Nat) (s : State) (wf : ((.followerRestart n) : Instr).wellFormed = true) : Ends (.followerRestart n) s ((fun s =>
    match s.restartTarget n with
    | some t => s.restartAt n t
    | none => s) (begun s)) :=
  ends_of (eff := fun s =>
    match s.restartTarget n with
    | some t => s.restartAt n t
    | none => s) wf rfl

theorem ends_tgHoldover (n : Nat) (s : State) (wf : ((.tgHoldover n) : Instr).wellFormed = true) : Ends (.tgHoldover n) s ((fun s => s.tgHoldover n) (begun s)) :=
  ends_of (eff := fun s => s.tgHoldover n) wf rfl

theorem ends_generatorStop (n : Nat) (s : State) (wf : ((.generatorStop n) : Instr).wellFormed = true) : Ends (.generatorStop n) s ((fun s => s.stopDue n) (begun s)) :=
  ends_of (eff := fun s => s.stopDue n) wf rfl

theorem ends_gateShort (l : Layer) (sig : Nat) (s : State) (wf : ((.gateShort l sig) : Instr).wellFormed = true) : Ends (.gateShort l sig) s ((fun s => s.gateShort l sig) (begun s)) :=
  ends_of (eff := fun s => s.gateShort l sig) wf rfl

theorem ends_panelOn (ag : Agent) (l : Layer) (s : State) (wf : ((.panelOn ag l) : Instr).wellFormed = true) : Ends (.panelOn ag l) s ((fun s => s.asWrite ag R.TG_PANEL_CTRL fun s => s.panelBit l true) (begun s)) :=
  ends_of (eff := fun s => s.asWrite ag R.TG_PANEL_CTRL fun s => s.panelBit l true) wf rfl

theorem ends_panelOff (ag : Agent) (l : Layer) (s : State) (wf : ((.panelOff ag l) : Instr).wellFormed = true) : Ends (.panelOff ag l) s ((fun s => s.asWrite ag R.TG_PANEL_CTRL fun s => s.panelBit l false) (begun s)) :=
  ends_of (eff := fun s => s.asWrite ag R.TG_PANEL_CTRL fun s => s.panelBit l false) wf rfl

theorem ends_onDelayElapsed (k : Nat) (s : State) (wf : ((.onDelayElapsed k) : Instr).wellFormed = true) : Ends (.onDelayElapsed k) s ((fun s => s.onDelay k) (begun s)) :=
  ends_of (eff := fun s => s.onDelay k) wf rfl

theorem ends_gateDelayElapsed (l : Layer) (s : State) (wf : ((.gateDelayElapsed l) : Instr).wellFormed = true) : Ends (.gateDelayElapsed l) s ((fun s => s.gateDelay l) (begun s)) :=
  ends_of (eff := fun s => s.gateDelay l) wf rfl

theorem ends_panelEnableRelease (l : Layer) (k : Option Nat) (s : State) (wf : ((.panelEnableRelease l k) : Instr).wellFormed = true) : Ends (.panelEnableRelease l k) s ((fun s => s.panelRelease l k) (begun s)) :=
  ends_of (eff := fun s => s.panelRelease l k) wf rfl

theorem ends_lineSlot (l : Layer) (badLanes : List Nat) (s : State) (wf : ((.lineSlot l badLanes) : Instr).wellFormed = true) : Ends (.lineSlot l badLanes) s ((fun s => s.lineSlot l badLanes) (begun s)) :=
  ends_of (eff := fun s => s.lineSlot l badLanes) wf rfl

theorem ends_portUp (flock : Nat) (port : Option Nat) (s : State) (wf : ((.portUp flock port) : Instr).wellFormed = true) : Ends (.portUp flock port) s ((fun s => s.flockUp flock port) (begun s)) :=
  ends_of (eff := fun s => s.flockUp flock port) wf rfl

theorem ends_locknLost (flock : Nat) (s : State) (wf : ((.locknLost flock) : Instr).wellFormed = true) : Ends (.locknLost flock) s ((fun s => s.locknLost flock) (begun s)) :=
  ends_of (eff := fun s => s.locknLost flock) wf rfl

theorem ends_statusReply (flock : Nat) (reply : Option (BitVec 40)) (s : State) (wf : ((.statusReply flock reply) : Instr).wellFormed = true) : Ends (.statusReply flock reply) s ((fun s => s.statusReply flock reply) (begun s)) :=
  ends_of (eff := fun s => s.statusReply flock reply) wf rfl

theorem ends_laneOff (l : Nat) (s : State) (wf : ((.laneOff l) : Instr).wellFormed = true) : Ends (.laneOff l) s ((fun s =>
    let s' := s.laneOff l
    if s'.occ = s.occ then s' else (s'.doubleFault (16 + (l - 32) / 2)).logRetire 572 (0x40 + (l - 32) / 2)) (begun s)) :=
  ends_of (eff := fun s =>
    let s' := s.laneOff l
    if s'.occ = s.occ then s' else (s'.doubleFault (16 + (l - 32) / 2)).logRetire 572 (0x40 + (l - 32) / 2)) wf rfl

theorem ends_blSyncIn  (s : State) (wf : (.blSyncIn : Instr).wellFormed = true) : Ends .blSyncIn s (State.blSyncIn (begun s)) :=
  ends_of (eff := State.blSyncIn) wf rfl

theorem ends_bleSyncInLost  (s : State) (wf : (.bleSyncInLost : Instr).wellFormed = true) : Ends .bleSyncInLost s (State.syncInLost (begun s)) :=
  ends_of (eff := State.syncInLost) wf rfl

theorem ends_zoneStoreWrite (ag : Agent) (a v : Word) (s : State) (wf : ((.zoneStoreWrite ag a v) : Instr).wellFormed = true) : Ends (.zoneStoreWrite ag a v) s ((fun s =>
    if 0x380000 ≤ a.toNat ∧ a.toNat < 0x3C0000 then s.writeWord ag a.toNat v.toNat else s) (begun s)) :=
  ends_of (eff := fun s =>
    if 0x380000 ≤ a.toNat ∧ a.toNat < 0x3C0000 then s.writeWord ag a.toNat v.toNat else s) wf rfl

theorem ends_swap (ag : Agent) (s : State) (wf : ((.swap ag) : Instr).wellFormed = true) : Ends (.swap ag) s ((fun s => s.writeWord ag R.BLE_CTRL 1) (begun s)) :=
  ends_of (eff := fun s => s.writeWord ag R.BLE_CTRL 1) wf rfl

theorem ends_loopTest (ag : Agent) (s : State) (wf : ((.loopTest ag) : Instr).wellFormed = true) : Ends (.loopTest ag) s ((fun s => s.writeWord ag R.BLE_CTRL 2) (begun s)) :=
  ends_of (eff := fun s => s.writeWord ag R.BLE_CTRL 2) wf rfl

theorem ends_clearDead (ag : Agent) (s : State) (wf : ((.clearDead ag) : Instr).wellFormed = true) : Ends (.clearDead ag) s ((fun s => s.writeWord ag R.BLE_CTRL 4) (begun s)) :=
  ends_of (eff := fun s => s.writeWord ag R.BLE_CTRL 4) wf rfl

theorem ends_driveCounterWrite (ag : Agent) (y : Nat) (v : Word) (s : State) (wf : ((.driveCounterWrite ag y v) : Instr).wellFormed = true) : Ends (.driveCounterWrite ag y v) s ((fun s => s.writeWord ag (0x342000 + 4 * y) v.toNat) (begun s)) :=
  ends_of (eff := fun s => s.writeWord ag (0x342000 + 4 * y) v.toNat) wf rfl

theorem ends_transfer (chain : Nat) (s : State) (wf : ((.transfer chain) : Instr).wellFormed = true) : Ends (.transfer chain) s ((fun s => s.transfer chain) (begun s)) :=
  ends_of (eff := fun s => s.transfer chain) wf rfl

theorem ends_latch (chain : Nat) (status : List (List (BitVec 24))) (found : Option Nat) (s : State) (wf : ((.latch chain status found) : Instr).wellFormed = true) : Ends (.latch chain status found) s ((fun s => s.latch chain status found) (begun s)) :=
  ends_of (eff := fun s => s.latch chain status found) wf rfl

theorem ends_nopTransfer (chain : Nat) (s : State) (wf : ((.nopTransfer chain) : Instr).wellFormed = true) : Ends (.nopTransfer chain) s ((fun s => s.nopTransfer chain) (begun s)) :=
  ends_of (eff := fun s => s.nopTransfer chain) wf rfl

theorem ends_loopTestRepeat (chain : Nat) (s : State) (wf : ((.loopTestRepeat chain) : Instr).wellFormed = true) : Ends (.loopTestRepeat chain) s ((fun s => s.loopTestRepeat chain) (begun s)) :=
  ends_of (eff := fun s => s.loopTestRepeat chain) wf rfl

theorem ends_strobeWindowOpen (row : Nat) (s : State) (wf : ((.strobeWindowOpen row) : Instr).wellFormed = true) : Ends (.strobeWindowOpen row) s ((fun s => s.strobeOpen row) (begun s)) :=
  ends_of (eff := fun s => s.strobeOpen row) wf rfl

theorem ends_strobeWindowClose (row : Nat) (s : State) (wf : ((.strobeWindowClose row) : Instr).wellFormed = true) : Ends (.strobeWindowClose row) s ((fun s => s.strobeClose row) (begun s)) :=
  ends_of (eff := fun s => s.strobeClose row) wf rfl

theorem ends_sensorRead (k : Nat) (s : State) (wf : ((.sensorRead k) : Instr).wellFormed = true) : Ends (.sensorRead k) s ((fun s => s.sensorRead k) (begun s)) :=
  ends_of (eff := fun s => s.sensorRead k) wf rfl

theorem ends_sensorReadDone (k : Nat) (counts : Option (List Byte)) (s : State) (wf : ((.sensorReadDone k counts) : Instr).wellFormed = true) : Ends (.sensorReadDone k counts) s ((fun s => s.sensorDone k counts) (begun s)) :=
  ends_of (eff := fun s => s.sensorDone k counts) wf rfl

theorem ends_bleSnsCmd (ag : Agent) (v : Word) (s : State) (wf : ((.bleSnsCmd ag v) : Instr).wellFormed = true) : Ends (.bleSnsCmd ag v) s ((fun s => s.writeWord ag R.BLE_SNS_CMD v.toNat) (begun s)) :=
  ends_of (eff := fun s => s.writeWord ag R.BLE_SNS_CMD v.toNat) wf rfl

theorem ends_bleSnsDone (nack : Bool) (s : State) (wf : ((.bleSnsDone nack) : Instr).wellFormed = true) : Ends (.bleSnsDone nack) s ((fun s => s.snsDone nack) (begun s)) :=
  ends_of (eff := fun s => s.snsDone nack) wf rfl

theorem ends_vledEvaluation (ack : Bool) (s : State) (wf : ((.vledEvaluation ack) : Instr).wellFormed = true) : Ends (.vledEvaluation ack) s ((fun s => s.vledEval ack) (begun s)) :=
  ends_of (eff := fun s => s.vledEval ack) wf rfl

theorem ends_srfEnter (ag : Agent) (s : State) (wf : ((.srfEnter ag) : Instr).wellFormed = true) : Ends (.srfEnter ag) s ((fun s => s.asWrite ag R.SRF_CTRL fun s => s.srfCtrl 1) (begun s)) :=
  ends_of (eff := fun s => s.asWrite ag R.SRF_CTRL fun s => s.srfCtrl 1) wf rfl

theorem ends_srfExit (ag : Agent) (s : State) (wf : ((.srfExit ag) : Instr).wellFormed = true) : Ends (.srfExit ag) s ((fun s => s.asWrite ag R.SRF_CTRL fun s => s.srfCtrl 2) (begun s)) :=
  ends_of (eff := fun s => s.asWrite ag R.SRF_CTRL fun s => s.srfCtrl 2) wf rfl

theorem ends_stall  (s : State) (wf : (.stall : Instr).wellFormed = true) : Ends .stall s (State.stall (begun s)) :=
  ends_of (eff := State.stall) wf rfl

theorem ends_regionHostCommit (ag : Agent) (slot : Nat) (s : State) (wf : ((.regionHostCommit ag slot) : Instr).wellFormed = true) : Ends (.regionHostCommit ag slot) s ((fun s => s.writeWord ag (R.SRF_RS_CMD slot) 1) (begun s)) :=
  ends_of (eff := fun s => s.writeWord ag (R.SRF_RS_CMD slot) 1) wf rfl

theorem ends_slotCfgWrite (ag : Agent) (slot : Nat) (v : Word) (s : State) (wf : ((.slotCfgWrite ag slot v) : Instr).wellFormed = true) : Ends (.slotCfgWrite ag slot v) s ((fun s => s.asWrite ag (R.SRF_RS_CFG slot) fun s => s.slotConfig slot v.toNat) (begun s)) :=
  ends_of (eff := fun s => s.asWrite ag (R.SRF_RS_CFG slot) fun s => s.slotConfig slot v.toNat) wf rfl

theorem ends_fillComplete  (s : State) (wf : (.fillComplete : Instr).wellFormed = true) : Ends .fillComplete s ((fun s => match s.srf.inFlight with
    | some .fill => State.copyRan (s.fillBack s.freeEcc)
    | _ => s) (begun s)) :=
  ends_of (eff := fun s => match s.srf.inFlight with
    | some .fill => State.copyRan (s.fillBack s.freeEcc)
    | _ => s) wf rfl

theorem ends_updateCopyComplete (x : CopyCheck) (s : State) (wf : ((.updateCopyComplete x) : Instr).wellFormed = true) : Ends (.updateCopyComplete x) s ((fun s => match s.srf.inFlight with
    | some (.update u) => s.updateCopyEnds u x.ecc x.mismatch
    | _ => s) (begun s)) :=
  ends_of (eff := fun s => match s.srf.inFlight with
    | some (.update u) => s.updateCopyEnds u x.ecc x.mismatch
    | _ => s) wf rfl

theorem ends_echoComplete  (s : State) (wf : (.echoComplete : Instr).wellFormed = true) : Ends .echoComplete s ((fun s => match s.srf.inFlight with
    | some (.echo us) => State.copyRan (s.copyTouched us s.freeEcc)
    | _ => s) (begun s)) :=
  ends_of (eff := fun s => match s.srf.inFlight with
    | some (.echo us) => State.copyRan (s.copyTouched us s.freeEcc)
    | _ => s) wf rfl

theorem ends_rollbackComplete  (s : State) (wf : (.rollbackComplete : Instr).wellFormed = true) : Ends .rollbackComplete s ((fun s => match s.srf.inFlight with
    | some (.rollback u) => State.copyRan (s.copyTouched [u] s.freeEcc)
    | _ => s) (begun s)) :=
  ends_of (eff := fun s => match s.srf.inFlight with
    | some (.rollback u) => State.copyRan (s.copyTouched [u] s.freeEcc)
    | _ => s) wf rfl

theorem ends_readStart  (s : State) (wf : (.readStart : Instr).wellFormed = true) : Ends .readStart s (State.readStart (begun s)) :=
  ends_of (eff := State.readStart) wf rfl

theorem ends_srfResultPop (p : Port) (n : Nat) (s : State) (wf : ((.srfResultPop p n) : Instr).wellFormed = true) : Ends (.srfResultPop p n) s ((fun s => s.answer p (s.popResult p n)) (begun s)) :=
  ends_of (eff := fun s => s.answer p (s.popResult p n)) wf rfl

theorem ends_foldOwnerWrite (ag : Agent) (nn : Nat) (v : Word) (s : State) (wf : ((.foldOwnerWrite ag nn v) : Instr).wellFormed = true) : Ends (.foldOwnerWrite ag nn v) s ((fun s => s.asWrite ag (R.FST_FOLD_OWNER nn) fun s => s.ownerWord nn v.toNat) (begun s)) :=
  ends_of (eff := fun s => s.asWrite ag (R.FST_FOLD_OWNER nn) fun s => s.ownerWord nn v.toNat) wf rfl

theorem ends_fstHandover (nn : Nat) (s : State) (wf : ((.fstHandover nn) : Instr).wellFormed = true) : Ends (.fstHandover nn) s ((fun s => s.handoverEnds nn) (begun s)) :=
  ends_of (eff := fun s => s.handoverEnds nn) wf rfl

theorem ends_grazeStep (ecc : Ecc) (s : State) (wf : ((.grazeStep ecc) : Instr).wellFormed = true) : Ends (.grazeStep ecc) s ((fun s => s.graze ecc) (begun s)) :=
  ends_of (eff := fun s => s.graze ecc) wf rfl

theorem ends_foldInitComplete (nn : Nat) (s : State) (wf : ((.foldInitComplete nn) : Instr).wellFormed = true) : Ends (.foldInitComplete nn) s ((fun s => s.foldInitDone nn) (begun s)) :=
  ends_of (eff := fun s => s.foldInitDone nn) wf rfl

theorem ends_tampern  (s : State) (wf : (.tampern : Instr).wellFormed = true) : Ends .tampern s ((fun s => s.wipe 2) (begun s)) :=
  ends_of (eff := fun s => s.wipe 2) wf rfl

theorem ends_tailWrite (ag : Agent) (r : Nat) (v : Word) (s : State) (wf : ((.tailWrite ag r v) : Instr).wellFormed = true) : Ends (.tailWrite ag r v) s ((fun s => s.asWrite ag (R.CPR_RING_TAIL r) fun s => s.ringTail r v.toNat) (begun s)) :=
  ends_of (eff := fun s => s.asWrite ag (R.CPR_RING_TAIL r) fun s => s.ringTail r v.toNat) wf rfl

theorem ends_jobStart (ecc : EccMap) (s : State) (wf : ((.jobStart ecc) : Instr).wellFormed = true) : Ends (.jobStart ecc) s ((fun s => s.jobStart ecc) (begun s)) :=
  ends_of (eff := fun s => s.jobStart ecc) wf rfl

theorem ends_jobComplete (ecc : EccMap) (vf : List Nat) (s : State) (wf : ((.jobComplete ecc vf) : Instr).wellFormed = true) : Ends (.jobComplete ecc vf) s ((fun s => s.jobComplete ecc vf) (begun s)) :=
  ends_of (eff := fun s => s.jobComplete ecc vf) wf rfl

theorem ends_resume (ag : Agent) (r : Nat) (s : State) (wf : ((.resume ag r) : Instr).wellFormed = true) : Ends (.resume ag r) s ((fun s => s.asWrite ag (R.CPR_RING_CTRL r) fun s => s.ringCtrl r 1) (begun s)) :=
  ends_of (eff := fun s => s.asWrite ag (R.CPR_RING_CTRL r) fun s => s.ringCtrl r 1) wf rfl

theorem ends_skip (ag : Agent) (r : Nat) (s : State) (wf : ((.skip ag r) : Instr).wellFormed = true) : Ends (.skip ag r) s ((fun s => s.asWrite ag (R.CPR_RING_CTRL r) fun s => s.ringCtrl r 2) (begun s)) :=
  ends_of (eff := fun s => s.asWrite ag (R.CPR_RING_CTRL r) fun s => s.ringCtrl r 2) wf rfl

theorem ends_cprDonePop (ag : Agent) (r : Nat) (s : State) (wf : ((.cprDonePop ag r) : Instr).wellFormed = true) : Ends (.cprDonePop ag r) s ((fun s => s.donePop ag r) (begun s)) :=
  ends_of (eff := fun s => s.donePop ag r) wf rfl

theorem ends_pllLock (p : Nat) (s : State) (wf : ((.pllLock p) : Instr).wellFormed = true) : Ends (.pllLock p) s ((fun s => s.pllLocks p) (begun s)) :=
  ends_of (eff := fun s => s.pllLocks p) wf rfl

theorem ends_pllUnlock (p : Nat) (s : State) (wf : ((.pllUnlock p) : Instr).wellFormed = true) : Ends (.pllUnlock p) s ((fun s => s.pllUnlocks p) (begun s)) :=
  ends_of (eff := fun s => s.pllUnlocks p) wf rfl

theorem ends_cdrLock (l : Nat) (s : State) (wf : ((.cdrLock l) : Instr).wellFormed = true) : Ends (.cdrLock l) s ((fun s => if s.rxState l = 2 then (s.setRx l 3).setLane l { s.lane l with comma := none } else s) (begun s)) :=
  ends_of (eff := fun s => if s.rxState l = 2 then (s.setRx l 3).setLane l { s.lane l with comma := none } else s) wf rfl

theorem ends_signalLoss (l : Nat) (s : State) (wf : ((.signalLoss l) : Instr).wellFormed = true) : Ends (.signalLoss l) s ((fun s => if s.rxState l = 3 ∨ s.rxState l = 4 then s.setRx l 2 else s) (begun s)) :=
  ends_of (eff := fun s => if s.rxState l = 3 ∨ s.rxState l = 4 then s.setRx l 2 else s) wf rfl

theorem ends_commaAligned (l : Nat) (c : CommaAt) (s : State) (wf : ((.commaAligned l c) : Instr).wellFormed = true) : Ends (.commaAligned l c) s ((fun s => s.commaFound l c.pos c.gap) (begun s)) :=
  ends_of (eff := fun s => s.commaFound l c.pos c.gap) wf rfl

theorem ends_polarityInvert (l : Nat) (s : State) (wf : ((.polarityInvert l) : Instr).wellFormed = true) : Ends (.polarityInvert l) s ((fun s => s.invertPolarity l) (begun s)) :=
  ends_of (eff := fun s => s.invertPolarity l) wf rfl

theorem ends_slip (ag : Agent) (l : Nat) (s : State) (wf : ((.slip ag l) : Instr).wellFormed = true) : Ends (.slip ag l) s ((fun s => s.asWrite ag (R.LNS_LANE_SLIP l) fun s => s.slipWord l) (begun s)) :=
  ends_of (eff := fun s => s.asWrite ag (R.LNS_LANE_SLIP l) fun s => s.slipWord l) wf rfl

theorem ends_adaptStep (l : Nat) (taps : List Int) (ctle : Int) (s : State) (wf : ((.adaptStep l taps ctle) : Instr).wellFormed = true) : Ends (.adaptStep l taps ctle) s ((fun s => s.adapt l taps ctle) (begun s)) :=
  ends_of (eff := fun s => s.adapt l taps ctle) wf rfl

theorem ends_eyeMonitor (l : Nat) (s : State) (wf : ((.eyeMonitor l) : Instr).wellFormed = true) : Ends (.eyeMonitor l) s ((fun s => s.eyeStart l) (begun s)) :=
  ends_of (eff := fun s => s.eyeStart l) wf rfl

theorem ends_eyeMeasurementDone (l : Nat) (ph v : List Bool) (r : Nat) (s : State) (wf : ((.eyeMeasurementDone l ph v r) : Instr).wellFormed = true) : Ends (.eyeMeasurementDone l ph v r) s ((fun s => s.eyeDone l ph v r) (begun s)) :=
  ends_of (eff := fun s => s.eyeDone l ph v r) wf rfl

theorem ends_scanGo (ag : Agent) (l : Nat) (v : Word) (s : State) (wf : ((.scanGo ag l v) : Instr).wellFormed = true) : Ends (.scanGo ag l v) s ((fun s => s.asWrite ag (R.LNS_LANE_SCAN l) fun s => s.scanWord l v.toNat) (begun s)) :=
  ends_of (eff := fun s => s.asWrite ag (R.LNS_LANE_SCAN l) fun s => s.scanWord l v.toNat) wf rfl

theorem ends_scanDone (l : Nat) (p : ScanPoint) (s : State) (wf : ((.scanDone l p) : Instr).wellFormed = true) : Ends (.scanDone l p) s ((fun s => s.scanEnds l p.phase p.volt p.disagree) (begun s)) :=
  ends_of (eff := fun s => s.scanEnds l p.phase p.volt p.disagree) wf rfl

theorem ends_outputShort (x : ShortReport) (s : State) (wf : ((.outputShort x) : Instr).wellFormed = true) : Ends (.outputShort x) s ((fun s =>
    let s' := s.outputShort x.lane x.limiting x.elapsed
    if 32 ≤ x.lane && s.laneSends x.lane && (s'.lane x.lane).stopped then s'.doubleFault (16 + (x.lane - 32) / 2) else s') (begun s)) :=
  ends_of (eff := fun s =>
    let s' := s.outputShort x.lane x.limiting x.elapsed
    if 32 ≤ x.lane && s.laneSends x.lane && (s'.lane x.lane).stopped then s'.doubleFault (16 + (x.lane - 32) / 2) else s') wf rfl

theorem ends_htmNowLatch (p : Port) (s : State) (wf : ((.htmNowLatch p) : Instr).wellFormed = true) : Ends (.htmNowLatch p) s ((fun s => s.answer p (s.house.ns, s.nowLatch p)) (begun s)) :=
  ends_of (eff := fun s => s.answer p (s.house.ns, s.nowLatch p)) wf rfl

theorem ends_htmStep (ag : Agent) (v : Word) (s : State) (wf : ((.htmStep ag v) : Instr).wellFormed = true) : Ends (.htmStep ag v) s ((fun s => s.asWrite ag R.HTM_STEP_NS fun s => s.stepWord v.toNat) (begun s)) :=
  ends_of (eff := fun s => s.asWrite ag R.HTM_STEP_NS fun s => s.stepWord v.toNat) wf rfl

theorem ends_sync (h : PtpHeader) (sender seqId : Nat) (twoStep : Bool) (t1 : PtpTime) (corr li : Int) (s : State) (wf : ((.sync h sender seqId twoStep t1 corr li) : Instr).wellFormed = true) : Ends (.sync h sender seqId twoStep t1 corr li) s ((fun s => s.ptpTake h fun s => s.syncMsg sender seqId twoStep t1 corr li) (begun s)) :=
  ends_of (eff := fun s => s.ptpTake h fun s => s.syncMsg sender seqId twoStep t1 corr li) wf rfl

theorem ends_followUp (h : PtpHeader) (sender seqId : Nat) (t1 : PtpStamp) (s : State) (wf : ((.followUp h sender seqId t1) : Instr).wellFormed = true) : Ends (.followUp h sender seqId t1) s ((fun s => s.ptpTake h fun s => s.followUp sender seqId t1.time t1.corr) (begun s)) :=
  ends_of (eff := fun s => s.ptpTake h fun s => s.followUp sender seqId t1.time t1.corr) wf rfl

theorem ends_delayResp (h : PtpHeader) (sender rp q : Nat) (t4 : PtpStamp) (li : Int) (s : State) (wf : ((.delayResp h sender rp q t4 li) : Instr).wellFormed = true) : Ends (.delayResp h sender rp q t4 li) s ((fun s => s.ptpTake h fun s => s.delayResp sender rp q t4.time t4.corr li) (begun s)) :=
  ends_of (eff := fun s => s.ptpTake h fun s => s.delayResp sender rp q t4.time t4.corr li) wf rfl

theorem ends_announce (m : AnnounceMsg) (s : State) (wf : ((.announce m) : Instr).wellFormed = true) : Ends (.announce m) s ((fun s => s.ptpTake m.head fun s => s.announce m) (begun s)) :=
  ends_of (eff := fun s => s.ptpTake m.head fun s => s.announce m) wf rfl

theorem ends_delayReq (b : Blank) (s : State) (wf : ((.delayReq b) : Instr).wellFormed = true) : Ends (.delayReq b) s (State.sendDelayReq (begun s)) :=
  ends_of (eff := State.sendDelayReq) wf rfl

theorem ends_droppedFrame  (s : State) (wf : (.droppedFrame : Instr).wellFormed = true) : Ends .droppedFrame s ((fun s => if s.domOn 1 then s.dropFrame else s) (begun s)) :=
  ends_of (eff := fun s => if s.domOn 1 then s.dropFrame else s) wf rfl

theorem ends_arpRequest (vlan : Option Nat) (target : Word) (sender : ArpSender) (s : State) (wf : ((.arpRequest vlan target sender) : Instr).wellFormed = true) : Ends (.arpRequest vlan target sender) s ((fun s => s.netTake vlan fun s =>
    if target.toNat = s.reg R.HTM_IP then s.emit (.arpReply s.netTag sender.mac sender.ip s.macAddress (s.reg R.HTM_IP)) else s.dropFrame) (begun s)) :=
  ends_of (eff := fun s => s.netTake vlan fun s =>
    if target.toNat = s.reg R.HTM_IP then s.emit (.arpReply s.netTag sender.mac sender.ip s.macAddress (s.reg R.HTM_IP)) else s.dropFrame) wf rfl

theorem ends_igmpQuery  (s : State) (wf : (.igmpQuery : Instr).wellFormed = true) : Ends .igmpQuery s ((fun s => s.netTake s.netTag fun s => s.emit (.igmpReport s.netTag)) (begun s)) :=
  ends_of (eff := fun s => s.netTake s.netTag fun s => s.emit (.igmpReport s.netTag)) wf rfl

theorem ends_phyPoll (b : Bool) (s : State) (wf : ((.phyPoll b) : Instr).wellFormed = true) : Ends (.phyPoll b) s ((fun s => s.phyPoll b) (begun s)) :=
  ends_of (eff := fun s => s.phyPoll b) wf rfl

theorem ends_announceTimeout  (s : State) (wf : (.announceTimeout : Instr).wellFormed = true) : Ends .announceTimeout s (State.masterLost (begun s)) :=
  ends_of (eff := State.masterLost) wf rfl

theorem ends_ppsEdge (b : Blank) (s : State) (wf : ((.ppsEdge b) : Instr).wellFormed = true) : Ends (.ppsEdge b) s (State.ppsEdge (begun s)) :=
  ends_of (eff := State.ppsEdge) wf rfl

theorem ends_htmPpsLost  (s : State) (wf : (.htmPpsLost : Instr).wellFormed = true) : Ends .htmPpsLost s (State.ppsLost (begun s)) :=
  ends_of (eff := State.ppsLost) wf rfl

theorem ends_ppsTodArm (ag : Agent) (v : Word) (s : State) (wf : ((.ppsTodArm ag v) : Instr).wellFormed = true) : Ends (.ppsTodArm ag v) s ((fun s => s.asWrite ag R.HTM_PPS_TOD_HI fun s => s.todWord v.toNat) (begun s)) :=
  ends_of (eff := fun s => s.asWrite ag R.HTM_PPS_TOD_HI fun s => s.todWord v.toNat) wf rfl

theorem ends_mdioGo (ag : Agent) (v : Word) (s : State) (wf : ((.mdioGo ag v) : Instr).wellFormed = true) : Ends (.mdioGo ag v) s ((fun s => s.asWrite ag R.HTM_MDIO fun s => s.mdioWord v.toNat) (begun s)) :=
  ends_of (eff := fun s => s.asWrite ag R.HTM_MDIO fun s => s.mdioWord v.toNat) wf rfl

theorem ends_mdioDone (d : BitVec 16) (s : State) (wf : ((.mdioDone d) : Instr).wellFormed = true) : Ends (.mdioDone d) s ((fun s =>
    if !s.flag F.HTM_MDIO_GO then s
    else
      let s := s.putB F.HTM_MDIO_GO false
      if s.flag F.HTM_MDIO_WRITE then s else s.put F.HTM_MDIO_DATA d.toNat) (begun s)) :=
  ends_of (eff := fun s =>
    if !s.flag F.HTM_MDIO_GO then s
    else
      let s := s.putB F.HTM_MDIO_GO false
      if s.flag F.HTM_MDIO_WRITE then s else s.put F.HTM_MDIO_DATA d.toNat) wf rfl

theorem ends_calReq (ag : Agent) (v : Word) (s : State) (wf : ((.calReq ag v) : Instr).wellFormed = true) : Ends (.calReq ag v) s ((fun s => s.asWrite ag R.CAL_REQ fun s => s.calRequest v.toNat) (begun s)) :=
  ends_of (eff := fun s => s.asWrite ag R.CAL_REQ fun s => s.calRequest v.toNat) wf rfl

theorem ends_calTemp (n : Nat) (t : Int) (s : State) (wf : ((.calTemp n t) : Instr).wellFormed = true) : Ends (.calTemp n t) s ((fun s => s.calTemp n t) (begun s)) :=
  ends_of (eff := fun s => s.calTemp n t) wf rfl

theorem ends_calInterval (u : Nat) (s : State) (wf : ((.calInterval u) : Instr).wellFormed = true) : Ends (.calInterval u) s ((fun s => s.calInterval u) (begun s)) :=
  ends_of (eff := fun s => s.calInterval u) wf rfl

theorem ends_calUnitStart  (s : State) (wf : (.calUnitStart : Instr).wellFormed = true) : Ends .calUnitStart s (State.calUnitStart (begun s)) :=
  ends_of (eff := State.calUnitStart) wf rfl

theorem ends_calSkipRetry (u : Nat) (s : State) (wf : ((.calSkipRetry u) : Instr).wellFormed = true) : Ends (.calSkipRetry u) s ((fun s => s.calRetry u) (begun s)) :=
  ends_of (eff := fun s => s.calRetry u) wf rfl

theorem ends_calRunComplete (u : Nat) (v q : List Int) (s : State) (wf : ((.calRunComplete u v q) : Instr).wellFormed = true) : Ends (.calRunComplete u v q) s ((fun s => s.calRunEnds u v q) (begun s)) :=
  ends_of (eff := fun s => s.calRunEnds u v q) wf rfl

theorem ends_sliceLineCompare (line : Nat) (equal : Bool) (s : State) (wf : ((.sliceLineCompare line equal) : Instr).wellFormed = true) : Ends (.sliceLineCompare line equal) s ((fun s => s.lineCompare equal) (begun s)) :=
  ends_of (eff := fun s => s.lineCompare equal) wf rfl

theorem ends_sliceBistComplete (k : Nat) (pass : Bool) (s : State) (wf : ((.sliceBistComplete k pass) : Instr).wellFormed = true) : Ends (.sliceBistComplete k pass) s ((fun s => s.bistEnds k pass) (begun s)) :=
  ends_of (eff := fun s => s.bistEnds k pass) wf rfl

theorem ends_tileFault (k : Nat) (s : State) (wf : ((.tileFault k) : Instr).wellFormed = true) : Ends (.tileFault k) s ((fun s => s.sliceFails k) (begun s)) :=
  ends_of (eff := fun s => s.sliceFails k) wf rfl

theorem ends_loadUpdate (load : Nat) (s : State) (wf : ((.loadUpdate load) : Instr).wellFormed = true) : Ends (.loadUpdate load) s ((fun s => s.loadUpdate load) (begun s)) :=
  ends_of (eff := fun s => s.loadUpdate load) wf rfl

theorem ends_echo (p : Port) (s : State) (wf : ((.echo p) : Instr).wellFormed = true) : Ends (.echo p) s ((fun s => s.mbServe p (· == 1) fun s c => (0, BitVec.ofNat 32 (c.arg 0), s)) (begun s)) :=
  ends_of (eff := fun s => s.mbServe p (· == 1) fun s c => (0, BitVec.ofNat 32 (c.arg 0), s)) wf rfl

theorem ends_version (p : Port) (s : State) (wf : ((.version p) : Instr).wellFormed = true) : Ends (.version p) s ((fun s => s.mbServe p (· == 2) fun s _ => (0, BitVec.ofNat 32 (s.reg R.MGT_STATUS % 65536), s)) (begun s)) :=
  ends_of (eff := fun s => s.mbServe p (· == 2) fun s _ => (0, BitVec.ofNat 32 (s.reg R.MGT_STATUS % 65536), s)) wf rfl

theorem ends_logRead (p : Port) (s : State) (wf : ((.logRead p) : Instr).wellFormed = true) : Ends (.logRead p) s ((fun s => if s.logReadWaits p then s else s.mbServe p (· == 3) fun s c => s.logRead p c) (begun s)) :=
  ends_of (eff := fun s => if s.logReadWaits p then s else s.mbServe p (· == 3) fun s c => s.logRead p c) wf rfl

theorem ends_logWrite (p : Port) (ok : Bool) (s : State) (wf : ((.logWrite p ok) : Instr).wellFormed = true) : Ends (.logWrite p ok) s ((fun s => if s.tal.log.writing.isSome then s else s.mbServe p (· == 4) fun s _ => s.logWrite ok) (begun s)) :=
  ends_of (eff := fun s => if s.tal.log.writing.isSome then s else s.mbServe p (· == 4) fun s _ => s.logWrite ok) wf rfl

theorem ends_reviveUnit (p : Port) (pass : Bool) (s : State) (wf : ((.reviveUnit p pass) : Instr).wellFormed = true) : Ends (.reviveUnit p pass) s ((fun s => s.mbServe p (· == 5) fun s c => s.reviveUnit c pass) (begun s)) :=
  ends_of (eff := fun s => s.mbServe p (· == 5) fun s c => s.reviveUnit c pass) wf rfl

theorem ends_thermal (p : Port) (s : State) (wf : ((.thermal p) : Instr).wellFormed = true) : Ends (.thermal p) s ((fun s => s.mbServe p (· == 6) fun s _ => s.thermal) (begun s)) :=
  ends_of (eff := fun s => s.mbServe p (· == 6) fun s _ => s.thermal) wf rfl

theorem ends_mailboxReservedOp (p : Port) (s : State) (wf : ((.mailboxReservedOp p) : Instr).wellFormed = true) : Ends (.mailboxReservedOp p) s ((fun s => s.mbServe p (fun op => op == 0 || 7 ≤ op) fun s _ => (2, 0#32, s)) (begun s)) :=
  ends_of (eff := fun s => s.mbServe p (fun op => op == 0 || 7 ≤ op) fun s _ => (2, 0#32, s)) wf rfl

theorem ends_mgtDonePop (p : Port) (n : Nat) (s : State) (wf : ((.mgtDonePop p n) : Instr).wellFormed = true) : Ends (.mgtDonePop p n) s ((fun s => s.answer p (s.popMailbox p n)) (begun s)) :=
  ends_of (eff := fun s => s.answer p (s.popMailbox p n)) wf rfl

theorem ends_sheepdogService (v : BitVec 16) (s : State) (wf : ((.sheepdogService v) : Instr).wellFormed = true) : Ends (.sheepdogService v) s ((fun s => s.dogWrite v.toNat) (begun s)) :=
  ends_of (eff := fun s => s.dogWrite v.toNat) wf rfl

theorem ends_sheepdogTimeout  (s : State) (wf : (.sheepdogTimeout : Instr).wellFormed = true) : Ends .sheepdogTimeout s (State.dogTimeout (begun s)) :=
  ends_of (eff := State.dogTimeout) wf rfl

theorem ends_mgtRestart (ag : Agent) (s : State) (wf : ((.mgtRestart ag) : Instr).wellFormed = true) : Ends (.mgtRestart ag) s ((fun s => s.asWrite ag R.MGT_CTRL fun s => s.mgtCtrl 1) (begun s)) :=
  ends_of (eff := fun s => s.asWrite ag R.MGT_CTRL fun s => s.mgtCtrl 1) wf rfl

theorem ends_revive (ag : Agent) (s : State) (wf : ((.revive ag) : Instr).wellFormed = true) : Ends (.revive ag) s ((fun s => s.asWrite ag R.MGT_CTRL fun s => s.mgtCtrl 2) (begun s)) :=
  ends_of (eff := fun s => s.asWrite ag R.MGT_CTRL fun s => s.mgtCtrl 2) wf rfl

theorem ends_reboot1  (s : State) (wf : (.reboot1 : Instr).wellFormed = true) : Ends .reboot1 s ((fun s => if s.mgtState = 2 then s.coreStart 3 else s) (begun s)) :=
  ends_of (eff := fun s => if s.mgtState = 2 then s.coreStart 3 else s) wf rfl

theorem ends_reboot2  (s : State) (wf : (.reboot2 : Instr).wellFormed = true) : Ends .reboot2 s ((fun s => if s.mgtState = 3 then s.coreStart 4 else s) (begun s)) :=
  ends_of (eff := fun s => if s.mgtState = 3 then s.coreStart 4 else s) wf rfl

theorem ends_mgtHeadless  (s : State) (wf : (.mgtHeadless : Instr).wellFormed = true) : Ends .mgtHeadless s (State.headless (begun s)) :=
  ends_of (eff := State.headless) wf rfl

theorem ends_avsLoop (m : List Nat) (ack : Bool) (s : State) (wf : ((.avsLoop m ack) : Instr).wellFormed = true) : Ends (.avsLoop m ack) s ((fun s => s.avsLoop m ack) (begun s)) :=
  ends_of (eff := fun s => s.avsLoop m ack) wf rfl

theorem ends_avsGuard (m : List Nat) (ack : Bool) (s : State) (wf : ((.avsGuard m ack) : Instr).wellFormed = true) : Ends (.avsGuard m ack) s ((fun s => s.avsGuard m ack) (begun s)) :=
  ends_of (eff := fun s => s.avsGuard m ack) wf rfl

theorem ends_recoveryStart  (s : State) (wf : (.recoveryStart : Instr).wellFormed = true) : Ends .recoveryStart s (State.recoveryStart (begun s)) :=
  ends_of (eff := State.recoveryStart) wf rfl

theorem ends_ownershipWrite (ag : Agent) (a v : Word) (s : State) (wf : ((.ownershipWrite ag a v) : Instr).wellFormed = true) : Ends (.ownershipWrite ag a v) s ((fun s => if isOwnReg a.toNat then s.writeWord ag a.toNat v.toNat else s) (begun s)) :=
  ends_of (eff := fun s => if isOwnReg a.toNat then s.writeWord ag a.toNat v.toNat else s) wf rfl

theorem ends_ownLock (ag : Agent) (s : State) (wf : ((.ownLock ag) : Instr).wellFormed = true) : Ends (.ownLock ag) s ((fun s => s.writeWord ag R.DEV_OWN_CTRL 1) (begun s)) :=
  ends_of (eff := fun s => s.writeWord ag R.DEV_OWN_CTRL 1) wf rfl

theorem ends_seqStart (ag : Agent) (slot st : Nat) (s : State) (wf : ((.seqStart ag slot st) : Instr).wellFormed = true) : Ends (.seqStart ag slot st) s ((fun s => s.asWrite ag (R.SEQ_SLOT_CTRL slot) fun s => s.seqCtrl ag slot (2 ^ 31 + st)) (begun s)) :=
  ends_of (eff := fun s => s.asWrite ag (R.SEQ_SLOT_CTRL slot) fun s => s.seqCtrl ag slot (2 ^ 31 + st)) wf rfl

theorem ends_seqCancel (ag : Agent) (slot : Nat) (s : State) (wf : ((.seqCancel ag slot) : Instr).wellFormed = true) : Ends (.seqCancel ag slot) s ((fun s => s.asWrite ag (R.SEQ_SLOT_CTRL slot) fun s => s.seqCtrl ag slot (2 ^ 30)) (begun s)) :=
  ends_of (eff := fun s => s.asWrite ag (R.SEQ_SLOT_CTRL slot) fun s => s.seqCtrl ag slot (2 ^ 30)) wf rfl

theorem ends_seqRelease (ag : Agent) (slot : Nat) (s : State) (wf : ((.seqRelease ag slot) : Instr).wellFormed = true) : Ends (.seqRelease ag slot) s ((fun s => s.asWrite ag (R.SEQ_SLOT_CTRL slot) fun s => s.seqCtrl ag slot (2 ^ 29)) (begun s)) :=
  ends_of (eff := fun s => s.asWrite ag (R.SEQ_SLOT_CTRL slot) fun s => s.seqCtrl ag slot (2 ^ 29)) wf rfl

theorem ends_stepWrite (p : Port) (x : StepFetch) (s : State) (wf : ((.stepWrite p x) : Instr).wellFormed = true) : Ends (.stepWrite p x) s ((fun s => (s.cycle x.same).runStep p x.ecc 1 fun s r t => s.stepWriteWord p r t.w1 t.w2) (begun s)) :=
  ends_of (eff := fun s => (s.cycle x.same).runStep p x.ecc 1 fun s r t => s.stepWriteWord p r t.w1 t.w2) wf rfl

theorem ends_stepModify (p : Port) (x : StepFetch) (s : State) (wf : ((.stepModify p x) : Instr).wellFormed = true) : Ends (.stepModify p x) s ((fun s =>
    (s.cycle x.same).runStep p x.ecc 2 fun s r t => s.stepWriteWord p r t.w1 (s.modified p t.w1 t.w2 t.w3)) (begun s)) :=
  ends_of (eff := fun s =>
    (s.cycle x.same).runStep p x.ecc 2 fun s r t => s.stepWriteWord p r t.w1 (s.modified p t.w1 t.w2 t.w3)) wf rfl

theorem ends_stepCopy (p : Port) (x : StepFetch) (ecc : EccMap) (s : State) (wf : ((.stepCopy p x ecc) : Instr).wellFormed = true) : Ends (.stepCopy p x ecc) s ((fun s => (s.cycle x.same).runStep p x.ecc 3 fun s r t => s.stepCopy p ecc r t) (begun s)) :=
  ends_of (eff := fun s => (s.cycle x.same).runStep p x.ecc 3 fun s r t => s.stepCopy p ecc r t) wf rfl

theorem ends_stepPoll (p : Port) (ecc : EccMap) (s : State) (wf : ((.stepPoll p ecc) : Instr).wellFormed = true) : Ends (.stepPoll p ecc) s ((fun s => s.runStep p ecc 4 fun s r t =>
    if Nat.land (s.viewWord p t.w1) t.w3 = Nat.land t.w2 t.w3 then s.stepDone p else s.stepWaits p r t 0 0) (begun s)) :=
  ends_of (eff := fun s => s.runStep p ecc 4 fun s r t =>
    if Nat.land (s.viewWord p t.w1) t.w3 = Nat.land t.w2 t.w3 then s.stepDone p else s.stepWaits p r t 0 0) wf rfl

theorem ends_pollTimeout (p : Port) (s : State) (wf : ((.pollTimeout p) : Instr).wellFormed = true) : Ends (.pollTimeout p) s ((fun s => s.pollTimeout p) (begun s)) :=
  ends_of (eff := fun s => s.pollTimeout p) wf rfl

theorem ends_stepWaitFrame (p : Port) (ecc : EccMap) (s : State) (wf : ((.stepWaitFrame p ecc) : Instr).wellFormed = true) : Ends (.stepWaitFrame p ecc) s ((fun s => s.runStep p ecc 5 fun s r t =>
    if r.waiting then s else s.stepWaits p r t (t.w0 % 65536) (bits t.w0 25 24)) (begun s)) :=
  ends_of (eff := fun s => s.runStep p ecc 5 fun s r t =>
    if r.waiting then s else s.stepWaits p r t (t.w0 % 65536) (bits t.w0 25 24)) wf rfl

theorem ends_stepDelay (p : Port) (ecc : EccMap) (s : State) (wf : ((.stepDelay p ecc) : Instr).wellFormed = true) : Ends (.stepDelay p ecc) s ((fun s => s.runStep p ecc 6 fun s r t => if r.waiting then s.stepDone p else s.stepWaits p r t 0 0) (begun s)) :=
  ends_of (eff := fun s => s.runStep p ecc 6 fun s r t => if r.waiting then s.stepDone p else s.stepWaits p r t 0 0) wf rfl

theorem ends_stepCommit (p : Port) (ecc : EccMap) (s : State) (wf : ((.stepCommit p ecc) : Instr).wellFormed = true) : Ends (.stepCommit p ecc) s ((fun s => s.runStep p ecc 7 fun s r _ => (s.stepCommit p r).stepDone p) (begun s)) :=
  ends_of (eff := fun s => s.runStep p ecc 7 fun s r _ => (s.stepCommit p r).stepDone p) wf rfl

theorem ends_stepEnd (p : Port) (ecc : EccMap) (s : State) (wf : ((.stepEnd p ecc) : Instr).wellFormed = true) : Ends (.stepEnd p ecc) s ((fun s => s.runStep p ecc 0 fun s r _ => s.seqFinish p.num 0 r.step) (begun s)) :=
  ends_of (eff := fun s => s.runStep p ecc 0 fun s r _ => s.seqFinish p.num 0 r.step) wf rfl

theorem ends_seqHoldLong (slot : Nat) (s : State) (wf : ((.seqHoldLong slot) : Instr).wellFormed = true) : Ends (.seqHoldLong slot) s ((fun s => s.raiseIf (mget 0 s.seq.holds slot != 0) 55 0) (begun s)) :=
  ends_of (eff := fun s => s.raiseIf (mget 0 s.seq.holds slot != 0) 55 0) wf rfl

theorem ends_seqDonePop (p : Port) (n : Nat) (s : State) (wf : ((.seqDonePop p n) : Instr).wellFormed = true) : Ends (.seqDonePop p n) s ((fun s => s.answer p (s.popSeq p n)) (begun s)) :=
  ends_of (eff := fun s => s.answer p (s.popSeq p n)) wf rfl

theorem ends_evtPop (ag : Agent) (n : Nat) (s : State) (wf : ((.evtPop ag n) : Instr).wellFormed = true) : Ends (.evtPop ag n) s ((fun s => s.agentPop ag n) (begun s)) :=
  ends_of (eff := fun s => s.agentPop ag n) wf rfl

theorem ends_maskSet (ag : Agent) (src : Nat) (s : State) (wf : ((.maskSet ag src) : Instr).wellFormed = true) : Ends (.maskSet ag src) s ((fun s => s.srcWrite ag src (setBit (s.reg (R.EVT_SRC_CFG src)) 2 true)) (begun s)) :=
  ends_of (eff := fun s => s.srcWrite ag src (setBit (s.reg (R.EVT_SRC_CFG src)) 2 true)) wf rfl

theorem ends_maskClear (ag : Agent) (src : Nat) (s : State) (wf : ((.maskClear ag src) : Instr).wellFormed = true) : Ends (.maskClear ag src) s ((fun s => s.srcWrite ag src (setBit (s.reg (R.EVT_SRC_CFG src)) 2 false)) (begun s)) :=
  ends_of (eff := fun s => s.srcWrite ag src (setBit (s.reg (R.EVT_SRC_CFG src)) 2 false)) wf rfl

theorem ends_routeChange (ag : Agent) (src route : Nat) (s : State) (wf : ((.routeChange ag src route) : Instr).wellFormed = true) : Ends (.routeChange ag src route) s ((fun s => s.srcWrite ag src (putBits (s.reg (R.EVT_SRC_CFG src)) 1 0 route)) (begun s)) :=
  ends_of (eff := fun s => s.srcWrite ag src (putBits (s.reg (R.EVT_SRC_CFG src)) 1 0 route)) wf rfl

theorem ends_pendClear (ag : Agent) (src : Nat) (same : Bool) (s : State) (wf : ((.pendClear ag src same) : Instr).wellFormed = true) : Ends (.pendClear ag src same) s ((fun s => (s.cycle same).srcWrite ag src (setBit (s.reg (R.EVT_SRC_CFG src)) 31 true)) (begun s)) :=
  ends_of (eff := fun s => (s.cycle same).srcWrite ag src (setBit (s.reg (R.EVT_SRC_CFG src)) 31 true)) wf rfl

theorem ends_intnEnWrite (ag : Agent) (n : Nat) (en : Bool) (s : State) (wf : ((.intnEnWrite ag n en) : Instr).wellFormed = true) : Ends (.intnEnWrite ag n en) s ((fun s =>
    s.asWrite ag (R.EVT_H_CFG n) fun s => s.targetConfig n (setBit (s.reg (R.EVT_H_CFG n)) 31 en)) (begun s)) :=
  ends_of (eff := fun s =>
    s.asWrite ag (R.EVT_H_CFG n) fun s => s.targetConfig n (setBit (s.reg (R.EVT_H_CFG n)) 31 en)) wf rfl

theorem ends_coalesceTime (n : Nat) (s : State) (wf : ((.coalesceTime n) : Instr).wellFormed = true) : Ends (.coalesceTime n) s ((fun s =>
    let t := s.target n
    if s.evtOld n t then s.setTarget n { t with timeDue := true } else s) (begun s)) :=
  ends_of (eff := fun s =>
    let t := s.target n
    if s.evtOld n t then s.setTarget n { t with timeDue := true } else s) wf rfl

theorem ends_tally (ag : Agent) (s : State) (wf : ((.tally ag) : Instr).wellFormed = true) : Ends (.tally ag) s ((fun s => s.asWrite ag R.TAL_CTRL State.tallyNow) (begun s)) :=
  ends_of (eff := fun s => s.asWrite ag R.TAL_CTRL State.tallyNow) wf rfl

theorem ends_timedCopy  (s : State) (wf : (.timedCopy : Instr).wellFormed = true) : Ends .timedCopy s ((fun s => s.talTimed.talStoppedCut) (begun s)) :=
  ends_of (eff := fun s => s.talTimed.talStoppedCut) wf rfl

theorem ends_logPeriodic  (s : State) (wf : (.logPeriodic : Instr).wellFormed = true) : Ends .logPeriodic s (State.logPeriodic (begun s)) :=
  ends_of (eff := State.logPeriodic) wf rfl

theorem ends_talLogWritten (ok : Bool) (s : State) (wf : ((.talLogWritten ok) : Instr).wellFormed = true) : Ends (.talLogWritten ok) s ((fun s => (s.logEnds ok).logDeferred) (begun s)) :=
  ends_of (eff := fun s => (s.logEnds ok).logDeferred) wf rfl

theorem ends_driveSecondsCopy  (s : State) (wf : (.driveSecondsCopy : Instr).wellFormed = true) : Ends .driveSecondsCopy s (State.driveCopy (begun s)) :=
  ends_of (eff := State.driveCopy) wf rfl

theorem ends_aonPorRelease (straps : BitVec 2) (banks : BitVec 5) (s : State) (wf : ((.aonPorRelease straps banks) : Instr).wellFormed = true) : Ends (.aonPorRelease straps banks) s ((fun s => s.porRelease straps banks) (begun s)) :=
  ends_of (eff := fun s => s.porRelease straps banks) wf rfl

theorem ends_fusesLoaded  (s : State) (wf : (.fusesLoaded : Instr).wellFormed = true) : Ends .fusesLoaded s (State.fusesLoaded (begun s)) :=
  ends_of (eff := State.fusesLoaded) wf rfl

theorem ends_imageVerify  (s : State) (wf : (.imageVerify : Instr).wellFormed = true) : Ends .imageVerify s (State.imageVerify (begun s)) :=
  ends_of (eff := State.imageVerify) wf rfl

theorem ends_imageApply  (s : State) (wf : (.imageApply : Instr).wellFormed = true) : Ends .imageApply s (State.imageApply (begun s)) :=
  ends_of (eff := State.imageApply) wf rfl

theorem ends_portsUpOrTimeout  (s : State) (wf : (.portsUpOrTimeout : Instr).wellFormed = true) : Ends .portsUpOrTimeout s (State.portsUp (begun s)) :=
  ends_of (eff := State.portsUp) wf rfl

theorem ends_lcCmd (ag : Agent) (v : Word) (s : State) (wf : ((.lcCmd ag v) : Instr).wellFormed = true) : Ends (.lcCmd ag v) s ((fun s => s.asWrite ag R.CFG_LC_CMD fun s => s.lcCmd v.toNat) (begun s)) :=
  ends_of (eff := fun s => s.asWrite ag R.CFG_LC_CMD fun s => s.lcCmd v.toNat) wf rfl

theorem ends_burn (ag : Agent) (code : BitVec 16) (s : State) (wf : ((.burn ag code) : Instr).wellFormed = true) : Ends (.burn ag code) s ((fun s => s.asWrite ag R.CFG_CTRL fun s => s.cfgCtrl (code.toNat * 65536 + 2)) (begun s)) :=
  ends_of (eff := fun s => s.asWrite ag R.CFG_CTRL fun s => s.cfgCtrl (code.toNat * 65536 + 2)) wf rfl

theorem ends_cfgRestart (ag : Agent) (code : BitVec 16) (s : State) (wf : ((.cfgRestart ag code) : Instr).wellFormed = true) : Ends (.cfgRestart ag code) s ((fun s => s.asWrite ag R.CFG_CTRL fun s => s.cfgCtrl (code.toNat * 65536 + 1)) (begun s)) :=
  ends_of (eff := fun s => s.asWrite ag R.CFG_CTRL fun s => s.cfgCtrl (code.toNat * 65536 + 1)) wf rfl

theorem ends_clearBor (ag : Agent) (s : State) (wf : ((.clearBor ag) : Instr).wellFormed = true) : Ends (.clearBor ag) s ((fun s => s.asWrite ag R.CFG_CTRL fun s => s.cfgCtrl 4) (begun s)) :=
  ends_of (eff := fun s => s.asWrite ag R.CFG_CTRL fun s => s.cfgCtrl 4) wf rfl

theorem ends_nvRead (ag : Agent) (s : State) (wf : ((.nvRead ag) : Instr).wellFormed = true) : Ends (.nvRead ag) s ((fun s => s.asWrite ag R.CFG_NV_CMD fun s => s.nvJob ag 1) (begun s)) :=
  ends_of (eff := fun s => s.asWrite ag R.CFG_NV_CMD fun s => s.nvJob ag 1) wf rfl

theorem ends_nvProgram (ag : Agent) (s : State) (wf : ((.nvProgram ag) : Instr).wellFormed = true) : Ends (.nvProgram ag) s ((fun s => s.asWrite ag R.CFG_NV_CMD fun s => s.nvJob ag 2) (begun s)) :=
  ends_of (eff := fun s => s.asWrite ag R.CFG_NV_CMD fun s => s.nvJob ag 2) wf rfl

theorem ends_cfgNvDone (ecc : EccMap) (deviceOk verifyOk : Bool) (s : State) (wf : ((.cfgNvDone ecc deviceOk verifyOk) : Instr).wellFormed = true) : Ends (.cfgNvDone ecc deviceOk verifyOk) s ((fun s => s.nvDone ecc deviceOk verifyOk) (begun s)) :=
  ends_of (eff := fun s => s.nvDone ecc deviceOk verifyOk) wf rfl

theorem ends_resetn  (s : State) (wf : (.resetn : Instr).wellFormed = true) : Ends .resetn s ((fun s => s.coldStart 1) (begun s)) :=
  ends_of (eff := fun s => s.coldStart 1) wf rfl

theorem ends_pwrOnBackup  (s : State) (wf : (.pwrOnBackup : Instr).wellFormed = true) : Ends .pwrOnBackup s (State.onBackup (begun s)) :=
  ends_of (eff := State.onBackup) wf rfl

theorem ends_pwrOnMain  (s : State) (wf : (.pwrOnMain : Instr).wellFormed = true) : Ends .pwrOnMain s ((fun s => if s.pwr.onB then (s.setPwr { s.pwr with onB := false, aOk := true, revA := false }).raise 1 0 else s) (begun s)) :=
  ends_of (eff := fun s => if s.pwr.onB then (s.setPwr { s.pwr with onB := false, aOk := true, revA := false }).raise 1 0 else s) wf rfl

theorem ends_powerOnReset (bothLost : Bool) (s : State) (wf : ((.powerOnReset bothLost) : Instr).wellFormed = true) : Ends (.powerOnReset bothLost) s ((fun s => s.powerOnReset bothLost) (begun s)) :=
  ends_of (eff := fun s => s.powerOnReset bothLost) wf rfl

theorem ends_pwrReversed (x : SupplyReport) (s : State) (wf : ((.pwrReversed x) : Instr).wellFormed = true) : Ends (.pwrReversed x) s ((fun s => s.supplyLevel x) (begun s)) :=
  ends_of (eff := fun s => s.supplyLevel x) wf rfl

theorem ends_pwrBackupLost  (s : State) (wf : (.pwrBackupLost : Instr).wellFormed = true) : Ends .pwrBackupLost s ((fun s => if s.pwr.onB then s else (s.setPwr { s.pwr with bOk := false }).raise 3 2) (begun s)) :=
  ends_of (eff := fun s => if s.pwr.onB then s else (s.setPwr { s.pwr with bOk := false }).raise 3 2) wf rfl

theorem ends_lowPowerEntry  (s : State) (wf : (.lowPowerEntry : Instr).wellFormed = true) : Ends .lowPowerEntry s (State.lowPower (begun s)) :=
  ends_of (eff := State.lowPower) wf rfl

theorem ends_brownOut  (s : State) (wf : (.brownOut : Instr).wellFormed = true) : Ends .brownOut s (State.brownOut (begun s)) :=
  ends_of (eff := State.brownOut) wf rfl

theorem ends_pwrRailLow (x : RailReport) (s : State) (wf : ((.pwrRailLow x) : Instr).wellFormed = true) : Ends (.pwrRailLow x) s ((fun s => s.railLow x) (begun s)) :=
  ends_of (eff := fun s => s.railLow x) wf rfl

theorem ends_domainRequest (ag : Agent) (dd req : Nat) (s : State) (wf : ((.domainRequest ag dd req) : Instr).wellFormed = true) : Ends (.domainRequest ag dd req) s ((fun s => s.asWrite ag (R.PWR_DOM dd) fun s => s.domainRequest dd req) (begun s)) :=
  ends_of (eff := fun s => s.asWrite ag (R.PWR_DOM dd) fun s => s.domainRequest dd req) wf rfl

theorem ends_domainTransitionComplete (dd : Nat) (s : State) (wf : ((.domainTransitionComplete dd) : Instr).wellFormed = true) : Ends (.domainTransitionComplete dd) s ((fun s => s.domainDone dd) (begun s)) :=
  ends_of (eff := fun s => s.domainDone dd) wf rfl

theorem ends_invalidSymbol (l : Nat) (six : BitVec 6) (four : BitVec 4) (s : State) (wf : ((.invalidSymbol l six four) : Instr).wellFormed = true) : Ends (.invalidSymbol l six four) s ((fun s => s.invalidSym l (six.toNat * 16 + four.toNat)) (begun s)) :=
  ends_of (eff := fun s => s.invalidSym l (six.toNat * 16 + four.toNat)) wf rfl

theorem ends_gatePulseEdge (n sig : Nat) (stop : Bool) (s : State) (wf : ((.gatePulseEdge n sig stop) : Instr).wellFormed = true) : Ends (.gatePulseEdge n sig stop) s ((fun s => s.gateEdge n sig stop) (begun s)) :=
  ends_of (eff := fun s => s.gateEdge n sig stop) wf rfl

theorem ends_blSyncPulseEnd  (s : State) (wf : (.blSyncPulseEnd : Instr).wellFormed = true) : Ends .blSyncPulseEnd s ((fun s => { s with ble := { s.ble with syncHigh := false } }) (begun s)) :=
  ends_of (eff := fun s => { s with ble := { s.ble with syncHigh := false } }) wf rfl

theorem ends_lockedFoldWipeComplete  (s : State) (wf : (.lockedFoldWipeComplete : Instr).wellFormed = true) : Ends .lockedFoldWipeComplete s ((fun s => s.putB F.FST_LOCKED_STATUS_WIPING false) (begun s)) :=
  ends_of (eff := fun s => s.putB F.FST_LOCKED_STATUS_WIPING false) wf rfl

end Sys2Proof.Laws
end

