-- ==== Sys2Proof/Tests/Slice0.lean ====
section
/-! SUPPORT. The model's own tests: worked examples of the spec, ill-formed commands, and for every statement with hypotheses states and
operands that meet them. -/

open Sys2Proof Sys2Proof.Machine

namespace Sys2Proof.Tests

set_option Elab.async false

/-! ### The spec's worked examples. Each expected value is the one that the named chapter prints. -/

/-- Chapter 0, WL16 codes: 1 and 100 cd/m², and the smallest code. -/
theorem test_wl16 : wlOf 1 = 0x7800 ∧ wlOf 100 = 0xAC80 ∧ wlVal 0x0001 = 1 / 33554432 := by decide +kernel

/-- Chapter 1: band 5 of 7680 columns covers columns 2,400 to 2,879. -/
theorem test_bands : bandStart 7680 5 = 2400 ∧ bandOf 7680 2430 = 5 ∧ bandOf 7680 2879 = 5 ∧ bandOf 7680 2880 = 6 := by decide +kernel

/-- Chapter 2, R54: the P16 red value 0b10110 and the P24 value 0x80 (here in red) become 0xB5A and 0x808. -/
theorem test_pixel_expand : (pixelAt 0 [0b10110000#8, 0x00#8] 0).c.r = 0xB5A ∧ (pixelAt 1 [0x80#8, 0#8, 0#8] 0).c.r = 0x808 := by decide +kernel

/-- Chapter 3, Table 3.9: one saturated red pixel; it counts in the gamut's tally and not in the limit's. -/
theorem test_front_end_pixel : feConvert
    { eotf := [0xAC80, 0x8A00, 0x7800], hlg := false, kr := 0, kg := 0, kb := 0
      mat := [20480, -3072, -1024, -1024, 18432, -1024, 0, -2048, 18432]
      wr := 0x4000, wg := 0xB000, wb := 0x1000, gamut := 2, knee := 0xE000, mode := 2, peak := wlOf 1000, start := wlOf 500 } (fun _ => 0)
    = (⟨0xAE97, 0x7E05, 0x8363⟩, true, false) := by decide +kernel

/-- Chapter 4: the zone decision of zone (40, 30). -/
theorem test_zone_level : splLevel (wlOf 400) 0xCC80 0x8000 0x4000 0 0xFFFF = 0x4000
    ∧ splFilter false true 0x4000 0xFFFF 0x0800 0x480000 = (0x47C000, 0x47C0) := by decide +kernel

/-- Chapter 4: the geometry about that zone and Table 4.12's weights. -/
theorem test_zone_geometry :
    let g : SplGeom := ⟨7680, 4320, 3840, 2160, 128, 96, 4, 7, 8, 8⟩
    g.x0 40 = 2400 ∧ g.x1 40 = 2459 ∧ g.y0 30 = 1350 ∧ g.y1 30 = 1394 ∧ g.cx 40 = 19440 ∧ g.cy 30 = 10980
    ∧ g.rearX 2430 = 1215 ∧ g.rearY 1372 = 686 ∧ g.cols = 960 ∧ g.rows = 540
    ∧ splAxis 4 960 1215 = [(302, -300 / 4096), (303, 2980 / 4096), (304, 1596 / 4096), (305, -180 / 4096)] := by decide +kernel

/-- Chapter 4: the field of one zone and its rear and front transmittances at pixel (2,430, 1,372). -/
theorem test_rear_front : splField 0xCC80 [(0x47C0, 0x8000, 0xFFFF)] = 0xBE04 ∧ splRear 0x8000 69 = 31041 ∧ splRear 0x8000 70 = 30706
    ∧ splLog 0xAC80 = 13607 ∧ splLog 0xBE04 = 18041
    ∧ splTRear (fun n => if n = 69 then 31041 else 30706) 0x0100 0xBE04 0xAC80 = (30947, false)
    ∧ splFront 0xAC80 0xBE04 30947 = (30944, false) := by decide +kernel

/-- Chapter 4: the blur of equal neighbours. -/
theorem test_blur : splBlur 40960 4096 2048 (fun _ _ => 30947) = 30947 := by decide +kernel

/-- Chapter 5: mura, gain and the code of the pixel without defects. -/
theorem test_compensation :
    muraOffset [0x1000, 0x5000, 0x9000, 0xD000] [0, 0, -12, 20] 47077 = 7947265625 / 1000000000
    ∧ gainAt (fun i j => if i = 151 then (if j = 85 then 0x4080 else 0x40A0) else (if j = 85 then 0x4060 else 0x4070)) 2430 1372
        = 164975 / 163840
    ∧ (stageBCode ⟨[], [], [], ⟨7680, 4320, 3840, 2160, 128, 96, 4, 7, 8, 8⟩, false, 0, 0, true⟩ false 0 2430 1372 47077 10 16
        (some (7947265625 / 1000000000)) (some (164975 / 163840))) = (47435, false) := by decide +kernel

/-- Chapter 6: needs of the histories, temperature, transition and history value. -/
theorem test_overdrive :
    odrNeed 480 4320 3 = 10 ∧ odrNeed 240 2160 1 = 1
    ∧ roundAway (odrField 4 4 7680 4320 [640, 672, 0, 0, 656, 704, 0, 0, 0, 0, 0, 0, 0, 0, 0, 0] (24295 / 10) 1372) = 700
    ∧ odrHeat 0x0100 0x400000 ⟨0x47C0, 0x47C0, 0x47C0⟩ = 4196288 ∧ odrRise 0x0080 4196288 = 32 ∧ odrZone 700 32 = 732
    ∧ odrHist 47435 = 2965 ∧ odrHist 36000 = 2250 := by decide +kernel

/-- Chapter 6, Table 6.14: the transition at τ = 3 and τ = 4, and the blend at 45.75 °C. -/
theorem test_transition :
    let n3 (i i1 : Nat) : Nat := if i = 11 then (if i1 = 8 then 48128 else 47104) else (if i1 = 8 then 53248 else 52224)
    let n4 (i i1 : Nat) : Nat := if i = 11 then (if i1 = 8 then 46592 else 46080) else (if i1 = 8 then 51200 else 50688)
    odrTransition (fun a b _ => n3 a b) 47435 2250 2250 = 5029375 / 100 ∧ odrTransition (fun a b _ => n4 a b) 47435 2250 2250 = 48864375 / 1000
    ∧ odrBlend (fun i => 160 * (i + 1)) 7 (fun i => if i = 3 then 5029375 / 100 else 48864375 / 1000) 732 = 49472 := by decide +kernel

/-- Chapter 12, Table 12.10: the group's k and its 47 bits; one residual of it. -/
theorem test_rice_group :
    packBits (segGroup 12 [2, 2, 0, 2, 2, 0, 2, 2, 1, 4, 2, 2, 2, 0, 2, 2]) = [0x0D#8, 0x9B#8, 0x36#8, 0xBD#8, 0xB6#8, 0x6C#8]
    ∧ (segGroup 12 [2, 2, 0, 2, 2, 0, 2, 2, 1, 4, 2, 2, 2, 0, 2, 2]).length = 47
    ∧ segZig 12 2967 2968 = 1 ∧ segUnzig 12 1 2968 = 2967 := by decide +kernel

/-- Chapter 14: the alignment point k = 203,796,203,797 of 119.88 Hz, 6,641,666 ns with fraction 0xAAAB past the second. -/
theorem test_alignment : alignPoint 120000 1001 203796203797 = 1700000000 * 65536000000000 + 6641666 * 65536 + 0xAAAB := by
  decide +kernel

/-- Chapter 15, Table 15.4: trims, the slice words and the pace margin of SL3. -/
theorem test_trims : ([28, 31, 32, 26, 30, 24, 25].map fun t => tapTrim t 20) = [34, 38, 39, 32, 36, 29, 30]
    ∧ tapsWord [34, 39, 32, 36, 30] = 0x229E091E ∧ tapsWord [1, 2, 0, 1, 0] = 0x01080040
    ∧ State.reset.paceMargin [34, 39, 32, 36, 30] [28, 31, 26, 30, 24] = 20 := by decide +kernel

/-- Chapter 18, Table 18.5: the words of the two pops. -/
theorem test_event_words : (⟨259, 3, 0, true, false, 1000, 0⟩ : EvtRecord).word 1 = 0xD0303001
    ∧ (⟨114, 1, 0, false, false, 1000, 0⟩ : EvtRecord).word 0 = 0x87201000 := by decide +kernel

/-- Table 23.4: addresses of items of the examples. -/
theorem test_addresses : R.LNS_LANE_EYE 62 = 0x00034F94 ∧ R.ADL_PORT_STATUS 15 = 0x000203C4 ∧ R.EVT_SRC_CFG 259 = 0x0004C40C
    ∧ R.SLC_SLICE_TAPS 3 = 0x0005C604 ∧ R.SPL_USER = 0x0000C034 ∧ foldBase 41 = 0x69000000 ∧ foldOf 0x7F000000 = 63 := by decide +kernel

/-- CRC-32C of the nine digits "123456789" (the check value of the code that R205 names), and CRC-8 of no bytes. -/
theorem test_crc : crc32c [0x31#8, 0x32#8, 0x33#8, 0x34#8, 0x35#8, 0x36#8, 0x37#8, 0x38#8, 0x39#8] = 0xE3069283 ∧ crc8 [] = 0 := by decide +kernel

/-! ### Well-formed commands: for each check a command that it refuses -/

/-- A received packet with no bytes. -/
def noRx : LinkRx := ⟨[], true, false, ⟨[], []⟩⟩

/-- Ill-formed commands of the ports, the link and the pixel path, one for each check. -/
theorem test_ill_formed_first : ([
    .qspiWrite .hp2 ⟨true, false⟩ 0 [], .qspiRead (.host .hp2) true 0 4 none none [], .qspiRead .loader true 0 4 none none [], .qspiStatus .hp2 4, .badCmd .hp2 0,
    .laneMarker 4 0 0 0 0 0 true, .laneMarker 0 8 0 0 0 0 true, .laneLost 144 (), .rotDupRepeat 4, .rotNoCoop 4, .rotReturn 4,
    .vidLine noRx [16] () () () () (), .stageA 0 0 4, .stageB 0 0 4 [], .overdrive 0 0 4 [] false, .dither 0 0 4,
    .thermistorConversion 16 0, .thermistorConversion 0 4096, .tgFrameBoundary 4, .lineStart 4, .jump 4, .followerRestart 4, .tgHoldover 4,
    .generatorStop 4, .gateShort .front 16, .onDelayElapsed 4, .panelEnableRelease .rear (some 4), .lineSlot .front [31], .lineSlot .rear [144],
    .portUp 8 none, .portUp 0 (some 7), .locknLost 8, .statusReply 8 none, .laneOff 31, .laneOff 144, .driveCounterWrite .core 128 0, .transfer 24,
    .latch 24 [] none, .nopTransfer 24, .loopTestRepeat 24, .strobeWindowOpen 16, .strobeWindowClose 16, .sensorRead 4, .sensorReadDone 4 none,
    .sensorReadDone 0 (some []), .regionHostCommit .core 16, .slotCfgWrite .core 16 0, .srfResultPop .hp0 3] : List Instr).all
    (fun c => !c.wellFormed) = true := by decide

/-- Ill-formed commands of the other units, one for each check. -/
theorem test_ill_formed_second : ([
    .foldOwnerWrite .core 64 0, .fstHandover 64, .foldInitComplete 64, .tailWrite .core 4 0, .resume .core 4, .skip .core 4, .cprDonePop .core 4,
    .pllLock 12, .pllUnlock 12, .cdrLock 144, .signalLoss 144, .commaAligned 144 ⟨0, 0⟩, .commaAligned 0 ⟨10, 0⟩, .polarityInvert 144, .slip .core 144,
    .adaptStep 144 [0, 0, 0, 0, 0] 0, .adaptStep 0 [] 0, .eyeMonitor 144, .eyeMeasurementDone 144 [] [] 0, .eyeMeasurementDone 0 [] [] 0,
    .scanGo .core 144 0, .scanDone 144 ⟨0, 0, 0⟩, .scanDone 0 ⟨64, 0, 0⟩, .scanDone 0 ⟨0, 128, 0⟩, .outputShort ⟨144, true, true⟩, .calTemp 32 0, .calInterval 255,
    .calSkipRetry 255, .calRunComplete 255 [] [], .calRunComplete 0 [0] [0], .calRunComplete 17 [0] [], .sliceBistComplete 17 true, .tileFault 17,
    .loadUpdate 101, .mgtDonePop .hp0 3, .avsLoop [] true, .avsGuard [] true, .seqStart .core 8 0, .seqStart .core 0 65536, .seqCancel .core 8,
    .seqRelease .core 8, .seqHoldLong 8, .seqDonePop .hp0 3, .evtPop (.host .hp0) 3, .evtPop .core 2, .evtPop .loader 0, .maskSet .core 512,
    .maskClear .core 512, .routeChange .core 512 0, .routeChange .core 0 4, .pendClear .core 512 false, .intnEnWrite .core 3 true, .coalesceTime 3,
    .pwrRailLow ⟨5, true⟩, .domainRequest .core 100 0, .domainRequest .core 1 4, .domainTransitionComplete 0, .domainTransitionComplete 100,
    .invalidSymbol 144 0 0, .gatePulseEdge 2 0 true, .gatePulseEdge 0 16 true] : List Instr).all (fun c => !c.wellFormed) = true := by decide

/-! ### Witnesses: for each statement with hypotheses, states and operands that meet those of each of its clauses -/

/-- The state after reset. -/
abbrev S : State := State.reset

/-- A state with domains ON. -/
def on (s : State) (l : List Nat) : State := s.each l fun s d => s.put (F.PWR_DOM_STATE d) 2

/-- The core's state RUNNING, with its domain ON. -/
def up (s : State) : State := (on s [1]).put F.MGT_STATUS_STATE 1

/-- RUN reached, so that hosts may write. -/
def ran (s : State) : State := s.put F.CFG_STATUS_STATE 5

/-- The core may write what ownership does not forbid. -/
theorem core_canWrite {s : State} {a : Nat} (h : s.permits .core a = 0) : CanWrite s .core a := ⟨h, fun _ hp => by cases hp⟩

/-- A host may write what it owns while none of its writes is held. -/
theorem host_canWrite {s : State} {p : Port} {a : Nat} (h : s.permits (.host p) a = 0) (hh : s.portHeld p = false) : CanWrite s (.host p) a :=
  ⟨h, fun _ hp => by cases hp; exact hh⟩

theorem test_meets_StepRunsFrontCommand : S.pending = [] := rfl

theorem test_meets_PinsFollowR401 : ({ S with pending := [.blSyncPulseEnd] } : State).pending ≠ []
    ∧ ∃ t, step { S with pending := [.blSyncPulseEnd] } = .next t := ⟨by decide, _, rfl⟩

theorem test_meets_PinRuleInvariant : (∀ n, n < 3 → PinRule S n) ∧ ∃ t, step S = .next t := ⟨by unfold PinRule; decide +kernel, _, rfl⟩

theorem test_meets_SupplyCommands : S.pwr.onB = false ∧ ({ S with pwr := { onB := true } } : State).pwr.onB = true := by decide

theorem test_meets_ColdStarts : CanWrite S .core R.CFG_CTRL ∧ S.pwr.lp = false ∧ ({ S with pwr := { lp := true } } : State).pwr.lp = true :=
  ⟨core_canWrite (by decide +kernel), by decide⟩

theorem test_meets_LifeCycleAndFuses : CanWrite S .core R.CFG_LC_CMD ∧ CanWrite S .core R.CFG_CTRL
    ∧ ((0x4C430001#32).toNat / 65536 = 0x4C43 ∧ lcAllowed S.cfg.fuses.state ((0x4C430001#32).toNat % 4) = true)
    ∧ ¬ ((0x4C430003#32).toNat / 65536 = 0x4C43 ∧ lcAllowed S.cfg.fuses.state ((0x4C430003#32).toNat % 4) = true)
    ∧ S.cfg.fuses.burned = false ∧ S.cfg.fuses.state < 2
    ∧ 2 ≤ ({ S with cfg := { fuses := { factory := true, deployed := true } } } : State).cfg.fuses.state :=
  ⟨core_canWrite (by decide +kernel), core_canWrite (by decide +kernel), by decide +kernel⟩

/-- The 36 bytes of an image with no section (Tables 20.2 and 20.3). -/
def imageBytes : List Byte :=
  let h := [0x53#8, 0x4B#8, 0x53#8, 0x49#8] ++ beBytes 2 1 ++ beBytes 2 0 ++ beBytes 4 36 ++ beBytes 4 5 ++ beBytes 4 0 ++ List.replicate 12 0#8
  h ++ beBytes 4 (crc32c h)

/-- That image in slot A. -/
def imaged : State := { S with nvm := nvWrite [] 0 imageBytes }

/-- The same image selected and about to apply. -/
def applies : State := { imaged.put F.CFG_STATUS_STATE 3 with cfg := { selected := some 0, imageCrc := imaged.imgCrc 0 } }

theorem test_meets_StartUpSteps : S.get F.CFG_STATUS_STATE = 0
    ∧ ((S.put F.CFG_STATUS_STATE 1).get F.CFG_STATUS_STATE = 1 ∧ (S.put F.CFG_STATUS_STATE 1).headerReason 0 ≠ 0
      ∧ (S.put F.CFG_STATUS_STATE 1).headerReason 1 ≠ 0)
    ∧ ((imaged.put F.CFG_STATUS_STATE 1).get F.CFG_STATUS_STATE = 1 ∧ (imaged.put F.CFG_STATUS_STATE 1).headerReason 1 ≠ 0
      ∧ ((imaged.put F.CFG_STATUS_STATE 1).imageReason 0).1 = 0) := by decide +kernel

theorem test_meets_StartUpSteps_apply : applies.applying = true ∧ applies.cfg.selected = some 0 ∧ applies.imgChain 0 = some []
    ∧ State.loadSections 0 0 [] (begun applies) = .ok (begun applies) ∧ (begun applies).applying = true
    ∧ (begun applies).imgCrc 0 = (begun applies).cfg.imageCrc ∧ (begun applies).imgCheck 0 = (begun applies).cfg.imageCrc := by
  refine ⟨by decide +kernel, by decide +kernel, by decide +kernel, rfl, by decide +kernel, by decide +kernel, by decide +kernel⟩

theorem test_meets_StartUpSteps_light :
    let s : State := { S.put F.CFG_STATUS_STATE 4 with cfg := { lightStep := 6 } }
    let t : State := { (S.put F.CFG_STATUS_STATE 4).put F.TG_PANEL_STATUS_STATE_F 6 with cfg := { lightStep := 6, panelOn := true, blOn := true } }
    (s.get F.CFG_STATUS_STATE = 4 ∧ s.cfg.lightStep = 6 ∧ s.cfg.panelOn = false ∧ s.cfg.blOn = false)
    ∧ (t.get F.CFG_STATUS_STATE = 4 ∧ t.cfg.lightStep = 6 ∧ t.cfg.panelOn = true ∧ t.cfg.blOn = true ∧ t.panelState .front = 6
      ∧ (t.panel .front).protectDone = false) := by decide +kernel

/-- HP0 has fold 0, and an NVM job is set up at its first byte. -/
def jobReady : State :=
  (((((ran (on S [36])).setReg (R.FST_FOLD_OWNER 0) 7).put (F.FST_FOLD_STATUS_POWER 0) 2).setReg R.CFG_NV_ADDR 0x1000000).setReg R.CFG_NV_BUF 0x40000000).setReg
    R.CFG_NV_LEN 4096

theorem test_meets_NvJobs :
    let s := jobReady
    CanWrite s (.host .hp0) R.CFG_NV_CMD
    ∧ (1 ≤ s.reg R.CFG_NV_LEN ∧ s.reg R.CFG_NV_LEN ≤ 0x1000000 ∧ s.reg R.CFG_NV_ADDR + s.reg R.CFG_NV_LEN ≤ 0x4000000
      ∧ s.hostRange .hp0 (s.reg R.CFG_NV_BUF) (s.reg R.CFG_NV_LEN) = true ∧ s.cfg.job = none)
    ∧ (s.reg R.CFG_NV_ADDR % 4096 = 0 ∧ s.reg R.CFG_NV_LEN % 4096 = 0 ∧ s.freeSlotRange (s.reg R.CFG_NV_ADDR) (s.reg R.CFG_NV_LEN) = true)
    ∧ (foldsIn 0x40000000 4096).all (fun nn => s.foldOn nn) = true :=
  ⟨host_canWrite (by decide +kernel) (by decide +kernel), by decide +kernel⟩

theorem test_meets_PowerDomains :
    let p := S.setReg (R.PWR_DOM 36) 0x80000000
    CanWrite S .core (R.PWR_DOM 2) ∧ CanWrite S .core (R.PWR_DOM 31) ∧ S.domainDenied 0 0 ≠ 0
    ∧ (S.domainDenied 31 2 = 0 ∧ S.flag (F.PWR_DOM_BUSY 31) = false ∧ S.get (F.PWR_DOM_STATE 31) ≠ 2)
    ∧ mfind S.pwr.target 5 = none
    ∧ (let s : State := { (S.put (F.PWR_DOM_STATE 40) 2).put (F.PWR_DOM_REQ 40) 0 with pwr := { target := [(40, 0)] } }
      mfind s.pwr.target 40 = some 0 ∧ s.get (F.PWR_DOM_STATE 40) = 2 ∧ s.get (F.PWR_DOM_REQ 40) = 0)
    ∧ (S.portHeld .hp0 = false ∧ S.portHeld .hp1 = false ∧ S.portHeld .hp2 = false ∧ (S.putB (F.FST_FOLD_STATUS_INIT 63) true).flag (F.FST_FOLD_STATUS_INIT 63) = true)
    ∧ p.reg 0 = p.reg 0 := by
  refine ⟨core_canWrite (by decide +kernel), core_canWrite (by decide +kernel), ?_⟩; decide +kernel

theorem test_meets_PowerDomains_idle :
    let s := S.putB F.PWR_CFG_AUTO_LP true
    (s.flag F.PWR_CFG_AUTO_LP = true ∧ ∀ d, d < 100 → 1 ≤ d → s.get (F.PWR_DOM_STATE d) ≠ 2 ∧ s.flag (F.PWR_DOM_BUSY d) = false)
    ∧ (S.railUsed 0 = false ∧ S.railUsed 4 = true)
    ∧ ((S.put F.TG_PANEL_STATUS_STATE_F 6).panelState .front = 6 ∧ (S.put F.TG_PANEL_STATUS_STATE_F 6).railUsed 4 = true
      ∧ ∀ n, n < 3 → (S.put F.TG_PANEL_STATUS_STATE_F 6).seqRuns n = []) := by decide +kernel

theorem test_meets_RegisterWrites :
    CanWrite S .core R.FE_CFG ∧ CanWrite S .core R.FST_FLAGS ∧ CanWrite (ran S) (.host .hp0) 0x8018
    ∧ (∃ d, R.FE_CFG / 0x4000 = 2 ∧ regDef? R.FE_CFG = some d ∧ goodWord R.FE_CFG (Nat.land 0xFFFFFFFF d.w) = true ∧ d.rws = true)
    ∧ (∃ d, R.FST_FLAGS / 0x4000 = 11 ∧ isUnit (R.FST_FOLD_OWNER 0) 64 0x40 R.FST_FLAGS = false ∧ regDef? R.FST_FLAGS = some d
      ∧ goodWord R.FST_FLAGS (Nat.land 3 d.w) = true ∧ d.rws = false)
    ∧ (∃ d, regDef? 0x8018 = some d ∧ goodWord 0x8018 (Nat.land 0xFFFFFFFF d.w) = false)
    ∧ S.isHp2 0x58 = true := by
  refine ⟨core_canWrite (by decide +kernel), core_canWrite (by decide +kernel), host_canWrite (by decide +kernel) (by decide +kernel), ?_, ?_, ?_, ?_⟩
  · exact ⟨(regDef? R.FE_CFG).getD ⟨0, 0, 0, 0, 0, 0, 0, 0, 0, false⟩, by decide +kernel⟩
  · exact ⟨(regDef? R.FST_FLAGS).getD ⟨0, 0, 0, 0, 0, 0, 0, 0, 0, false⟩, by decide +kernel⟩
  · exact ⟨(regDef? 0x8018).getD ⟨0, 0, 0, 0, 0, 0, 0, 0, 0, false⟩, by decide +kernel⟩
  · decide +kernel

theorem test_meets_RefusedWrites : S.permits (.host .hp0) R.FE_CFG = 2 ∧ S.permits .core 0x5FFFC = 1 ∧ S.portHeld .hp0 = false := by decide +kernel

theorem test_meets_OwnershipWrites :
    CanWrite S .core R.DEV_OWN_ENG1 ∧ isOwnReg R.DEV_OWN_ENG1 = true ∧ CanWrite S .core R.DEV_OWN_CTRL
    ∧ (let s := S.putB F.DEV_OWN_CTRL_LOCK true; s.flag F.DEV_OWN_CTRL_LOCK = true ∧ s.portHeld .hp0 = false ∧ definedWord R.DEV_OWN_ENG1 = true) :=
  ⟨core_canWrite (by decide +kernel), by decide +kernel, core_canWrite (by decide +kernel), by decide +kernel⟩

theorem test_meets_StatusReads : Port.hp0 ≠ .hp2 ∧ S.isHp2 0x58 = true ∧ S.isHp2 0x59 = false := by decide +kernel

theorem test_meets_MalformedTransactions : (0x00#8 : Byte) ≠ 0x02 ∧ (0x00#8 : Byte) ≠ 0x0B ∧ (0x00#8 : Byte) ≠ 0x05 ∧ Port.hp1 ≠ .hp2
    ∧ S.isHp2 0x58 = true ∧ S.isHp2 0x59 = false := by decide +kernel

theorem test_meets_RegisterReads : (R.PIL_CFG / 0x4000 = 1 ∧ R.PIL_CFG ≠ R.PIL_AUX_POP ∧ (regDef? R.PIL_CFG).isSome = true)
    ∧ (inPair 0x101000 = true ∧ 0x101000 % 8 = 0) := by decide +kernel

theorem test_meets_DevCommit :
    let s : State := { ran S with shadow := [(R.FE_CFG, 1#32)], tblShadow := [(0x200000, 1#32)] }
    CanWrite s (.host .hp0) R.DEV_COMMIT
    ∧ (s.scopeOf R.FE_CFG = Port.num .hp0 ∧ s.skips (R.FE_CFG / 0x4000) none = false ∧ (mfind s.shadow R.FE_CFG).isSome = true)
    ∧ (tblEngine 0x200000 = some 2 ∧ mfind s.tblShadow 0x200000 = some 1#32 ∧ s.scopeOf 0x200000 = Port.num .hp0)
    ∧ (CanWrite s (.host .hp1) R.DEV_COMMIT ∧ s.scopeOf R.FE_CFG ≠ Port.num .hp1) :=
  ⟨host_canWrite (by decide +kernel) (by decide +kernel), by decide +kernel, by decide +kernel,
    host_canWrite (by decide +kernel) (by decide +kernel), by decide +kernel⟩

theorem test_meets_TableWrites : CanWrite S .core 0x240000 ∧ tblEngine 0x240000 = some 4 ∧ CanWrite S .core 0x200000 ∧ tblEngine 0x200000 = some 2
    ∧ (∀ i, i < 4 → tblEntry (0x240000 + i) = true ∧ tblEntry (0x200000 + i) = true) :=
  ⟨core_canWrite (by decide +kernel), by decide +kernel, core_canWrite (by decide +kernel), by decide +kernel⟩

/-- A record of source 114 at the front of each queue. -/
def queued : State :=
  { (up S) with evt := { S.evt with targets := (List.range 4).foldl (fun l n => mset {} l n { queue := [⟨114, 1, 0, false, false, 0, 0⟩] }) [] } }

theorem test_meets_EventPops : Port.hp2.num = 2 ∧ (∀ n, n < 4 → (queued.target n).queue = [⟨114, 1, 0, false, false, 0, 0⟩] ∧ (queued.target n).held = [])
    ∧ queued.coreRuns = true ∧ (S.target 0).queue = [] := by decide +kernel

theorem test_meets_EventSources : CanWrite S .core (R.EVT_SRC_CFG 0) ∧ CanWrite S .core (R.EVT_SRC_CFG 511)
    ∧ S.reg (R.EVT_SRC_CFG 511) < 16 ∧ S.flag (F.EVT_SRC_CFG_MASK 511) = false :=
  ⟨core_canWrite (by decide +kernel), core_canWrite (by decide +kernel), by decide +kernel⟩

theorem test_meets_EventPins : CanWrite S .core (R.EVT_H_CFG 2) ∧ S.get (F.EVT_H_CFG_COUNT 2) ≠ 0 ∧ S.get (F.EVT_H_CFG_TIME 2) ≠ 0
    ∧ (S.put (F.EVT_H_CFG_TIME 2) 0).get (F.EVT_H_CFG_TIME 2) = 0 ∧ CanWrite (S.put (F.EVT_H_CFG_TIME 2) 0) .core (R.EVT_H_CFG 2)
    ∧ (queued.target 2).queue ≠ [] ∧ (S.target 2).queue = [] :=
  ⟨core_canWrite (by decide +kernel), by decide +kernel, by decide +kernel, by decide +kernel, core_canWrite (by decide +kernel), by decide +kernel⟩

theorem test_meets_OccurrenceReachesItsTarget : mfind S.evt.routeWas 511 = none ∧ mfind S.evt.maskedAt 511 = none
    ∧ (S.putB (F.EVT_SRC_CFG_MASK 511) true).flag (F.EVT_SRC_CFG_MASK 511) = true ∧ S.flag (F.EVT_SRC_CFG_MASK 511) = false
    ∧ ((S.target 3).queue = [] ∧ (S.target 3).held = []) ∧ (queued.target 0).queue = [] ++ [⟨114, 1, 0, false, false, 0, 0⟩] := by decide +kernel

/-- An UP link on flock 0 whose lanes send, a raster of 64 × 4 and a region slot 0 for the link with one fold of ring. -/
def linked : State :=
  ((((((((on (ran S) [2, 31, 33]).setPll 0 true).put F.PIL_CFG_FLOCK_EN 1).put F.PIL_STATUS_LINK_STATE 2).put (F.TG_RASTER1_WIDTH 0) 64).put
    (F.TG_RASTER0_VACTIVE 0) 4).put F.SRF_STAGE_COUNT 1).putB (F.SRF_RS_CFG_EN 0) true).putB (F.SRF_RS_CFG_SOURCE 0) true

/-- A packet as the seven logical lanes of one flock bring it. -/
def sent (q : LinkPacket) : LinkRx := ⟨stripe 7 q.toBytes, true, false, ⟨[], []⟩⟩

/-- A packet of slot 0 or of the stream with a payload. -/
def packetOf (typ : Nat) (payload : List Byte) : LinkPacket := ⟨typ, false, 0, 0, 0, 0, 0, payload⟩

/-- The FRAME_START of frame 7, of 64 × 4 pixels. -/
def startOf : LinkPacket := packetOf 1 (beBytes 4 7 ++ List.replicate 10 0#8 ++ beBytes 2 64 ++ beBytes 2 4 ++ [1#8, 0#8])

/-- That frame being received. -/
def frame7 : RxFrame := { no := 7#32, w := 64, h := 4, fmt := 1 }

/-- Four pixels of its first line. -/
def lineOf : LinkPacket := ⟨2, false, 0, 0, 0, 4, 1, List.replicate 12 0x80#8⟩

theorem test_meets_LinkConfiguration : CanWrite S .core R.PIL_CFG := core_canWrite (by decide +kernel)

theorem test_meets_PeriodicMessages : linked.backOn 0 = true ∧ linked.linkWorks = true ∧ S.linkWorks = false ∧ S.rotState 3 = 0
    ∧ (let s := (linked.put (F.PIL_FLOCK_STATUS_ROT_STATE 0) 1).setRot 0 { sends := 10 }
      s.rotState 0 = 1 ∧ (s.rot 0).dupSeen = 0 ∧ (s.rot 0).sends ≤ 10 ∧ s.backOn 0 = true) := by decide +kernel

theorem test_meets_LaneMarkersAndLoss :
    let s := linked.setRx 7 4
    bitAt (s.get F.PIL_CFG_FLOCK_EN) 0 = true
    ∧ (s.rxState 7 = 4 ∧ (0xA5#8 : Byte) = 0#8 ^^^ 0#8 ^^^ 0xA5#8 ∧ (0#8 : Byte).toNat / 8 % 4 = 0 ∧ s.rotState 0 = 0)
    ∧ ((0#8 : Byte) ≠ 0#8 ^^^ 0#8 ^^^ 0xA5#8 ∧ (0x18#8 : Byte).toNat / 8 % 4 ≠ 0)
    ∧ ({ s with pil := { s.pil with lanes := [(7, { locked := true })] } }.pilLane 7).locked = true
    ∧ ((s.pilLane 6).locked = false ∧ s.rxState 6 ≠ 4)
    ∧ ((linked.setRx 143 4).rxState 143 = 4 ∧ (linked.setRx 143 4).laneFallow 143 = false) := by decide +kernel

theorem test_meets_RotationTimeouts :
    ((linked.put (F.PIL_FLOCK_STATUS_ROT_STATE 0) 1).rotState 0 = 1 ∧ ((linked.put (F.PIL_FLOCK_STATUS_ROT_STATE 0) 1).rot 0).dupSeen = 0)
    ∧ (linked.put (F.PIL_FLOCK_STATUS_ROT_STATE 3) 3).rotState 3 = 3
    ∧ (let s := (linked.put (F.PIL_FLOCK_STATUS_ROT_STATE 0) 5).put (F.PIL_FLOCK_STATUS_SPARE_SERVES 0) 0
      let t : State := { s with pil := { s.pil with lanes := [(s.physOf 0 0, { locked := true })] } }
      t.rotState 0 = 5 ∧ t.get (F.PIL_FLOCK_STATUS_SPARE_SERVES 0) = (t.rot 0).lane ∧ (t.pilLane (8 * 0 + t.physOf 0 (t.rot 0).lane)).locked = true)
    ∧ S.rotState 0 ≠ 5
    ∧ (let s := (linked.put F.PIL_STATUS_LINK_STATE 3).putB F.SRF_CFG_LINK_EN true
      let t : State := { s with pil := { s.pil with degradedFrames := 2 } }
      t.linkState = 3 ∧ 2 ≤ t.pil.degradedFrames ∧ t.flag F.SRF_CFG_LINK_EN = true ∧ t.sleepAcked = false)
    ∧ S.linkState ≠ 3 := by decide +kernel

theorem test_meets_SourceFrames :
    (linked.linkFlocks ≠ [] ∧ linked.logicalLanes = 7 ∧ linkType startOf.typ = true ∧ startOf.lengthOk = true ∧ startOf.id = 0)
    ∧ (linked.packetGood (sent startOf) = true ∧ (rxPacket (sent startOf)).typ = 1)
    ∧ (let s : State := { linked with pil := { linked.pil with rx := some frame7 } }
      s.packetGood (sent lineOf) = true ∧ rxPacket (sent lineOf) = lineOf ∧ s.pil.rx = some frame7 ∧ frame7.mismatch = false
        ∧ s.get F.DEV_PATH_STATUS_MODE ≠ 1 ∧ lineOf.line = frame7.line ∧ lineOf.line < frame7.h ∧ lineOf.firstX = frame7.col
        ∧ lineOf.firstX + lineOf.count ≤ frame7.w ∧ lineOf.fmt = frame7.fmt ∧ lineOf.lineEnd = false)
    ∧ (let f := { frame7 with line := 4 }
      let s : State := { linked with pil := { linked.pil with rx := some f } }
      s.packetGood (sent (packetOf 3 (beBytes 4 7))) = true ∧ (rxPacket (sent (packetOf 3 (beBytes 4 7)))).typ = 3 ∧ s.pil.rx = some f ∧ f.line = f.h
        ∧ s.pil.sleepWant = none ∧ f.stored = true ∧ { f with stored := false }.stored = false)
    ∧ (let s : State := { linked with pil := { linked.pil with draining := some frame7 } }
      s.pil.draining = some frame7 ∧ s.writesWait 1 = false ∧ S.pil.draining = none) := by decide +kernel

/-- An update of 8 × 2 pixels at (0, 0) open on slot 0. -/
def openUpd : OpenUpd := { x := 0, y := 0, w := 8, h := 2, tag := 9, stage := some 0 }

/-- Its packets: REGION_BEGIN, the line, REGION_COMMIT. -/
def regionPackets : LinkPacket × LinkPacket × LinkPacket :=
  (packetOf 4 (beBytes 2 0 ++ beBytes 2 0 ++ beBytes 2 8 ++ beBytes 2 2 ++ beBytes 4 9), ⟨5, true, 0, 0, 0, 8, 1, List.replicate 24 0x80#8⟩, packetOf 6 (beBytes 4 9))

theorem test_meets_LinkRegions :
    let s : State := { linked with pil := { linked.pil with credit := [(0, 16)] } }
    let t : State := { s with srf := { s.srf with opens := [(0, openUpd)] } }
    let e : State := { s with srf := { s.srf with opens := [(0, { openUpd with line := 2 })] } }
    let (b, l, c) := regionPackets
    (s.packetGood (sent b) = true ∧ (rxPacket (sent b)).typ = 4 ∧ (rxPacket (sent b)).rect = (0, 0, 8, 2, 9) ∧ mfind s.srf.opens 0 = none
      ∧ s.slotLinked 0 = true ∧ s.rectBad 0 0 8 2 = false ∧ mget 0 s.pil.sent 0 < mget 0 s.pil.credit 0 ∧ mget 0 s.pil.credit 0 < 32768
      ∧ s.srf.ring.foldl (fun (n : Nat) r => n + r.size) 0 + ringNeed 8 2 ≤ s.ringSize)
    ∧ (t.packetGood (sent l) = true ∧ rxPacket (sent l) = l ∧ mfind t.srf.opens 0 = some openUpd ∧ openUpd.bad = none ∧ openUpd.line < openUpd.h
      ∧ openUpd.col = 0 ∧ openUpd.packets < 16 ∧ l.line = openUpd.y + openUpd.line ∧ l.firstX = openUpd.x ∧ l.count = openUpd.w)
    ∧ (e.packetGood (sent c) = true ∧ (rxPacket (sent c)).typ = 6 ∧ (rxPacket (sent c)).word = openUpd.tag ∧ e.layoutMismatch e.frontBuf = false ∧ e.unshown = [])
    ∧ (s.linkWorks = true ∧ s.packetGood ⟨[], true, false, ⟨[], []⟩⟩ = false ∧ S.linkWorks = false) := by decide +kernel

theorem test_meets_SleepAndSidePackets :
    let s : State := { linked with pil := { linked.pil with lastComplete := some 7 } }
    let p (typ : Nat) (bs : List Byte) : LinkRx := sent (packetOf typ bs)
    (s.packetGood (p 7 (beBytes 4 7)) = true ∧ (rxPacket (p 7 (beBytes 4 7))).typ = 7 ∧ s.pil.lastComplete = some (rxPacket (p 7 (beBytes 4 7))).word)
    ∧ (linked.packetGood (p 7 (beBytes 4 8)) = true ∧ linked.pil.lastComplete = none ∧ linked.pil.rx = none ∧ linked.pil.draining = none ∧ linked.sleepAcked = false)
    ∧ (linked.packetGood (p 8 (beBytes 4 0)) = true ∧ (rxPacket (p 8 (beBytes 4 0))).typ = 8)
    ∧ (linked.packetGood (p 9 (List.replicate 28 0#8)) = true ∧ (rxPacket (p 9 (List.replicate 28 0#8))).typ = 9)
    ∧ (linked.packetGood (p 10 [1#8]) = true ∧ (rxPacket (p 10 [1#8])).typ = 10 ∧ linked.pil.aux.length < 4)
    ∧ 4 ≤ ({ linked with pil := { linked.pil with aux := [[1#8], [2#8], [3#8], [4#8]] } } : State).pil.aux.length
    ∧ (linked.engineOwner 1 = Port.num .hp0 ∧ linked.engineOwner 1 ≠ Port.num .hp1) := by decide +kernel

/-- The pixel path ON, a frame of 64 × 4 pixels in every engine, its four lines in; two zone rows. -/
def picture : State :=
  let s := (linked.put F.SPL_ZONE_GRID_ROWS 2).setRun 0 { on := true, planned := 8, vactive := 4, vtotal := 8, period := 1000 }
  let p := s.snapshot
  { s with fe := { s.fe with snap := p }, spl := { s.spl with zoneSnap := p, pixSnap := p, lines := 4 }, pcm := { s.pcm with snap := p },
           odr := { s.odr with snap := p }, dth := { s.dth with snap := p } }

theorem test_meets_FrontEndPixel :
    let i := picture.feInput 1 1
    (i.isSome = true ∧ picture.domOn 31 = true ∧ picture.snapshot.width 0 ≠ 0 ∧ 1 < picture.fe.snap.width 0 ∧ 1 < picture.fe.snap.lines 0
      ∧ picture.feInput 63 3 = none.or (picture.feInput 63 3))
    ∧ ({ picture with pil := { picture.pil with rx := some frame7 } } : State).feInput 1 1 = none ∧ S.domOn 31 = false := by decide +kernel

/-- A source buffer of one fold whose slot 0 holds a segment of zeros. -/
def stored : State :=
  let s := ((((on linked [40, 41]).put F.SRF_SRC_BASE 4).put F.SRF_SRC_COUNT 1).setReg (R.FST_FOLD_OWNER 4) 1).put (F.FST_FOLD_STATUS_POWER 4) 2
  { s with srf := { s.srf with layouts := [(0, ⟨64, 4, 3, 1⟩)] }
           fst := { s.fst with mem := memWrite [] (foldBase 4) (segEncode 12 (List.replicate 3 (List.replicate 256 0))).1 } }

theorem test_meets_StoreModeReads :
    let l : BufLayout := ⟨64, 4, 3, 1⟩
    let a := stored.slotAddr stored.srf.readBuf 3 0
    stored.layoutOf stored.srf.readBuf = some l ∧ 0 < l.cols ∧ 0 < l.slots ∧ inFolds a = true
    ∧ (∀ nn ∈ foldsIn a (slotSize 3), stored.ownerMiss 1 nn = 0 ∧ stored.ownerWaits 1 nn = false) ∧ stored.writesWait 1 = false
    ∧ (segAt stored.fst.mem 3 12 a (a + slotSize 3)).toOption.isSome = true ∧ S.layoutOf S.srf.readBuf = none := by decide +kernel

theorem test_meets_ZoneRows : picture.domOn 31 = true ∧ picture.domOn 32 = false ∧ picture.spl.zonesDecided = 0 ∧ picture.zoneRowDue 0 = true
    ∧ 0 + 1 < picture.spl.zoneSnap.geom.zr ∧ picture.spl.swap.bankDone = false ∧ 0 < picture.spl.zoneSnap.geom.zc
    ∧ picture.splMode picture.spl.zoneSnap = 0 ∧ picture.splMode (picture.put F.SPL_CFG_BL_MODE 2).snapshot = 2 ∧ S.zoneRowDue 1 = false := by decide +kernel

theorem test_meets_SplitPixels :
    let s : State := { picture with spl := { picture.spl with zonesDecided := 2 } }
    let r : State := { s with spl := { s.spl with pixSnap := (s.putB F.SPL_CFG_REAR_EN true).snapshot } }
    (s.domOn 31 = true ∧ 1 < s.spl.pixSnap.geom.w ∧ 3 < s.spl.pixSnap.geom.h ∧ s.bypassed (bandOf s.spl.pixSnap.geom.w 1) = false ∧ s.splitDue 3 = true)
    ∧ (s.spl.pixSnap.flag F.SPL_CFG_REAR_EN = false ∧ r.spl.pixSnap.flag F.SPL_CFG_REAR_EN = true)
    ∧ (S.domOn 31 = false ∧ picture.splitDue 3 = false) ∧ CanWrite S .core R.SPL_CTRL :=
  ⟨by decide +kernel, by decide +kernel, by decide +kernel, core_canWrite (by decide +kernel)⟩

theorem test_meets_CompensationElements :
    let t : State := { picture with pcm := { picture.pcm with snap := (picture.putB F.PCM_CFG_EN true).snapshot } }
    picture.domOn 31 = true ∧ 0 < (picture.pcmSnap.geom.layer false).1 ∧ 0 < (picture.pcmSnap.geom.layer false).2.1 ∧ picture.pcmOn 0 = false
    ∧ (t.domOn 31 = true ∧ 63 < (t.pcmSnap.geom.layer false).1 ∧ t.pcmOn 0 = true ∧ t.pcmSnap.flag (F.PCM_PLANE_CFG_MURA_EN 2) = false
      ∧ t.pcmSnap.flag (F.PCM_PLANE_CFG_GAIN_EN 2) = false) := by decide +kernel

theorem test_meets_OverdriveAndDither :
    let t : State := { picture with odr := { picture.odr with snap := (picture.putB F.ODR_CFG_FRONT_EN true).snapshot } }
    picture.domOn 31 = true ∧ (62 < (picture.odr.snap.geom.layer false).1 ∧ 3 < (picture.odr.snap.geom.layer false).2.1)
    ∧ picture.odr.snap.odrOn false = false
    ∧ (t.domOn 31 = true ∧ t.odr.snap.odrOn false = true ∧ t.bypassed (bandOf (t.odr.snap.geom.layer false).1 0) = false ∧ t.odr.front.frame < 2)
    ∧ (62 < (picture.dth.snap.geom.layer false).1 ∧ 3 < (picture.dth.snap.geom.layer false).2.1) := by decide +kernel

theorem test_meets_ThermistorConversions :
    let s := (picture.put F.ODR_TH_LIMITS_LO 1).put F.ODR_TH_LIMITS_HI 4094
    s.domOn 31 = true ∧ s.get F.ODR_TH_LIMITS_LO ≤ 4094 ∧ 4094 ≤ s.get F.ODR_TH_LIMITS_HI ∧ (mget ({} : Thermistor) s.odr.inputs 15).excluded = false
    ∧ 0 < s.get F.ODR_TH_LIMITS_LO ∧ s.get F.ODR_TH_LIMITS_HI < 4095 := by decide +kernel

/-- Generator n enabled, in a frame of 8 lines, on a lock source. -/
def running (n src : Nat) (r : TgRun) : State :=
  let s := (((on (ran S) [32]).putB (F.TG_CFG_EN n) true).put (F.TG_CFG_LOCK_SRC n) src).put (F.TG_STATUS_LOCK_STATE n) 2
  s.setRun n { r with on := true, planned := 8, vactive := 4, vtotal := 8, period := 1000, cfg := s.reg (R.TG_CFG n) }

theorem test_meets_FramesBegin :
    (let s := running 3 0 { line := 7 };
      s.shadow = [] ∧ s.tblShadow = [] ∧ s.flag (F.TG_CFG_EN 3) = true ∧ (s.run 3).stopPending = false ∧ (s.run 3).on = true
        ∧ (s.run 3).planned ≤ (s.run 3).line + 1 ∧ s.stretches 3 = false)
    ∧ (let s := running 0 1 { edges := [1000000000], may := true }; (s.jumpTarget 0).isSome = true ∧ s.flag (F.TG_CFG_EN 0) = true)
    ∧ (let s := running 2 3 { targets := [(0, 8000)] }; s.restartTarget 2 = some 8000 ∧ s.flag (F.TG_CFG_EN 2) = true)
    ∧ (let s := (running 2 0 {}).put F.BLE_SYNC_SRC 1
      s.get F.BLE_SYNC_SRC = 1 ∧ (s.run 2).on = true ∧ s.domOn 32 = true ∧ s.ble.syncLast = none ∧ s.flag (F.TG_CFG_EN 2) = true ∧ s.shadow = [])
    ∧ ((S.run 0).on = false ∧ S.jumpTarget 0 = none ∧ S.restartTarget 0 = none ∧ S.get F.BLE_SYNC_SRC ≠ 1) := by decide +kernel

theorem test_meets_LinesAndStops :
    ((running 0 0 { line := 6 }).run 0).on = true ∧ ((running 0 0 { line := 6 }).run 0).line + 1 < ((running 0 0 { line := 6 }).run 0).planned
    ∧ ((running 0 0 { line := 3 }).run 0).line + 1 = ((running 0 0 { line := 3 }).run 0).vactive
    ∧ (S.run 3).on = false
    ∧ (let s : State := { running 3 1 { refAt := some 7 } with now := 10 ^ 15 }
      (s.run 3).on = true ∧ s.lockState 3 = 2 ∧ s.lastRef 3 = some 7 ∧ 7 + 2 * s.tgTf 3 ≤ s.now)
    ∧ (let s := running 3 1 { refAt := some 7 }; s.lastRef 3 = some 7 ∧ s.now < 7 + 2 * s.tgTf 3)
    ∧ (let s := running 0 0 { stopPending := true }; (s.run 0).stopPending = true ∧ s.jumpTarget 0 = none ∧ s.restartTarget 0 = none)
    ∧ ((running 0 1 { edges := [1000000000], may := true, stopPending := true }).jumpTarget 0).isSome = true := by decide +kernel

theorem test_meets_PanelCommands :
    let st (v : Nat) : State := (ran S).put F.TG_PANEL_STATUS_STATE_F v
    CanWrite S .core R.TG_PANEL_CTRL ∧ (S.panelState .front = 0 ∧ S.flag (panelOnField .front) = false)
    ∧ (CanWrite ((st 3).putB F.TG_PANEL_CTRL_ON_F true) .core R.TG_PANEL_CTRL
      ∧ ((st 3).putB F.TG_PANEL_CTRL_ON_F true).panelState .front = 3 ∧ ((st 3).putB F.TG_PANEL_CTRL_ON_F true).flag (panelOnField .front) = true)
    ∧ (1 ≤ (st 1).panelState .front ∧ (st 3).panelState .front ≤ 3 ∧ (st 1).panelState .front = 1 ∧ S.panelState .front ≠ 1)
    ∧ (let s := (((st 5).putB (F.TG_PANEL_EN_CFG_LAYER 1) true).putB (F.TG_PANEL_EN_CFG_LAYER 2) true).putB (F.TG_PANEL_EN_CFG_LAYER 3) true
      s.panelState .front = 5 ∧ (s.panel .front).heldOn = false ∧ s.panelEnables .front = [0])
    ∧ (let s := ((running 0 0 { line := 3 }).put (F.TG_GATE_EDGE_STOP 0 15) 16).put (F.TG_GATE_LINES_LAST 0 15) 7
      let t := s.setPanel .front { gates := .pattern }
      (t.run 0).on = true ∧ (t.panel .front).gates = .pattern ∧ t.gateLine 0 15 (t.run 0).line = true ∧ 16 ≤ t.gateWidth 0 15)
    ∧ ((S.setPad .front 15 { pulse := true }).pad .front 15).pulse = true
    ∧ ((S.padLevel .rear 15).isSome = true ∧ (S.setPad .rear 15 { hiZ := true }).padLevel .rear 15 = none) :=
  ⟨core_canWrite (by decide +kernel), by decide +kernel, ⟨core_canWrite (by decide +kernel), by decide +kernel⟩, by decide +kernel⟩

theorem test_meets_LineSlots :
    let s := ((((on picture [6]).setPll 4 true).setReg (R.ADL_PORT_CFG 0) 0x80010000).put (F.ADL_PORT_STATUS_STATE 0) 2).put F.TG_PANEL_STATUS_STATE_F 3
    let t : State := { s with dth := { s.dth with values := [(0, 1), (1, 2), (2, 3)] }, adl := { s.adl with live := [0] } }
    ([32, 143].all fun l => 32 ≤ l && l < 144) = true
    ∧ ((t.run 0).on = true ∧ (t.run 0).linesSent ≤ (t.run 0).line ∧ (t.run 0).line < (t.run 0).vactive)
    ∧ ((t.portCfg 0).en = true ∧ (t.portCfg 0).rear = false ∧ t.portState 0 = 2 ∧ t.domOn (6 + 0 / 7) = true ∧ t.laneSends (laneA 0) = true
      ∧ t.panelState .front ≠ 1 ∧ 0 ∈ t.adl.live ∧ (((t.portCfg 0).keys (t.run 0).line).all fun k => (mfind t.dth.values k).isSome) = true)
    ∧ (S.run 0).on = false := by decide +kernel

theorem test_meets_DriverPorts :
    let s := (on S [13]).put (F.ADL_PORT_STATUS_STATE 55) 2
    let t : State := { s with adl := { s.adl with polls := [(7, ⟨55, 5, true, false⟩)], bad := [(143, 16)] } }
    let w : BitVec 40 := BitVec.ofNat 40 (5 * 2 ^ 36 + (crc8 (beBytes 4 (5 * 2 ^ 28))))
    (s.domOn 13 = true ∧ S.domOn 13 = false)
    ∧ (s.flag (F.ADL_FLOCK_STATUS_WINDOW 7) = false ∧ s.portState 55 = 2 ∧ (s.putB (F.ADL_FLOCK_STATUS_WINDOW 7) true).flag (F.ADL_FLOCK_STATUS_WINDOW 7) = true)
    ∧ (mfind t.adl.polls 7 = some ⟨55, 5, true, false⟩ ∧ mfind S.adl.polls 7 = none)
    ∧ (bits w.toNat 39 36 = 5 ∧ bits w.toNat 7 0 = crc8 (beBytes 4 (bits w.toNat 39 8))
      ∧ (t.putB (F.ADL_FLOCK_STATUS_LOCKN 7) true).flag (F.ADL_FLOCK_STATUS_LOCKN 7) = true)
    ∧ (16 ≤ mget 0 t.adl.bad 143 ∧ t.flag (F.ADL_PORT_STATUS_LANE_OFF_B 55) = false ∧ mget 0 S.adl.bad 143 < 16) := by decide +kernel

/-- BLE ON, its source the host, chain 23 of one driver in a state, with what it works on. -/
def lights (st : Nat) (h : BleChain) : State := (((on (ran S) [32]).putB F.BLE_CFG_SOURCE true).put (F.BLE_CHAIN_STATUS_STATE 23) st).setChain 23 h

theorem test_meets_ChainTransfers_host :
    let s := lights 2 {}
    CanWrite S .core 0x38000C ∧ CanWrite S .core 0x3BFFF8 ∧ s.domOn 32 = true ∧ (0x3BFFF8 - 0x380000) % 16 ≠ 12 ∧ (0x38000C - 0x380000) % 16 = 12
    ∧ (s.flag F.BLE_CFG_SOURCE = true ∧ S.flag F.BLE_CFG_SOURCE = false)
    ∧ CanWrite S .core R.BLE_CTRL ∧ (s.chainState 23 ≠ 0 ∧ s.chainState 0 = 0) ∧ CanWrite S .core (0x342000 + 4 * 127) ∧ CanWrite S .core R.BLE_SNS_CMD
    ∧ (S.flag F.BLE_SNS_CMD_GO = false ∧ (S.putB F.BLE_SNS_CMD_GO true).flag F.BLE_SNS_CMD_GO = true)
    ∧ (∀ j, j < 4 → (S.loop j).reading = none) ∧ ∃ j, j < 4 ∧ ((S.setLoop 3 { reading := some [] }).loop j).reading.isSome = true :=
  ⟨core_canWrite (by decide +kernel), core_canWrite (by decide +kernel), by decide +kernel, by decide +kernel, by decide +kernel, by decide +kernel,
    core_canWrite (by decide +kernel), by decide +kernel, core_canWrite (by decide +kernel), core_canWrite (by decide +kernel), by decide +kernel,
    by decide +kernel, 3, by decide, by decide +kernel⟩

theorem test_meets_ChainTransfers :
    (let s := lights 2 { testStep := 1 }; s.domOn 32 = true ∧ s.chainState 23 ≠ 0 ∧ (s.chain 23).running = none ∧ (s.chain 23).testStep = 1)
    ∧ ((lights 1 { testStep := 2 }).chain 23).testStep = 2 ∧ (((lights 2 {}).chain 23).testStep = 0 ∧ ((lights 2 {}).chain 23).ready = [])
    ∧ ((lights 2 { ready := [15, 31] }).chain 23).ready = 15 :: [31]
    ∧ ((lights 2 { running := some .nop }).chain 23).running.isSome = true
    ∧ (lights 2 {}).chainState 23 = 2 ∧ (lights 3 {}).chainState 23 = 3 ∧ S.chainState 23 ≠ 2 ∧ S.domOn 32 = false
    ∧ CanWrite S .core R.BLE_CTRL ∧ CanWrite (lights 2 {}) .core 0x380000 ∧ (lights 2 {}).flag F.BLE_CFG_SOURCE = true := by
  refine ⟨by decide +kernel, by decide +kernel, by decide +kernel, by decide +kernel, by decide +kernel, by decide +kernel, by decide +kernel,
    by decide +kernel, by decide +kernel, core_canWrite (by decide +kernel), core_canWrite (by decide +kernel), by decide +kernel⟩

/-- The backlight lit in line 1 of TG2's frame, with row 0's window from tick 0 to tick 16 in a state. -/
def window (w : BleWindow) : State :=
  let s := ((((running 2 0 { line := 1 }).putB F.BLE_CFG_EN true).put F.TG_PANEL_STATUS_STATE_F 3).putB F.BLE_STATUS_LIT true).put (F.BLE_STROBE_STOP 0) 16
  s.setWindow 0 w

theorem test_meets_LatchesAndWindows :
    (((lights 2 { running := some .bypass }).chain 23).running = some .bypass ∧ ((lights 1 { running := some .pattern }).chain 23).running = some .pattern
      ∧ ((lights 2 { running := some .nop }).chain 23).running = some .nop ∧ ((lights 2 {}).chain 23).running = none)
    ∧ (((lights 2 { running := some (.words 16) }).chain 23).running = some (.words 16) ∧ ((lights 2 {}).window 0).lit = false
      ∧ ((window { lit := true }).window 0).lit = true)
    ∧ (let s := window {}
      s.bleLit = true ∧ 0 < s.bleRows ∧ s.get (F.BLE_STROBE_START 0) ≠ s.get (F.BLE_STROBE_STOP 0) ∧ (s.run 2).on = true ∧ s.domOn 32 = true
        ∧ (s.run 2).line < (s.run 2).planned ∧ s.rowTransfers 0 = [] ∧ s.window 0 = {})
    ∧ (((window {}).put (F.BLE_CHAIN_STATUS_STATE 5) 2).setChain 5 { running := some (.words 0) }).rowTransfers 0 ≠ []
    ∧ (S.bleLit = false ∧ (S.run 2).planned ≤ (S.run 2).line)
    ∧ ((window { lit := true, stop := 16 }).strobeEnd ⟨true, false, 0, 16, 0, 0⟩ < 4096
      ∧ ((window { waits := true, stop := 16 }).window 0).waits = true ∧ 4096 ≤ (window {}).strobeEnd ⟨true, false, 32, 16, 0, 0⟩) := by decide +kernel

theorem test_meets_SensorsAndSupply :
    let s := (lights 2 { swept := true }).putB (F.BLE_LOOP_CFG_EN 3) true
    let r := s.setLoop 3 { reading := some [1, 1, 1], fails := 3 }
    (s.domOn 32 = true ∧ s.flag (F.BLE_LOOP_CFG_EN 3) = true ∧ (s.loop 3).reading = none ∧ S.flag (F.BLE_LOOP_CFG_EN 3) = false)
    ∧ ((r.loop 3).reading = some [1, 1, 1] ∧ r.ble.snsWaits = false ∧ 3 ≤ (r.loop 3).fails ∧ r.get (F.BLE_LOOP_STATUS_STATE 3) ≠ 3)
    ∧ (let g := s.putB F.BLE_SNS_CMD_GO true; g.flag F.BLE_SNS_CMD_GO = true ∧ g.ble.snsWaits = false ∧ s.flag F.BLE_SNS_CMD_GO = false)
    ∧ (let v := ((s.putB F.BLE_VLED_CFG_EN true).put F.BLE_VLED_LIMITS_MAX 5000).put F.BLE_VLED_NOW_MV 5000
      v.domOn 32 = true ∧ v.flag F.BLE_VLED_CFG_EN = true ∧ (∀ c, c < 24 → v.chainState c = 2 → (v.chain c).swept = true)
        ∧ max (v.get F.BLE_VLED_LIMITS_MIN) (v.get F.BLE_VLED_NOW_MV - 25) ≠ v.get F.BLE_VLED_NOW_MV ∧ S.flag F.BLE_VLED_CFG_EN = false)
    ∧ (let t := (s.put F.BLE_SYNC_SRC 1).putB F.BLE_STATUS_SYNC_IN_OK true
      t.get F.BLE_SYNC_SRC = 1 ∧ t.flag F.BLE_STATUS_SYNC_IN_OK = true ∧ t.domOn 32 = true ∧ S.flag F.BLE_STATUS_SYNC_IN_OK = false)
    ∧ CanWrite S .core R.BLE_SNS_CMD ∧ S.flag F.BLE_SNS_CMD_GO = false ∧ (0x80000000#32).getLsbD 31 = true ∧ CanWrite S .core 0x342000 := by
  refine ⟨by decide +kernel, by decide +kernel, by decide +kernel, by decide +kernel, by decide +kernel, core_canWrite (by decide +kernel), by decide +kernel,
    by decide, core_canWrite (by decide +kernel)⟩

/-- An update of host 0 to 8 × 2 pixels through slot 15. -/
def upd : RegionUpd := ⟨1, 15, some .hp0, 0, 0, 8, 2, 9, 0x7F000000, 32, 1⟩

/-- Self-refresh active on a running TG0. -/
def refreshing (f : SrfState) : State :=
  let s := (linked.putB F.SRF_STATUS_ACTIVE true).setRun 0 { on := true, planned := 8, vactive := 4 }
  { s with srf := f }

theorem test_meets_SelfRefresh :
    CanWrite S .core R.SRF_CTRL ∧ S.srf.exiting = false
    ∧ (let s := linked.put F.SRF_CFG_IDLE_FRAMES 1
      let t : State := { s with pil := { s.pil with idleFrames := 1 } }
      0 < t.get F.SRF_CFG_IDLE_FRAMES ∧ t.linkState = 2 ∧ t.pil.startSeen = false ∧ t.get F.SRF_CFG_IDLE_FRAMES ≤ t.pil.idleFrames)
    ∧ S.linkState ≠ 2 ∧ (S.run 0).on = false ∧ (picture.run 0).on = true ∧ picture.selfRefresh = false
    ∧ (let s := refreshing { complete := [upd], inFlight := some .fill }
      (s.run 0).on = true ∧ s.selfRefresh = true ∧ s.srf.exiting = false ∧ s.srf.complete ≠ [] ∧ s.srf.inFlight.isSome = true)
    ∧ (refreshing { complete := [upd] }).srf.inFlight = none
    ∧ (mget ([] : List SrfResult) (refreshing { results := [(2, [⟨15, 1, 0, 9⟩])] }).srf.results 2 = [⟨15, 1, 0, 9⟩] ∧ Port.hp2.num = 2
      ∧ mget ([] : List SrfResult) S.srf.results 2 = []) := by
  exact ⟨core_canWrite (by decide +kernel), by decide +kernel⟩

/-- Slot 15 set up for host 0 on the raster of 64 × 4, its data in fold 63. -/
def slotted : State :=
  ((((((((on linked [99]).putB (F.SRF_RS_CFG_EN 15) true).put (F.SRF_RS_RECT1_W 15) 8).put (F.SRF_RS_RECT1_H 15) 2).setReg (R.SRF_RS_DATA 15) 0x7F000000).put
    (F.SRF_RS_FMT_PITCH 15) 32).put (F.SRF_RS_FMT_FORMAT 15) 1).setReg (R.FST_FOLD_OWNER 63) 7).put (F.FST_FOLD_STATUS_POWER 63) 2

theorem test_meets_RegionsAndCopies :
    CanWrite slotted .core (R.SRF_RS_CFG 15) ∧ CanWrite slotted .core (R.SRF_RS_CMD 15)
    ∧ (slotted.flag (F.SRF_RS_CFG_EN 15) = true ∧ mfind slotted.srf.waiting 15 = none ∧ mfind slotted.srf.opens 15 = none)
    ∧ (slotted.slotOwner 15 = some .hp0 ∧ slotted.commitVerdict 15 (slotted.slotOwner 15) = 1 ∧ slotted.unshown = []
      ∧ S.commitVerdict 0 (S.slotOwner 0) ≠ 1)
    ∧ (let l : BufLayout := ⟨64, 4, 3, 1⟩
      let f (c : SrfCopy) : State := { stored with srf := { stored.srf with inFlight := some c, layouts := [(0, l), (1, l)] } }
      (f .fill).srf.inFlight = some .fill ∧ (f .fill).layoutOf (f .fill).frontBuf = some l
      ∧ (stored.slotsWait 0 3 (List.range l.slots) || stored.slotsWait 1 3 (List.range l.slots)) = false
      ∧ ((stored.putB (F.FST_FOLD_STATUS_INIT 4) true).slotsWait 0 3 (List.range l.slots)) = true
      ∧ (f (.update upd)).srf.inFlight = some (.update upd) ∧ stored.layoutOf (1 - stored.frontBuf) = none
      ∧ (f (.update upd)).layoutOf (1 - (f (.update upd)).frontBuf) = some l ∧ (f (.update upd)).updateWaits upd l = false
      ∧ (f (.echo [upd])).srf.inFlight = some (.echo [upd]) ∧ [upd] ∉ (f (.echo [upd])).srf.echoes
      ∧ (f (.rollback upd)).srf.inFlight = some (.rollback upd) ∧ S.srf.inFlight = none) :=
  ⟨core_canWrite (by decide +kernel), core_canWrite (by decide +kernel), by decide +kernel, by decide +kernel, by decide +kernel⟩

theorem test_meets_FrameStore :
    let c := (((on (ran S) [99]).setReg (R.FST_FOLD_OWNER 63) 7).put (F.FST_FOLD_STATUS_POWER 63) 2).putB (F.FST_FOLD_STATUS_OWNER_CHANGING 63) true
    let h : State := { c with hpt := [(0, { held := some ⟨0x7F000000, [1#8]⟩ })] }
    let g := c.putB F.FST_CFG_GRAZE_EN true
    let z (a : Nat) : State := { g with fst := { g.fst with graze := a } }
    CanWrite S .core (R.FST_FOLD_OWNER 63) ∧ (8 < 9 % 16 ∧ 8 % 16 ≤ 8 ∧ 8 / 16 < 3 ∧ 8 ≠ S.reg (R.FST_FOLD_OWNER 63)
      ∧ S.flag (F.FST_FOLD_STATUS_OWNER_CHANGING 63) = false ∧ S.reg (R.FST_FOLD_OWNER 63) % 16 ≤ 8)
    ∧ (c.flag (F.FST_FOLD_STATUS_OWNER_CHANGING 63) = true ∧ c.portHeld .hp0 = false ∧ c.portHeld .hp1 = false ∧ c.portHeld .hp2 = false ∧ c.fst.waits = [])
    ∧ ((mget ({} : HptPort) h.hpt 0).held = some ⟨0x7F000000, [1#8]⟩ ∧ foldBase 63 ≤ 0x7F000000 ∧ h.beforeRun = false
      ∧ ownerIsHost (h.reg (R.FST_FOLD_OWNER 63)) .hp0 = true ∧ h.foldOn 63 = true ∧ h.flag (F.FST_FOLD_STATUS_INIT 63) = false)
    ∧ ((z (63 * 2 ^ 24)).flag F.FST_CFG_GRAZE_EN = true ∧ (z (63 * 2 ^ 24)).fst.graze / 2 ^ 24 = 63 ∧ (z (63 * 2 ^ 24)).foldOn 63 = true
      ∧ (z (63 * 2 ^ 24 + 2 ^ 24 - 16)).fst.graze / 2 ^ 24 = 63 ∧ ((z (63 * 2 ^ 24 + 2 ^ 24 - 16)).fst.graze + 8) % 2 ^ 24 ≠ 0
      ∧ (g.putB F.FST_CFG_GRAZE_EN false).flag F.FST_CFG_GRAZE_EN = false ∧ (g.putB (F.FST_FOLD_STATUS_INIT 63) true).flag (F.FST_FOLD_STATUS_INIT 63) = true) :=
  ⟨core_canWrite (by decide +kernel), by decide +kernel⟩

/-- A COMPRESS job of one LINEAR segment of 64 samples of 16 bits, from the start of fold 63 to its middle. -/
def jobWords : List Word := [0x1A000000, 7, 0x7F000000, 128, 0x7F800000, 4096, 0, 128]

/-- CPR ON with ring 3 of two entries, its descriptor in fold 63, which CPR owns. -/
def jobs : State :=
  let s := ((((((on (ran S) [34, 99]).putB F.CPR_CFG_EN true).put (F.CPR_RING_SIZE_SIZE 3) 2).setReg (R.CPR_RING_BASE 3) 0x7F000000).setReg
    (R.CPR_RING_TAIL 3) 1).setReg (R.FST_FOLD_OWNER 63) 6).put (F.FST_FOLD_STATUS_POWER 63) 2
  { s with fst := { s.fst with mem := memWrite [] 0x7F000000 (jobWords.flatMap fun w => beBytes 4 w.toNat) } }

theorem test_meets_CompressionJobs :
    CanWrite jobs .core (R.CPR_RING_TAIL 3) ∧ CanWrite jobs .core (R.CPR_RING_CTRL 3) ∧ (jobs.ringEntries 3 ≤ 2 % 256 ∧ 1 % 256 < jobs.ringEntries 3)
    ∧ (jobs.engineOn 12 = true ∧ jobs.flag F.CPR_CFG_EN = true ∧ jobs.cpr.job = none ∧ jobs.nextRing = some 3 ∧ S.nextRing = none
      ∧ jobs.descriptor 3 = jobWords ∧ jobs.badDesc jobWords = false ∧ (cprJob jobWords).op = 1 ∧ jobs.dmaWaits (jobs.headAddr 3) 32 = false
      ∧ jobs.rangeWaits 6 (cprJob jobWords).outAddr 8 = false ∧ S.engineOn 12 = false)
    ∧ (let w := jobs.putB (F.FST_FOLD_STATUS_INIT 63) true; w.dmaWaits (w.headAddr 3) 32 = true ∧ w.jobWaits (cprJob jobWords) = true)
    ∧ (let s : State := { jobs with cpr := { jobs.cpr with job := some (3, jobWords) } }
      s.cpr.job = some (3, jobWords) ∧ jobWords ≠ [] ∧ s.cpr.jobBad = false ∧ s.jobWaits (cprJob jobWords) = false ∧ s.cpr.foreignHit = false
        ∧ ((begun s).dmaRead (cprJob jobWords).inAddr (cprJob jobWords).inLen [] 0).1 = true
        ∧ ((begun s).dmaRead (cprJob jobWords).inAddr (cprJob jobWords).inLen [(0x7F000000 / 8, .double)] 0).1 = false)
    ∧ (cprJob (0x2A000000 :: jobWords.tail)).op = 2
    ∧ (jobs.flag (F.CPR_RING_STATUS_HALTED 3) = false ∧ (jobs.putB (F.CPR_RING_STATUS_HALTED 3) true).flag (F.CPR_RING_STATUS_HALTED 3) = true)
    ∧ (({ jobs with cpr := { jobs.cpr with records := [(2, [⟨0, 7, 8⟩])] } } : State).cprRecords 2 = [⟨0, 7, 8⟩] ∧ Port.hp2.num = 2 ∧ jobs.cprRecords 2 = []) :=
  ⟨core_canWrite (by decide +kernel), core_canWrite (by decide +kernel), by decide +kernel⟩

/-- Flock IF3 and OF7 ON, their PLLs locked, lane l in a receiver state. -/
def laned (l st : Nat) : State := (((on (ran S) [5, 13]).setPll 3 true).setPll 11 true).setRx l st

theorem test_meets_LaneCommands :
    ((on S [13]).domOn (pllDomain 11) = true ∧ (on S [13]).pllLocked 11 = false ∧ S.domOn (pllDomain 11) = false)
    ∧ ((laned 31 4).pllLocked 3 = true ∧ (laned 31 2).rxState 31 = 2 ∧ (laned 143 3).rxState 143 = 3 ∧ (laned 143 4).rxState 143 = 4 ∧ (laned 31 5).rxState 31 = 5)
    ∧ (((laned 31 3).setLane 31 { comma := some 9 }).lane 31).comma = some 9 ∧ ((laned 31 3).lane 31).comma ≠ some 9
    ∧ (((laned 31 4).put (F.LNS_LANE_STATUS_BIT_POS 31) 9).get (F.LNS_LANE_STATUS_BIT_POS 31) = 9 ∧ (laned 31 4).get (F.LNS_LANE_STATUS_BIT_POS 31) ≠ 9)
    ∧ ((laned 31 4).get (F.LNS_LANE_CFG_POL 31) = 0 ∧ (laned 31 4).flag (F.LNS_LANE_STATUS_POL_INV 31) = false)
    ∧ CanWrite (laned 31 5) .core (R.LNS_LANE_SLIP 31) ∧ CanWrite (laned 31 4) .core (R.LNS_LANE_SCAN 31)
    ∧ ((laned 143 4).flag (F.LNS_LANE_CFG_FREEZE 143) = false ∧ ((laned 143 4).putB (F.LNS_LANE_CFG_FREEZE 143) true).flag (F.LNS_LANE_CFG_FREEZE 143) = true)
    ∧ (((laned 31 4).put F.LNS_CFG_MON_MS 1).get F.LNS_CFG_MON_MS ≠ 0 ∧ (laned 31 4).laneFallow 31 = false ∧ (laned 31 4).flag (F.LNS_LANE_SCAN_GO 31) = false)
    ∧ (((laned 31 4).setLane 31 { monitoring := true }).lane 31).monitoring = true
    ∧ (let s := ((laned 31 4).putB (F.LNS_LANE_SCAN_GO 31) true).setLane 31 { point := some (63, 127, 15) }
      (s.lane 31).point = some (63, 127, 15) ∧ s.flag (F.LNS_LANE_SCAN_GO 31) = true ∧ s.laneFallow 31 = false ∧ s.domOn (laneDomain 31) = true)
    ∧ (bitAt (0x80000000#32).toNat 31 = true ∧ hasTx 143 = true ∧ (laned 143 4).laneSends 143 = true ∧ hasTx 24 = true
      ∧ ((laned 24 4).put F.PIL_CFG_FLOCK_EN 8).laneSends 24 = true ∧ S.laneSends 143 = false)
    ∧ ((laned 143 4).portState 55 = 0 ∧ ((laned 143 4).setLane 142 { stopped := true }).laneIdle 142 = true
      ∧ (((laned 143 4).setLane 142 { stopped := true }).put (F.ADL_PORT_STATUS_STATE 55) 2).portState 55 ≠ 0)
    ∧ ((pllLanes 11).all fun i => hasTx i && !((on S [13]).lane i).stopped) = true
    ∧ (decodeGroup false ((encodeSyms false [symK28_2]).1.headD 0) = .good symK28_2 ∧ (match decodeGroup false 0 with | .invalid => true | _ => false) = true
      ∧ (match decodeGroup true ((encodeSyms false [symK28_2]).1.headD 0) with | .disparity _ => true | _ => false) = true) := by
  refine ⟨by decide +kernel, by decide +kernel, by decide +kernel, by decide +kernel, by decide +kernel, by decide +kernel, core_canWrite (by decide +kernel),
    core_canWrite (by decide +kernel), by decide +kernel⟩

/-- An Announce of a master. -/
def master : AnnounceMsg := ⟨⟨none, 127, true⟩, 5, 1, 5, 128, 6, 0x21, 0, 128, 0, 37, true, true, 0⟩

/-- The core RUNNING and PTP the source, with a servo state. -/
def timed (h : HtmState) : State := { (up (ran S)) with htm := h }

theorem test_meets_HouseTimeCommands :
    let good (s : State) (h : PtpHeader) : Prop := s.domOn 1 = true ∧ h.vlan = s.netTag ∧ h.domain = s.get F.HTM_CFG_DOMAIN ∧ h.sums = true
    let s := timed { selected := some 5 }
    CanWrite S .core R.HTM_STEP_NS ∧ CanWrite S .core R.HTM_PPS_TOD_HI ∧ CanWrite S .core R.HTM_MDIO ∧ S.domOn 1 = false
    ∧ (good s master.head ∧ ¬ good s ⟨some 1, 127, true⟩ ∧ ¬ good s ⟨none, 126, true⟩ ∧ ¬ good s ⟨none, 127, false⟩)
    ∧ (s.ptpOn = true ∧ s.htm.selected = some 5 ∧ s.htm.selected ≠ some 6 ∧ s.htm.pathDelay = none ∧ s.htm.pendingSync = none ∧ s.htmSrc ≠ 1
      ∧ (s.put F.HTM_CFG_SRC 2).ptpOn = false)
    ∧ (let t := timed { selected := some 5, pathDelay := some 1, pendingSync := some ⟨5, 7, 0, 0, 0⟩, syncTimes := some (0, 0, 0), delayReqT3 := some 0 }
      t.htm.pathDelay = some 1 ∧ t.htm.pendingSync = some ⟨5, 7, 0, 0, 0⟩ ∧ t.htm.delayReqT3 = some 0 ∧ t.htm.delayReqSeq = 0 ∧ t.htm.syncTimes = some (0, 0, 0)
        ∧ t.portIdentity ≠ 0 ∧ (t.setReg R.HTM_IP 1).reg R.HTM_IP ≠ 0)
    ∧ (let t : State := { timed { selected := some 5, foreign := [⟨5, master, 0, true⟩] } with now := 10 ^ 30 }
      ∀ f, f ∈ t.htm.foreign → f.heard + 3 * t.announceInterval ≤ t.now ∨ f.sender = 5 ∧ t.htm.syncHeard + 16 * t.syncInterval ≤ t.now)
    ∧ ((timed {}).htm.foreign = [] ∧ (timed {}).htm.selected = none ∧ (timed {}).ptpOn = true)
    ∧ (let t := timed { foreign := [⟨5, master, 0, false⟩] }; t.htm.foreign = [⟨5, master, 0, false⟩] ∧ t.now ≤ 0 + 4 * t.announceInterval)
    ∧ (s.flag F.HTM_STATUS_LINK = false ∧ (s.putB F.HTM_STATUS_LINK true).flag F.HTM_STATUS_LINK ≠ false)
    ∧ (let t : State := { (timed { ppsLast := some 0, ppsSince := some 0 }).put F.HTM_CFG_SRC 1 with now := 2000000 * usUnit }
      t.htmSrc = 1 ∧ t.coreRuns = true ∧ 0 + 1500000 * usUnit < t.now ∧ t.htm.ppsSince = some 0 ∧ 0 + 2000000 * usUnit ≤ t.now
        ∧ ((timed {}).put F.HTM_CFG_SRC 1).htm.ppsLast = none)
    ∧ (s.flag F.HTM_MDIO_GO = false ∧ (s.putB F.HTM_MDIO_GO true).flag F.HTM_MDIO_GO = true) := by
  refine ⟨core_canWrite (by decide +kernel), core_canWrite (by decide +kernel), core_canWrite (by decide +kernel), ?_⟩
  decide +kernel

theorem test_meets_PopRegisters :
    let s : State := { queued with seq := { queued.seq with done := [(1, [⟨7, 0, 5, 9⟩])] }, mgt := { queued.mgt with done := [(1, [⟨1, 0, 0, 0, 9⟩])] } }
    Port.hp1.num = 1 ∧ Port.hp1.num ≠ 2 ∧ mget ([] : List SeqDone) s.seq.done 1 = [⟨7, 0, 5, 9⟩] ∧ s.mbDone 1 = [⟨1, 0, 0, 0, 9⟩]
    ∧ ((s.target 1).queue = [⟨114, 1, 0, false, false, 0, 0⟩] ∧ (s.target 1).held = [])
    ∧ (s.engineOwner 1 = Port.num .hp0 ∧ s.engineOwner 1 ≠ Port.num .hp2) := by decide +kernel

theorem test_meets_HouseTimeWriters :
    ((ran S).htmSrc = 0 ∧ (ran S).portHeld .hp0 = false)
    ∧ (let s := (ran S).put F.HTM_CFG_SRC 2; s.htmSrc = 2 ∧ s.engineOwner 14 = Port.num .hp0 ∧ s.beforeRun = false ∧ s.portHeld .hp0 = false) := by decide +kernel

/-- Calibration enabled, the core RUNNING, every slice at work and its calibration ended, SL16 idle. -/
def calm : State :=
  let s := ((up (ran S)).putB F.CAL_CFG_EN true).each (List.range 17) fun s k => s.put (F.SLC_SLICE_STATUS_ROLE k) (k / 16)
  { s with cal := { s.cal with endedAt := (List.range 17).map fun k => (k, 0) } }

/-- With units due and calibrations in progress. -/
def calmWith (due : List CalDue) (runs : List CalRun) : State := { calm with cal := { calm.cal with due := due, runs := runs } }

theorem test_meets_CalibrationCommands :
    let settled (s : State) : Prop := s.cal.recalled = [] ∧ ∀ x, x ∈ allUnits → s.unitUsed x = true → (mfind s.cal.endedAt x).isSome = true
    let fresh : State := { calm with cal := { calm.cal with endedAt := [] } }
    CanWrite calm .core R.CAL_REQ
    ∧ (validUnit 0x78 = false ∧ validUnit 0x77 = true ∧ settled calm ∧ settled (calmWith [⟨3, 0, 0, false, none⟩] [])
      ∧ (calm.calRun 3 = none ∧ calm.cal.due.any (fun x => x.unit == 3) = false) ∧ (calmWith [⟨3, 0, 0, false, none⟩] []).cal.due.any (fun x => x.unit == 3) = true
      ∧ (fresh.unitUsed 3 = true ∧ mfind fresh.cal.endedAt 3 = none))
    ∧ (calm.cal.refTemp = [] ∧ unitSensor 16 = 16 ∧ 16 * calm.get F.CAL_CFG_DELTA_T < ((10000 : Int) - 0).natAbs)
    ∧ ((calm.put F.CAL_CFG_INTERVAL 1).get F.CAL_CFG_INTERVAL ≠ 0 ∧ (mfind calm.cal.endedAt 16).isSome = true
      ∧ (calm.put F.CAL_CFG_INTERVAL 0).get F.CAL_CFG_INTERVAL = 0)
    ∧ (S.calMay = false ∧ calm.calMay = true ∧ calm.cal.due = [] ∧ calm.calRoom 3 = true ∧ calm.get F.MGT_STATUS_DEFER ≠ 3
      ∧ (calm.put F.MGT_STATUS_DEFER 3).get F.MGT_STATUS_DEFER = 3 ∧ calm.hasStandIn 15 = true ∧ (calm.put (F.SLC_SLICE_STATUS_ROLE 16) 5).hasStandIn 15 = false)
    ∧ ((calmWith [] [{ unit := 16, trigger := 1, phase := .fallow }]).calRun 16).isSome = true ∧ ([0, 0, 0, 0, 63] : List Int).length = 5
    ∧ ((calmWith [] [{ unit := 0x77, trigger := 1, phase := .fallow, runs := [[0], [3]] }]).calRun 0x77).isSome = true ∧ calm.calRun 0x77 = none
    ∧ (2 < ((0 : Int) - 3).natAbs ∧ 2 < ((0 : Int) - clampInt (-128) 127 6).natAbs ∧ 2 < ((3 : Int) - clampInt (-128) 127 6).natAbs
      ∧ ((0 : Int) - clampInt (-128) 127 2).natAbs ≤ 2)
    ∧ (calm.comparing = none ∧ (calmWith [] [{ unit := 15, trigger := 1, phase := .returning }]).comparing = some (15, true)
      ∧ (calmWith [] [{ unit := 0, trigger := 1, phase := .parallel }]).comparing = some (0, false))
    ∧ (let b : State := { calm with cal := { calm.cal with bist := some ⟨0, 0, true, false⟩, transientAt := [(0, 0)] } }
      calm.cal.bist = none ∧ b.cal.bist = some ⟨0, 0, true, false⟩ ∧ mfind b.cal.transientAt 0 = some 0 ∧ b.now ≤ 0 + 600 * 1000000 * usUnit
        ∧ mfind calm.cal.transientAt 0 = none)
    ∧ ((calm.put (F.SLC_SLICE_STATUS_ROLE 16) 5).role 16 = 5 ∧ calm.role 15 = 0 ∧ calm.spareIdle = true) := by
  refine ⟨core_canWrite (by decide +kernel), ?_⟩; decide +kernel

/-- The core RUNNING with one mailbox command of HP2 queued. -/
def boxed (op : Nat) (args : List Word) : State := { (up (ran S)) with mgt := { S.mgt with cmds := [(2, [⟨op, 3, args⟩])] } }

theorem test_meets_CoreTalliesAndLog :
    let g (st : Nat) : State := (on (ran S) [1]).put F.MGT_STATUS_STATE st
    (S.domOn 1 = false ∧ (g 2).mgtState = 2 ∧ (g 3).mgtState = 3 ∧ (g 4).mgtState = 4 ∧ (g 5).mgtState = 5 ∧ (g 1).mgtState ≤ 1 ∧ (g 1).mgt.dogSuspended = false)
    ∧ (0xFFFF#16).toNat ≠ Nat.xor ((g 1).get F.MGT_DOG_KEY) 0xB7E1
    ∧ (15 ≤ ({ g 1 with mgt := { S.mgt with highUpdates := 15, lowUpdates := 15 } } : State).mgt.highUpdates ∧ (g 1).get F.MGT_STATUS_DEFER < 3
      ∧ 0 < ((g 1).put F.MGT_STATUS_DEFER 1).get F.MGT_STATUS_DEFER)
    ∧ CanWrite S .core R.MGT_CTRL
    ∧ ((boxed 5 [0]).mbCmds 2 = ⟨5, 3, [0]⟩ :: [] ∧ (boxed 5 [0]).coreRuns = true ∧ (boxed 5 [0]).get F.MGT_STATUS_DEFER < 2 ∧ (up S).mbCmds 2 = []
      ∧ (⟨5, 3, [0]⟩ : MbCmd).arg 0 < 17 ∧ ((boxed 5 [0]).put (F.SLC_SLICE_STATUS_ROLE 0) 5).role 0 = 5 ∧ ((boxed 5 [0]).put (F.SLC_SLICE_STATUS_ROLE 0) 0).role 0 ≠ 5
      ∧ (on (boxed 5 [0]) [14]).domOn 14 = true ∧ 2 ≤ ((boxed 1 []).put F.MGT_STATUS_DEFER 3).get F.MGT_STATUS_DEFER)
    ∧ (let r := ((on (boxed 3 [0x40000000, 0, 64]) [36]).setReg (R.FST_FOLD_OWNER 0) (7 + 2 * 16)).put (F.FST_FOLD_STATUS_POWER 0) 2
      let c : MbCmd := ⟨3, 3, [0x40000000, 0, 64]⟩
      r.mbCmds 2 = [c] ∧ 1 ≤ c.arg 2 ∧ c.arg 2 ≤ 64 ∧ r.hostRange .hp2 (c.arg 0) (4096 * c.arg 2) = true
        ∧ (foldsIn (c.arg 0) (4096 * c.arg 2)).all r.foldOn = true ∧ r.logReadWaits .hp2 = false
        ∧ (r.putB (F.FST_FOLD_STATUS_INIT 0) true).logReadWaits .hp2 = true ∧ 64 < (⟨3, 3, [0, 0, 65]⟩ : MbCmd).arg 2)
    ∧ ({ (boxed 6 []) with cal := { S.cal with sensors := [(22, 640)] } } : State).junction = some 640
    ∧ (upTo 17 calm.carries ≠ [] ∧ (calm.putB F.MGT_AVS_CFG_EN true).avsHeld = false
      ∧ ((calmWith [] [{ unit := 3, trigger := 1, phase := .fallow }]).put (F.SLC_SLICE_STATUS_ROLE 3) 3).avsHeld = true)
    ∧ (S.coreRuns = false ∧ (up S).coreRuns = true ∧ (up S).mgt.recoveries = [] ∧ (up S).tal.log.writing = none ∧ (on (up S) [32]).domOn 32 = true)
    ∧ (let l : State := { up S with tal := { S.tal with log := { S.tal.log with writing := some (63, [1#8]) } } }; l.tal.log.writing = some (63, [1#8]) ∧ l.mgt.deferredC4 = 0)
    ∧ CanWrite S .core R.TAL_CTRL ∧ (S.tal.req = none ∧ S.tal.fill = none ∧ S.flag (F.TAL_BANK_HOLD_HOLD S.talTarget) = false ∧ (S.run 0).on = false)
    ∧ (let s : State := { running 0 0 {} with tal := { S.tal with fill := some ⟨1, 0, 1, 0, false, false, 0, {}, 0, []⟩ } }
      (s.run 0).on = true ∧ s.tal.fill.isSome = true ∧ ∀ b, b ∈ ([] : List Nat) → b ∈ s.talUnits.map (·.base)) := by
  refine ⟨by decide +kernel, by decide +kernel, by decide +kernel, core_canWrite (by decide +kernel), by decide +kernel, by decide +kernel, by decide +kernel,
    by decide +kernel, by decide +kernel, by decide +kernel, core_canWrite (by decide +kernel), by decide +kernel, by decide +kernel⟩

/-- HP0's fold 0 with a step at its start, and the sequence of slot 7 that has reached it. -/
def stepping (t : List Nat) (r : SeqRun) : State :=
  let s := ((on (ran S) [36]).setReg (R.FST_FOLD_OWNER 0) 7).put (F.FST_FOLD_STATUS_POWER 0) 2
  { s with fst := { s.fst with mem := memWrite [] 0x40000000 (t.flatMap (beBytes 4)) }, seq := { s.seq with runs := [(0, [r])] } }

/-- The sequence of slot 7 at step 0. -/
def seq7 : SeqRun := { slot := 7, base := 0x40000000, tag := 9, hold := 4, step := 0 }

theorem test_meets_SequenceCommands :
    let i := ran (on S [35])
    let e := stepping [0, 0, 0, 0] seq7
    CanWrite i (.host .hp0) (R.SEQ_SLOT_CTRL 7) ∧ i.seqPort (.host .hp0) 7 = some .hp0
    ∧ (i.slotState 7 ≠ 1 ∧ i.slotState 7 ≠ 2 ∧ i.reg (R.SEQ_SLOT_BASE 7) % 16 = 0 ∧ i.seqRuns 0 = [] ∧ (i.put (F.SEQ_SLOT_STATUS_STATE 7) 2).slotState 7 = 2)
    ∧ ((∀ x, x < 24 → bitAt 4 x = true → i.engineOwner x = Port.num .hp0) ∧ ∃ x, x < 24 ∧ bitAt 4 x = true ∧ i.engineOwner x ≠ Port.num .hp1)
    ∧ (e.seqRuns 0 = [seq7] ∧ seq7.waiting = false ∧ seq7.cancelled = false ∧ (∀ m, m < 3 → m ≠ 0 → ∀ x, x ∈ e.seqRuns m → x.slot ≠ 7)
      ∧ inFolds (stepAddr seq7) = true ∧ e.seqWaits .hp0 (stepAddr seq7) 16 = false
      ∧ (e.putB (F.FST_FOLD_STATUS_INIT 0) true).seqWaits .hp0 (stepAddr seq7) 16 = true
      ∧ (foldsIn (stepAddr seq7) 16).all (fun nn => e.hostMiss .hp0 nn == 0) = true ∧ e.badStep .hp0 (e.stepOf seq7) = false ∧ stepOp (e.stepOf seq7) = 0)
    ∧ (let w := stepping [0, 0, 0, 0] { seq7 with waiting := true, words := [0x40000001, 0, 0, 0] }
      (w.seqRuns 0).any (·.waiting) = true ∧ stepOp (w.stepOf { seq7 with waiting := true, words := [0x40000001, 0, 0, 0] }) = 4
        ∧ stepOp (w.stepOf { seq7 with waiting := true, words := [0x60000001, 0, 0, 0] }) = 6)
    ∧ (let s := stepping [1, 0, 0, 0] seq7; s.badStep .hp0 (s.stepOf seq7) = true ∧ stepOp (s.stepOf seq7) = 0)
    ∧ (let s := stepping [0x10000000, R.FE_CFG, 1, 0] seq7
      s.badStep .hp0 (s.stepOf seq7) = false ∧ stepOp (s.stepOf seq7) = 1 ∧ s.permits (.host .hp0) (s.stepOf seq7).w1 = 0 ∧ (s.stepOf seq7).w1 = R.FE_CFG
        ∧ (s.setReg R.DEV_OWN_ENG0 0x10).permits (.host .hp0) R.FE_CFG = 2)
    ∧ (let s := stepping [0x20000000, R.FE_CFG, 1, 1] seq7; s.badStep .hp0 (s.stepOf seq7) = false ∧ stepOp (s.stepOf seq7) = 2)
    ∧ (let s := stepping [0x30000000, 0x40000100, 0x40FFFFFC, 4] seq7
      s.badStep .hp0 (s.stepOf seq7) = false ∧ stepOp (s.stepOf seq7) = 3 ∧ s.seqWaits .hp0 0x40000100 4 = false ∧ inFolds 0x40FFFFFC = true
        ∧ 0x40FFFFFC + 4 ≤ foldBase (foldOf 0x40FFFFFC + 1) ∧ s.foldWriteCode .hp0 (foldOf 0x40FFFFFC) = 0 ∧ s.foldOn (foldOf 0x40FFFFFC) = true)
    ∧ (let s := stepping [0x40000001, R.DEV_ID, 0x8840B100, 0xFFFFFFFF] seq7
      s.badStep .hp0 (s.stepOf seq7) = false ∧ stepOp (s.stepOf seq7) = 4 ∧ Nat.land (s.viewWord .hp0 R.DEV_ID) 0xFFFFFFFF = Nat.land 0x8840B100 0xFFFFFFFF
        ∧ Nat.land (s.viewWord .hp0 R.DEV_ID) 0xFFFFFFFF ≠ Nat.land 0 0xFFFFFFFF)
    ∧ (let s := (stepping [0x53000001, 0, 0, 0] seq7).putB (F.TG_CFG_EN 3) true; s.badStep .hp0 (s.stepOf seq7) = false ∧ stepOp (s.stepOf seq7) = 5)
    ∧ (let s := stepping [0x60000000, 10000000, 0, 0] seq7; s.badStep .hp0 (s.stepOf seq7) = false ∧ stepOp (s.stepOf seq7) = 6)
    ∧ (let s := stepping [0x70000000, 0, 0, 0] seq7; s.badStep .hp0 (s.stepOf seq7) = false ∧ stepOp (s.stepOf seq7) = 7 ∧ s.shadow = [] ∧ s.tblShadow = []) := by
  refine ⟨host_canWrite (by decide +kernel) (by decide +kernel), by decide +kernel, by decide +kernel, ⟨by decide +kernel, 2, by decide +kernel⟩, ?_⟩
  decide +kernel

/-! Further clauses of the statements above. -/

theorem test_meets_WellFormedCommandsGoOn : (Instr.followerRestart 3).wellFormed = true ∧ (Instr.followerRestart 4).wellFormed = false := by decide

theorem test_meets_MemoriesKeepTheirForm : (∃ t, step S = .next t) ∧ Memory.wf 0 S.fst.mem ∧ Memory.wf 0 S.fst.locked ∧ Memory.wf 0xFF S.nvm := by
  refine ⟨⟨_, rfl⟩, ?_⟩; decide +kernel

theorem test_meets_PinsFollowR401_kept :
    let e := (queued.putB (F.EVT_H_CFG_EN 0) true).put (F.EVT_H_CFG_COUNT 0) 1
    let low : State := { e with evt := { e.evt with targets := mset {} e.evt.targets 0 { queue := [⟨114, 1, 0, false, false, 0, 0⟩], intn := true } } }
    ((low.target 0).intn = true ∧ (low.target 0).queue ≠ [] ∧ low.flag (F.EVT_H_CFG_EN 0) = true)
    ∧ ((e.target 0).intn = false ∧ ((finish e e).target 0).intn = true) := by decide +kernel

/-- An image of no section with a sequence number. -/
def imageNo (no : Nat) : List Byte :=
  let h := [0x53#8, 0x4B#8, 0x53#8, 0x49#8] ++ beBytes 2 1 ++ beBytes 2 0 ++ beBytes 4 36 ++ beBytes 4 no ++ beBytes 4 0 ++ List.replicate 12 0#8
  h ++ beBytes 4 (crc32c h)

theorem test_meets_StartUpSteps_slots :
    let b : State := ({ S with nvm := nvWrite [] 0x1000000 (imageNo 5) } : State).put F.CFG_STATUS_STATE 1
    let two : State := ({ S with nvm := nvWrite (nvWrite [] 0 (imageNo 5)) 0x1000000 (imageNo 7) } : State).put F.CFG_STATUS_STATE 1
    (b.get F.CFG_STATUS_STATE = 1 ∧ b.headerReason (1 - 1) ≠ 0 ∧ (b.imageReason 1).1 = 0)
    ∧ (two.get F.CFG_STATUS_STATE = 1 ∧ two.headerReason 0 = 0 ∧ two.headerReason 1 = 0 ∧ two.imgSeq 0 < two.imgSeq 1 ∧ (two.imageReason 1).1 = 0) := by
  decide +kernel

theorem test_meets_StartUpSteps_second :
    let h := [0x53#8, 0x4B#8, 0x53#8, 0x49#8] ++ beBytes 2 1 ++ beBytes 2 0 ++ beBytes 4 44 ++ beBytes 4 9 ++ beBytes 4 0 ++ List.replicate 12 0#8
    let bad := h ++ beBytes 4 (crc32c h)
    let s : State := ({ S with nvm := nvWrite (nvWrite [] 0 (imageNo 5)) 0x1000000 bad } : State).put F.CFG_STATUS_STATE 1
    s.headerReason 0 = 0 ∧ s.headerReason 1 = 0 ∧ s.imgSeq 0 < s.imgSeq 1 ∧ (s.imageReason 1).1 ≠ 0 ∧ (s.imageReason (1 - 1)).1 = 0 := by
  decide +kernel

theorem test_meets_StartUpSteps_panel :
    let s : State := { S.put F.CFG_STATUS_STATE 4 with cfg := { lightStep := 6, panelOn := true } }
    s.get F.CFG_STATUS_STATE = 4 ∧ s.cfg.lightStep = 6 ∧ s.cfg.panelOn = true ∧ s.panelState .front = 0 ∧ s.panelState .rear = 0 ∧ s.reg R.TG_PANEL_CTRL = 0
    ∧ S.tal.log.writing = none := by decide +kernel

theorem test_meets_NvJobs_ends :
    let s (pr : Bool) : State := { jobReady with cfg := { jobReady.cfg with job := some ⟨pr, 0x1000000, 0x40000000, 4096, .hp0⟩ } }
    ((s true).cfg.job.isSome = true ∧ jobReady.cfg.job = none ∧ (s true).nvmDevice ≠ .absent
      ∧ (foldsIn 0x40000000 4096).all (fun nn => (s true).foldOn nn && !(s true).hostWaits .hp0 nn) = true)
    ∧ (s false).hostRange .hp0 0x40000000 4096 = true ∧ inFolds 0x40000000 = true := by decide +kernel

/-- A domain that a request takes to a state, from another. -/
def moving (dd from_ req : Nat) : State :=
  let s := (S.put (F.PWR_DOM_STATE dd) from_).put (F.PWR_DOM_REQ dd) req
  { s with pwr := { s.pwr with target := [(dd, req)] } }

theorem test_meets_PowerDomains_moves :
    (∀ x, x ∈ [(99, 0, 2), (36, 1, 2), (36, 2, 1), (34, 0, 2), (35, 1, 2)] →
      let s := moving x.1 x.2.1 x.2.2
      mfind s.pwr.target x.1 = some x.2.2 ∧ s.get (F.PWR_DOM_REQ x.1) = x.2.2 ∧ s.get (F.PWR_DOM_STATE x.1) = x.2.1)
    ∧ ((moving 36 2 1).flag (F.FST_FOLD_STATUS_INIT 0) = false ∧ (moving 36 2 1).flag (F.FST_FOLD_RETAIN_RETAIN 0) = false
      ∧ ((moving 36 2 1).putB (F.FST_FOLD_RETAIN_RETAIN 0) true).flag (F.FST_FOLD_RETAIN_RETAIN 0) = true)
    ∧ (S.domainDenied 5 2 = 0 ∧ S.fst.waits = [] ∧ (S.putB F.PWR_CFG_AUTO_LP false).flag F.PWR_CFG_AUTO_LP = false)
    ∧ ((S.put F.TG_PANEL_STATUS_STATE_R 5).panelState .rear = 5 ∧ (S.put F.TG_PANEL_STATUS_STATE_R 5).railUsed 4 = true
      ∧ (S.put F.TG_PANEL_STATUS_STATE_R 5).panelState .front ≠ 6) := by decide +kernel

/-- Folds 0 and 1 ON and owned by a host port. -/
def folded (n : Nat) : State :=
  (on (ran S) [36, 37]).each [0, 1] fun s nn => (s.setReg (R.FST_FOLD_OWNER nn) (7 + 16 * n)).put (F.FST_FOLD_STATUS_POWER nn) 2

theorem test_meets_RegisterReads_words :
    (definedWord 0x5FFFC = false ∧ definedWord 0x3FFFFFFC = false ∧ S.isHp2 0x58 = true)
    ∧ (inFolds 0x40FFFFFC = true ∧ 0x40FFFFFC + 8 ≤ 0x80000000
      ∧ (foldsIn 0x40FFFFFC 8).all (fun nn => (folded 2).hostMiss .hp2 nn == 0 && !(folded 2).hostWaits .hp2 nn) = true
      ∧ (foldsIn 0x40FFFFFC 8).all (fun nn => (folded 0).hostMiss .hp0 nn == 0 && !(folded 0).hostWaits .hp0 nn) = true)
    ∧ (0 < 8 ∧ 4 * 1 - 0x40FFFFFD % 4 < 8) := by decide +kernel

theorem test_meets_HostPortWrites :
    let s := folded 0
    let held : State := { s with hpt := [(0, { held := some ⟨0x40000000, [1#8]⟩ })] }
    (held.portHeld .hp0 = true ∧ s.portHeld .hp0 = false ∧ s.beforeRun = false)
    ∧ (inFolds 0x40FFFFFC = true ∧ (foldsIn 0x40FFFFFC 8).all (fun nn => s.foldWriteCode .hp0 nn == 0 && s.foldOn nn && !s.hostWaits .hp0 nn) = true)
    ∧ (s.putB (F.FST_FOLD_STATUS_INIT 0) true).hostWaits .hp0 (foldOf 0x40000000) = true
    ∧ (s.hostWaits .hp1 (foldOf 0x40000000) = false ∧ s.foldWriteCode .hp1 (foldOf 0x40000000) ≠ 0)
    ∧ (tblEngine 0x200002 = some 2 ∧ tblEntry 0x200002 = true ∧ tblEntry 0x200003 = true)
    ∧ (definedWord R.FE_CFG = true ∧ R.FE_CFG < 0x60000)
    ∧ (R.FE_CFG / 0x4000 ∈ [2, 4, 5, 6, 8] ∧ S.permits (.host .hp0) (R.FE_CFG + 4) ≠ 0) := by decide +kernel

theorem test_meets_HostPortWrites_words :
    CanWrite (ran S) (.host .hp0) (0x200002 / 4 * 4)
    ∧ ∃ d e, (ran S).permits (.host .hp0) (0x8014 + 4) = 0 ∧ (0x8014 + 4) / 0x4000 = 0x8014 / 0x4000 ∧ regDef? 0x8014 = some d ∧ d.rws = true
      ∧ regDef? (0x8014 + 4) = some e ∧ e.rws = true ∧ goodWord 0x8014 (Nat.land 0 d.w) = true ∧ goodWord (0x8014 + 4) (Nat.land 0 e.w) = true :=
  ⟨host_canWrite (by decide +kernel) (by decide +kernel), (regDef? 0x8014).getD ⟨0, 0, 0, 0, 0, 0, 0, 0, 0, false⟩,
    (regDef? 0x8018).getD ⟨0, 0, 0, 0, 0, 0, 0, 0, 0, false⟩, by decide +kernel⟩

theorem test_meets_OwnershipWrites_codes :
    CanWrite S .core R.DEV_OWN_ENG0 ∧ (R.DEV_OWN_ENG0 % 4 = 0 ∧ isOwnReg R.DEV_OWN_ENG0 = true ∧ R.DEV_OWN_ENG0 ≠ R.DEV_OWN_CTRL)
    ∧ (goodWord R.DEV_OWN_ENG0 0x15 = true ∧ goodWord R.DEV_OWN_ENG0 0x3 = false) :=
  ⟨core_canWrite (by decide +kernel), by decide +kernel, by decide +kernel⟩

theorem test_meets_DevCommit_engines :
    let l : List (Nat × Nat) := [(R.ODR_CFG, 5), (R.ADL_FLOCK_CFG 0, 8), (R.BLE_CFG, 9), (R.SRF_CFG, 10), (R.TG_LOCK_OFS 3, 7)]
    (∀ x, x ∈ l → x.1 / 0x4000 = x.2 ∧ (regDef? x.1).any (·.rws) = true
      ∧ mfind ({ S with shadow := [(x.1, 1#32)] } : State).shadow x.1 = some 1#32 ∧ S.skips x.2 none = false)
    ∧ (tgRegs 3 (R.TG_LOCK_OFS 3) && !(tgFive 3).contains (R.TG_LOCK_OFS 3)) = true ∧ S.cfg.lightStep ≠ 7 := by decide +kernel

theorem test_meets_SourceFrames_gaps :
    let at' (f : RxFrame) : State := { linked with pil := { linked.pil with rx := some f } }
    let q (ln x : Nat) (le : Bool) : LinkPacket := ⟨2, le, 0, ln, x, 4, 1, List.replicate 12 0x80#8⟩;
    (let s := at' { frame7 with col := 60 };
      s.packetGood (sent (q 0 60 true)) = true ∧ rxPacket (sent (q 0 60 true)) = q 0 60 true ∧ 60 + 4 = frame7.w)
    ∧ (let s := at' frame7;
      rxPacket (sent (q 0 8 false)) = q 0 8 false ∧ s.packetGood (sent (q 0 8 false)) = true ∧ s.pil.haveFront = false ∧ frame7.lineConcealed = false
        ∧ frame7.concealed = false ∧ frame7.col < 8 ∧ rxPacket (sent (q 3 0 false)) = q 3 0 false ∧ s.packetGood (sent (q 3 0 false)) = true ∧ frame7.line < 3)
    ∧ (let s := (at' frame7).put F.DEV_PATH_STATUS_MODE 1;
      s.packetGood (sent lineOf) = true ∧ s.get F.DEV_PATH_STATUS_MODE = 1 ∧ frame7.dropBands = []
        ∧ max lineOf.firstX (bandStart frame7.w 0) < min (lineOf.firstX + lineOf.count) (bandStart frame7.w (0 + 1))) := by decide +kernel

theorem test_meets_SleepAndSidePackets_meta :
    let s : State := { linked with pil := { linked.pil with metaNew := some (List.replicate 28 1#8), aux := [[1#8], [2#8]] } }
    s.packetGood (sent startOf) = true ∧ (rxPacket (sent startOf)).typ = 1 ∧ s.pil.metaNew = some (List.replicate 28 1#8)
    ∧ s.pil.aux = [1#8] :: [[2#8]] ∧ linked.domOn 33 = true := by decide +kernel

/-- The picture whose zone levels go to the backlight, zd of its two zone rows decided. -/
def feeding (zd : Nat) (w : SwapState) : State :=
  let s := on picture [32]
  { s with spl := { s.spl with zonesDecided := zd, swap := w } }

theorem test_meets_ZoneRows_backlight :
    let ready (s : State) (zy : Nat) : Prop := s.domOn 31 = true ∧ zy = s.spl.zonesDecided ∧ s.zoneRowDue zy = true ∧ 0 < s.spl.zoneSnap.geom.zc
      ∧ zy < s.spl.zoneSnap.geom.zr ∧ s.spl.zoneSnap.geom.zc * s.spl.zoneSnap.geom.zr ≤ 16384
    (ready (feeding 0 {}) 0 ∧ (feeding 0 {}).domOn 32 = true ∧ (feeding 0 {}).flag F.BLE_CFG_SOURCE = false
      ∧ ((feeding 0 {}).putB F.BLE_CFG_SOURCE true).flag F.BLE_CFG_SOURCE = true)
    ∧ (ready (feeding 1 {}) 1 ∧ 1 + 1 = (feeding 1 {}).spl.zoneSnap.geom.zr ∧ (feeding 1 {}).splitFeeds = true ∧ picture.splitFeeds = false
      ∧ (feeding 1 { deferred := true }).spl.swap.deferred = true)
    ∧ (let s := feeding 0 { bankDone := true }
      ready s 0 ∧ s.spl.swap.bankDone = true ∧ 1 < s.spl.zoneSnap.geom.zr ∧ s.splitFeeds = true) := by decide +kernel

theorem test_meets_SplitPixels_waits : picture.domOn 31 = true ∧ picture.spl.zonesDecided = 0 ∧ picture.splitDue 3 = false := by decide +kernel

/-- One port UP on the picture's generator, its values of line 0 there or not, in a line. -/
def ported (line : Nat) (vs : List (Nat × Nat)) : State :=
  let s := ((((on picture [6]).setPll 4 true).setReg (R.ADL_PORT_CFG 0) 0x80010000).put (F.ADL_PORT_STATUS_STATE 0) 2).put F.TG_PANEL_STATUS_STATE_F 3
  let s := s.setRun 0 { s.run 0 with line := line }
  { s with dth := { s.dth with values := vs }, adl := { s.adl with live := [0] } }

theorem test_meets_LineSlots_repeat :
    let s := ported 0 []
    ((s.portCfg 0).keys (s.run 0).line).all (fun k => (mfind s.dth.values k).isSome) = false ∧ (s.run 0).underrun = false ∧ s.laneSends (laneA 0) = true
    ∧ ((ported 4 []).run 0).linesSent ≤ ((ported 4 []).run 0).line ∧ ((ported 4 []).run 0).line = ((ported 4 []).run 0).vactive := by decide +kernel

theorem test_meets_DriverPorts_replies :
    let s := (on S [13]).put (F.ADL_PORT_STATUS_STATE 55) 2
    let s := s.setReg (R.ADL_PORT_CFG 55) 0x80010000
    let w (v : Nat) : BitVec 40 := BitVec.ofNat 40 (v * 256 + crc8 (beBytes 4 v))
    ({ s with adl := { s.adl with windowLeft := 1 } } : State).adl.windowLeft > 0
    ∧ (flockPorts 7).find? (fun j => s.flag (F.ADL_PORT_CFG_EN j)) = some 55
    ∧ ([w 0x50800000, w 0x50000000, w 0x53FF0000].all fun x => bits x.toNat 7 0 == crc8 (beBytes 4 (bits x.toNat 39 8))) = true
    ∧ (bitAt (w 0x50800000).toNat 31 = true ∧ bitAt (w 0x50000000).toNat 35 = false ∧ bitAt (w 0x50000000).toNat 34 = false)
    ∧ (bits (w 0x507FE000).toNat 30 21 = 0x3FF ∧ bits (w 0x50000000).toNat 30 21 < (s.portCfg 55).channels
      ∧ (s.portCfg 55).channels ≤ bits (w 0x507FC000).toNat 30 21 ∧ bits (w 0x507FC000).toNat 30 21 ≠ 0x3FF)
    ∧ (s.laneIdle (laneA 55) = false ∨ s.laneIdle (laneA 55) = true) ∧ mfind s.adl.bad (laneA 55) = none := by decide +kernel

theorem test_meets_ChainTransfers_writes :
    CanWrite (lights 2 {}) .core 0x38000C ∧ CanWrite (lights 2 {}) .core 0x3BFFF8
    ∧ ((0x3BFFF8 - 0x380000) % 16 ≠ 12 ∧ (0x38000C - 0x380000) % 16 = 12 ∧ (lights 2 {}).domOn 32 = true ∧ S.flag F.BLE_CFG_SOURCE = false
      ∧ (lights 2 {}).chainState 0 = 0) :=
  ⟨core_canWrite (by decide +kernel), core_canWrite (by decide +kernel), by decide +kernel⟩

/-- The status words of chain 23's one driver: its mark word and the word of one channel. -/
def statusOf (m : Nat) (c : Nat) : List (List (BitVec 24)) := [BitVec.ofNat 24 m :: BitVec.ofNat 24 c :: List.replicate 47 0#24]

theorem test_meets_LatchesAndWindows_status :
    let s : State := { lights 2 { running := some .nop } with tbl := mput S.tbl 0x300000 (BitVec.ofNat 32 (2 ^ 31 + 23 * 2 ^ 24)) }
    let w (m c i : Nat) : Nat := statusWord (statusOf m c) 1 0 i
    (s.get (F.BLE_CHAIN_CFG_DRIVERS 23) + 1 = 1 ∧ s.chainState 23 = 2 ∧ (s.chain 23).skipMark = false)
    ∧ (bits (w 0x590000 0 0) 23 16 ≠ 0x5A ∧ bitAt (w 0x5A2000 0 0) 13 = true)
    ∧ (bits (w 0x5A4000 0 0) 23 16 = 0x5A ∧ bitAt (w 0x5A4000 0 0) 13 = false ∧ bitAt (w 0x5A4000 0 0) 14 = true)
    ∧ (bitAt (w 0x5A0000 0x800000 (0 + 1)) 23 = true ∧ bitAt (w 0x5A0000 0x400000 (0 + 1)) 22 = true
      ∧ chanKey 23 0 0 ∉ s.ble.disabled ∧ ((bleEntries s.tbl).any fun e => e.key == chanKey 23 0 0) = true) := by decide +kernel

theorem test_meets_LatchesAndWindows_ends :
    let inFrame (s : State) (old : Bool) : Bool := let w := s.windowOf 0 old; (w.lit || w.waits) && s.strobeEnd w < 4096
    (inFrame (window { lit := true, stop := 16 }) false = true ∧ inFrame (window { lit := true, stop := 16 }) true = false)
    ∧ (inFrame (window { waits := true, stop := 16 }) false = true ∧ (window { waits := true, stop := 16 }).windowOf 0 false = { waits := true, stop := 16 })
    ∧ (inFrame (window {}) false = false ∧ inFrame (window {}) true = false)
    ∧ (let s := window { lit := true, start := 0, stop := 2000 }
      (((s.window 0).lit || (s.window 0).waits) = true ∧ s.get (F.BLE_STROBE_START 0) < s.strobeEnd (s.window 0))) := by decide +kernel

theorem test_meets_SensorsAndSupply_writes :
    let s := (lights 2 {}).setLoop 3 { reading := some [1, 1, 1] }
    let t : State := { s with ble := { s.ble with snsWaits := true } }
    ((∃ j, j < 4 ∧ (s.loop j).reading.isSome = true) ∧ (∀ j, j < 4 → ((lights 2 {}).loop j).reading = none))
    ∧ ((t.loop 3).reading = some [1, 1, 1] ∧ t.ble.snsWaits = true ∧ ∀ j, j < 4 → j ≠ 3 → (t.loop j).reading = none)
    ∧ (S.domOn 32 = false ∧ (lights 2 {}).domOn 32 = true) :=
  ⟨⟨⟨3, by decide +kernel⟩, by decide +kernel⟩, by decide +kernel, by decide +kernel⟩

theorem test_meets_SelfRefresh_domain :
    linked.domOn 33 = true ∧ S.domOn 33 = false ∧ (linked.put F.SRF_CFG_IDLE_FRAMES 1).pil.idleFrames + 0 < 1 ∧ S.get F.SRF_CFG_IDLE_FRAMES ≤ 65535 := by
  decide +kernel

theorem test_meets_RegionsAndCopies_open :
    let s : State := { linked with srf := { linked.srf with opens := [(0, openUpd)] } }
    (s.slotLinked 0 = true ∧ mfind s.srf.opens 0 = some openUpd ∧ bitAt (0#32 : Word).toNat 31 = false)
    ∧ (slotted.domOn 33 = true ∧ S.domOn 33 = false)
    ∧ (let l : BufLayout := ⟨64, 4, 3, 1⟩
      let f : State := { stored with srf := { stored.srf with inFlight := some (.update upd), layouts := [(0, l), (1, l)] } }
      ((f.putB (F.FST_FOLD_STATUS_INIT 4) true).slotsWait 0 3 [0]) = true ∧ S.layoutOf S.frontBuf = none) := by decide +kernel

theorem test_meets_LaneCommands_start :
    let s := (on S [5]).put F.PIL_CFG_FLOCK_EN 8
    24 ∈ pllLanes 3 ∧ hasTx 24 = true ∧ (s.lane 24).stopped = false ∧ bitAt (s.get F.PIL_CFG_FLOCK_EN) (24 / 8) = true ∧ s.domOn (pllDomain 3) = true
    ∧ s.pllLocked 3 = false := by decide +kernel

/-- Calibration as `calm` has it, a slice's self-test in progress. -/
def testing (b : CalBist) (at' : List (Nat × Nat)) : State := { calm with cal := { calm.cal with bist := some b, transientAt := at' } }

theorem test_meets_CalibrationCommands_tests :
    (∀ b, b ∈ [CalBist.mk 0 0 false false, ⟨15, 15, true, false⟩, ⟨0, 0, false, true⟩, ⟨16, 15, true, true⟩] →
      (testing b []).cal.bist = some b ∧ b.home < 16 ∧ mfind (testing b []).cal.transientAt b.home = none
        ∧ mfind (testing b [(b.home, 0)]).cal.transientAt b.home = some 0 ∧ (testing b []).role b.home ≠ 5)
    ∧ ((∀ x, x ∈ calm.cal.runs → 17 ≤ x.unit) ∧ calm.mgt.recovering = none)
    ∧ (let s := (calm.put (F.SLC_SLICE_STATUS_ROLE 16) 5).put (F.SLC_SLICE_STATUS_ROLE 9) 1
      s.spareIdle = false ∧ s.cal.bist = none ∧ s.cal.bistNext = none ∧ s.cal.takeover ≠ some 0 ∧ s.revived = some 9 ∧ s.role 0 = 0)
    ∧ (calm.put (F.SLC_SLICE_STATUS_ROLE 16) 5).revived = none := by decide +kernel

theorem test_meets_CalibrationCommands_units :
    let lane : State := (calm.put F.PIL_CFG_FLOCK_EN 1).put F.PIL_STATUS_LINK_STATE 2
    ((calmWith [⟨0x40, 2, 0, false, none⟩] []).cal.due = [⟨0x40, 2, 0, false, none⟩] ∧ (calm.put F.MGT_STATUS_DEFER 3).get F.MGT_STATUS_DEFER = 3)
    ∧ ((calmWith [⟨15, 2, 0, true, none⟩] []).cal.due = [⟨15, 2, 0, true, none⟩] ∧ (calmWith [⟨15, 2, 0, true, none⟩] []).calRoom 15 = true
      ∧ (calmWith [⟨15, 2, 0, true, none⟩] []).calMay = true)
    ∧ (lane.laneIdOf 0 = 7 ∨ lane.laneIdOf 0 ≠ 7)
    ∧ ((calmWith [] [{ unit := 0x20, trigger := 1, phase := .returning }]).calRun 0x20).isSome = true
    ∧ ((calmWith [] [{ unit := 0x77, trigger := 1, phase := .fallow, runs := [[5]] }]).calRun 0x77).isSome = true ∧ ((5 : Int) - clampInt (-128) 127 6).natAbs ≤ 2
    ∧ (let t : State := { calm.put F.CAL_CFG_INTERVAL 1 with now := 2 * 1000000 * usUnit }
      mfind t.cal.endedAt 15 = some 0 ∧ 0 + t.get F.CAL_CFG_INTERVAL * 1000000 * usUnit ≤ t.now ∧ calm.now < 0 + 1 * 1000000 * usUnit) := by decide +kernel

theorem test_meets_CoreTalliesAndLog_units :
    let lost : State := { boxed 5 [0x3F] with pil := { S.pil with lanes := [(31, { lost := true })] } }
    ((lost.pilLane 31).lost = true ∧ ((boxed 5 [0x20]).pilLane 0).lost = false ∧ (⟨5, 3, [0x3F]⟩ : MbCmd).arg 0 = 0x20 + 31)
    ∧ (((boxed 5 [0x77]).putB (F.ADL_PORT_STATUS_LANE_OFF_A 55) true).flag (F.ADL_PORT_STATUS_LANE_OFF_A 55) = true
      ∧ (⟨5, 3, [0x77]⟩ : MbCmd).arg 0 = 0x40 + 55)
    ∧ ((boxed 4 []).tal.log.writing = none ∧ (boxed 4 []).nvmDevice ≠ .absent)
    ∧ (let s : State := { calm.putB F.MGT_AVS_CFG_EN true with mgt := { calm.mgt with avsRetry := some 800 } }
      s.mgt.avsRetry = some 800 ∧ s.coreRuns = true ∧ s.avsHeld = false ∧ (calm.putB F.MGT_AVS_CFG_EN true).mgt.avsRetry = none
        ∧ calm.flag F.MGT_AVS_CFG_EN = false)
    ∧ (let r : List Recovery := [⟨1, 1, 0⟩] ++ ⟨2, 2, 0⟩ :: [⟨2, 3, 0⟩]
      (∀ x, x ∈ [Recovery.mk 1 1 0] → x.cls < 2) ∧ (∀ x, x ∈ [Recovery.mk 2 3 0] → x.cls ≤ 2) ∧ r.length = 3)
    ∧ (let l : State := { up S with tal := { S.tal with log := { S.tal.log with writing := some (63, [1#8]), supplyDue := true } } }
      l.tal.log.writing = some (63, [1#8]) ∧ l.tal.log.supplyDue = true ∧ l.coreRuns = true ∧ (up S).get F.MGT_STATUS_DEFER = 0)
    ∧ (let s := (running 0 0 {}).putB (F.TAL_BANK_HOLD_HOLD 1) true; (s.run 0).on = true ∧ s.flag (F.TAL_BANK_HOLD_HOLD 1) = true) := by decide +kernel

theorem test_meets_SequenceCommands_turns :
    let e := on (stepping [0, 0, 0, 0] seq7) [35]
    let two : State := { e with seq := { e.seq with runs := [(0, [seq7]), (1, [{ seq7 with slot := 1 }])], last := 0 } }
    (e.domOn 35 = true ∧ e.seqTurnOf .hp0 = true ∧ S.domOn 35 = false)
    ∧ (two.seqRuns 0 = [seq7] ∧ seq7.waiting = false ∧ two.seqTurnOf .hp0 = false)
    ∧ (inFolds (stepAddr { seq7 with base := 0x20000000 }) = false ∧ CanWrite S .core (R.SEQ_SLOT_CTRL 7)) :=
  ⟨by decide +kernel, by decide +kernel, by decide +kernel, core_canWrite (by decide +kernel)⟩

end Sys2Proof.Tests
end

section
/-! The cycle in which hardware sets a flag (R15) shows only in the write itself: delivering a command's events does not look at
`sameCycle`, so a command that ends with an effect ends with it whatever that field holds. -/

namespace Sys2Proof.Laws

open Sys2Proof Sys2Proof.Machine

/-- An operation that does not look at `sameCycle` and leaves it as it is. -/
def CycleBlind (f : State → State) : Prop := ∀ (s : State) (b : Bool), f (s.cycle b) = (f s).cycle b

theorem CycleBlind.comp {f g : State → State} (hg : CycleBlind g) (hf : CycleBlind f) : CycleBlind fun s => g (f s) := fun s b => by
  show g (f (s.cycle b)) = _
  rw [hf s b, hg]

theorem cycleBlind_each {α : Type} {f : State → α → State} (h : ∀ x, CycleBlind fun s => f s x) (l : List α) :
    CycleBlind fun s => s.each l f := by
  induction l with
  | nil => intro s b; rfl
  | cons x l ih =>
    intro s b
    show (f (s.cycle b) x).each l f = ((f s x).each l f).cycle b
    rw [show f (s.cycle b) x = (f s x).cycle b from h x s b]
    exact ih _ _

theorem cycleBlind_talRequest (k : Nat) : CycleBlind fun s => s.talRequest k := by
  intro s b
  show (if _ then _ else _) = State.cycle (if _ then _ else _) b
  rw [apply_ite (State.cycle · b)]
  rfl

theorem cycleBlind_talCopy (g : Nat) (c : SMap Nat) (t : Bool) : CycleBlind fun s => s.talCopy g c t := by
  intro s b
  show (s.cycle b).talCopy g c t = (s.talCopy g c t).cycle b
  unfold State.talCopy
  rw [show (s.cycle b).fillHeld = s.fillHeld from rfl, show (s.cycle b).tal.fill = s.tal.fill from rfl]
  split
  · rfl
  split
  · rfl
  · next f _ =>
    exact CycleBlind.comp (g := fun t => { t with tal := { t.tal with fill := _ } }) (fun _ _ => rfl)
      (cycleBlind_each (f := fun s u => s.talCopyUnit f c t u) (fun _ _ _ => rfl) _) s b

theorem cycleBlind_talPublish : CycleBlind State.talPublish := by
  intro s b
  unfold State.talPublish
  rw [show (s.cycle b).fillHeld = s.fillHeld from rfl, show (s.cycle b).tal.fill = s.tal.fill from rfl]
  split
  · rfl
  · split <;> rfl

theorem cycleBlind_talEarly (cut g : Nat) : CycleBlind fun s => s.talEarly cut g := by
  intro s b
  show (s.cycle b).talEarly cut g = (s.talEarly cut g).cycle b
  unfold State.talEarly
  rw [show (s.cycle b).tal.latched = s.tal.latched from rfl]
  split
  · split
    · exact cycleBlind_talCopy g _ false s b
    · rfl
  · rfl

theorem cycleBlind_talAll : CycleBlind State.talAll :=
  cycleBlind_talPublish.comp (cycleBlind_each (fun g s b => cycleBlind_talCopy g (s.talLive g) true s b) _)

theorem cycleBlind_talAtCut (cut : Nat) : CycleBlind fun s => s.talAtCut cut :=
  cycleBlind_talPublish.comp <| (cycleBlind_talEarly cut 6).comp <| (cycleBlind_talEarly cut 5).comp <| (cycleBlind_talEarly cut 1).comp <|
    CycleBlind.comp (g := fun s => s.talCopy 2 (s.talLive 2) false) (f := fun s => s.talCopy 0 (s.talLive 0) false)
      (fun s b => cycleBlind_talCopy 2 (s.talLive 2) false s b) (fun s b => cycleBlind_talCopy 0 (s.talLive 0) false s b)

theorem cycleBlind_talCut (cut : Nat) (stopped : Bool) : CycleBlind fun s => s.talCut cut stopped := by
  intro s b
  show (s.cycle b).talCut cut stopped = (s.talCut cut stopped).cycle b
  unfold State.talCut
  rw [show (s.cycle b).tal = s.tal from rfl, show (s.cycle b).flag = s.flag from rfl, show (s.cycle b).talTarget = s.talTarget from rfl]
  split
  · rfl
  · next r _ =>
    split
    · rfl
    split
    · split <;> rfl
    split
    · exact cycleBlind_talAll (s.talOpen r cut stopped) b
    · exact cycleBlind_talAtCut cut (s.talOpen r cut stopped) b

theorem cycleBlind_talStoppedCut : CycleBlind State.talStoppedCut := by
  intro s b
  unfold State.talStoppedCut
  rw [show (s.cycle b).run = s.run from rfl]
  split
  · rfl
  · exact cycleBlind_talCut _ true s b

theorem cycleBlind_talTrigger : CycleBlind State.talTrigger := by
  intro s b
  unfold State.talTrigger
  rw [show (s.cycle b).occ = s.occ from rfl, show (s.cycle b).flag = s.flag from rfl, show (s.cycle b).get = s.get from rfl]
  dsimp only
  split
  · rfl
  · exact cycleBlind_talStoppedCut.comp (cycleBlind_each (fun _ => cycleBlind_talRequest 2) _) s b

theorem cycleBlind_learn (g k c : Nat) : CycleBlind fun s => s.learn g k c := by
  intro s b
  show (s.cycle b).learn g k c = (s.learn g k c).cycle b
  unfold State.learn
  rw [show (s.cycle b).mgt = s.mgt from rfl, show (s.cycle b).flag = s.flag from rfl, show (s.cycle b).domOn = s.domOn from rfl]
  split
  · rfl
  · dsimp only
    split
    · split <;> rfl
    · rfl

theorem cycleBlind_evtCount (n k : Nat) : CycleBlind fun s => s.evtCount n k := by
  intro s b
  show (s.cycle b).evtCount n k = (s.evtCount n k).cycle b
  unfold State.evtCount
  split <;> rfl

theorem cycleBlind_setTarget (n : Nat) (t : EvtTarget) : CycleBlind fun s => s.setTarget n t := fun _ _ => rfl

theorem cycleBlind_occur (k c : Nat) : CycleBlind fun s => s.occur k c := by
  intro s b
  show (s.cycle b).occur k c = (s.occur k c).cycle b
  unfold State.occur
  rw [show (s.cycle b).evtMask = s.evtMask from rfl]
  split
  · rfl
  · exact (cycleBlind_evtCount _ _).comp (cycleBlind_setTarget _ _) s b

theorem cycleBlind_report (g : Nat) (o : Occ) : CycleBlind fun s => s.report g o :=
  (cycleBlind_occur o.src o.cls).comp ((cycleBlind_learn g o.src o.cls).comp (f := fun s => s.logAdd (704 + 4 * o.cls) 1) fun _ _ => rfl)

theorem cycleBlind_planOne : CycleBlind State.planOne := by
  intro s b
  unfold State.planOne
  rw [show (s.cycle b).mgt = s.mgt from rfl]
  split <;> rfl

/-- The delivery of a command's events does not look at `sameCycle`. -/
theorem cycleBlind_deliver : CycleBlind State.deliver := by
  intro s b
  unfold State.deliver
  rw [cycleBlind_talTrigger s b]
  exact cycleBlind_planOne.comp (cycleBlind_each (fun o => cycleBlind_report _ o) _) { s.talTrigger with occ := [] } b

theorem cycleBlind_settle : CycleBlind State.settle := cycleBlind_each (fun n s b => cycleBlind_setTarget n (s.target n) s b) _

/-- A command that ends with an effect ends with it whatever the effect says of the cycle of the write (R15). -/
theorem finish_cycle (s u : State) (b : Bool) : finish s (u.cycle b) = finish s u := by
  unfold finish
  rw [cycleBlind_deliver u b, cycleBlind_settle u.deliver b]
  rfl

theorem ends_cycle {c : Instr} {s u : State} (b : Bool) : Ends c s (u.cycle b) ↔ Ends c s u := by
  rw [Ends, Ends, finish_cycle]

end Sys2Proof.Laws
end

section
/-! What a port's bookkeeping does to the registers: its own status registers change (Table 17.11), no other one does. -/

namespace Sys2Proof.Laws

open Sys2Proof Sys2Proof.Machine

/-! ### Registers and fields after the operations that set them -/

theorem reg_put_ne (s : State) {f : FRef} {b : Nat} (v : Nat) (h : b ≠ f.addr) : (s.put f v).reg b = s.reg b := reg_setReg_ne s _ h

theorem reg_putB_ne (s : State) {f : FRef} {b : Nat} (v : Bool) (h : b ≠ f.addr) : (s.putB f v).reg b = s.reg b := reg_setReg_ne s _ h

@[simp] theorem reg_tallyTwin (s : State) (a n b : Nat) : (s.tallyTwin a n).reg b = s.reg b := reg_congr (by simp) b

@[simp] theorem reg_tally (s : State) (o n b : Nat) : (s.tally o n).reg b = s.reg b := reg_congr (by simp) b

theorem reg_count_ne (s : State) {a b : Nat} (n : Nat) (h : b ≠ a) : (s.count a n).reg b = s.reg b := by
  rw [State.count, reg_tallyTwin, reg_setReg_ne s _ h]

theorem reg_count_self (s : State) (a : Nat) : (s.count a).reg a = min 0xFFFFFFFF (s.reg a + 1) := by
  rw [State.count, reg_tallyTwin, reg_setReg_self]
  omega

theorem get_count_ne (s : State) {a : Nat} {f : FRef} (n : Nat) (h : f.addr ≠ a) : (s.count a n).get f = s.get f := by
  rw [State.get, State.get, reg_count_ne s n h]

theorem get_setReg_ne (s : State) {a : Nat} {f : FRef} (v : Nat) (h : f.addr ≠ a) : (s.setReg a v).get f = s.get f := by
  rw [State.get, State.get, reg_setReg_ne s v h]

theorem flag_eq_of_get {s t : State} {f : FRef} (h : t.get f = s.get f) : t.flag f = s.flag f := by rw [State.flag, State.flag, h]

/-! ### The addresses of a port's status registers -/

theorem isPortReg_status (p : Port) : isPortReg (R.HPT_P_STATUS p.num) = true := by cases p <;> rfl
theorem isPortReg_errAddr (p : Port) : isPortReg (R.HPT_P_ERR_ADDR p.num) = true := by cases p <;> rfl
theorem isPortReg_cntBusy (p : Port) : isPortReg (R.HPT_P_CNT_BUSY p.num) = true := by cases p <;> rfl
theorem isPortReg_cntErr (p : Port) : isPortReg (R.HPT_P_CNT_ERR p.num) = true := by cases p <;> rfl

/-- A register outside the ports' status registers is none of them. -/
theorem ne_of_isPortReg {a b : Nat} (ha : isPortReg a = true) (hb : isPortReg b = false) : b ≠ a := by
  rintro rfl
  rw [ha] at hb
  exact Bool.noConfusion hb

/-! ### A register that is no port's -/

section
variable {s : State} {b : Nat} (hb : isPortReg b = false)
include hb

theorem reg_portLast (p : Port) (x : Bool) : (s.portLast p x).reg b = s.reg b :=
  reg_putB_ne _ x (ne_of_isPortReg (isPortReg_status p) hb)

theorem reg_notAccepted (p : Port) : (s.notAccepted p).reg b = s.reg b := reg_put_ne _ _ (ne_of_isPortReg (isPortReg_status p) hb)

theorem reg_portAccept (p : Port) : (s.portAccept p).reg b = s.reg b := by
  rw [State.portAccept, reg_tally, reg_put_ne _ _ (ne_of_isPortReg (isPortReg_status p) hb), reg_portLast hb]

theorem reg_portBusy (p : Port) : (s.portBusy p).reg b = s.reg b := by
  rw [State.portBusy, reg_count_ne _ _ (ne_of_isPortReg (isPortReg_cntBusy p) hb), reg_notAccepted hb,
    reg_put_ne _ _ (ne_of_isPortReg (isPortReg_status p) hb), reg_portLast hb]

theorem reg_portReject (p : Port) (c a : Nat) : (s.portReject p c a).reg b = s.reg b := by
  have front : (((s.portLast p false).put (F.HPT_P_STATUS_ERR_LAST p.num) c).notAccepted p).reg b = s.reg b := by
    rw [reg_notAccepted hb, reg_put_ne _ _ (ne_of_isPortReg (isPortReg_status p) hb), reg_portLast hb]
  unfold State.portReject
  dsimp only
  split
  · exact front
  · rw [reg_count_ne _ _ (ne_of_isPortReg (isPortReg_cntErr p) hb), reg_setReg_ne _ _ (ne_of_isPortReg (isPortReg_errAddr p) hb), front]

theorem reg_portRefused (p : Port) (c a : Nat) : (s.portRefused p c a).reg b = s.reg b := by
  unfold State.portRefused
  rw [reg_count_ne _ _ (ne_of_isPortReg (isPortReg_cntErr p) hb), reg_setReg_ne _ _ (ne_of_isPortReg (isPortReg_errAddr p) hb),
    reg_put_ne _ _ (ne_of_isPortReg (isPortReg_status p) hb)]

theorem reg_accepted (ag : Agent) : (accepted s ag).reg b = s.reg b := by
  unfold accepted
  split
  · rfl
  · exact reg_portAccept (s := begun s) hb _

end

/-! ### What the status registers show -/

/-- A counter of a port is another register than its status word, and than the address of its last error. -/
theorem portRegs_ne (p : Port) : R.HPT_P_CNT_ERR p.num ≠ R.HPT_P_STATUS p.num ∧ R.HPT_P_CNT_BUSY p.num ≠ R.HPT_P_STATUS p.num
    ∧ R.HPT_P_ERR_ADDR p.num ≠ R.HPT_P_STATUS p.num ∧ R.HPT_P_CNT_ERR p.num ≠ R.HPT_P_ERR_ADDR p.num := by
  cases p <;> decide

section
variable (s : State) (p : Port)

theorem get_notAccepted_other {f : FRef} (h : f.lo ≤ f.hi) (hh : f.hi < 32) (hd : 23 < f.lo ∨ f.hi < 16) :
    (s.notAccepted p).get f = s.get f := get_put_disjoint _ _ _ _ (by simp [F.HPT_P_STATUS_NOT_ACCEPTED]) h hh hd

theorem get_notAccepted_self : (s.notAccepted p).get (F.HPT_P_STATUS_NOT_ACCEPTED p.num) =
    min 255 (s.get (F.HPT_P_STATUS_NOT_ACCEPTED p.num) + 1) := by
  rw [State.notAccepted, get_put_self _ _ _ (by simp [F.HPT_P_STATUS_NOT_ACCEPTED]) (by simp [F.HPT_P_STATUS_NOT_ACCEPTED])]
  simp [F.HPT_P_STATUS_NOT_ACCEPTED]

theorem reg_notAccepted_ne {b : Nat} (h : b ≠ R.HPT_P_STATUS p.num) : (s.notAccepted p).reg b = s.reg b := reg_put_ne _ _ h

theorem flag_portLast (x : Bool) : (s.portLast p x).flag (F.HPT_P_STATUS_BUSY_LAST p.num) = x :=
  flag_putB_self _ _ _ (by simp [F.HPT_P_STATUS_BUSY_LAST]) (by simp [F.HPT_P_STATUS_BUSY_LAST])

theorem get_portLast_other (x : Bool) {f : FRef} (h : f.lo ≤ f.hi) (hd : f.hi < 31) : (s.portLast p x).get f = s.get f :=
  get_put_disjoint _ _ _ _ (by simp [F.HPT_P_STATUS_BUSY_LAST]) h (by omega) (.inr hd)

theorem reg_portLast_ne (x : Bool) {b : Nat} (h : b ≠ R.HPT_P_STATUS p.num) : (s.portLast p x).reg b = s.reg b := reg_putB_ne _ _ h

/-- The three fields of the status word after a transaction that was not accepted: `BUSY_LAST`, `ERR_LAST` and `NOT_ACCEPTED`. -/
theorem status_notAccepted (x : Bool) {c : Nat} (h8 : c < 8) :
    let t := ((s.portLast p x).put (F.HPT_P_STATUS_ERR_LAST p.num) c).notAccepted p
    t.flag (F.HPT_P_STATUS_BUSY_LAST p.num) = x ∧ t.get (F.HPT_P_STATUS_ERR_LAST p.num) = c
    ∧ t.get (F.HPT_P_STATUS_NOT_ACCEPTED p.num) = min 255 (s.get (F.HPT_P_STATUS_NOT_ACCEPTED p.num) + 1)
    ∧ ∀ b, b ≠ R.HPT_P_STATUS p.num → t.reg b = s.reg b := by
  have err {f : FRef} (h : f.lo ≤ f.hi) (hh : f.hi < 32) (hd : 30 < f.lo ∨ f.hi < 28) :
      ((s.portLast p x).put (F.HPT_P_STATUS_ERR_LAST p.num) c).get f = (s.portLast p x).get f :=
    get_put_disjoint _ _ _ _ (by simp [F.HPT_P_STATUS_ERR_LAST]) h hh hd
  refine ⟨?_, ?_, ?_, fun b hb => ?_⟩
  · refine (flag_eq_of_get ?_).trans (flag_portLast s p x)
    rw [get_notAccepted_other _ _ (by simp [F.HPT_P_STATUS_BUSY_LAST]) (by simp [F.HPT_P_STATUS_BUSY_LAST]) (by simp [F.HPT_P_STATUS_BUSY_LAST]),
      err (by simp [F.HPT_P_STATUS_BUSY_LAST]) (by simp [F.HPT_P_STATUS_BUSY_LAST]) (by simp [F.HPT_P_STATUS_BUSY_LAST])]
  · rw [get_notAccepted_other _ _ (by simp [F.HPT_P_STATUS_ERR_LAST]) (by simp [F.HPT_P_STATUS_ERR_LAST]) (by simp [F.HPT_P_STATUS_ERR_LAST]),
      get_put_self _ _ _ (by simp [F.HPT_P_STATUS_ERR_LAST]) (by simp [F.HPT_P_STATUS_ERR_LAST])]
    exact Nat.mod_eq_of_lt h8
  · rw [get_notAccepted_self, err (by simp [F.HPT_P_STATUS_NOT_ACCEPTED]) (by simp [F.HPT_P_STATUS_NOT_ACCEPTED])
        (by simp [F.HPT_P_STATUS_NOT_ACCEPTED]),
      get_portLast_other _ _ _ (by simp [F.HPT_P_STATUS_NOT_ACCEPTED]) (by simp [F.HPT_P_STATUS_NOT_ACCEPTED])]
  · rw [reg_notAccepted_ne _ _ hb, reg_put_ne _ _ hb, reg_portLast_ne _ _ _ hb]

/-- A transaction that ends with an error and is not accepted shows it (R372, Table 17.3). -/
theorem showsRefusal_portReject {c : Nat} (a : Nat) (h0 : c ≠ 0) (h8 : c < 8) :
    ShowsRefusal s (s.portReject p c a) p.num c ∧ (s.portReject p c a).reg (R.HPT_P_ERR_ADDR p.num) = a % 2 ^ 32 := by
  obtain ⟨hb, he, hn, hr⟩ := status_notAccepted s p false h8
  obtain ⟨cs, -, es, ce⟩ := portRegs_ne p
  unfold ShowsRefusal State.portReject
  dsimp only
  rw [if_neg h0]
  generalize ((s.portLast p false).put (F.HPT_P_STATUS_ERR_LAST p.num) c).notAccepted p = t at *
  have field {f : FRef} (h : f.addr = R.HPT_P_STATUS p.num) :
      ((t.setReg (R.HPT_P_ERR_ADDR p.num) a).count (R.HPT_P_CNT_ERR p.num)).get f = t.get f := by
    rw [get_count_ne _ _ (by rw [h]; exact cs.symm), get_setReg_ne _ _ (by rw [h]; exact es.symm)]
  refine ⟨⟨(field rfl).trans he, (flag_eq_of_get (field rfl)).trans hb, (field rfl).trans hn, ?_⟩, ?_⟩
  · rw [reg_count_self, reg_setReg_ne _ _ ce, hr _ cs]
  · rw [reg_count_ne _ _ ce.symm, reg_setReg_self]

/-- A transaction that meets BUSY shows it (R375, R378, Table 17.11). -/
theorem showsBusy_portBusy : ShowsBusy s (s.portBusy p) p.num := by
  obtain ⟨hb, he, hn, hr⟩ := status_notAccepted s p true (c := 0) (by omega)
  obtain ⟨-, bs, -, -⟩ := portRegs_ne p
  unfold ShowsBusy State.portBusy
  generalize ((s.portLast p true).put (F.HPT_P_STATUS_ERR_LAST p.num) 0).notAccepted p = t at *
  have field {f : FRef} (h : f.addr = R.HPT_P_STATUS p.num) : (t.count (R.HPT_P_CNT_BUSY p.num)).get f = t.get f :=
    get_count_ne _ _ (by rw [h]; exact bs.symm)
  exact ⟨(flag_eq_of_get (field rfl)).trans hb, (field rfl).trans he, (field rfl).trans hn, by rw [reg_count_self, hr _ bs]⟩

end

/-- What the status registers show of a transaction is counted from the port's registers before it. -/
theorem showsRefusal_of_portRegs {s t u : State} {p : Port} {c : Nat} (h : ∀ b, isPortReg b = true → t.reg b = s.reg b)
    (k : ShowsRefusal t u p.num c) : ShowsRefusal s u p.num c := by
  obtain ⟨he, hb, hn, hc⟩ := k
  refine ⟨he, hb, ?_, ?_⟩
  · rw [hn, State.get, State.get, show (F.HPT_P_STATUS_NOT_ACCEPTED p.num).addr = R.HPT_P_STATUS p.num from rfl, h _ (isPortReg_status p)]
  · rw [hc, h _ (isPortReg_cntErr p)]

theorem showsBusy_of_portRegs {s t u : State} {p : Port} (h : ∀ b, isPortReg b = true → t.reg b = s.reg b)
    (k : ShowsBusy t u p.num) : ShowsBusy s u p.num := by
  obtain ⟨hb, he, hn, hc⟩ := k
  refine ⟨hb, he, ?_, ?_⟩
  · rw [hn, State.get, State.get, show (F.HPT_P_STATUS_NOT_ACCEPTED p.num).addr = R.HPT_P_STATUS p.num from rfl, h _ (isPortReg_status p)]
  · rw [hc, h _ (isPortReg_cntBusy p)]

end Sys2Proof.Laws
end

section
/-! A write transaction (R368, R371, R372): how it falls into words, which of them are let through, and what the port's status word
shows of a word that its register's own rule refuses. -/

namespace Sys2Proof.Laws

open Sys2Proof Sys2Proof.Machine

/-! ### The accepted state -/

@[simp] theorem accepted_out (s : State) (ag : Agent) : (accepted s ag).out = [] := by unfold accepted; split <;> simp [begun]
@[simp] theorem accepted_sameCycle (s : State) (ag : Agent) : (accepted s ag).sameCycle = false := by unfold accepted; split <;> simp [begun]
@[simp] theorem accepted_shadow (s : State) (ag : Agent) : (accepted s ag).shadow = s.shadow := by unfold accepted; split <;> simp [begun]
@[simp] theorem accepted_tbl (s : State) (ag : Agent) : (accepted s ag).tbl = s.tbl := by unfold accepted; split <;> simp [begun]
@[simp] theorem accepted_tblShadow (s : State) (ag : Agent) : (accepted s ag).tblShadow = s.tblShadow := by
  unfold accepted; split <;> simp [begun]
@[simp] theorem accepted_evt (s : State) (ag : Agent) : (accepted s ag).evt = s.evt := by unfold accepted; split <;> simp [begun]
@[simp] theorem accepted_fst (s : State) (ag : Agent) : (accepted s ag).fst = s.fst := by unfold accepted; split <;> simp [begun]

/-- An accepted write with the cycle of its flags put back is the accepted write (R15). -/
theorem accepted_cycle_cycle (s : State) (ag : Agent) (b : Bool) : ((accepted s ag).cycle b).cycle false = accepted s ag := by
  show { accepted s ag with sameCycle := false } = accepted s ag
  conv_rhs => rw [← show { accepted s ag with sameCycle := (accepted s ag).sameCycle } = accepted s ag from rfl, accepted_sameCycle]

/-! ### Units of repeated registers -/

theorem unitAt_outside {base n stride a : Nat} (hs : 0 < stride) (h : a < base ∨ base + n * stride ≤ a) : unitAt base n stride a = none := by
  unfold unitAt
  rw [if_neg]
  rintro ⟨hb, -, hn⟩
  rcases h with h | h
  · omega
  · rw [Nat.div_lt_iff_lt_mul hs] at hn
    omega

theorem unitAt_self {base n stride : Nat} {i : Nat} (hs : 0 < stride) (hi : i < n) : unitAt base n stride (base + stride * i) = some i := by
  unfold unitAt
  rw [if_pos]
  · simp [Nat.mul_div_cancel_left i hs]
  · exact ⟨by omega, by simp, by simpa [Nat.mul_div_cancel_left i hs] using hi⟩

/-! ### The bytes of a word -/

theorem leNat_leBytes_four (v : Nat) : leNat (leBytes 4 v) = v % 2 ^ 32 := by
  simp only [leBytes, leNat, List.foldr, BitVec.toNat_ofNat]
  omega

theorem length_leBytes (n v : Nat) : (leBytes n v).length = n := by
  induction n generalizing v with
  | zero => rfl
  | succ n ih => simp [leBytes, ih]

/-! ### The words of a transaction -/

theorem splitWords_nil (fuel a : Nat) : splitWords fuel a [] = [] := by cases fuel <;> rfl

/-- Bytes that reach no further than the end of their word are one part. -/
theorem splitWords_one (fuel : Nat) {a : Nat} {bs : List Byte} (h : bs ≠ []) (hl : bs.length ≤ 4 - a % 4) :
    splitWords (fuel + 1) a bs = [⟨a / 4 * 4, a % 4, bs⟩] := by
  have he : bs.isEmpty = false := by simpa using h
  simp [splitWords, he, List.take_of_length_le hl, List.drop_eq_nil_of_le hl, splitWords_nil]

/-- The first word of an aligned transaction. -/
theorem splitWords_cons (fuel : Nat) {a : Nat} {w bs : List Byte} (ha : a % 4 = 0) (hw : w.length = 4) :
    splitWords (fuel + 1) a (w ++ bs) = ⟨a, 0, w⟩ :: splitWords fuel (a + 4) bs := by
  have he : (w ++ bs).isEmpty = false := by cases w <;> simp_all
  have h4 : a / 4 * 4 = a := by omega
  simp only [splitWords, he, Bool.false_eq_true, if_false, ha, Nat.sub_zero, h4]
  rw [List.take_append_of_le_length hw.ge, List.take_of_length_le hw.le, ← hw, List.drop_left]

theorem splitWords_word (fuel : Nat) {a : Nat} (v : Nat) (ha : a % 4 = 0) :
    splitWords (fuel + 1) a (leBytes 4 v) = [⟨a, 0, leBytes 4 v⟩] := by
  simpa [splitWords_nil] using splitWords_cons fuel (bs := []) ha (length_leBytes 4 v)

/-! ### What a transaction does -/

/-- A transaction outside the folds whose form is right goes on to its words. -/
theorem writeTx_words {s : State} {ag : Agent} {a : Nat} {bs : List Byte} (held : ∀ p, agentPort ag = some p → s.portHeld p = false)
    (out : inFolds a = false) (len : bs.length ≤ 256) (start : startOk a = true) (fin : a + bs.length ≤ regionEnd a) :
    s.writeTx ag a bs = s.writeParts ag (splitWords 66 a bs) := by
  have form : ¬(256 < bs.length ∨ !startOk a ∨ regionEnd a < a + bs.length) := by simp [start]; omega
  unfold State.writeTx
  cases hp : agentPort ag with
  | none => simp only [out, form, if_false, Bool.false_eq_true]
  | some p => simp only [held p hp, out, form, if_false, Bool.false_eq_true]

/-- The first word that is refused rejects the transaction. -/
theorem writeParts_rejected {s : State} {p : Port} {ws : List WordPart} {w : WordPart}
    (h : ws.find? (fun w => s.partCode (.host p) w != 0) = some w) :
    s.writeParts (.host p) ws = (s.refusal (s.partCode (.host p) w)).portReject p (s.partCode (.host p) w) w.addr := by
  unfold State.writeParts
  rw [h]
  rfl

/-- The state in which the words of a transaction that is let through begin: the port's status word shows it (R376). -/
def taken (ag : Agent) (s : State) : State :=
  match agentPort ag with
  | none => s
  | some p => s.portAccept p

theorem cycleBlind_put (f : FRef) (v : Nat) : CycleBlind fun s => s.put f v := fun _ _ => rfl

theorem cycleBlind_portLast (p : Port) (x : Bool) : CycleBlind fun s => s.portLast p x :=
  (cycleBlind_put (F.HPT_P_STATUS_BUSY_LAST p.num) (bit x)).comp
    (f := fun s => { s with hpt := mupd ({} : HptPort) s.hpt p.num fun h => { h with heldLast := false, busy := x } }) fun _ _ => rfl

theorem cycleBlind_portAccept (p : Port) : CycleBlind fun s => s.portAccept p :=
  CycleBlind.comp (g := fun s => s.tally (0x6600 + 0x40 * p.num + 16) 1) (fun _ _ => rfl)
    ((cycleBlind_put (F.HPT_P_STATUS_ERR_LAST p.num) 0).comp (cycleBlind_portLast p false))

theorem taken_begun (s : State) (ag : Agent) (b : Bool) : taken ag ((begun s).cycle b) = (accepted s ag).cycle b := by
  unfold taken accepted
  cases agentPort ag with
  | none => rfl
  | some p => exact cycleBlind_portAccept p (begun s) b

/-- The words of a transaction that are all let through, and of which none has a verdict of its own, take effect; the port's status word
shows the word refused last. -/
theorem writeParts_applied {s t : State} {ag : Agent} {ws : List WordPart} {c a : Nat}
    (code : ws.find? (fun w => s.partCode ag w != 0) = none) (h : State.applyParts ag ws (taken ag s) (0, 0) = .ok (t, c, a)) :
    s.writeParts ag ws = match agentPort ag with | none => t | some p => if c = 0 then t else t.portRefused p c a := by
  unfold taken at h
  unfold State.writeParts
  rw [code]
  cases hp : agentPort ag with
  | none => simp only [hp] at h ⊢; simp only [h]; split <;> rfl
  | some p => simp only [hp] at h ⊢; simp only [h]

theorem applyParts_cons {s : State} {ag : Agent} {w : WordPart} (ws : List WordPart) (r : Nat × Nat) (verdict : s.verdict w = 0) :
    State.applyParts ag (w :: ws) s r = State.applyParts ag ws (s.applyPart ag w)
      (if newRefusal s (s.applyPart ag w) = 0 ∨ w.addr = R.DEV_COMMIT then r else (newRefusal s (s.applyPart ag w), w.addr)) := by
  simp [State.applyParts, verdict]

/-- What a word whose effect led from s to t leaves: where its own rule has refused it, the port's status word shows that (R372). -/
def shown (ag : Agent) (a : Nat) (s t : State) : State :=
  match agentPort ag with
  | none => t
  | some p => if newRefusal s t = 0 ∨ a = R.DEV_COMMIT then t else t.portRefused p (newRefusal s t) a

theorem shown_quiet {ag : Agent} {a : Nat} {s t : State} (h : t.occ = s.occ) : shown ag a s t = t := by
  unfold shown
  rw [newRefusal_same h]
  split <;> simp

/-- A word that its register's own rule refuses: event 49, and nothing changes but the port's status registers (R18, R372). -/
theorem shown_refuseWord (ag : Agent) (a : Nat) (s : State) :
    let t := shown ag a s s.refuseWord
    t.occ = s.occ ++ [⟨49, 0⟩] ∧ t.shadow = s.shadow ∧ ∀ b, isPortReg b = false → t.reg b = s.reg b := by
  have plain : s.refuseWord.occ = s.occ ++ [⟨49, 0⟩] := rfl
  unfold shown
  split
  · exact ⟨plain, rfl, fun _ _ => rfl⟩
  · split
    · exact ⟨plain, rfl, fun _ _ => rfl⟩
    · exact ⟨by simp [plain], by simp, fun b hb => reg_portRefused (s := s.refuseWord) hb _ _ _⟩

/-- A write of one register by a command of its own that is let through has its effect on the accepted state. -/
theorem asWrite_shown {s : State} {ag : Agent} {a : Nat} (b : Bool) (h : CanWrite s ag a) (eff : State → State) :
    ((begun s).cycle b).asWrite ag a eff = shown ag a ((accepted s ag).cycle b) (eff ((accepted s ag).cycle b)) := by
  obtain ⟨permitted, held⟩ := h
  rw [State.asWrite, show ((begun s).cycle b).permits ag a = 0 from permitted, ← taken_begun]
  unfold shown taken
  cases hp : agentPort ag with
  | none => rfl
  | some p => simp [show ((begun s).cycle b).portHeld p = false from held p hp]

/-- A single word that is let through and has no verdict of its own has its effect on the accepted state. -/
theorem writeParts_one {s : State} {ag : Agent} {w : WordPart} (code : s.partCode ag w = 0) (verdict : (taken ag s).verdict w = 0) :
    s.writeParts ag [w] = shown ag w.addr (taken ag s) ((taken ag s).applyPart ag w) := by
  rw [writeParts_applied (by simp [code]) ((applyParts_cons [] (0, 0) verdict).trans (by rw [State.applyParts]))]
  unfold shown
  split
  · rfl
  · split <;> simp_all

/-- A word outside the mailboxes and the slots' command registers has no verdict of its own (R250, R352). -/
theorem verdict_eq_zero {w : WordPart} (s : State) (h16 : w.addr / 0x4000 ≠ 16) (h10 : w.addr / 0x4000 ≠ 10) : s.verdict w = 0 := by
  unfold State.verdict
  rw [unitAt_outside (by omega) (by simp [R.MGT_MB_CMD]; omega), unitAt_outside (by omega) (by simp [R.SRF_RS_CMD]; omega)]

theorem tableUnit_cases (a : Nat) : tableUnit a = 1 ∨ tableUnit a = 2 ∨ tableUnit a = 4 := by
  unfold tableUnit
  grind

/-- Every aligned word can start a transaction. -/
theorem startOk_of_aligned {a : Nat} (h4 : a % 4 = 0) : startOk a = true := by
  unfold startOk
  split
  · rcases tableUnit_cases a with h | h | h <;> rw [h] <;> simp <;> omega
  · simpa using h4

theorem inFolds_low {a : Nat} (hlt : a < 0x40000000) : inFolds a = false := by simp [inFolds]; omega

theorem regionEnd_register {a : Nat} (hlt : a < 0x60000) : regionEnd a = 0x100000 := by rw [regionEnd, if_pos (by omega)]

/-- A whole word of a register meets ownership only (R371, R379). -/
theorem partCode_word {s : State} {ag : Agent} {w : WordPart} (hlt : w.addr < 0x60000) (off : w.off = 0) (len : w.bytes.length = 4) :
    s.partCode ag w = s.permits ag w.addr := by
  simp [State.partCode, hlt, off, len]

/-- A write of a register that is let through has the effect of its register's rule on the accepted state. -/
theorem writeWord_shown {s : State} {ag : Agent} {a v : Nat} (b : Bool) (h : CanWrite s ag a) (h4 : a % 4 = 0) (hlt : a < 0x60000)
    (hv : v < 2 ^ 32) (h16 : a / 0x4000 ≠ 16) (h10 : a / 0x4000 ≠ 10) :
    ((begun s).cycle b).writeWord ag a v =
      shown ag a ((accepted s ag).cycle b) (((accepted s ag).cycle b).applyWord ag a v) := by
  obtain ⟨permitted, held⟩ := h
  have code : ((begun s).cycle b).partCode ag ⟨a, 0, leBytes 4 v⟩ = 0 :=
    (partCode_word hlt rfl (length_leBytes 4 v)).trans permitted
  have len := length_leBytes 4 v
  rw [State.writeWord, writeTx_words (s := (begun s).cycle b) held (inFolds_low (by omega)) (by omega) (startOk_of_aligned h4)
    (by rw [regionEnd_register hlt, len]; omega), splitWords_word _ _ h4, writeParts_one code (verdict_eq_zero _ h16 h10), taken_begun]
  rw [State.applyPart, if_pos hlt, leNat_leBytes_four, Nat.mod_eq_of_lt hv]

end Sys2Proof.Laws
end

section
/-! Writes of a source's configuration (R395, R399, R400): the register, then the route, the mask and `PEND`, each in a step of its own. -/

namespace Sys2Proof.Laws

open Sys2Proof Sys2Proof.Machine

/-- The old route of a source is kept for the window of R395. -/
def noteRoute (src old v : Nat) (s : State) : State :=
  if old ≠ v % 4 then { s with evt := { s.evt with routeWas := mput s.evt.routeWas src (old, s.now) } } else s

/-- The mask of a source goes from `was` to `now` (R399, R400). -/
def noteMask (src : Nat) (was now : Bool) (s : State) : State :=
  if now && !was then s.markMasked src
  else if was && !now then { s with evt := { s.evt with maskedAt := merase s.evt.maskedAt src } }
  else s

/-- `PEND` of a source goes where the write clears it and no occurrence sets it in the same cycle (R15, R400). -/
def clearPend (src v : Nat) (s : State) : State :=
  if bitAt v 31 && !s.sameCycle then { s with evt := { s.evt with pend := merase s.evt.pend src } } else s

theorem srcConfig_eq (s : State) (src v : Nat) :
    s.srcConfig src v = clearPend src v (noteMask src (s.flag (F.EVT_SRC_CFG_MASK src)) (bitAt v 2)
      (noteRoute src (s.get (F.EVT_SRC_CFG_ROUTE src)) v (s.setReg (R.EVT_SRC_CFG src) (v % 16)))) := rfl

/-- Two states that differ at most in the event unit. -/
def EvtOnly (s t : State) : Prop := t = { s with evt := t.evt }

theorem EvtOnly.trans {s t u : State} (h : EvtOnly s t) (k : EvtOnly t u) : EvtOnly s u := by
  unfold EvtOnly at *
  rw [k, h]

section
variable (src old v : Nat) (was now : Bool) (s : State)

theorem evtOnly_noteRoute : EvtOnly s (noteRoute src old v s) := by unfold noteRoute; split <;> rfl

theorem evtOnly_noteMask : EvtOnly s (noteMask src was now s) := by
  unfold noteMask
  split
  · rfl
  · split <;> rfl

theorem evtOnly_clearPend : EvtOnly s (clearPend src v s) := by unfold clearPend; split <;> rfl

/-- A write of a source's configuration changes its register and the event unit, and nothing else. -/
theorem evtOnly_srcConfig : EvtOnly (s.setReg (R.EVT_SRC_CFG src) (v % 16)) (s.srcConfig src v) :=
  (evtOnly_noteRoute _ _ _ _).trans ((evtOnly_noteMask _ _ _ _).trans (evtOnly_clearPend _ _ _))

theorem srcConfig_reg : (s.srcConfig src v).reg (R.EVT_SRC_CFG src) = v % 16 := by
  rw [evtOnly_srcConfig src v s]
  show (s.setReg (R.EVT_SRC_CFG src) (v % 16)).reg _ = _
  rw [reg_setReg_self]
  omega

theorem srcConfig_occ : (s.srcConfig src v).occ = s.occ := by rw [evtOnly_srcConfig src v s]; rfl

@[simp] theorem noteRoute_pend : (noteRoute src old v s).evt.pend = s.evt.pend := by unfold noteRoute; split <;> rfl
@[simp] theorem noteRoute_targets : (noteRoute src old v s).evt.targets = s.evt.targets := by unfold noteRoute; split <;> rfl
@[simp] theorem clearPend_targets : (clearPend src v s).evt.targets = s.evt.targets := by unfold clearPend; split <;> rfl

@[simp] theorem noteMask_pend : (noteMask src was now s).evt.pend = s.evt.pend := by
  unfold noteMask
  split
  · rfl
  · split <;> rfl

theorem noteMask_targets (h : was = true ∨ now = false) : (noteMask src was now s).evt.targets = s.evt.targets := by
  unfold noteMask
  rw [if_neg (by rcases h with rfl | rfl <;> simp)]
  split <;> rfl

/-- The targets stay unless the write sets a mask that was clear. -/
theorem srcConfig_targets (h : s.flag (F.EVT_SRC_CFG_MASK src) = true ∨ bitAt v 2 = false) :
    (s.srcConfig src v).evt.targets = s.evt.targets := by
  rw [srcConfig_eq, clearPend_targets, noteMask_targets _ _ _ _ h, noteRoute_targets]
  rfl

theorem srcConfig_pend : (s.srcConfig src v).evt.pend = if bitAt v 31 && !s.sameCycle then merase s.evt.pend src else s.evt.pend := by
  rw [srcConfig_eq, clearPend]
  have cyc : (noteMask src (s.flag (F.EVT_SRC_CFG_MASK src)) (bitAt v 2)
      (noteRoute src (s.get (F.EVT_SRC_CFG_ROUTE src)) v (s.setReg (R.EVT_SRC_CFG src) (v % 16)))).sameCycle = s.sameCycle := by
    rw [(evtOnly_noteRoute _ _ _ _).trans (evtOnly_noteMask _ _ _ _)]; rfl
  rw [cyc]
  split <;> simp

/-- `PEND` stays where the write does not clear it, or an occurrence sets it in the cycle of the write. -/
theorem srcConfig_pend_kept (h : bitAt v 31 = false ∨ s.sameCycle = true) : (s.srcConfig src v).evt.pend = s.evt.pend := by
  rw [srcConfig_pend, if_neg (by rcases h with h | h <;> simp [h])]

omit s in
theorem mfind_map {α β : Type} (f : α → β) (m : SMap α) (a : Nat) : mfind (m.map fun e => (e.1, f e.2)) a = (mfind m a).map f := by
  induction m with
  | nil => rfl
  | cons e m ih =>
    simp only [List.map_cons, mfind, ih]
    split <;> rfl

/-- A target with the records and held counts of a source marked (R399). -/
def maskTarget (t : EvtTarget) : EvtTarget :=
  { t with queue := t.queue.map fun r => if r.src = src then { r with masked := true } else r, held := evtMergeHeld t.held src }

omit s in
theorem maskTarget_marked {t : EvtTarget} {r : EvtRecord} (h : r ∈ (maskTarget src t).queue) (hs : r.src = src) : r.masked = true := by
  obtain ⟨q, -, rfl⟩ := List.mem_map.1 h
  by_cases hq : q.src = src
  · simp [hq]
  · simp [hq] at hs

theorem markMasked_target (n : Nat) : (s.markMasked src).target n = ((mfind s.evt.targets n).map (maskTarget src)).getD {} := by
  rw [← mfind_map]
  rfl

/-- A mask that goes from 0 to 1 marks the records of its source in every queue (R399). -/
theorem srcConfig_marked (h : s.flag (F.EVT_SRC_CFG_MASK src) = false) (h2 : bitAt v 2 = true) (n : Nat) (r : EvtRecord)
    (hr : r ∈ ((s.srcConfig src v).target n).queue) (hs : r.src = src) : r.masked = true := by
  rw [State.target, srcConfig_eq, clearPend_targets, noteMask, h, h2, if_pos (by rfl)] at hr
  change r ∈ ((State.markMasked _ src).target n).queue at hr
  rw [markMasked_target] at hr
  rw [noteRoute_targets, State.setReg_evt] at hr
  cases hm : mfind s.evt.targets n with
  | none => simp [hm] at hr
  | some t => exact maskTarget_marked src (by simpa [hm] using hr) hs

end

/-! ### The words of a source's configuration -/

/-- The fields of a configuration word below 16 after one of them has been written. -/
theorem cfgWord_fields : ∀ w : Fin 16,
    (bits (setBit w 2 true % 16) 1 0 = bits w 1 0 ∧ bits (setBit w 2 true % 16) 3 3 = bits w 3 3 ∧ bits (setBit w 2 true % 16) 2 2 = 1
      ∧ bitAt (setBit w 2 true) 31 = false ∧ bitAt (setBit w 2 true) 2 = true)
    ∧ (bits (setBit w 2 false % 16) 1 0 = bits w 1 0 ∧ bits (setBit w 2 false % 16) 2 2 = 0
      ∧ bitAt (setBit w 2 false) 31 = false ∧ bitAt (setBit w 2 false) 2 = false)
    ∧ (setBit w 31 true % 16 = w ∧ bitAt (setBit w 31 true) 31 = true ∧ bitAt (setBit w 31 true) 2 = bitAt w 2)
    ∧ (bits w 2 2 != 0) = bitAt w 2 := by
  decide +kernel

theorem cfgWord_route : ∀ (w : Fin 16) (r : Fin 4),
    bits (putBits w 1 0 r % 16) 1 0 = r ∧ bits (putBits w 1 0 r % 16) 2 2 = bits w 2 2
    ∧ bitAt (putBits w 1 0 r) 31 = false ∧ bitAt (putBits w 1 0 r) 2 = bitAt w 2 := by
  decide +kernel

/-! ### The commands -/

theorem srcWrite_eq {s : State} {ag : Agent} {src : Nat} (b : Bool) (v : Nat) (h : CanWrite s ag (R.EVT_SRC_CFG src)) :
    ((begun s).cycle b).srcWrite ag src v = ((accepted s ag).cycle b).srcConfig src v := by
  rw [State.srcWrite, asWrite_shown b h, shown_quiet (srcConfig_occ src v _)]

theorem applyWord_srcConfig (s : State) (ag : Agent) {src : Nat} (v : Nat) (h : src < 512) :
    s.applyWord ag (R.EVT_SRC_CFG src) v = s.srcConfig src v := by
  have e : R.EVT_SRC_CFG src / 0x4000 = 19 := by simp only [R.EVT_SRC_CFG]; omega
  have u : unitAt (R.EVT_SRC_CFG 0) 512 4 (R.EVT_SRC_CFG src) = some src := unitAt_self (by omega) h
  simp only [State.applyWord, e, u]

theorem isPortReg_srcConfig {src : Nat} (h : src < 512) : isPortReg (R.EVT_SRC_CFG src) = false := by
  unfold isPortReg R.EVT_SRC_CFG
  exact Bool.and_eq_false_iff.2 (.inr (decide_eq_false (by omega)))

section
variable {s : State} {ag : Agent} {src : Nat} (can : CanWrite s ag (R.EVT_SRC_CFG src)) (hsrc : src < 512)

include can in
/-- A command that writes a source's configuration ends with the write's effect on the accepted state. -/
theorem ends_srcConfig {c : Instr} (b : Bool) (v : Nat) (h : Ends c s (((begun s).cycle b).srcWrite ag src v)) :
    Ends c s (((accepted s ag).cycle b).srcConfig src v) := by
  rwa [srcWrite_eq b v can] at h

/-- A field of the register after such a write. -/
theorem get_srcConfig (s : State) (v : Nat) {f : FRef} (hf : f.addr = R.EVT_SRC_CFG src) :
    (s.srcConfig src v).get f = bits (v % 16) f.hi f.lo := by rw [State.get, hf, srcConfig_reg]

include hsrc in
theorem get_srcConfig_before (b : Bool) {f : FRef} (hf : f.addr = R.EVT_SRC_CFG src) : ((accepted s ag).cycle b).get f = s.get f := by
  rw [State.get, State.get, hf]
  exact congrArg (bits · f.hi f.lo) (reg_accepted (isPortReg_srcConfig hsrc) ag)

theorem occ_srcConfig (b : Bool) (v : Nat) : (((accepted s ag).cycle b).srcConfig src v).occ = [] := by simp [srcConfig_occ]

theorem pend_srcConfig (v : Nat) (b : Bool) (h : bitAt v 31 = false ∨ b = true) :
    (((accepted s ag).cycle b).srcConfig src v).evt.pend = s.evt.pend := by
  rw [srcConfig_pend_kept _ _ _ h, State.cycle_evt, accepted_evt]

theorem pend_srcConfig_cleared (v : Nat) (h : bitAt v 31 = true) :
    mget false (((accepted s ag).cycle false).srcConfig src v).evt.pend src = false := by
  rw [srcConfig_pend, h, if_pos (by simp [State.cycle]), mget, mfind_merase_self]
  rfl

include hsrc in
theorem targets_srcConfig (v : Nat) (b : Bool) (h : s.flag (F.EVT_SRC_CFG_MASK src) = true ∨ bitAt v 2 = false) :
    (((accepted s ag).cycle b).srcConfig src v).evt.targets = s.evt.targets := by
  rw [srcConfig_targets _ _ _ (by rwa [flag_eq_of_get (get_srcConfig_before hsrc b rfl)]), State.cycle_evt, accepted_evt]

include can hsrc in
/-- REGISTER_WRITE of a source's configuration has the same effect. -/
theorem ends_registerWrite_srcConfig (v : Word) (b : Bool) :
    Ends (.registerWrite ag (BitVec.ofNat 32 (R.EVT_SRC_CFG src)) ⟨v, b⟩) s (((accepted s ag).cycle b).srcConfig src v.toNat) := by
  have place : R.EVT_SRC_CFG src % 4 = 0 ∧ R.EVT_SRC_CFG src < 0x60000 ∧ R.EVT_SRC_CFG src / 0x4000 = 19 := by
    simp only [R.EVT_SRC_CFG]; omega
  obtain ⟨h4, hlt, h19⟩ := place
  have addr : (BitVec.ofNat 32 (R.EVT_SRC_CFG src)).toNat = R.EVT_SRC_CFG src := by
    rw [BitVec.toNat_ofNat]; omega
  have e := ends_registerWrite ag (BitVec.ofNat 32 (R.EVT_SRC_CFG src)) ⟨v, b⟩ s rfl
  dsimp only at e
  rwa [addr, writeWord_shown b can h4 hlt v.isLt (by omega) (by omega), applyWord_srcConfig _ _ _ hsrc,
    shown_quiet (srcConfig_occ _ _ _)] at e

end

/-- Settles O25: the effect of each command is `srcConfig` on the accepted state, whose source registers are those before. -/
theorem eventSources : Obligations.EventSources := by
  intro s ag src route hsrc hroute can small
  obtain ⟨⟨setRoute, setUrgent, setMask, set31, set2⟩, ⟨clrRoute, clrMask, clr31, clr2⟩, ⟨pendWord, pend31, pend2⟩, mask⟩ :=
    cfgWord_fields ⟨_, small⟩
  obtain ⟨newRoute, routeMask, route31, route2⟩ := cfgWord_route ⟨_, small⟩ ⟨route, hroute⟩
  dsimp only at *
  have stays (v : Nat) (h : bitAt v 2 = bitAt (s.reg (R.EVT_SRC_CFG src)) 2) :
      s.flag (F.EVT_SRC_CFG_MASK src) = true ∨ bitAt v 2 = false := by
    rw [h, ← mask]
    exact Bool.eq_false_or_eq_true _
  refine ⟨⟨_, ends_srcConfig can false _ (ends_maskSet ag src s (by simpa [Instr.wellFormed] using hsrc)), ?_, ?_, ?_,
      occ_srcConfig _ _, pend_srcConfig _ _ (.inl set31), ?_⟩,
    ⟨_, ends_srcConfig can false _ (ends_maskClear ag src s (by simpa [Instr.wellFormed] using hsrc)), ?_, ?_,
      occ_srcConfig _ _, targets_srcConfig hsrc _ _ (.inr clr2), pend_srcConfig _ _ (.inl clr31)⟩,
    ⟨_, ends_srcConfig can false _ (ends_routeChange ag src route s (by simp [Instr.wellFormed, hsrc, hroute])), ?_, ?_,
      occ_srcConfig _ _, targets_srcConfig hsrc _ _ (stays _ route2), pend_srcConfig _ _ (.inl route31)⟩,
    ⟨_, ends_srcConfig can false _ (ends_pendClear ag src false s (by simpa [Instr.wellFormed] using hsrc)), ?_, ?_,
      occ_srcConfig _ _, targets_srcConfig hsrc _ _ (stays _ pend2)⟩,
    ⟨_, ends_srcConfig can true _ (ends_pendClear ag src true s (by simpa [Instr.wellFormed] using hsrc)),
      pend_srcConfig _ _ (.inr rfl), ?_⟩,
    fun v => ⟨((accepted s ag).cycle true).srcConfig src v.toNat, ?_, pend_srcConfig _ _ (.inr rfl), srcConfig_reg _ _ _⟩⟩
  -- MASK_SET
  · rw [State.flag, get_srcConfig _ _ rfl]
    exact bne_iff_ne.2 (setMask.trans_ne (by decide))
  · exact (get_srcConfig _ _ rfl).trans setRoute
  · exact flag_eq_of_get ((get_srcConfig _ _ rfl).trans setUrgent)
  · intro clear n r hr hs
    exact srcConfig_marked _ _ _ ((flag_eq_of_get (get_srcConfig_before hsrc false rfl)).trans clear) set2 n r hr hs
  -- MASK_CLEAR
  · rw [State.flag, get_srcConfig _ _ rfl]
    exact bne_eq_false_iff_eq.2 clrMask
  · exact (get_srcConfig _ _ rfl).trans clrRoute
  -- ROUTE_CHANGE
  · exact (get_srcConfig _ _ rfl).trans newRoute
  · exact flag_eq_of_get ((get_srcConfig _ _ rfl).trans routeMask)
  -- PEND_CLEAR, without and with an occurrence in the cycle of the write
  · exact pend_srcConfig_cleared _ pend31
  · exact (srcConfig_reg _ _ _).trans pendWord
  · exact (srcConfig_reg _ _ _).trans pendWord
  -- REGISTER_WRITE
  · exact ends_registerWrite_srcConfig can hsrc v true

end Sys2Proof.Laws
end

section
/-! What is wrong with O22. A commit takes the shadows that it leaves alone out of the list and puts them back one by one, each in the
place of an older entry of its address (`State.within`), while a read takes the first entry. The two agree where every address is listed
once, as every write leaves it; the obligation does not ask for that of the entries that stay. -/

namespace Sys2Proof.Laws

open Sys2Proof Sys2Proof.Machine

/-- The shadows are as the effect of the command left them. -/
theorem finish_shadow (s u : State) : (finish s u).shadow = u.shadow := by
  rw [show finish s u = _ from sameBut_finish s u]

/-- The shadows that a command leaves are those of any effect that it ends with. -/
theorem shadow_eq_of_ends {c : Instr} {s u v : State} (hu : Ends c s u) (hv : Ends c s v) : u.shadow = v.shadow := by
  have e : finish s u = finish s v := by
    rw [Ends] at hu hv
    injection hu.symm.trans hv
  rw [← finish_shadow s u, e, finish_shadow]

/-- DEV_COMMIT that is let through commits on the accepted state. -/
theorem ends_devCommit_accepted {s : State} {ag : Agent} (can : CanWrite s ag R.DEV_COMMIT) :
    Ends (.devCommit ag) s (((accepted s ag).cycle false).devCommit ag) := by
  have e : Ends (.devCommit ag) s (((begun s).cycle false).asWrite ag R.DEV_COMMIT fun s => s.devCommit ag) := ends_devCommit ag s rfl
  rw [asWrite_shown false can, shown] at e
  split at e
  · exact e
  · simpa using e

/-- In RUN, with a register of `FE`, which is HP0's, twice among the shadows: first with the word 1, then with the word 2. -/
def listedTwice : State := { State.reset.put F.CFG_STATUS_STATE 5 with shadow := [(R.FE_CFG, 1#32), (R.FE_CFG, 2#32)] }

theorem canWrite_listedTwice : CanWrite listedTwice (.host .hp1) R.DEV_COMMIT :=
  ⟨by decide +kernel, fun p hp => by cases hp; decide +kernel⟩

/-- A commit of HP1 leaves the register pending with its second word. -/
theorem listedTwice_committed : (((accepted listedTwice (.host .hp1)).cycle false).devCommit (.host .hp1)).shadow = [(R.FE_CFG, 2#32)] := by
  decide +kernel

/-- Refutes O22: a shadow that the port does not own stays pending, but where the state lists its address twice it reads another word
after the commit than before. No run reaches such a state; the obligation speaks of every state. -/
theorem not_devCommit : ¬ Obligations.DevCommit := by
  intro h
  obtain ⟨u, ends, kept, -⟩ := h listedTwice (.host .hp1) canWrite_listedTwice (by decide)
  have after : u.shadow = [(R.FE_CFG, 2#32)] :=
    (shadow_eq_of_ends ends (ends_devCommit_accepted canWrite_listedTwice)).trans listedTwice_committed
  have before : listedTwice.shadow = [(R.FE_CFG, 1#32), (R.FE_CFG, 2#32)] := rfl
  have foreign : (accepted listedTwice (.host .hp1)).scopeOf R.FE_CFG ≠ Port.hp1.num := by decide +kernel
  have same := kept R.FE_CFG (.inl ⟨.hp1, rfl, foreign⟩) (by rw [before]; rfl)
  rw [after, before] at same
  exact absurd same (by decide)

end Sys2Proof.Laws
end

section
/-! Writes of plain registers (R12, R13, R15, R18). -/

namespace Sys2Proof.Laws

open Sys2Proof Sys2Proof.Machine

/-! ### The rule of a plain register, case by case -/

section
variable {s : State} {a v : Nat} {d : RegDef} (hd : regDef? a = some d)
include hd

/-- A reserved encoding is refused (R18). -/
theorem plainWord_reserved (h : goodWord a (Nat.land v d.w) = false) : s.plainWord a v = s.refuseWord := by
  simp only [State.plainWord, hd, h, Bool.not_false, if_true]

/-- An RWS register takes the word into its shadow (R13). -/
theorem plainWord_shadow (h : goodWord a (Nat.land v d.w) = true) (hr : d.rws = true) :
    s.plainWord a v = { s with shadow := mput s.shadow a (BitVec.ofNat 32 (Nat.land v d.w)) } := by
  simp only [State.plainWord, hd, h, hr, Bool.not_true, Bool.false_eq_true, if_false, if_true]

/-- Another register takes the word into its writable bits and clears W1C flags that hardware does not set in that cycle (R12, R15). -/
theorem plainWord_direct (h : goodWord a (Nat.land v d.w) = true) (hr : d.rws = false) :
    s.plainWord a v = s.setReg a (Nat.lor (Nat.land (Nat.land (s.reg a) (0xFFFFFFFF - d.w))
      (0xFFFFFFFF - (if s.sameCycle then 0 else Nat.land v d.w1c))) (Nat.land v d.w)) := by
  simp only [State.plainWord, hd, h, hr, Bool.not_true, Bool.false_eq_true, if_false]

end

/-- The engines whose registers are plain, and the frame store but for the owners of its folds. -/
theorem applyWord_plain (s : State) (ag : Agent) {a : Nat} (v : Nat)
    (h : a / 0x4000 ∈ [2, 4, 5, 6, 8] ∨ (a / 0x4000 = 11 ∧ isUnit (R.FST_FOLD_OWNER 0) 64 0x40 a = false)) :
    s.applyWord ag a v = s.plainWord a v := by
  unfold State.applyWord
  rcases h with h | ⟨h, owner⟩
  · simp only [List.mem_cons, List.not_mem_nil, or_false] at h
    rcases h with h | h | h | h | h <;> rw [h] <;> rfl
  · have none : unitAt (R.FST_FOLD_OWNER 0) 64 0x40 a = none := by simpa [isUnit] using owner
    rw [h]
    simp only [none]

/-- A register of the register space outside the ports' (Table 1.2). -/
theorem isPortReg_engine {a : Nat} (h : a / 0x4000 ≠ 17) : isPortReg a = false := by
  unfold isPortReg
  by_cases lo : 0x44000 ≤ a
  · exact Bool.and_eq_false_iff.2 (.inr (decide_eq_false (by omega)))
  · exact Bool.and_eq_false_iff.2 (.inl (decide_eq_false lo))

/-- A write of a register by REGISTER_WRITE, QSPI_WRITE or I2C_WRITE is the same write. -/
theorem ends_wordWrites {s u : State} {ag : Agent} {a v : Word} {same : Bool}
    (h : ((begun s).cycle same).writeWord ag a.toNat v.toNat = u) :
    Ends (.registerWrite ag a ⟨v, same⟩) s u
    ∧ (∀ p, ag = .host p → p ≠ .hp2 → Ends (.qspiWrite p ⟨true, same⟩ a (leBytes 4 v.toNat)) s u)
    ∧ (∀ dev, ag = .host .hp2 → s.isHp2 dev = true → Ends (.i2cWrite dev ⟨true, same⟩ a (leBytes 4 v.toNat)) s u) := by
  subst h
  refine ⟨ends_registerWrite ag a ⟨v, same⟩ s rfl, ?_, ?_⟩
  · rintro p rfl hp
    exact ends_qspiWrite p ⟨true, same⟩ a _ s (by simpa [Instr.wellFormed] using hp)
  · rintro dev rfl hdev
    have e := ends_i2cWrite dev ⟨true, same⟩ a (leBytes 4 v.toNat) s rfl
    have hdev' : (begun s).isHp2 dev = true := hdev
    simp only [hdev', Bool.not_true, Bool.false_eq_true, if_false, if_true] at e
    exact e

/-- Settles O15: the three commands make one write, whose effect on the accepted state is the rule of a plain register. -/
theorem registerWrites : Obligations.RegisterWrites := by
  intro s ag a v same d can h4 place hd
  have engine : a.toNat / 0x4000 < 12 ∧ a.toNat / 0x4000 ≠ 10 := by
    simp only [List.mem_cons, List.not_mem_nil, or_false] at place
    omega
  obtain ⟨h12, h10⟩ := engine
  have write : ((begun s).cycle same).writeWord ag a.toNat v.toNat =
      shown ag a.toNat ((accepted s ag).cycle same) (((accepted s ag).cycle same).plainWord a.toNat v.toNat) := by
    rw [writeWord_shown same can h4 (by omega) v.isLt (by omega) h10, applyWord_plain _ _ _ place]
  obtain ⟨byCore, byQspi, byI2c⟩ := ends_wordWrites write
  refine ⟨_, (ends_cycle false).2 byCore, fun p hp h2 => (ends_cycle false).2 (byQspi p hp h2),
    fun dev hag hdev => (ends_cycle false).2 (byI2c dev hag hdev), ?_, ?_, ?_⟩
  · intro good rws
    have eff : (shown ag a.toNat ((accepted s ag).cycle same) (((accepted s ag).cycle same).plainWord a.toNat v.toNat)).cycle false =
        { accepted s ag with shadow := mput s.shadow a.toNat (BitVec.ofNat 32 (Nat.land v.toNat d.w)) } := by
      rw [plainWord_shadow hd good rws, shown_quiet (by rfl), State.cycle_shadow, accepted_shadow, ← accepted_cycle_cycle s ag same]
      rfl
    have fits : Nat.land v.toNat d.w < 2 ^ 32 := Nat.lt_of_le_of_lt Nat.and_le_left v.isLt
    refine ⟨eff, ?_⟩
    rw [eff, State.regW]
    simp only [mfind_mput_self, BitVec.toNat_ofNat]
    exact Nat.mod_eq_of_lt fits
  · intro good direct
    have old : ((accepted s ag).cycle same).reg a.toNat = s.reg a.toNat := reg_accepted (isPortReg_engine (by omega)) ag
    have eff (x : Nat) : (((accepted s ag).cycle same).setReg a.toNat x).cycle false = (accepted s ag).setReg a.toNat x := by
      conv_rhs => rw [← accepted_cycle_cycle s ag same]
      rfl
    rw [plainWord_direct hd good direct, shown_quiet (by rfl), eff, old]
    refine ⟨⟨fun b hb => reg_setReg_ne _ _ (by simpa using hb), rfl⟩, by simp, by simp, ?_⟩
    rw [reg_setReg_self]
    rfl
  · intro reserved
    rw [plainWord_reserved hd reserved]
    obtain ⟨occ, shadow, regs⟩ := shown_refuseWord ag a.toNat ((accepted s ag).cycle same)
    exact ⟨by simpa using occ, by simpa using shadow, fun b hb => (regs b hb).trans (reg_accepted hb ag)⟩

end Sys2Proof.Laws
end

section
/-! A read of a port outside the folds: which word it returns, and what a good one does (R369 to R371). -/

namespace Sys2Proof.Laws

open Sys2Proof Sys2Proof.Machine

/-! ### The two rows of a port's read -/

theorem ends_i2cRead_hp2 {s : State} {dev : BitVec 7} (a : Word) (n : Nat) (notReady collide : Option Nat) (ecc : EccMap) (h : s.isHp2 dev = true) :
    Ends (.i2cRead dev true a n notReady collide ecc) s ((begun s).readTx .hp2 a.toNat n notReady collide ecc) := by
  have e := ends_i2cRead dev true a n notReady collide ecc s rfl
  have h' : (begun s).isHp2 dev = true := h
  simp only [h', Bool.not_true, Bool.false_eq_true, if_false, if_true] at e
  exact e

theorem ends_qspiRead_host {s : State} {p : Port} (a : Word) (n : Nat) (notReady collide : Option Nat) (ecc : EccMap) (h : p ≠ .hp2) :
    Ends (.qspiRead (.host p) true a n notReady collide ecc) s ((begun s).readTx p a.toNat n notReady collide ecc) :=
  ends_qspiRead (.host p) true a n notReady collide ecc s (by simpa [Instr.wellFormed] using h)

theorem readEnds_readTx (s : State) (p : Port) (dev : BitVec 7) (a : Word) (n : Nat) (notReady collide : Option Nat) (ecc : EccMap) :
    ReadEnds s p dev a n notReady collide ecc ((begun s).readTx p a.toNat n notReady collide ecc) := by
  refine ⟨ends_qspiRead_host a n notReady collide ecc, ?_⟩
  rintro rfl h
  exact ends_i2cRead_hp2 a n notReady collide ecc h

/-! ### A read of one word -/

theorem slice_leBytes_four (v : Nat) : slice (leBytes 4 v) 0 4 = leBytes 4 v := by
  simp [slice, leBytes, List.range_succ]

/-- A read of one aligned word returns its bytes, least significant first, and its effect precedes the port's bookkeeping. -/
theorem readTx_word {s : State} {p : Port} {a : Nat} (out : inFolds a = false) (start : startOk a = true) (h4 : a % 4 = 0)
    (fin : a + 4 ≤ regionEnd a) :
    s.readTx p a 4 none none [] = ((s.readEffect p a).portAccept p).emit (.readData p (leBytes 4 (s.viewWord p a))) := by
  have len : min 4 (regionEnd a - a) = 4 := by omega
  have part : readParts 3 a 4 = [(a, 0, 4)] := by simp [readParts, h4]; omega
  unfold State.readTx
  simp only [out, start, len, part, busyByte, State.readWords, Bool.false_eq_true, if_false, Bool.not_true, Nat.lt_irrefl, beq_self_eq_true,
    Bool.and_self, if_true, List.append_nil, slice_leBytes_four]

/-- The regions end at whole words. -/
theorem add_four_le_regionEnd {a : Nat} (h4 : a % 4 = 0) (hlt : a < 0x40000000) : a + 4 ≤ regionEnd a := by
  unfold regionEnd
  repeat' split
  all_goals omega

/-- A read without an effect sends its data, and the state is the accepted one. -/
theorem emit_accepted (s : State) (p : Port) (bs : List Byte) :
    ((begun s).portAccept p).emit (.readData p bs) = { accepted s (.host p) with out := [.readData p bs] } := by
  show { accepted s (.host p) with out := (accepted s (.host p)).out ++ [Output.readData p bs] } = _
  rw [accepted_out, List.nil_append]

/-! ### The pop registers (R382) -/

theorem eq_of_unitAt {base n stride a i : Nat} (h : unitAt base n stride a = some i) : i < n ∧ a = base + stride * i := by
  unfold unitAt at h
  split at h
  · rename_i fits
    obtain ⟨hb, hm, hn⟩ := fits
    obtain rfl := Option.some.inj h
    refine ⟨hn, ?_⟩
    have := Nat.div_add_mod (a - base) stride
    omega
  · cases h

/-- An address that is none of the pop registers pops nothing. -/
theorem popWord_eq_none {s : State} {p : Port} {a : Nat} (aux : a ≠ R.PIL_AUX_POP) (srf : unitAt (R.SRF_H_RESULT_LO 0) 3 8 a = none)
    (cpr : unitAt (R.CPR_RING_DONE_LO 0) 4 0x40 a = none) (mgt : unitAt (R.MGT_MB_DONE_LO 0) 3 0x20 a = none)
    (seq : unitAt (R.SEQ_H_DONE_LO 0) 3 8 a = none) (evt : unitAt (R.EVT_H_POP 0) 3 0x20 a = none) : s.popWord p a = none := by
  simp only [State.popWord, aux, srf, cpr, mgt, seq, evt, if_false]

/-- Every register that pops is defined. -/
theorem definedWord_pops : definedWord R.PIL_AUX_POP = true ∧ (∀ i, i < 3 → definedWord (R.SRF_H_RESULT_LO 0 + 8 * i) = true)
    ∧ (∀ i, i < 4 → definedWord (R.CPR_RING_DONE_LO 0 + 0x40 * i) = true) ∧ (∀ i, i < 3 → definedWord (R.MGT_MB_DONE_LO 0 + 0x20 * i) = true)
    ∧ (∀ i, i < 3 → definedWord (R.SEQ_H_DONE_LO 0 + 8 * i) = true) ∧ (∀ i, i < 3 → definedWord (R.EVT_H_POP 0 + 0x20 * i) = true) := by
  decide

/-- A word that no chapter defines pops nothing. -/
theorem popWord_undefined (s : State) (p : Port) {a : Nat} (h : definedWord a = false) : s.popWord p a = none := by
  have ne {b : Nat} (hb : definedWord b = true) : a ≠ b := by
    rintro rfl
    rw [h] at hb
    exact Bool.noConfusion hb
  have unit {base n stride : Nat} (hu : ∀ i, i < n → definedWord (base + stride * i) = true) : unitAt base n stride a = none := by
    refine Option.eq_none_iff_forall_ne_some.2 fun i hi => ?_
    obtain ⟨lt, eq⟩ := eq_of_unitAt hi
    exact ne (hu i lt) eq
  obtain ⟨aux, srf, cpr, mgt, seq, evt⟩ := definedWord_pops
  exact popWord_eq_none (ne aux) (unit srf) (unit cpr) (unit mgt) (unit seq) (unit evt)

/-- No register of the engines before SRF pops but `PIL_AUX_POP`, and nothing beyond the registers does. -/
theorem popWord_outside (s : State) (p : Port) {a : Nat} (aux : a ≠ R.PIL_AUX_POP) (h : a < 0x28000 ∨ 0x60000 ≤ a) : s.popWord p a = none := by
  refine popWord_eq_none aux ?_ ?_ ?_ ?_ ?_ <;> refine unitAt_outside (by omega) ?_
  · simp only [R.SRF_H_RESULT_LO]; omega
  · simp only [R.CPR_RING_DONE_LO]; omega
  · simp only [R.MGT_MB_DONE_LO]; omega
  · simp only [R.SEQ_H_DONE_LO]; omega
  · simp only [R.EVT_H_POP]; omega

/-- A read of a word that does not pop, latch the time or latch a pair has no effect. -/
theorem readEffect_none {s : State} {p : Port} {a : Nat} (pop : s.popWord p a = none) (now : a ≠ R.HTM_NOW_NS) (pair : inPair a = false) :
    s.readEffect p a = s := by
  simp [State.readEffect, pop, now, pair]

/-! ### What the three kinds of words read -/

theorem inPair_outside {a : Nat} (h : a < 0x100000 ∨ 0x120000 ≤ a) : inPair a = false := by
  simp only [inPair, Bool.and_eq_false_iff, decide_eq_false_iff_not]
  omega

/-- A register of PIL reads as its last value written, with its WO bits 0 (R12). -/
theorem viewWord_pil {s : State} {p : Port} {a : Nat} {d : RegDef} (hpil : a / 0x4000 = 1) (aux : a ≠ R.PIL_AUX_POP) (hd : regDef? a = some d) :
    s.viewWord p a = Nat.land (s.regW a) (0xFFFFFFFF - d.wo) := by
  rw [State.viewWord, if_pos (by omega), State.viewReg]
  simp only [hd, popWord_outside s p aux (by omega), hpil]

/-- A word that no chapter defines reads 0 (R371). -/
theorem viewWord_undefined (s : State) (p : Port) {a : Nat} (h : definedWord a = false) (out : a < 0x100000 ∨ 0x120000 ≤ a) : s.viewWord p a = 0 := by
  obtain ⟨reg, table⟩ : (a < 0x60000 → regDef? a = none) ∧ tblEngine a = none := by
    simpa [definedWord, imp_iff_not_or, Nat.not_lt] using h
  rw [State.viewWord]
  split
  · next low => simp only [State.viewReg, reg low]
  · rw [if_neg (by omega), table]
    rfl

/-- The low word of a pair register reads as it stands (R370). -/
theorem viewWord_low {s : State} {p : Port} {a : Nat} (pair : inPair a = true) (h8 : a % 8 = 0) : s.viewWord p a = s.bankWord a := by
  obtain ⟨lo, hi, -⟩ : 0x100000 ≤ a ∧ a < 0x120000 ∧ 0x1000 ≤ a % 0x10000 := by simpa [inPair, and_assoc] using pair
  rw [State.viewWord, if_neg (by omega), if_pos ⟨lo, hi⟩, State.viewTally]
  simp [h8]

/-! ### The pair latch -/

theorem portAccept_pairLatch (s : State) (p : Port) :
    (mget ({} : HptPort) (s.portAccept p).hpt p.num).pairLatch = (mget ({} : HptPort) s.hpt p.num).pairLatch := by
  rw [State.portAccept, State.tally_hpt, State.put_hpt, State.portLast, State.putB, State.put_hpt, mupd, mget_mset_self]

end Sys2Proof.Laws
end

section
/-! Reads of the fold window (R262, R268 to R270, R375, R378). -/

namespace Sys2Proof.Laws

open Sys2Proof Sys2Proof.Machine

/-! ### The folds of a range of bytes -/

theorem le_of_inFolds {a : Nat} (h : inFolds a = true) : 0x40000000 ≤ a := by
  simp only [inFolds, Bool.and_eq_true, decide_eq_true_eq] at h
  exact h.1

/-- The folds of a range of bytes of the window. -/
theorem mem_foldsIn {a n nn : Nat} (lo : 0x40000000 ≤ a) :
    nn ∈ foldsIn a n ↔ 0 < n ∧ foldBase nn < a + n ∧ a < foldBase (nn + 1) := by
  unfold foldsIn foldBase
  split
  · next h => simp [h]
  · next h =>
    simp only [List.mem_map, List.mem_range, foldOf]
    constructor
    · rintro ⟨k, hk, rfl⟩
      omega
    · rintro ⟨-, hb, he⟩
      exact ⟨nn - (a - 0x40000000) / 0x1000000, by omega, by omega⟩

theorem nodup_foldsIn (a n : Nat) : (foldsIn a n).Nodup := by
  unfold foldsIn
  split
  · exact List.nodup_nil
  · exact List.nodup_range.map fun _ _ h => Nat.add_left_cancel h

/-- A byte lies in its fold. -/
theorem foldOf_spec {b : Nat} (h : 0x40000000 ≤ b) : foldBase (foldOf b) ≤ b ∧ b < foldBase (foldOf b + 1) := by
  unfold foldOf foldBase
  omega

theorem foldOf_unique {b nn : Nat} (h : foldBase nn ≤ b) (h' : b < foldBase (nn + 1)) : foldOf b = nn := by
  unfold foldBase at *
  unfold foldOf
  omega

theorem foldOf_mem_foldsIn {a n i : Nat} (ha : inFolds a = true) (hi : i < n) : foldOf (a + i) ∈ foldsIn a n := by
  have lo := le_of_inFolds ha
  obtain ⟨h1, h2⟩ := foldOf_spec (b := a + i) (by omega)
  refine (mem_foldsIn lo).2 ⟨by omega, by omega, ?_⟩
  omega

/-- The word of a byte lies in the byte's fold. -/
theorem foldOf_word (b : Nat) : foldOf (8 * (b / 8)) = foldOf b := by
  unfold foldOf
  omega

theorem lt_of_mem_foldsIn {a n nn : Nat} (ha : inFolds a = true) (fin : a + n ≤ 0x80000000) (h : nn ∈ foldsIn a n) : nn < 64 := by
  obtain ⟨-, hb, -⟩ := (mem_foldsIn (le_of_inFolds ha)).1 h
  unfold foldBase at hb
  omega

/-! ### What a port may read -/

/-- Every fold of a range lets the port's read through, and none waits (R265, R266, R273, R274). -/
def Readable (s : State) (p : Port) (a n : Nat) : Prop :=
  (foldsIn a n).all (fun nn => s.hostMiss p nn == 0 && !s.hostWaits p nn) = true

/-- A fold that lets a port's read through is ON and not foreign. -/
theorem foldByte_of_hostMiss {s : State} {p : Port} {b : Nat} (h : s.hostMiss p (foldOf b) = 0) : s.foldByte p b = memByte s.fst.mem b := by
  unfold State.hostMiss State.dmaMiss at h
  unfold State.foldByte
  by_cases foreign : s.foldForeign p (foldOf b) = true
  · simp [foreign, R.FST_CNT_FOREIGN] at h
  · by_cases on : s.foldOn (foldOf b) = true
    · simp [foreign, on]
    · simp only [foreign, on, Bool.not_false, Bool.false_eq_true, if_true, if_false] at h
      split at h <;> cases h

section
variable {s : State} {p : Port} {a n : Nat} (ok : Readable s p a n)
include ok

theorem Readable.miss {nn : Nat} (h : nn ∈ foldsIn a n) : s.hostMiss p nn = 0 := by
  have := List.all_eq_true.1 ok nn h
  simp only [Bool.and_eq_true, beq_iff_eq] at this
  exact this.1

theorem Readable.noWait : (foldsIn a n).find? (fun nn => s.hostWaits p nn) = none := by
  refine List.find?_eq_none.2 fun nn h => ?_
  have := List.all_eq_true.1 ok nn h
  simp only [Bool.and_eq_true, Bool.not_eq_true'] at this
  simp [this.2]

theorem Readable.noMiss : (foldsIn a n).find? (fun nn => s.hostMiss p nn != 0) = none :=
  List.find?_eq_none.2 fun nn h => by simp [ok.miss h]

/-- A read that is let through returns the bytes of the folds. -/
theorem Readable.bytes (ha : inFolds a = true) : (List.range n).map (fun i => s.foldByte p (a + i)) = memBytes s.fst.mem a n :=
  List.map_congr_left fun _ hi => foldByte_of_hostMiss (ok.miss (foldOf_mem_foldsIn ha (List.mem_range.1 hi)))

end

/-! ### A read that meets BUSY -/

/-- A read that meets BUSY at a byte: the port shows it, and HP2 fills the rest with 0xFF (R375, R378). -/
theorem readBusy_spec (s : State) (p : Port) (n k : Nat) (good : List Byte) :
    let u := s.readBusy p n k good
    ShowsBusy s u p.num ∧ u.occ = s.occ ∧ u.fst = s.fst ∧ (∀ b, isPortReg b = false → u.reg b = s.reg b)
      ∧ (p = .hp2 → u.out = s.out ++ [.readData p (good.take k ++ List.replicate (n - k) 0xFF)]) := by
  have shows := showsBusy_portBusy s p
  unfold State.readBusy
  split
  · exact ⟨shows, by simp [State.emit], by simp [State.emit], fun b hb => reg_portBusy hb p, fun _ => by simp [State.emit]⟩
  · next h => exact ⟨shows, by simp [State.emit], by simp [State.emit], fun b hb => reg_portBusy hb p, fun e => absurd e h⟩

/-- A collision leaves its address, counts, and changes no other register (R268). -/
theorem collideAt_spec (s : State) {b : Nat} (hb : b < 2 ^ 32) :
    let t := s.collideAt b
    t.occ = s.occ ++ [⟨243, 0⟩] ∧ t.reg R.FST_CNT_COLLIDE = min 0xFFFFFFFF (s.reg R.FST_CNT_COLLIDE + 1)
      ∧ t.reg R.FST_COLLIDE_ADDR = b / 8 * 8 ∧ ∀ c, c ≠ R.FST_CNT_COLLIDE → c ≠ R.FST_COLLIDE_ADDR → t.reg c = s.reg c := by
  have other : R.FST_CNT_COLLIDE ≠ R.FST_COLLIDE_ADDR := by decide
  have raised (x : State) (c : Nat) : (x.raise 243 0).reg c = x.reg c := reg_congr (by simp) c
  unfold State.collideAt
  refine ⟨by simp [State.raise], ?_, ?_, fun c h1 h2 => ?_⟩
  · rw [raised, reg_count_self, reg_setReg_ne _ _ other]
  · rw [raised, reg_count_ne _ _ other.symm, reg_setReg_self]
    omega
  · rw [raised, reg_count_ne _ _ h1, reg_setReg_ne _ _ h2]

/-- A read that is not ready at once meets BUSY at its first byte (R375). -/
theorem foldRead_notReady (s : State) (p : Port) {a n : Nat} (fin : a + n ≤ 0x80000000) (h0 : 0 < n) :
    s.foldRead p a n (some 0) none [] = s.readBusy p n 0 ((List.range n).map fun i => s.foldByte p (a + i)) := by
  have len : min n (0x80000000 - a) = n := by omega
  unfold State.foldRead
  simp only [len, busyByte, h0, if_true]
  cases ((foldsIn a n).find? fun nn => s.hostWaits p nn).map fun nn => foldBase nn - a <;> simp [firstOf]

section
variable {s : State} {p : Port} {a n : Nat} (ok : Readable s p a n) (ha : inFolds a = true) (fin : a + n ≤ 0x80000000)
include ok ha fin

/-- A read of readable folds that collides meets BUSY in the word that collides (R268, R378). -/
theorem Readable.collides {j : Nat} (hk : (if j = 0 then 0 else 4 * j - a % 4) < n) :
    let k := if j = 0 then 0 else 4 * j - a % 4
    s.foldRead p a n none (some j) [] = (s.collideAt (a + k)).readBusy p n k (memBytes s.fst.mem a n) := by
  have len : min n (0x80000000 - a) = n := by omega
  unfold State.foldRead
  simp only [len, busyByte, hk, if_true, ok.noWait, ok.bytes ha, Option.map_none, firstOf]

/-- A read of readable folds returns their bytes after the check of their words (R269). -/
theorem Readable.foldRead_good {ecc : EccMap} (bad : s.firstBad p a n ecc = none) :
    s.foldRead p a n none none ecc =
      ((s.readFolds (fun s nn => s.hostMiss p nn) a n ecc 0).2.portAccept p).emit (.readData p (memBytes s.fst.mem a n)) := by
  have len : min n (0x80000000 - a) = n := by omega
  unfold State.foldRead
  simp only [len, busyByte, ok.noWait, ok.bytes ha, Option.map_none, firstOf, Nat.lt_irrefl, if_false, bad]

/-- A read that meets an uncorrectable word returns its bytes and ends with DATA_ERR (R270). -/
theorem Readable.foldRead_bad {ecc : EccMap} {b : Nat} (bad : s.firstBad p a n ecc = some b) :
    s.foldRead p a n none none ecc =
      (s.readFolds (fun s nn => s.hostMiss p nn) a n ecc 0).2.readError p 3 b (memBytes s.fst.mem a n) := by
  have len : min n (0x80000000 - a) = n := by omega
  unfold State.foldRead
  simp only [len, busyByte, ok.noWait, ok.bytes ha, Option.map_none, firstOf, Nat.sub_self, List.replicate_zero, List.append_nil, bad]

end

/-! ### The check of the words of a read (R269, R270) -/

/-- The note on a word of a fold changes the fold's status register, and of the other registers only counters and addresses beyond the
folds'. -/
theorem reg_noteEcc {s : State} {w : Nat} (e : Ecc) (cls : Nat) {b : Nat} (status : b ≠ R.FST_FOLD_STATUS (foldOf (8 * w)))
    (far : b < R.FST_UE_ADDR) : (s.noteEcc (8 * w) e cls).reg b = s.reg b := by
  have ne {c : Nat} (h : R.FST_UE_ADDR ≤ c) : b ≠ c := by omega
  have raised (x : State) (k c : Nat) : (x.raise k c).reg b = x.reg b := reg_congr (by simp) b
  cases e with
  | good => rfl
  | single =>
    simp only [State.noteEcc, State.noteCorrected]
    rw [raised, reg_put_ne _ _ status, reg_tally, reg_count_ne _ _ (ne (by decide))]
  | double =>
    simp only [State.noteEcc, State.noteUncorrectable]
    rw [raised, reg_put_ne _ _ status, reg_tally, reg_count_ne _ _ (ne (by decide)), reg_setReg_ne _ _ (ne (by decide))]

theorem fst_noteEcc (s : State) (addr : Nat) (e : Ecc) (cls : Nat) : (s.noteEcc addr e cls).fst = s.fst := by
  cases e <;> simp [State.noteEcc, State.noteCorrected, State.noteUncorrectable]

/-- Whether a fold is foreign to a port depends on the fold's two registers and its previous owner. -/
theorem foldForeign_congr {s t : State} {nn : Nat} (p : Port) (status : t.reg (R.FST_FOLD_STATUS nn) = s.reg (R.FST_FOLD_STATUS nn))
    (owner : t.reg (R.FST_FOLD_OWNER nn) = s.reg (R.FST_FOLD_OWNER nn)) (prev : t.fst.prevOwner = s.fst.prevOwner) :
    t.foldForeign p nn = s.foldForeign p nn := by
  simp only [State.foldForeign, State.flag, State.get, F.FST_FOLD_STATUS_OWNER_CHANGING, status, owner, prev]

theorem foldOn_congr {s t : State} {nn : Nat} (status : t.reg (R.FST_FOLD_STATUS nn) = s.reg (R.FST_FOLD_STATUS nn)) :
    t.foldOn nn = s.foldOn nn := by
  simp only [State.foldOn, State.get, F.FST_FOLD_STATUS_POWER, status]

/-- What a port's read of a fold meets depends on the fold's two registers and its previous owner. -/
theorem hostMiss_congr {s t : State} {nn : Nat} (p : Port) (status : t.reg (R.FST_FOLD_STATUS nn) = s.reg (R.FST_FOLD_STATUS nn))
    (owner : t.reg (R.FST_FOLD_OWNER nn) = s.reg (R.FST_FOLD_OWNER nn)) (fst : t.fst = s.fst) : t.hostMiss p nn = s.hostMiss p nn := by
  rw [State.hostMiss, State.hostMiss, State.dmaMiss, State.dmaMiss, foldForeign_congr p status owner (by rw [fst]), foldOn_congr status]

/-- The note on a word does not touch what decides on a read of another fold. -/
theorem hostMiss_noteEcc (s : State) {w nn : Nat} (e : Ecc) (cls : Nat) (p : Port) (other : nn ≠ foldOf (8 * w)) (h64 : nn < 64) :
    (s.noteEcc (8 * w) e cls).hostMiss p nn = s.hostMiss p nn := by
  refine hostMiss_congr p (reg_noteEcc e cls ?_ ?_) (reg_noteEcc e cls ?_ ?_) (fst_noteEcc s _ e cls)
  all_goals simp only [R.FST_FOLD_STATUS, R.FST_FOLD_OWNER, R.FST_UE_ADDR]; omega

/-- A check without one of its words to note finds nothing. -/
theorem checkWords_none (s : State) (lo hi cls : Nat) {ecc : EccMap} (h : ∀ e ∈ ecc, ¬(lo / 8 ≤ e.1 ∧ 8 * e.1 < hi)) :
    s.checkWords lo hi ecc cls = (true, s) := by
  have none : ecc.filter (fun e => decide (lo / 8 ≤ e.1) && decide (8 * e.1 < hi)) = [] := by
    refine List.filter_eq_nil_iff.2 fun e he => ?_
    simpa using h e he
  rw [State.checkWords, none]
  rfl

/-- A check of a range that holds the word to note notes it. -/
theorem checkWords_one (s : State) {lo hi w : Nat} (e : Ecc) (cls : Nat) (h1 : lo / 8 ≤ w) (h2 : 8 * w < hi) :
    s.checkWords lo hi [(w, e)] cls = (e != .double, s.noteEcc (8 * w) e cls) := by
  simp [State.checkWords, h1, h2, State.each]

/-- One fold of a port's read. -/
def foldCheck (p : Port) (a n : Nat) (ecc : EccMap) (r : Bool × State) (nn : Nat) : Bool × State :=
  let c := r.2.hostMiss p nn
  if c ≠ 0 then (false, r.2.missCount c)
  else
    let q := r.2.checkWords (max a (foldBase nn)) (min (a + n) (foldBase (nn + 1))) ecc 0
    (r.1 && q.1, q.2)

theorem readFolds_eq (s : State) (p : Port) {a : Nat} (n : Nat) (ecc : EccMap) (ha : inFolds a = true) :
    s.readFolds (fun s nn => s.hostMiss p nn) a n ecc 0 = (foldsIn a n).foldl (foldCheck p a n ecc) (true, s) := by
  rw [State.readFolds, if_neg (by simp [ha])]
  rfl

/-- Folds that hold none of the words to note leave the state as it is. -/
theorem foldl_foldCheck_none {p : Port} {a n : Nat} {ecc : EccMap} {r : Bool × State} {l : List Nat} (miss : ∀ nn ∈ l, r.2.hostMiss p nn = 0)
    (h : ∀ nn ∈ l, ∀ e ∈ ecc, ¬(max a (foldBase nn) / 8 ≤ e.1 ∧ 8 * e.1 < min (a + n) (foldBase (nn + 1)))) :
    l.foldl (foldCheck p a n ecc) r = r := by
  induction l with
  | nil => rfl
  | cons nn l ih =>
    have step : foldCheck p a n ecc r nn = r := by
      simp [foldCheck, miss nn (by simp), checkWords_none r.2 _ _ 0 (h nn (by simp))]
    rw [List.foldl_cons, step]
    exact ih (fun x hx => miss x (by simp [hx])) fun x hx => h x (by simp [hx])

/-- The words of a range lie in its folds only. -/
theorem foldOf_eq_of_checked {a n w nn : Nat} (h : max a (foldBase nn) / 8 ≤ w) (h' : 8 * w < min (a + n) (foldBase (nn + 1))) :
    foldOf (8 * w) = nn := by
  refine foldOf_unique ?_ (by omega)
  unfold foldBase at *
  omega

section
variable {s : State} {p : Port} {a n : Nat} (ok : Readable s p a n) (ha : inFolds a = true) (fin : a + n ≤ 0x80000000)
include ok ha

/-- A read without a word to note leaves the state as it is. -/
theorem Readable.readFolds_nil : (s.readFolds (fun s nn => s.hostMiss p nn) a n [] 0).2 = s := by
  rw [readFolds_eq s p n [] ha, foldl_foldCheck_none (r := (true, s)) (fun nn h => ok.miss h) (by simp)]

include fin

/-- One word to note is noted once, in its fold. -/
theorem Readable.readFolds_one {i : Nat} (hi : i < n) (e : Ecc) :
    (s.readFolds (fun s nn => s.hostMiss p nn) a n [((a + i) / 8, e)] 0).2 = s.noteEcc (8 * ((a + i) / 8)) e 0 := by
  have mem := foldOf_mem_foldsIn ha hi
  have lo := le_of_inFolds ha
  have distinct := nodup_foldsIn a n
  have bound {nn : Nat} (h : nn ∈ foldsIn a n) := lt_of_mem_foldsIn ha fin h
  have miss {nn : Nat} (h : nn ∈ foldsIn a n) := ok.miss h
  rw [readFolds_eq s p n _ ha]
  obtain ⟨before, after, split⟩ := List.append_of_mem mem
  rw [split] at distinct bound miss ⊢
  obtain ⟨-, ⟨notAfter, -⟩, apart⟩ : before.Nodup ∧ (foldOf (a + i) ∉ after ∧ after.Nodup) ∧ ∀ x ∈ before, x ≠ foldOf (a + i) ∧ _ := by
    simpa [List.nodup_append, List.nodup_cons] using distinct
  have elsewhere {nn : Nat} (h : nn ≠ foldOf (a + i)) : ∀ x ∈ [((a + i) / 8, e)],
      ¬(max a (foldBase nn) / 8 ≤ x.1 ∧ 8 * x.1 < min (a + n) (foldBase (nn + 1))) := by
    simp only [List.mem_singleton, forall_eq]
    rintro ⟨h1, h2⟩
    exact h ((foldOf_eq_of_checked h1 h2).symm.trans (foldOf_word _))
  have here : foldCheck p a n [((a + i) / 8, e)] (true, s) (foldOf (a + i)) = (e != .double, s.noteEcc (8 * ((a + i) / 8)) e 0) := by
    obtain ⟨h1, h2⟩ := foldOf_spec (b := a + i) (by omega)
    rw [foldCheck]
    simp only [miss (nn := foldOf (a + i)) (by simp), ne_eq, not_true_eq_false, if_false, Bool.true_and]
    exact checkWords_one s e 0 (by omega) (by omega)
  rw [List.foldl_append, List.foldl_cons, foldl_foldCheck_none (fun nn h => miss (by simp [h])) fun nn h => elsewhere (apart nn h).1, here,
    foldl_foldCheck_none]
  · intro nn h
    refine (hostMiss_noteEcc s e 0 p ?_ (bound (by simp [h]))).trans (miss (by simp [h]))
    rw [foldOf_word]
    rintro rfl
    exact notAfter h
  · refine fun nn h => elsewhere ?_
    rintro rfl
    exact notAfter h

end

/-! ### The first byte that is flagged (R270) -/

section
variable {s : State} {p : Port} {a n : Nat} (ok : Readable s p a n)
include ok

theorem Readable.firstBad_nil : s.firstBad p a n [] = none := by
  simp [State.firstBad, ok.noMiss]

theorem Readable.firstBad_single (w : Nat) : s.firstBad p a n [(w, .single)] = none := by
  simp [State.firstBad, ok.noMiss]

theorem Readable.firstBad_double (ha : inFolds a = true) {i : Nat} (hi : i < n) :
    s.firstBad p a n [((a + i) / 8, .double)] = some (max a (8 * ((a + i) / 8))) := by
  have miss : s.hostMiss p (foldOf (8 * ((a + i) / 8))) = 0 := by
    rw [foldOf_word]
    exact ok.miss (foldOf_mem_foldsIn ha hi)
  have h1 : a / 8 ≤ (a + i) / 8 := by omega
  have h2 : 8 * ((a + i) / 8) < a + n := by omega
  simp [State.firstBad, ok.noMiss, miss, h1, h2, firstOf]

end

end Sys2Proof.Laws
end

section
/-! What the reads of O20 leave, form by form. -/

namespace Sys2Proof.Laws

open Sys2Proof Sys2Proof.Machine

/-! ### Registers beside the port's bookkeeping -/

theorem reg_put_congr {s t : State} {b : Nat} (f : FRef) (v : Nat) (h : t.reg b = s.reg b) : (t.put f v).reg b = (s.put f v).reg b := by
  by_cases e : b = f.addr
  · subst e
    rw [State.put, State.put, reg_setReg_self, reg_setReg_self, h]
  · rw [reg_put_ne _ _ e, reg_put_ne _ _ e, h]

/-- What the acceptance of a transaction makes of a register depends on that register alone. -/
theorem reg_portAccept_congr {s t : State} {b : Nat} (p : Port) (h : t.reg b = s.reg b) : (t.portAccept p).reg b = (s.portAccept p).reg b := by
  rw [State.portAccept, State.portAccept, reg_tally, reg_tally]
  exact reg_put_congr _ _ (reg_put_congr _ _ h)

/-- The registers after an acceptance depend on the registers before it. -/
theorem regs_portAccept_congr {s t : State} (p : Port) (h : t.regs = s.regs) : (t.portAccept p).regs = (s.portAccept p).regs := by
  have put {x y : State} (f : FRef) (v : Nat) (e : x.regs = y.regs) : (x.put f v).regs = (y.put f v).regs := by
    simp only [State.put, State.setReg, reg_congr e, e]
  rw [State.portAccept, State.portAccept, State.tally_regs, State.tally_regs]
  exact put _ _ (put _ _ h)

/-! ### The notes on a word (R269, R270) -/

theorem reg_raise (s : State) (k c b : Nat) : (s.raise k c).reg b = s.reg b := reg_congr (by simp) b

/-- A corrected word counts in the store's counter and in its fold's. -/
theorem noteCorrected_spec (s : State) {nn : Nat} (h : nn < 64) :
    let t := s.noteCorrected nn
    t.occ = s.occ ++ [⟨240, 1⟩] ∧ t.reg R.FST_CNT_CE = min 0xFFFFFFFF (s.reg R.FST_CNT_CE + 1)
      ∧ ∀ b, b ∉ [R.FST_CNT_CE, R.FST_FOLD_STATUS nn] → t.reg b = s.reg b := by
  have far : R.FST_CNT_CE ≠ (F.FST_FOLD_STATUS_CE nn).addr := by simp only [R.FST_CNT_CE, F.FST_FOLD_STATUS_CE, R.FST_FOLD_STATUS]; omega
  unfold State.noteCorrected
  refine ⟨by simp [State.raise], ?_, fun b hb => ?_⟩
  · rw [reg_raise, reg_put_ne _ _ far, reg_tally, reg_count_self]
  · simp only [List.mem_cons, List.not_mem_nil, or_false, not_or] at hb
    obtain ⟨count, status⟩ := hb
    rw [reg_raise, reg_put_ne _ _ status, reg_tally, reg_count_ne _ _ count]

/-- An uncorrectable word leaves its address and counts. -/
theorem noteUncorrectable_spec (s : State) {w : Nat} (cls : Nat) (h64 : foldOf (8 * w) < 64) (hw : 8 * w < 2 ^ 32) :
    let t := s.noteUncorrectable (8 * w) cls
    t.occ = s.occ ++ [⟨241, cls⟩] ∧ t.reg R.FST_UE_ADDR = 8 * w ∧ t.reg R.FST_CNT_UE = min 0xFFFFFFFF (s.reg R.FST_CNT_UE + 1)
      ∧ ∀ b, isPortReg b = true → t.reg b = s.reg b := by
  generalize hn : foldOf (8 * w) = nn at h64
  have ue : R.FST_UE_ADDR ≠ (F.FST_FOLD_STATUS_UE nn).addr := by simp only [R.FST_UE_ADDR, F.FST_FOLD_STATUS_UE, R.FST_FOLD_STATUS]; omega
  have cnt : R.FST_CNT_UE ≠ (F.FST_FOLD_STATUS_UE nn).addr := by simp only [R.FST_CNT_UE, F.FST_FOLD_STATUS_UE, R.FST_FOLD_STATUS]; omega
  have apart : R.FST_CNT_UE ≠ R.FST_UE_ADDR := by decide
  unfold State.noteUncorrectable
  simp only [hn]
  refine ⟨by simp [State.raise], ?_, ?_, fun b hb => ?_⟩
  · rw [reg_raise, reg_put_ne _ _ ue, reg_tally, reg_count_ne _ _ apart.symm, reg_setReg_self]
    omega
  · rw [reg_raise, reg_put_ne _ _ cnt, reg_tally, reg_count_self, reg_setReg_ne _ _ apart]
  · have lo : 0x44000 ≤ b := by simp [isPortReg] at hb; omega
    rw [reg_raise, reg_put_ne _ _ (by simp only [F.FST_FOLD_STATUS_UE, R.FST_FOLD_STATUS]; omega), reg_tally,
      reg_count_ne _ _ (by simp only [R.FST_CNT_UE]; omega), reg_setReg_ne _ _ (by simp only [R.FST_UE_ADDR]; omega)]

/-- The registers of the frame store are no port's. -/
theorem isPortReg_fst {b : Nat} (h : b < 0x30000) : isPortReg b = false := isPortReg_engine (by omega)

/-! ### Reads of one word -/

theorem accepted_host (s : State) (p : Port) : accepted s (.host p) = (begun s).portAccept p := rfl

theorem emit_out (s : State) (o : Output) : (s.emit o).out = s.out ++ [o] := rfl

/-- A port has latched the high word of the pair register at an address (R370). -/
def pairLatched (s : State) (p : Port) (a : Nat) : State :=
  { s with hpt := mupd ({} : HptPort) s.hpt p.num fun h => { h with pairLatch := mput h.pairLatch (a + 4) (BitVec.ofNat 32 (s.bankWord (a + 4))) } }

theorem pairLatched_spec (s : State) (p : Port) (a : Nat) :
    let t := pairLatched s p a
    t.out = s.out ∧ t.occ = s.occ ∧ t.regs = s.regs
      ∧ (mget ({} : HptPort) t.hpt p.num).pairLatch =
        mput (mget ({} : HptPort) s.hpt p.num).pairLatch (a + 4) (BitVec.ofNat 32 (s.bankWord (a + 4))) := by
  refine ⟨rfl, rfl, rfl, ?_⟩
  simp only [pairLatched, mupd, mget_mset_self]

/-- The effect of a good read of a pair register's low word. -/
theorem readEffect_pair {s : State} {p : Port} {a : Nat} (pair : inPair a = true) (h8 : a % 8 = 0) : s.readEffect p a = pairLatched s p a := by
  obtain ⟨lo, hi, -⟩ : 0x100000 ≤ a ∧ a < 0x120000 ∧ 0x1000 ≤ a % 0x10000 := by simpa [inPair, and_assoc] using pair
  have noPop : s.popWord p a = none := popWord_outside _ _ (by simp only [R.PIL_AUX_POP]; omega) (.inr (by omega))
  have now : a ≠ R.HTM_NOW_NS := by simp only [R.HTM_NOW_NS]; omega
  simp only [State.readEffect, noPop, now, pair, h8, if_false, and_self, if_true, pairLatched]

theorem definedWord_now : definedWord R.HTM_NOW_NS = true := rfl

section
variable {s : State} {p : Port} {a : Nat}

theorem readTx_register {d : RegDef} (h4 : a % 4 = 0) (pil : a / 0x4000 = 1) (aux : a ≠ R.PIL_AUX_POP) (hd : regDef? a = some d) :
    (begun s).readTx p a 4 none none [] =
      { accepted s (.host p) with out := [.readData p (leBytes 4 (Nat.land (s.regW a) (0xFFFFFFFF - d.wo)))] } := by
  have noEffect : (begun s).readEffect p a = begun s :=
    readEffect_none (popWord_outside _ _ aux (by omega)) (by simp only [R.HTM_NOW_NS]; omega) (inPair_outside (by omega))
  rw [readTx_word (inFolds_low (by omega)) (startOk_of_aligned h4) h4 (add_four_le_regionEnd h4 (by omega)), noEffect,
    viewWord_pil pil aux hd, emit_accepted]
  rfl

theorem readTx_undefined (h4 : a % 4 = 0) (undef : definedWord a = false) (lt : a < 0x40000000) (out : a < 0x100000 ∨ 0x120000 ≤ a) :
    (begun s).readTx p a 4 none none [] = { accepted s (.host p) with out := [.readData p [0#8, 0#8, 0#8, 0#8]] } := by
  have now : a ≠ R.HTM_NOW_NS := by
    rintro rfl
    rw [definedWord_now] at undef
    cases undef
  rw [readTx_word (inFolds_low lt) (startOk_of_aligned h4) h4 (add_four_le_regionEnd h4 lt),
    readEffect_none (popWord_undefined _ _ undef) now (inPair_outside out), viewWord_undefined _ _ undef out, emit_accepted]
  rfl

/-- A read of the low word of a pair register latches the high one for the port (R370). -/
theorem readTx_pair (pair : inPair a = true) (h8 : a % 8 = 0) :
    let u := (begun s).readTx p a 4 none none []
    u.out = [.readData p (leBytes 4 (s.bankWord a))] ∧ u.occ = []
      ∧ mfind (mget ({} : HptPort) u.hpt p.num).pairLatch (a + 4) = some (BitVec.ofNat 32 (s.bankWord (a + 4)))
      ∧ u.regs = (accepted s (.host p)).regs := by
  obtain ⟨lo, hi, -⟩ : 0x100000 ≤ a ∧ a < 0x120000 ∧ 0x1000 ≤ a % 0x10000 := by simpa [inPair, and_assoc] using pair
  obtain ⟨out, occ, regs, latch⟩ := pairLatched_spec (begun s) p a
  rw [readTx_word (inFolds_low (by omega)) (startOk_of_aligned (by omega)) (by omega) (add_four_le_regionEnd (by omega) (by omega)),
    readEffect_pair pair h8, viewWord_low pair h8]
  refine ⟨?_, ?_, ?_, ?_⟩
  · rw [emit_out, State.portAccept_out, out]
    rfl
  · rw [State.emit_occ, State.portAccept_occ, occ]
    rfl
  · rw [State.emit_hpt, portAccept_pairLatch, latch, mfind_mput_self]
    rfl
  · rw [State.emit_regs, accepted_host, regs_portAccept_congr p regs]

end

/-! ### Reads of the folds -/

section
variable {s : State} {p : Port} {a n : Nat} (ok : Readable s p a n) (ha : inFolds a = true) (fin : a + n ≤ 0x80000000)
include ok ha fin

theorem Readable.readTx : (begun s).readTx p a n none none [] = { accepted s (.host p) with out := [.readData p (memBytes s.fst.mem a n)] } := by
  have ok : Readable (begun s) p a n := ok
  rw [State.readTx, if_pos ha, ok.foldRead_good ha fin ok.firstBad_nil, ok.readFolds_nil ha, emit_accepted]
  rfl

theorem Readable.readTx_single {i : Nat} (hi : i < n) :
    let u := (begun s).readTx p a n none none [((a + i) / 8, .single)]
    u.out = [.readData p (memBytes s.fst.mem a n)] ∧ u.occ = [⟨240, 1⟩] ∧ u.reg R.FST_CNT_CE = min 0xFFFFFFFF (s.reg R.FST_CNT_CE + 1)
      ∧ OnlyRegs (accepted s (.host p)) u [R.FST_CNT_CE, R.FST_FOLD_STATUS (foldOf (a + i))] := by
  have okb : Readable (begun s) p a n := ok
  obtain ⟨occ, count, regs⟩ := noteCorrected_spec (begun s) (lt_of_mem_foldsIn ha fin (foldOf_mem_foldsIn ha hi))
  have noted : (begun s).noteEcc (8 * ((a + i) / 8)) .single 0 = (begun s).noteCorrected (foldOf (a + i)) := by rw [State.noteEcc, foldOf_word]
  have out : ((begun s).noteCorrected (foldOf (a + i))).out = [] := by simp [State.noteCorrected, begun]
  rw [State.readTx, if_pos ha, okb.foldRead_good ha fin (okb.firstBad_single _), okb.readFolds_one ha fin hi, noted]
  generalize (begun s).noteCorrected (foldOf (a + i)) = t at *
  have plain : isPortReg R.FST_CNT_CE = false := isPortReg_fst (by decide)
  have emitted (x : State) (o : Output) (b : Nat) : (x.emit o).reg b = x.reg b := rfl
  refine ⟨by simp [State.emit, out]; rfl, by simpa [State.emit, begun] using occ, ?_, fun b hb => ?_⟩
  · rw [emitted, reg_portAccept plain, count]
    rfl
  · rw [emitted, accepted_host]
    exact reg_portAccept_congr p (regs b hb)

theorem Readable.readTx_double {i : Nat} (hi : i < n) :
    let u := (begun s).readTx p a n none none [((a + i) / 8, .double)]
    u.out = [.readData p (memBytes s.fst.mem a n)] ∧ u.occ = [⟨241, 0⟩] ∧ ShowsRefusal s u p.num 3
      ∧ u.reg (R.HPT_P_ERR_ADDR p.num) = max a (8 * ((a + i) / 8)) ∧ u.reg R.FST_UE_ADDR = 8 * ((a + i) / 8)
      ∧ u.reg R.FST_CNT_UE = min 0xFFFFFFFF (s.reg R.FST_CNT_UE + 1) := by
  have okb : Readable (begun s) p a n := ok
  have fold := lt_of_mem_foldsIn ha fin (foldOf_mem_foldsIn ha hi)
  rw [← foldOf_word] at fold
  obtain ⟨occ, addr, count, ports⟩ := noteUncorrectable_spec (begun s) 0 fold (by omega)
  have out : ((begun s).noteUncorrectable (8 * ((a + i) / 8)) 0).out = [] := by simp [State.noteUncorrectable, begun]
  rw [State.readTx, if_pos ha, okb.foldRead_bad ha fin (okb.firstBad_double ha hi), okb.readFolds_one ha fin hi, State.noteEcc]
  generalize (begun s).noteUncorrectable (8 * ((a + i) / 8)) 0 = t at *
  obtain ⟨shows, err⟩ := showsRefusal_portReject t p (c := 3) (max a (8 * ((a + i) / 8))) (by decide) (by decide)
  refine ⟨by simp [State.readError, State.emit, out]; rfl, by simpa [State.readError, State.emit, begun] using occ,
    showsRefusal_of_portRegs ports shows, err.trans (Nat.mod_eq_of_lt (by omega)), ?_, ?_⟩
  · exact (reg_portReject (s := t) (isPortReg_fst (by decide)) p 3 _).trans addr
  · exact (reg_portReject (s := t) (isPortReg_fst (by decide)) p 3 _).trans count

theorem Readable.readTx_collides {j : Nat} (hk : (if j = 0 then 0 else 4 * j - a % 4) < n) :
    let k := if j = 0 then 0 else 4 * j - a % 4
    let u := (begun s).readTx p a n none (some j) []
    ShowsBusy s u p.num ∧ u.occ = [⟨243, 0⟩]
      ∧ u.reg R.FST_CNT_COLLIDE = min 0xFFFFFFFF (s.reg R.FST_CNT_COLLIDE + 1) ∧ u.reg R.FST_COLLIDE_ADDR = (a + k) / 8 * 8 ∧ u.fst = s.fst
      ∧ (p = .hp2 → u.out = [.readData p (memBytes s.fst.mem a k ++ List.replicate (n - k) 0xFF)]) := by
  have okb : Readable (begun s) p a n := ok
  rw [State.readTx, if_pos ha, okb.collides ha fin hk, show (begun s).fst = s.fst from rfl]
  generalize (if j = 0 then 0 else 4 * j - a % 4) = k at *
  obtain ⟨occ, count, addr, regs⟩ := collideAt_spec (begun s) (b := a + k) (by omega)
  have out : ((begun s).collideAt (a + k)).out = [] := by simp [State.collideAt, begun]
  have fst : ((begun s).collideAt (a + k)).fst = s.fst := by simp [State.collideAt, begun]
  have front : (memBytes s.fst.mem a n).take k = memBytes s.fst.mem a k := by
    simp [memBytes, ← List.map_take, List.take_range, Nat.min_eq_left hk.le]
  have ports (b : Nat) (hb : isPortReg b = true) : ((begun s).collideAt (a + k)).reg b = s.reg b := by
    have lo : 0x44000 ≤ b := by simp [isPortReg] at hb; omega
    exact regs b (by simp only [R.FST_CNT_COLLIDE]; omega) (by simp only [R.FST_COLLIDE_ADDR]; omega)
  generalize (begun s).collideAt (a + k) = t at *
  obtain ⟨shows, occ', fst', regs', out'⟩ := readBusy_spec t p n k (memBytes s.fst.mem a n)
  refine ⟨showsBusy_of_portRegs ports shows, ?_, ?_, ?_, fst'.trans fst, fun h => ?_⟩
  · rw [occ', occ]
    rfl
  · exact (regs' _ (isPortReg_fst (by decide))).trans count
  · exact (regs' _ (isPortReg_fst (by decide))).trans addr
  · rw [← front]
    simpa [out] using out' h

end

/-- A read of the folds that is not ready at once (R375, R378). -/
theorem readTx_notReady (s : State) (p : Port) {a n : Nat} (h0 : 0 < n) (ha : inFolds a = true) (fin : a + n ≤ 0x80000000) :
    let u := (begun s).readTx p a n (some 0) none []
    ShowsBusy s u p.num ∧ u.occ = [] ∧ u.fst = s.fst ∧ (p = .hp2 → u.out = [.readData p (List.replicate n 0xFF)]) := by
  rw [State.readTx, if_pos ha, foldRead_notReady _ p fin h0]
  obtain ⟨shows, occ, fst, -, out⟩ := readBusy_spec (begun s) p n 0 ((List.range n).map fun i => (begun s).foldByte p (a + i))
  exact ⟨shows, occ, fst, fun h => by simpa [begun] using out h⟩

/-! ### The obligation -/

/-- Settles O20: each form of a read is computed from the state in which the command begins. -/
theorem registerReads : Obligations.RegisterReads := by
  intro s p dev a
  refine ⟨fun d h4 pil aux hd => ⟨fun hp => ?_, fun hdev => ?_⟩, fun h4 undef lt out => ?_, fun pair h8 => ?_, fun n ha fin ok => ⟨?_, fun i hi => ⟨?_, ?_⟩⟩,
    fun n j ha fin ok hk => ?_, fun n h0 ha fin => ?_⟩
  · rw [← readTx_register h4 pil aux hd]
    exact ends_qspiRead_host a 4 none none [] hp
  · rw [← readTx_register h4 pil aux hd]
    exact ends_i2cRead_hp2 a 4 none none [] hdev
  · rw [← readTx_undefined h4 undef lt out]
    exact readEnds_readTx s p dev a 4 none none []
  · have e := ends_pairRegisterLatch p a s rfl
    simp only [pair, h8, and_self, if_true] at e
    exact ⟨_, e, readTx_pair pair h8⟩
  · rw [← Readable.readTx ok ha fin]
    exact readEnds_readTx s p dev a n none none []
  · exact ⟨_, readEnds_readTx s p dev a n none none _, Readable.readTx_single ok ha fin hi⟩
  · exact ⟨_, readEnds_readTx s p dev a n none none _, Readable.readTx_double ok ha fin hi⟩
  · exact ⟨_, readEnds_readTx s p dev a n none (some j) [], Readable.readTx_collides ok ha fin hk⟩
  · exact ⟨_, readEnds_readTx s p dev a n (some 0) none [], readTx_notReady s p h0 ha fin⟩

end Sys2Proof.Laws
end

section
/-! Writes of a host port outside the folds (R368, R372, R375). -/

namespace Sys2Proof.Laws

open Sys2Proof Sys2Proof.Machine

/-! ### The two rows of a port's write -/

section
variable {s : State} {p : Port} {dev : BitVec 7} {same : Bool} {a : Word} {bs : List Byte}

theorem writeEnds_writeTx : WriteEnds s p dev same a bs (((begun s).cycle same).writeTx (.host p) a.toNat bs) := by
  refine ⟨fun hp => ends_qspiWrite p ⟨true, same⟩ a bs s (by simpa [Instr.wellFormed] using hp), ?_⟩
  rintro rfl hdev
  have e := ends_i2cWrite dev ⟨true, same⟩ a bs s rfl
  have hdev' : (begun s).isHp2 dev = true := hdev
  simp only [hdev', Bool.not_true, Bool.false_eq_true, if_false, if_true] at e
  exact e

theorem writeEnds_of_eq {u : State} (h : ((begun s).cycle same).writeTx (.host p) a.toNat bs = u) : WriteEnds s p dev same a bs u :=
  h ▸ writeEnds_writeTx

/-- That the flags of the cycle of a write count as its own is over with the write (R15). -/
theorem writeEnds_cycle {u : State} (h : WriteEnds s p dev same a bs u) : WriteEnds s p dev same a bs (u.cycle false) := by
  obtain ⟨byQspi, byI2c⟩ := h
  exact ⟨fun hp => (ends_cycle false).2 (byQspi hp), fun hp hdev => (ends_cycle false).2 (byI2c hp hdev)⟩

end

/-! ### A transaction that is not let through -/

/-- While a write of the port is held, its next one meets BUSY and nothing changes (R375). -/
theorem writeTx_held {s : State} {p : Port} (a : Nat) (bs : List Byte) (held : s.portHeld p = true) :
    s.writeTx (.host p) a bs = s.portBusy p := by
  simp only [State.writeTx, agentPort, held, if_true]

/-- What a rejected transaction of a host leaves: the refusal is an occurrence and in the port's registers, and nothing else changes (R372). -/
theorem writeParts_rejects {s : State} {p : Port} {ws : List WordPart} {w : WordPart} {c : Nat}
    (found : ws.find? (fun w => s.partCode (.host p) w != 0) = some w) (code : s.partCode (.host p) w = c) (h0 : c ≠ 0) (h8 : c < 8)
    (hw : w.addr < 2 ^ 32) :
    let u := s.writeParts (.host p) ws
    u.occ = s.occ ++ [⟨48 + c, 0⟩] ∧ u.shadow = s.shadow ∧ ShowsRefusal s u p.num c ∧ u.reg (R.HPT_P_ERR_ADDR p.num) = w.addr
      ∧ ∀ b, isPortReg b = false → u.reg b = s.reg b := by
  rw [writeParts_rejected found, code]
  have noted (b : Nat) : (s.refusal c).reg b = s.reg b := reg_raise s _ _ b
  obtain ⟨shows, err⟩ := showsRefusal_portReject (s.refusal c) p w.addr h0 h8
  refine ⟨by simp [State.refusal, State.raise], by simp [State.refusal], showsRefusal_of_portRegs (fun b _ => noted b) shows, ?_, fun b hb => ?_⟩
  · exact err.trans (Nat.mod_eq_of_lt hw)
  · exact (reg_portReject hb p c w.addr).trans (noted b)

theorem permits_le_two (s : State) (ag : Agent) (a : Nat) : s.permits ag a ≤ 2 := by
  unfold State.permits
  dsimp only
  repeat' split
  all_goals omega

/-- A part of a register is refused (R368). -/
theorem partCode_partial {s : State} {ag : Agent} {w : WordPart} (hlt : w.addr < 0x60000) (defined : definedWord w.addr = true)
    (ne : w.bytes ≠ []) (short : w.bytes.length < 4) : s.partCode ag w = 1 := by
  have pos := List.length_pos_of_ne_nil ne
  have part : w.bytes.length % 4 ≠ 0 := by omega
  simp [State.partCode, hlt, defined, part]

/-! ### A half-word of a front end's table -/

theorem tblShadowWord_cycle (s : State) (b : Bool) (a : Nat) : (s.cycle b).tblShadowWord a = s.tblShadowWord a := rfl

/-- A shadow word of a table written on the accepted state, when the cycle of the write is over (R15, R90). -/
theorem cycle_withTblShadow (s : State) (ag : Agent) (b : Bool) (m : SMap Word) :
    ({ (accepted s ag).cycle b with tblShadow := m } : State).cycle false = { accepted s ag with tblShadow := m } := by
  conv_rhs => rw [← accepted_cycle_cycle s ag b]
  rfl

/-- A shadow register written on the accepted state, when the cycle of the write is over (R13, R15). -/
theorem cycle_withShadow (s : State) (ag : Agent) (b : Bool) (m : SMap Word) :
    ({ (accepted s ag).cycle b with shadow := m } : State).cycle false = { accepted s ag with shadow := m } := by
  conv_rhs => rw [← accepted_cycle_cycle s ag b]
  rfl

theorem tblEngine_fe {a : Nat} : tblEngine a = some 2 ↔ 0x200000 ≤ a ∧ a < 0x210000 := by
  unfold tblEngine
  grind

/-- Two bytes of a front end's table entry go to its shadow word (R90). -/
theorem applyTable_half {s : State} {a : Nat} (b0 b1 : Byte) (fe : tblEngine a = some 2) (e0 : tblEntry a = true) (e1 : tblEntry (a + 1) = true) :
    s.applyTable (a / 4 * 4) (a % 4) [b0, b1] = { s with tblShadow := mput s.tblShadow (a / 4 * 4) (BitVec.ofNat 32
      (putBits (putBits (s.tblShadowWord (a / 4 * 4)).toNat (8 * (a % 4) + 7) (8 * (a % 4)) b0.toNat) (8 * (a % 4) + 15) (8 * (a % 4) + 8) b1.toNat)) } := by
  obtain ⟨lo, hi⟩ := tblEngine_fe.1 fe
  have at0 : a / 4 * 4 + a % 4 = a := by omega
  have at1 : a / 4 * 4 + (a % 4 + 1) = a + 1 := by omega
  have entry : (List.range [b0, b1].length).any (fun i => tblEntry (a / 4 * 4 + a % 4 + i)) = true :=
    List.any_eq_true.2 ⟨0, by simp, by simpa [at0] using e0⟩
  have noList : lineWord0 (a / 4 * 4) = false := by
    simp only [lineWord0, Bool.and_eq_false_iff, decide_eq_false_iff_not]
    omega
  rw [State.applyTable, if_neg (by omega), if_neg (by omega), entry]
  simp only [mergeBytes, at0, at1, e0, e1, noList, Bool.not_true, Bool.false_eq_true, if_false, if_true, Nat.mul_add, Nat.add_assoc, Nat.mul_one]

section
variable {s : State} {p : Port} {a : Nat} (same : Bool)

theorem writeTx_half (b0 b1 : Byte) (h2 : a % 2 = 0) (fe : tblEngine a = some 2) (can : CanWrite s (.host p) (a / 4 * 4))
    (e0 : tblEntry a = true) (e1 : tblEntry (a + 1) = true) :
    (((begun s).cycle same).writeTx (.host p) a [b0, b1]).cycle false =
      { accepted s (.host p) with tblShadow := mput s.tblShadow (a / 4 * 4) (BitVec.ofNat 32
        (putBits (putBits (s.tblShadowWord (a / 4 * 4)).toNat (8 * (a % 4) + 7) (8 * (a % 4)) b0.toNat) (8 * (a % 4) + 15) (8 * (a % 4) + 8) b1.toNat)) } := by
  obtain ⟨permitted, held⟩ := can
  obtain ⟨lo, hi⟩ := tblEngine_fe.1 fe
  have half {b : Nat} (h : tblEngine b = some 2) : tableUnit b = 2 := by simp only [tableUnit, h]
  have start : startOk a = true := by
    rw [startOk, if_pos (by omega), half fe]
    simpa using h2
  have fin : regionEnd a = 0x400000 := by
    rw [regionEnd, if_neg (by omega), if_neg (by omega), if_neg (by omega), if_pos (by omega)]
  have code : ((begun s).cycle same).partCode (.host p) ⟨a / 4 * 4, a % 4, [b0, b1]⟩ = 0 := by
    have off : a % 4 % 2 = 0 := by omega
    have reg : ¬a / 4 * 4 < 0x60000 := by omega
    have unit := half (b := a / 4 * 4) (tblEngine_fe.2 (by omega))
    have permitted : ((begun s).cycle same).permits (.host p) (a / 4 * 4) = 0 := permitted
    simp only [State.partCode, reg, if_false, unit, off]
    simpa using permitted
  have word : (accepted s (.host p)).tblShadowWord (a / 4 * 4) = s.tblShadowWord (a / 4 * 4) := by
    simp only [State.tblShadowWord, accepted_tblShadow, accepted_tbl]
  rw [writeTx_words (s := (begun s).cycle same) held (inFolds_low (by omega)) (by simp) start (by rw [fin]; simp; omega),
    splitWords_one _ (by simp) (by simp; omega), writeParts_one code (verdict_eq_zero _ (by simp; omega) (by simp; omega)), taken_begun,
    State.applyPart, if_neg (by simp; omega), applyTable_half b0 b1 fe e0 e1, shown_quiet (by rfl),
    tblShadowWord_cycle, word, State.cycle_tblShadow, accepted_tblShadow]
  exact cycle_withTblShadow s (.host p) same _

/-! ### A part of a register -/

theorem writeTx_partial {bs : List Byte} (h4 : a % 4 = 0) (hlt : a < 0x60000) (defined : definedWord a = true) (held : s.portHeld p = false)
    (ne : bs ≠ []) (short : bs.length < 4) :
    let u := ((begun s).cycle same).writeTx (.host p) a bs
    u.occ = [⟨49, 0⟩] ∧ ShowsRefusal s u p.num 1 ∧ u.reg (R.HPT_P_ERR_ADDR p.num) = a ∧ u.shadow = s.shadow
      ∧ ∀ b, isPortReg b = false → u.reg b = s.reg b := by
  have free : ∀ q, agentPort (.host p) = some q → ((begun s).cycle same).portHeld q = false := by
    rintro q ⟨⟩
    exact held
  have aligned : a / 4 * 4 = a := by omega
  have code : ((begun s).cycle same).partCode (.host p) ⟨a, 0, bs⟩ = 1 := partCode_partial hlt defined ne short
  rw [writeTx_words (s := (begun s).cycle same) free (inFolds_low (by omega)) (by omega) (startOk_of_aligned h4)
    (by rw [regionEnd_register hlt]; omega), splitWords_one _ ne (by omega), h4, aligned]
  obtain ⟨occ, shadow, shows, err, regs⟩ := writeParts_rejects (p := p) (ws := [⟨a, 0, bs⟩]) (w := ⟨a, 0, bs⟩) (by simp [code]) code
    (by decide) (by decide) (by simp only; omega)
  exact ⟨occ, showsRefusal_of_portRegs (fun _ _ => rfl) shows, err, shadow, regs⟩

/-! ### A burst of two registers -/

/-- A burst of two registers of one bank goes on to its two words. -/
theorem writeTx_burst (v0 v1 : Nat) (h4 : a % 4 = 0) (hlt : a < 0x28000) (held : s.portHeld p = false) :
    ((begun s).cycle same).writeTx (.host p) a (leBytes 4 v0 ++ leBytes 4 v1) =
      ((begun s).cycle same).writeParts (.host p) [⟨a, 0, leBytes 4 v0⟩, ⟨a + 4, 0, leBytes 4 v1⟩] := by
  have free : ∀ q, agentPort (.host p) = some q → ((begun s).cycle same).portHeld q = false := by
    rintro q ⟨⟩
    exact held
  have len : (leBytes 4 v0 ++ leBytes 4 v1).length = 8 := by simp [length_leBytes]
  rw [writeTx_words (s := (begun s).cycle same) free (inFolds_low (by omega)) (by omega) (startOk_of_aligned h4)
    (by rw [regionEnd_register (by omega), len]; omega), splitWords_cons _ h4 (length_leBytes 4 v0), splitWords_word _ _ (by omega)]

section
variable {v0 v1 : Nat} (h4 : a % 4 = 0) (hlt : a < 0x28000) (can : CanWrite s (.host p) a)
include h4 hlt can

/-- A burst whose second register is refused takes neither word (R372). -/
theorem writeTx_burst_refused (refused : s.permits (.host p) (a + 4) ≠ 0) :
    let u := ((begun s).cycle same).writeTx (.host p) a (leBytes 4 v0 ++ leBytes 4 v1)
    u.occ = [⟨48 + s.permits (.host p) (a + 4), 0⟩] ∧ u.shadow = s.shadow ∧ ShowsRefusal s u p.num (s.permits (.host p) (a + 4))
      ∧ u.reg (R.HPT_P_ERR_ADDR p.num) = a + 4 ∧ ∀ b, isPortReg b = false → u.reg b = s.reg b := by
  obtain ⟨permitted, held⟩ := can
  have first : ((begun s).cycle same).partCode (.host p) ⟨a, 0, leBytes 4 v0⟩ = 0 :=
    (partCode_word (by simp only; omega) rfl (length_leBytes 4 v0)).trans permitted
  have second : ((begun s).cycle same).partCode (.host p) ⟨a + 4, 0, leBytes 4 v1⟩ = s.permits (.host p) (a + 4) :=
    partCode_word (by simp only; omega) rfl (length_leBytes 4 v1)
  have le := permits_le_two s (.host p) (a + 4)
  rw [writeTx_burst same v0 v1 h4 hlt (held p rfl)]
  obtain ⟨occ, shadow, shows, err, regs⟩ := writeParts_rejects (p := p) (ws := [⟨a, 0, leBytes 4 v0⟩, ⟨a + 4, 0, leBytes 4 v1⟩])
    (w := ⟨a + 4, 0, leBytes 4 v1⟩) (by simp [first, second, refused]) second refused (by omega) (by simp only; omega)
  exact ⟨occ, shadow, showsRefusal_of_portRegs (fun _ _ => rfl) shows, err, regs⟩

/-- A burst of two plain registers of the RWS class takes both words into the shadow (R13, R372). -/
theorem writeTx_burst_taken {d e : RegDef} (plain : a / 0x4000 ∈ [2, 4, 5, 6, 8]) (permitted1 : s.permits (.host p) (a + 4) = 0)
    (bank : (a + 4) / 0x4000 = a / 0x4000) (hd : regDef? a = some d) (rd : d.rws = true) (he : regDef? (a + 4) = some e) (re : e.rws = true)
    (h0 : v0 < 2 ^ 32) (h1 : v1 < 2 ^ 32) (good0 : goodWord a (Nat.land v0 d.w) = true) (good1 : goodWord (a + 4) (Nat.land v1 e.w) = true) :
    (((begun s).cycle same).writeTx (.host p) a (leBytes 4 v0 ++ leBytes 4 v1)).cycle false =
      { accepted s (.host p) with shadow := mput (mput s.shadow a (BitVec.ofNat 32 (Nat.land v0 d.w))) (a + 4) (BitVec.ofNat 32 (Nat.land v1 e.w)) } := by
  obtain ⟨permitted0, held⟩ := can
  have first : ((begun s).cycle same).partCode (.host p) ⟨a, 0, leBytes 4 v0⟩ = 0 :=
    (partCode_word (by simp only; omega) rfl (length_leBytes 4 v0)).trans permitted0
  have second : ((begun s).cycle same).partCode (.host p) ⟨a + 4, 0, leBytes 4 v1⟩ = 0 :=
    (partCode_word (by simp only; omega) rfl (length_leBytes 4 v1)).trans permitted1
  have engine : a / 0x4000 ≠ 16 ∧ a / 0x4000 ≠ 10 := by
    simp only [List.mem_cons, List.not_mem_nil, or_false] at plain
    omega
  obtain ⟨n16, n10⟩ := engine
  have effect0 (t : State) : t.applyPart (.host p) ⟨a, 0, leBytes 4 v0⟩ = { t with shadow := mput t.shadow a (BitVec.ofNat 32 (Nat.land v0 d.w)) } := by
    rw [State.applyPart, if_pos (by simp only; omega), leNat_leBytes_four, Nat.mod_eq_of_lt h0, applyWord_plain _ _ _ (.inl plain),
      plainWord_shadow hd good0 rd]
  have effect1 (t : State) : t.applyPart (.host p) ⟨a + 4, 0, leBytes 4 v1⟩ =
      { t with shadow := mput t.shadow (a + 4) (BitVec.ofNat 32 (Nat.land v1 e.w)) } := by
    rw [State.applyPart, if_pos (by simp only; omega), leNat_leBytes_four, Nat.mod_eq_of_lt h1,
      applyWord_plain _ _ _ (.inl (by simpa only [bank] using plain)), plainWord_shadow he good1 re]
  have parts (t : State) : State.applyParts (.host p) [⟨a, 0, leBytes 4 v0⟩, ⟨a + 4, 0, leBytes 4 v1⟩] t (0, 0) = .ok
      ({ t with shadow := mput (mput t.shadow a (BitVec.ofNat 32 (Nat.land v0 d.w))) (a + 4) (BitVec.ofNat 32 (Nat.land v1 e.w)) }, 0, 0) := by
    rw [applyParts_cons _ _ (verdict_eq_zero _ n16 n10), effect0, newRefusal_same (by rfl), if_pos (.inl rfl),
      applyParts_cons _ _ (verdict_eq_zero _ (by simpa only [bank] using n16) (by simpa only [bank] using n10)), effect1,
      newRefusal_same (by rfl), if_pos (.inl rfl), State.applyParts]
  rw [writeTx_burst same v0 v1 h4 hlt (held p rfl), writeParts_applied (by simp [first, second]) (parts _), taken_begun]
  simp only [agentPort, if_true, State.cycle_shadow, accepted_shadow]
  exact cycle_withShadow s (.host p) same _

end

end

end Sys2Proof.Laws
end

section
/-! Writes of the fold window by a host (R262, R265, R273, R373, R467). -/

namespace Sys2Proof.Laws

open Sys2Proof Sys2Proof.Machine

/-! ### What a stored write leaves -/

theorem memWrite_append (m : List Host.Cell) (a : Nat) (xs ys : List Byte) :
    memWrite m a (xs ++ ys) = memWrite (memWrite m a xs) (a + xs.length) ys := by
  induction xs generalizing m a with
  | nil => rfl
  | cons x xs ih => simp [memWrite, ih, Nat.add_assoc, Nat.add_comm 1]

/-- The bytes written read as written. -/
theorem memBytes_memWrite (m : List Host.Cell) (a : Nat) (bs : List Byte) : memBytes (memWrite m a bs) a bs.length = bs := by
  refine List.ext_getElem (by simp [memBytes]) fun i _ h => ?_
  simp [memBytes, memByte_memWrite_inside bs m a i h]

theorem foldStatus_injective {m n : Nat} (h : R.FST_FOLD_STATUS m = R.FST_FOLD_STATUS n) : m = n := by
  simp only [R.FST_FOLD_STATUS] at h
  omega

/-- The state after bytes have been stored in folds: the memory, and of the registers the status words of their folds, with `LOST` ended. -/
structure Stored (s t : State) (a : Nat) (bs : List Byte) : Prop where
  mem : t.fst.mem = memWrite s.fst.mem a bs
  prev : t.fst.prevOwner = s.fst.prevOwner
  occ : t.occ = s.occ
  out : t.out = s.out
  regs : OnlyRegs s t ((foldsIn a bs.length).map R.FST_FOLD_STATUS)
  lost : ∀ nn ∈ foldsIn a bs.length, t.flag (F.FST_FOLD_STATUS_LOST nn) = false

theorem Stored.nil (s : State) (a : Nat) : Stored s s a [] := by
  refine ⟨rfl, rfl, rfl, rfl, fun _ _ => rfl, fun nn h => ?_⟩
  simp [foldsIn] at h

/-- Where no bytes are stored does not matter. -/
theorem Stored.of_nil {s t : State} {a : Nat} (h : Stored s t a []) (b : Nat) : Stored s t b [] := by
  obtain ⟨mem, prev, occ, out, regs, -⟩ := h
  refine ⟨mem, prev, occ, out, ?_, fun nn hn => ?_⟩
  · simpa [foldsIn] using regs
  · simp [foldsIn] at hn

/-- The folds of a range are those of its two parts. -/
theorem mem_foldsIn_append {a m n nn : Nat} (lo : 0x40000000 ≤ a) :
    nn ∈ foldsIn a (m + n) ↔ nn ∈ foldsIn a m ∨ nn ∈ foldsIn (a + m) n := by
  rw [mem_foldsIn lo, mem_foldsIn lo, mem_foldsIn (by omega)]
  unfold foldBase
  omega

/-- A register of no fold in a range is none of its status words. -/
theorem Stored.status {s t : State} {a : Nat} {bs : List Byte} (h : Stored s t a bs) {nn : Nat} (out : nn ∉ foldsIn a bs.length) :
    t.reg (R.FST_FOLD_STATUS nn) = s.reg (R.FST_FOLD_STATUS nn) := by
  refine h.regs _ fun mem => out ?_
  obtain ⟨m, hm, e⟩ := List.mem_map.1 mem
  rwa [← foldStatus_injective e]

/-- Bytes stored one part after the other are stored. -/
theorem Stored.append {s t u : State} {a : Nat} {xs ys : List Byte} (lo : 0x40000000 ≤ a) (h : Stored s t a xs) (k : Stored t u (a + xs.length) ys) :
    Stored s u a (xs ++ ys) := by
  have split {nn : Nat} : nn ∈ foldsIn a (xs ++ ys).length ↔ nn ∈ foldsIn a xs.length ∨ nn ∈ foldsIn (a + xs.length) ys.length := by
    rw [List.length_append]
    exact mem_foldsIn_append lo
  refine ⟨?_, k.prev.trans h.prev, k.occ.trans h.occ, k.out.trans h.out, fun b hb => ?_, fun nn hn => ?_⟩
  · rw [k.mem, h.mem, memWrite_append]
  · refine (k.regs b fun hk => hb ?_).trans (h.regs b fun hh => hb ?_)
    · obtain ⟨nn, hn, e⟩ := List.mem_map.1 hk
      exact List.mem_map.2 ⟨nn, split.2 (.inr hn), e⟩
    · obtain ⟨nn, hn, e⟩ := List.mem_map.1 hh
      exact List.mem_map.2 ⟨nn, split.2 (.inl hn), e⟩
  · by_cases late : nn ∈ foldsIn (a + xs.length) ys.length
    · exact k.lost nn late
    · have kept : u.flag (F.FST_FOLD_STATUS_LOST nn) = t.flag (F.FST_FOLD_STATUS_LOST nn) := by
        simp only [State.flag, State.get, F.FST_FOLD_STATUS_LOST, k.status late]
      exact kept.trans (h.lost nn ((split.1 hn).resolve_right late))

/-- The folds of bytes that end in the fold they begin in. -/
theorem mem_foldsIn_one {a n nn : Nat} (h : nn ∈ foldsIn a n) (one : foldOf (a + n - 1) = foldOf a) : nn = foldOf a := by
  unfold foldsIn at h
  split at h
  · cases h
  · obtain ⟨k, hk, rfl⟩ := List.mem_map.1 h
    rw [one, List.mem_range] at hk
    omega

theorem withFst_spec (s : State) (f : FstState) :
    let t : State := { s with fst := f }
    t.fst = f ∧ t.occ = s.occ ∧ t.out = s.out ∧ t.regs = s.regs := ⟨rfl, rfl, rfl, rfl⟩

/-- Bytes of one fold are stored, and `LOST` ends (R273). -/
theorem stored_foldWrite (s : State) {a : Nat} {bs : List Byte} (ne : bs ≠ []) (one : foldOf (a + bs.length - 1) = foldOf a) :
    Stored s (s.foldWrite a bs) a bs := by
  have full : bs.isEmpty = false := by simpa using ne
  have mem : foldOf a ∈ foldsIn a bs.length := by
    simp only [foldsIn, List.length_eq_zero_iff, ne, if_false, one, List.mem_map, List.mem_range]
    exact ⟨0, by omega, Nat.add_zero _⟩
  simp only [State.foldWrite, full, Bool.false_eq_true, if_false, State.each, List.foldl_cons, List.foldl_nil, one]
  obtain ⟨fst, occ, out, regs⟩ := withFst_spec s { s.fst with mem := memWrite s.fst.mem a bs }
  generalize ({ s with fst := { s.fst with mem := memWrite s.fst.mem a bs } } : State) = t at *
  refine ⟨by simp [fst], by simp [fst], by simp [occ], by simp [out], fun b hb => ?_, fun nn hn => ?_⟩
  · have other : b ≠ (F.FST_FOLD_STATUS_LOST (foldOf a)).addr := by
      rintro rfl
      exact hb (List.mem_map.2 ⟨_, mem, rfl⟩)
    rw [reg_putB_ne _ _ other, reg_putB_ne _ _ other, reg_congr regs]
  · rw [mem_foldsIn_one hn one]
    exact flag_putB_self _ _ _ (by simp [F.FST_FOLD_STATUS_LOST]) (by simp [F.FST_FOLD_STATUS_LOST])

theorem foldBase_lt_foldBase {m n : Nat} : foldBase m < foldBase n ↔ m < n := by
  unfold foldBase
  omega

theorem foldBase_le_foldBase {m n : Nat} : foldBase m ≤ foldBase n ↔ m ≤ n := by
  unfold foldBase
  omega

theorem foldOf_foldBase (nn : Nat) : foldOf (foldBase nn) = nn := foldOf_unique (Nat.le_refl _) (by unfold foldBase; omega)

/-! ### Folds that a port may write -/

/-- A fold takes a port's write: the port may write it, it is ON and does not wait (R262, R266, R273, R274). -/
def Writable (s : State) (p : Port) (nn : Nat) : Prop :=
  s.foldWriteCode p nn = 0 ∧ s.foldOn nn = true ∧ s.hostWaits p nn = false

/-- What a port's write of a fold meets depends on the fold's two registers, its previous owner and whether the part runs. -/
theorem foldWriteCode_congr {s t : State} {nn : Nat} (p : Port) (status : t.reg (R.FST_FOLD_STATUS nn) = s.reg (R.FST_FOLD_STATUS nn))
    (owner : t.reg (R.FST_FOLD_OWNER nn) = s.reg (R.FST_FOLD_OWNER nn)) (prev : t.fst.prevOwner = s.fst.prevOwner)
    (run : t.reg R.CFG_STATUS = s.reg R.CFG_STATUS) : t.foldWriteCode p nn = s.foldWriteCode p nn := by
  have before : t.beforeRun = s.beforeRun := by simp only [State.beforeRun, State.get, F.CFG_STATUS_STATE, run]
  rw [State.foldWriteCode, State.foldWriteCode, before, foldForeign_congr p status owner prev, owner]

theorem hostWaits_congr {s t : State} {nn : Nat} (p : Port) (status : t.reg (R.FST_FOLD_STATUS nn) = s.reg (R.FST_FOLD_STATUS nn))
    (owner : t.reg (R.FST_FOLD_OWNER nn) = s.reg (R.FST_FOLD_OWNER nn)) : t.hostWaits p nn = s.hostWaits p nn := by
  simp only [State.hostWaits, State.flag, State.get, F.FST_FOLD_STATUS_OWNER_CHANGING, F.FST_FOLD_STATUS_INIT, status, owner]

theorem Writable.congr {s t : State} {p : Port} {nn : Nat} (h : Writable s p nn) (status : t.reg (R.FST_FOLD_STATUS nn) = s.reg (R.FST_FOLD_STATUS nn))
    (owner : t.reg (R.FST_FOLD_OWNER nn) = s.reg (R.FST_FOLD_OWNER nn)) (prev : t.fst.prevOwner = s.fst.prevOwner)
    (run : t.reg R.CFG_STATUS = s.reg R.CFG_STATUS) : Writable t p nn := by
  obtain ⟨code, on, ready⟩ := h
  exact ⟨(foldWriteCode_congr p status owner prev run).trans code, (foldOn_congr status).trans on, (hostWaits_congr p status owner).trans ready⟩

/-- A store in some folds leaves the other ones writable. -/
theorem Stored.writable {s t : State} {p : Port} {a nn : Nat} {bs : List Byte} (h : Stored s t a bs) (out : nn ∉ foldsIn a bs.length)
    (bound : a + bs.length ≤ 0x80000000) (lo : 0x40000000 ≤ a) (w : Writable s p nn) : Writable t p nn := by
  have far {b : Nat} (hb : ∀ m < 64, b ≠ R.FST_FOLD_STATUS m) : t.reg b = s.reg b := by
    refine h.regs b fun mem => ?_
    obtain ⟨m, hm, e⟩ := List.mem_map.1 mem
    obtain ⟨-, start, -⟩ := (mem_foldsIn lo).1 hm
    exact hb m (by unfold foldBase at start; omega) e.symm
  refine w.congr (h.status out) (far fun m _ => ?_) h.prev (far fun m hm => ?_)
  · simp only [R.FST_FOLD_OWNER, R.FST_FOLD_STATUS]
    omega
  · simp only [R.CFG_STATUS, R.FST_FOLD_STATUS]
    omega

/-- The piece of a write in a fold that takes it. -/
theorem foldPiece_writable {s : State} {p : Port} {nn : Nat} (w : Writable s p nn) (held : Bool) (a : Nat) (bs : List Byte) :
    s.foldPiece p held nn a bs = (s.foldWrite a bs, 0) := by
  obtain ⟨code, on, -⟩ := w
  simp [State.foldPiece, code, on]

/-- A write of folds that all take it is stored, fold by fold (R373). -/
theorem foldStore_writable (p : Port) (held last : Bool) (fuel : Nat) : ∀ (s : State) (a : Nat) (bs : List Byte), 0x40000000 ≤ a →
    a + bs.length ≤ 0x80000000 → (bs ≠ [] → foldOf (a + bs.length - 1) < foldOf a + fuel) → (∀ nn ∈ foldsIn a bs.length, Writable s p nn) →
    ∃ t, (s.foldStore p held last fuel a bs).1 = t ∧ (s.foldStore p held last fuel a bs).2.1 = 0 ∧ Stored s t a bs := by
  induction fuel with
  | zero =>
    intro s a bs _ _ folds _
    obtain rfl : bs = [] := by
      by_contra ne
      have pos := List.length_pos_of_ne_nil ne
      have := folds ne
      unfold foldOf at this
      omega
    exact ⟨s, rfl, rfl, Stored.nil s a⟩
  | succ fuel ih =>
    intro s a bs lo bound folds writable
    by_cases ne : bs = []
    · subst ne
      exact ⟨s, rfl, rfl, Stored.nil s a⟩
    have pos := List.length_pos_of_ne_nil ne
    have full : bs.isEmpty = false := by simpa using ne
    obtain ⟨base, next⟩ := foldOf_spec lo
    have inside : ¬0x80000000 ≤ a := by omega
    generalize hk : foldBase (foldOf a + 1) - a = k
    have here := writable (foldOf a) ((mem_foldsIn lo).2 ⟨pos, by omega, next⟩)
    have top : a + k ≤ 0x80000000 := by
      have := foldBase_le_foldBase.2 (show foldOf a + 1 ≤ 64 by unfold foldOf; omega)
      simp only [show foldBase 64 = 0x80000000 from rfl] at this
      omega
    have takeLen : (bs.take k).length = min k bs.length := List.length_take
    have step : s.foldStore p held last (fuel + 1) a bs =
        (s.foldWrite a (bs.take k)).foldStore p held last fuel (a + k) (bs.drop k) := by
      simp only [State.foldStore, full, inside, here.2.2, hk, foldPiece_writable here, Bool.false_eq_true, if_false, Bool.false_and, ne_eq,
        not_true_eq_false]
    have piece : Stored s (s.foldWrite a (bs.take k)) a (bs.take k) := by
      refine stored_foldWrite s ?_ (foldOf_unique ?_ ?_)
      · exact List.ne_nil_of_length_pos (by omega)
      · omega
      · omega
    have dropLen : (bs.drop k).length = bs.length - k := List.length_drop
    have start : foldOf (a + k) = foldOf a + 1 := by
      rw [show a + k = foldBase (foldOf a + 1) by omega, foldOf_foldBase]
    have rest {nn : Nat} (h : nn ∈ foldsIn (a + k) (bs.drop k).length) : nn ∈ foldsIn a bs.length ∧ nn ∉ foldsIn a (bs.take k).length := by
      rw [mem_foldsIn (by omega)] at h
      have above : foldOf a + 1 < nn + 1 := foldBase_lt_foldBase.1 (by omega)
      have base_le := foldBase_le_foldBase.2 (Nat.le_of_lt_succ above)
      rw [mem_foldsIn lo, mem_foldsIn lo]
      omega
    have folds' (more : bs.drop k ≠ []) : foldOf (a + k + (bs.drop k).length - 1) < foldOf (a + k) + fuel := by
      have := List.length_pos_of_ne_nil more
      have := folds ne
      rw [start, show a + k + (bs.drop k).length - 1 = a + bs.length - 1 by omega]
      omega
    obtain ⟨t, state, code, stored⟩ := ih (s.foldWrite a (bs.take k)) (a + k) (bs.drop k) (by omega)
      (by omega) folds' fun nn h => piece.writable (rest h).2 (by omega) lo (writable nn (rest h).1)
    have stored : Stored (s.foldWrite a (bs.take k)) t (a + (bs.take k).length) (bs.drop k) := by
      by_cases more : k < bs.length
      · rwa [takeLen, Nat.min_eq_left more.le]
      · have none : bs.drop k = [] := List.drop_eq_nil_of_le (by omega)
        rw [none] at stored ⊢
        exact stored.of_nil _
    rw [step]
    exact ⟨t, state, code, List.take_append_drop k bs ▸ piece.append lo stored⟩

end Sys2Proof.Laws
end

section
/-! What the writes of O21 leave, form by form. -/

namespace Sys2Proof.Laws

open Sys2Proof Sys2Proof.Machine

/-! ### The fold that ends or holds a write -/

section
variable {s : State} {p : Port} {a : Nat} {bs : List Byte} (ne : bs ≠ []) (hi : a < 0x80000000) (last : Bool) (fuel : Nat)
include ne hi

/-- Bytes whose first fold waits are held (R265, R273, R467). -/
theorem foldStore_waits (run : s.beforeRun = false) (waits : s.hostWaits p (foldOf a) = true) :
    s.foldStore p false last (fuel + 1) a bs = (s.holdBytes p last a bs, 0, a) := by
  have full : bs.isEmpty = false := by simpa using ne
  have inside : ¬0x80000000 ≤ a := by omega
  simp only [State.foldStore, full, inside, run, waits, Bool.false_eq_true, if_false, Bool.not_false, Bool.and_self, if_true]

/-- Bytes whose first fold the port may not write are refused there (R262, R266). -/
theorem foldStore_refused (ready : s.hostWaits p (foldOf a) = false) (code : s.foldWriteCode p (foldOf a) ≠ 0) :
    s.foldStore p false last (fuel + 1) a bs =
      (s.countIf (s.foldForeign p (foldOf a)) R.FST_CNT_FOREIGN, s.foldWriteCode p (foldOf a), a) := by
  have full : bs.isEmpty = false := by simpa using ne
  have inside : ¬0x80000000 ≤ a := by omega
  simp only [State.foldStore, State.foldPiece, full, inside, ready, code, ne_eq, not_false_eq_true, Bool.false_eq_true, if_false, Bool.false_and,
    Bool.false_or, if_true]

end

theorem foldWriteCode_le_two (s : State) (p : Port) (nn : Nat) : s.foldWriteCode p nn ≤ 2 := by
  unfold State.foldWriteCode
  dsimp only
  repeat' split
  all_goals omega

theorem reg_countIf_ne (s : State) (x : Bool) {a b : Nat} (h : b ≠ a) : (s.countIf x a).reg b = s.reg b := by
  cases x
  · rfl
  · exact reg_count_ne s 1 h

theorem holdBytes_spec (s : State) (p : Port) (last : Bool) (a : Nat) (bs : List Byte) :
    let t := s.holdBytes p last a bs
    (mget ({} : HptPort) t.hpt p.num).held = some ⟨a, bs⟩ ∧ t.fst = s.fst ∧ t.occ = s.occ := by
  refine ⟨?_, rfl, rfl⟩
  simp only [State.holdBytes, mupd, mget_mset_self]

/-! ### A transaction on the folds -/

theorem writeTx_folds {s : State} {p : Port} {a : Nat} (bs : List Byte) (held : s.portHeld p = false) (ha : inFolds a = true) :
    s.writeTx (.host p) a bs = s.foldTx p a bs := by
  simp only [State.writeTx, agentPort, held, ha, Bool.false_eq_true, if_false, if_true]

/-- A transaction that no fold ends. -/
theorem foldTx_stored {s t : State} {p : Port} {a : Nat} {bs : List Byte} (state : ((s.portAccept p).foldStore p false true 65 a bs).1 = t)
    (code : ((s.portAccept p).foldStore p false true 65 a bs).2.1 = 0) : s.foldTx p a bs = t := by
  unfold State.foldTx
  generalize (s.portAccept p).foldStore p false true 65 a bs = r at *
  obtain ⟨x, c, b⟩ := r
  simp only at state code
  simp only [code, if_true, state]

/-- A transaction that a fold ends is not accepted (R372). -/
theorem foldTx_refused {s t : State} {p : Port} {a b c : Nat} {bs : List Byte} (taken : ((s.portAccept p).foldStore p false true 65 a bs).2.1 ≠ 0)
    (plain : s.foldStore p false true 65 a bs = (t, c, b)) : s.foldTx p a bs = (t.refusal c).portReject p c b := by
  unfold State.foldTx
  generalize (s.portAccept p).foldStore p false true 65 a bs = r at *
  obtain ⟨x, c', b'⟩ := r
  simp only at taken
  simp only [taken, if_false, plain]

/-! ### The folds in the accepted state -/

theorem reg_cycle (s : State) (same : Bool) (b : Nat) : (s.cycle same).reg b = s.reg b := rfl

section
variable {s : State} {p : Port} (same : Bool)

/-- The state in which the bytes of a write of the folds are stored. -/
theorem portAccept_begun : ((begun s).cycle same).portAccept p = (accepted s (.host p)).cycle same := taken_begun s (.host p) same

/-- A register that is no port's is in the accepted state as it was. -/
theorem reg_accepted_cycle {b : Nat} (h : isPortReg b = false) : ((accepted s (.host p)).cycle same).reg b = s.reg b :=
  (reg_cycle _ same b).trans (reg_accepted h _)

theorem prevOwner_accepted : ((accepted s (.host p)).cycle same).fst.prevOwner = s.fst.prevOwner := by rw [State.cycle_fst, accepted_fst]

/-- The registers that decide on an access to a fold are no port's. -/
theorem isPortReg_fold {nn : Nat} (h : nn < 64) :
    isPortReg (R.FST_FOLD_STATUS nn) = false ∧ isPortReg (R.FST_FOLD_OWNER nn) = false ∧ isPortReg R.CFG_STATUS = false := by
  refine ⟨isPortReg_fst ?_, isPortReg_fst ?_, rfl⟩
  · simp only [R.FST_FOLD_STATUS]; omega
  · simp only [R.FST_FOLD_OWNER]; omega

section
variable {nn : Nat} (h : nn < 64)
include h

theorem hostWaits_accepted : ((accepted s (.host p)).cycle same).hostWaits p nn = s.hostWaits p nn := by
  obtain ⟨status, owner, -⟩ := isPortReg_fold h
  exact hostWaits_congr p (reg_accepted_cycle same status) (reg_accepted_cycle same owner)

theorem foldWriteCode_accepted : ((accepted s (.host p)).cycle same).foldWriteCode p nn = s.foldWriteCode p nn := by
  obtain ⟨status, owner, run⟩ := isPortReg_fold h
  exact foldWriteCode_congr p (reg_accepted_cycle same status) (reg_accepted_cycle same owner) (prevOwner_accepted same) (reg_accepted_cycle same run)

theorem Writable.accepted (w : Writable s p nn) : Writable ((accepted s (.host p)).cycle same) p nn := by
  obtain ⟨status, owner, run⟩ := isPortReg_fold h
  exact w.congr (reg_accepted_cycle same status) (reg_accepted_cycle same owner) (prevOwner_accepted same) (reg_accepted_cycle same run)

end

theorem beforeRun_accepted : ((accepted s (.host p)).cycle same).beforeRun = s.beforeRun := by
  simp only [State.beforeRun, State.get, F.CFG_STATUS_STATE, reg_accepted_cycle (s := s) (p := p) same (b := R.CFG_STATUS) rfl]

end

/-! ### The writes of the folds -/

theorem foldOf_lt {a : Nat} (h : inFolds a = true) : foldOf a < 64 := by
  have hi : a < 0x80000000 := by simp [inFolds] at h; omega
  unfold foldOf
  omega

section
variable {s : State} {p : Port} {a : Nat} {bs : List Byte} (same : Bool) (held : s.portHeld p = false) (ha : inFolds a = true)
include held ha

/-- Bytes for folds that all take them are stored there and nowhere else, and `LOST` ends (R273, R373). -/
theorem writeTx_stored (fin : a + bs.length ≤ 0x80000000) (writable : ∀ nn ∈ foldsIn a bs.length, Writable s p nn) :
    let u := ((begun s).cycle same).writeTx (.host p) a bs
    u.fst.mem = memWrite s.fst.mem a bs ∧ (∀ nn ∈ foldsIn a bs.length, u.flag (F.FST_FOLD_STATUS_LOST nn) = false) ∧ u.occ = [] ∧ u.out = []
      ∧ OnlyRegs (accepted s (.host p)) u ((foldsIn a bs.length).map R.FST_FOLD_STATUS) := by
  have free : ((begun s).cycle same).portHeld p = false := held
  have lo := le_of_inFolds ha
  obtain ⟨t, state, code, stored⟩ := foldStore_writable p false true 65 ((accepted s (.host p)).cycle same) a bs lo fin
    (fun _ => by unfold foldOf; omega) fun nn h => (writable nn h).accepted same (lt_of_mem_foldsIn ha fin h)
  rw [← portAccept_begun] at state code
  rw [writeTx_folds bs free ha, foldTx_stored state code]
  refine ⟨?_, stored.lost, ?_, ?_, fun b hb => (stored.regs b hb).trans (reg_cycle _ same b)⟩
  · rw [stored.mem, State.cycle_fst, accepted_fst]
  · rw [stored.occ, State.cycle_occ, accepted_occ]
  · rw [stored.out, State.cycle_out, accepted_out]

/-- Bytes whose first fold waits are held until the wait ends (R265, R273, R467). -/
theorem writeTx_waits (ne : bs ≠ []) (run : s.beforeRun = false) (waits : s.hostWaits p (foldOf a) = true) :
    let u := ((begun s).cycle same).writeTx (.host p) a bs
    (mget ({} : HptPort) u.hpt p.num).held = some ⟨a, bs⟩ ∧ u.portHeld p = true ∧ u.fst = s.fst ∧ u.occ = [] := by
  have free : ((begun s).cycle same).portHeld p = false := held
  have hi : a < 0x80000000 := by simp [inFolds] at ha; omega
  have store := foldStore_waits (s := (accepted s (.host p)).cycle same) (p := p) ne hi true 64 ((beforeRun_accepted same).trans run)
    ((hostWaits_accepted same (foldOf_lt ha)).trans waits)
  rw [← portAccept_begun] at store
  rw [writeTx_folds bs free ha, foldTx_stored (congrArg Prod.fst store) (congrArg (·.2.1) store), portAccept_begun]
  obtain ⟨kept, fst, occ⟩ := holdBytes_spec ((accepted s (.host p)).cycle same) p true a bs
  refine ⟨kept, ?_, ?_, ?_⟩
  · rw [State.portHeld, kept]
    rfl
  · rw [fst, State.cycle_fst, accepted_fst]
  · rw [occ, State.cycle_occ, accepted_occ]

/-- Bytes whose first fold the port may not write are refused (R262, R266, R372). -/
theorem writeTx_foreign (ne : bs ≠ []) (ready : s.hostWaits p (foldOf a) = false) (code : s.foldWriteCode p (foldOf a) ≠ 0) :
    let u := ((begun s).cycle same).writeTx (.host p) a bs
    u.occ = [⟨48 + s.foldWriteCode p (foldOf a), 0⟩] ∧ u.fst = s.fst ∧ ShowsRefusal s u p.num (s.foldWriteCode p (foldOf a))
      ∧ u.reg (R.HPT_P_ERR_ADDR p.num) = a := by
  have free : ((begun s).cycle same).portHeld p = false := held
  have hi : a < 0x80000000 := by simp [inFolds] at ha; omega
  have sameCode := foldWriteCode_accepted (s := s) (p := p) same (foldOf_lt ha)
  have store := foldStore_refused (s := (accepted s (.host p)).cycle same) (p := p) ne hi true 64
    ((hostWaits_accepted same (foldOf_lt ha)).trans ready) (by rwa [sameCode])
  have taken : (((accepted s (.host p)).cycle same).foldStore p false true 65 a bs).2.1 ≠ 0 := by
    rw [store]
    exact sameCode.trans_ne code
  rw [← portAccept_begun] at taken
  have plain := foldStore_refused (s := (begun s).cycle same) (p := p) ne hi true 64 ready code
  rw [writeTx_folds bs free ha, foldTx_refused taken plain]
  have le := foldWriteCode_le_two s p (foldOf a)
  rw [show ((begun s).cycle same).foldWriteCode p (foldOf a) = s.foldWriteCode p (foldOf a) from rfl]
  generalize s.foldWriteCode p (foldOf a) = c at *
  generalize ((begun s).cycle same).foldForeign p (foldOf a) = foreign
  have before (b : Nat) (hb : isPortReg b = true) : ((((begun s).cycle same).countIf foreign R.FST_CNT_FOREIGN).refusal c).reg b = s.reg b := by
    have lo : 0x44000 ≤ b := by simp [isPortReg] at hb; omega
    exact (reg_raise _ _ _ b).trans (reg_countIf_ne _ _ (by simp only [R.FST_CNT_FOREIGN]; omega))
  obtain ⟨shows, err⟩ := showsRefusal_portReject ((((begun s).cycle same).countIf foreign R.FST_CNT_FOREIGN).refusal c) p a code (by omega)
  refine ⟨?_, ?_, showsRefusal_of_portRegs before shows, err.trans (Nat.mod_eq_of_lt (by omega))⟩
  · simp [State.refusal, State.raise, begun]
  · simp [begun]

end

/-! ### The obligation -/

/-- Settles O21: each form of a write is computed from the state in which the command begins. -/
theorem hostPortWrites : Obligations.HostPortWrites := by
  intro s p dev same a bs
  refine ⟨fun held => ?_, fun held ne ha fin => ⟨fun run folds => ?_, fun run waits => ?_, fun ready code => ?_⟩, ?_,
    fun h4 hlt defined held ne short => ⟨_, writeEnds_writeTx, writeTx_partial same h4 hlt defined held ne short⟩, ?_⟩
  · refine ⟨_, writeEnds_of_eq (writeTx_held a.toNat bs held), showsBusy_of_portRegs (fun _ _ => rfl) (showsBusy_portBusy _ p), by simp [begun],
      by simp [begun], by simp [begun], by simp [begun], by simp [begun], fun b hb => reg_portBusy (s := (begun s).cycle same) hb p⟩
  · have writable : ∀ nn ∈ foldsIn a.toNat bs.length, Writable s p nn := fun nn h => by
      simpa [Writable, and_assoc] using List.all_eq_true.1 folds nn h
    obtain ⟨mem, lost, occ, out, regs⟩ := writeTx_stored same held ha fin writable
    refine ⟨_, writeEnds_writeTx, mem, ?_, fun b hb => ?_, lost, occ, out, regs⟩
    · rw [mem, memBytes_memWrite]
    · rw [mem, memByte_memWrite_outside _ _ _ _ hb]
  · exact ⟨_, writeEnds_writeTx, writeTx_waits same held ha ne run waits⟩
  · exact ⟨_, writeEnds_writeTx, writeTx_foreign same held ha ne ready code⟩
  · rintro b0 b1 rfl h2 fe can e0 e1
    have ends := writeEnds_cycle (writeEnds_writeTx (s := s) (p := p) (dev := dev) (same := same) (a := a) (bs := [b0, b1]))
    rwa [writeTx_half same b0 b1 h2 fe can e0 e1] at ends
  · rintro v0 v1 rfl h4 plain can
    have hlt : a.toNat < 0x28000 := by
      simp only [List.mem_cons, List.not_mem_nil, or_false] at plain
      omega
    refine ⟨fun refused => ⟨_, writeEnds_writeTx, writeTx_burst_refused same h4 hlt can refused⟩, fun d e permitted bank hd rd he re good0 good1 => ?_⟩
    have ends := writeEnds_cycle (writeEnds_writeTx (s := s) (p := p) (dev := dev) (same := same) (a := a)
      (bs := leBytes 4 v0.toNat ++ leBytes 4 v1.toNat))
    rwa [writeTx_burst_taken same h4 hlt can plain permitted bank hd rd he re v0.isLt v1.isLt good0 good1] at ends

end Sys2Proof.Laws
end

section
/-! A good read of a block slot by the store-mode reader (R237, R240, R266). -/

namespace Sys2Proof.Laws

open Sys2Proof Sys2Proof.Machine

/-! ### An owner's read of folds that are its own -/

/-- A shorter range touches no other folds. -/
theorem foldsIn_mono {a m n nn : Nat} (ha : inFolds a = true) (le : m ≤ n) (h : nn ∈ foldsIn a m) : nn ∈ foldsIn a n := by
  have lo := le_of_inFolds ha
  rw [mem_foldsIn lo] at h ⊢
  omega

/-- A read of folds that their owner may use, with no word in error, is good and leaves the state as it is (R262, R266). -/
theorem ownerRead_good {s : State} {own a n : Nat} (cls : Nat) (ha : inFolds a = true) (miss : ∀ nn ∈ foldsIn a n, s.ownerMiss own nn = 0) :
    s.ownerRead own a n [] cls = (true, s) := by
  rw [State.ownerRead, State.readFolds, if_neg (by simp [ha])]
  generalize foldsIn a n = l at *
  induction l with
  | nil => rfl
  | cons nn l ih =>
    rw [List.foldl_cons]
    simp only [miss nn (by simp), ne_eq, not_true_eq_false, if_false, checkWords_none s _ _ cls (ecc := []) (by simp), Bool.and_self]
    exact ih fun m h => miss m (by simp [h])

theorem segSpan_le (m : List Host.Cell) (a n : Nat) : segSpan m a (a + n) ≤ n := by
  unfold segSpan
  omega

/-- A slot whose folds the source role owns and whose segment decodes is read without an effect (R237, R240). -/
theorem readSlot_good {s : State} {b i len : Nat} {l : BufLayout} {c : List (List Nat)} (cls : Nat) (ha : inFolds (s.slotAddr b l.comps i) = true)
    (miss : ∀ nn ∈ foldsIn (s.slotAddr b l.comps i) (slotSize l.comps), s.ownerMiss 1 nn = 0)
    (decodes : segAt s.fst.mem l.comps 12 (s.slotAddr b l.comps i) (s.slotAddr b l.comps i + slotSize l.comps) = .ok (c, len)) :
    s.readSlot b l i [] cls = (some c, s) := by
  have read := ownerRead_good cls ha fun nn h => miss nn (foldsIn_mono ha (segSpan_le s.fst.mem (s.slotAddr b l.comps i) _) h)
  simp only [State.readSlot, State.ownerSegment, memSegment, read, decodes, if_true]
  rfl

/-- The reader does not wait for folds of which none is in initialisation or in handover (R265, R273). -/
theorem slotsWait_one {s : State} {b comps i : Nat} (ha : inFolds (s.slotAddr b comps i) = true) (writes : s.writesWait 1 = false)
    (ready : ∀ nn ∈ foldsIn (s.slotAddr b comps i) (slotSize comps), s.ownerWaits 1 nn = false) : s.slotsWait b comps [i] = false := by
  have two : 2 ≤ slotSize comps := by
    unfold slotSize
    split <;> omega
  have range : s.rangeWaits 1 (s.slotAddr b comps i) 2 = false :=
    List.any_eq_false.2 fun nn h => by simp [ready nn (foldsIn_mono ha two h)]
  simp [State.slotsWait, writes, range]

/-! ### The pixels of a block -/

theorem pixKey_injective {x y x' y' : Nat} (hx : x < 16384) (hx' : x' < 16384) (h : pixKey x y = pixKey x' y') : x = x' ∧ y = y' := by
  unfold pixKey at h
  omega

/-- A map into which entries are set where a condition holds: one reads as set, if no other has its key. -/
theorem mget_foldl_mset {α : Type} [DecidableEq α] (d : α) (key : Nat → Nat) (val : Nat → α) (c : Nat → Prop) [DecidablePred c] {l : List Nat}
    {v : Nat} (hv : v ∈ l) (hc : c v) (inj : ∀ w ∈ l, c w → key w = key v → w = v) (m : SMap α) :
    mget d (l.foldl (fun m w => if c w then mset d m (key w) (val w) else m) m) (key v) = val v := by
  induction l using List.reverseRecOn with
  | nil => cases hv
  | append_singleton l w ih =>
    rw [List.foldl_append, List.foldl_cons, List.foldl_nil]
    by_cases same : w = v
    · rw [same, if_pos hc, mget_mset_self]
    · have rest := ih (by simpa [Ne.symm same] using hv) fun x hx => inj x (by simp [hx])
      split
      · next cw => rw [mget_mset_ne d _ _ fun e => same (inj w (by simp) cw e.symm), rest]
      · exact rest

/-- The sample of a position within a block (R279). -/
theorem segSample_block (c : List (List Nat)) (bx bY k : Nat) {v : Nat} (h : v < 256) :
    segSample c (64 * bx + v % 64) (4 * bY + v / 64) k = (c.getD k []).getD v 0 := by
  rw [segSample]
  congr 1
  omega

/-- The pixel of a position within a block. -/
theorem slotPixel_block (comps : Nat) (c : List (List Nat)) (bx bY : Nat) {v : Nat} (h : v < 256) :
    slotPixel comps c (64 * bx + v % 64) (4 * bY + v / 64) =
      ⟨⟨(c.getD 0 []).getD v 0, (c.getD 1 []).getD v 0, (c.getD 2 []).getD v 0⟩, if comps = 4 then (c.getD 3 []).getD v 0 % 4 else 0⟩ := by
  simp only [slotPixel, segSample_block c bx bY _ h]

theorem readPix_readBlock (s : State) (l : BufLayout) (bx bY i : Nat) (c : List (List Nat)) :
    (s.readBlock l bx bY i c).srf.readPix = (List.range 256).foldl (fun m v =>
      if 64 * bx + v % 64 < l.w ∧ 4 * bY + v / 64 < l.h then
        mset InPixel.zero m (pixKey (64 * bx + v % 64) (4 * bY + v / 64)) (slotPixel l.comps c (64 * bx + v % 64) (4 * bY + v / 64))
      else m) s.srf.readPix := by
  unfold State.readBlock
  with_reducible rfl

/-- Beside the pixels, the reader notes the block slot. -/
theorem readBlock_frame (s : State) (l : BufLayout) (bx bY i : Nat) (c : List (List Nat)) :
    s.readBlock l bx bY i c =
      { s with srf := { s.srf with readPix := (s.readBlock l bx bY i c).srf.readPix, readSlots := i :: s.srf.readSlots } } := by
  unfold State.readBlock
  with_reducible rfl

/-- The reader puts a block's samples at their positions (R237). -/
theorem readBlock_pixel (s : State) {l : BufLayout} {bx bY v : Nat} (i : Nat) (c : List (List Nat)) (width : l.w ≤ 16384) (hv : v < 256)
    (hx : 64 * bx + v % 64 < l.w) (hy : 4 * bY + v / 64 < l.h) :
    mget ⟨⟨0, 0, 0⟩, 0⟩ (s.readBlock l bx bY i c).srf.readPix (pixKey (64 * bx + v % 64) (4 * bY + v / 64)) =
      slotPixel l.comps c (64 * bx + v % 64) (4 * bY + v / 64) := by
  rw [readPix_readBlock]
  refine mget_foldl_mset InPixel.zero _ _ _ (List.mem_range.2 hv) ⟨hx, hy⟩ ?_ s.srf.readPix
  rintro w - ⟨hw, -⟩ same
  obtain ⟨ex, ey⟩ := pixKey_injective (by omega) (by omega) same
  omega

/-- A read that does not wait and that is good takes the block and does nothing else (R237, R240). -/
theorem storeRead_good {s : State} {bx bY : Nat} {l : BufLayout} {c : List (List Nat)} {ecc : EccMap} (layout : s.layoutOf s.srf.readBuf = some l)
    (hbx : bx < l.cols) (hi : bY * l.cols + bx < l.slots) (waits : s.slotsWait s.srf.readBuf l.comps [bY * l.cols + bx] = false)
    (read : s.readSlot s.srf.readBuf l (bY * l.cols + bx) ecc 3 = (some c, s)) :
    s.storeRead bx bY ecc = s.readBlock l bx bY (bY * l.cols + bx) c := by
  have go : ¬(l.cols ≤ bx ∨ l.slots ≤ bY * l.cols + bx ∨ s.slotsWait s.srf.readBuf l.comps [bY * l.cols + bx] = true) := by
    simp only [waits, Bool.false_eq_true, or_false]
    omega
  simp only [State.storeRead, layout, go, if_false, read]

/-- A source buffer that has held no frame gives the reader nothing (R237). -/
theorem storeRead_empty {s : State} (bx bY : Nat) (ecc : EccMap) (layout : s.layoutOf s.srf.readBuf = none) : s.storeRead bx bY ecc = s := by
  simp only [State.storeRead, layout]

/-! ### The obligation -/

/-- Settles O36: the read finds every fold ready and every word good, so that its one effect is to take the block. -/
theorem storeModeReads : Obligations.StoreModeReads := by
  intro s bx bY l c len ecc eccBack
  refine ⟨fun layout width hbx hi ha folds writes decodes => ?_, fun none => ?_⟩
  · have waits := slotsWait_one (s := begun s) ha writes fun nn h => (folds nn h).2
    have read := readSlot_good (s := begun s) 3 ha (fun nn h => (folds nn h).1) decodes
    have ends : Ends (.storeModeRead bx bY [] []) s ((begun s).storeRead bx bY []) := ends_storeModeRead bx bY [] [] s rfl
    rw [storeRead_good (s := begun s) layout hbx hi waits read] at ends
    refine ⟨_, ends, readBlock_frame _ l bx bY _ c, fun v hv hx hy => ?_⟩
    rw [readBlock_pixel _ _ c width hv hx hy, slotPixel_block l.comps c bx bY hv]
  · have ends : Ends (.storeModeRead bx bY ecc eccBack) s ((begun s).storeRead bx bY (ecc ++ eccBack)) := ends_storeModeRead bx bY ecc eccBack s rfl
    rwa [storeRead_empty (s := begun s) bx bY _ none] at ends

end Sys2Proof.Laws
end

section
/-! The causes of self-refresh (R241, Table 10.1): what setting and clearing one changes. -/

namespace Sys2Proof.Laws

open Sys2Proof Sys2Proof.Machine

@[simp] theorem accepted_srf (s : State) (ag : Agent) : (accepted s ag).srf = s.srf := by unfold accepted; split <;> simp [begun]
@[simp] theorem accepted_pil (s : State) (ag : Agent) : (accepted s ag).pil = s.pil := by unfold accepted; split <;> simp [begun]

/-- A write that raises nothing, by a command of its own, has its effect on the accepted state. -/
theorem ends_asWrite_quiet {c : Instr} {s : State} {ag : Agent} {a : Nat} {eff : State → State} (can : CanWrite s ag a)
    (quiet : (eff (accepted s ag)).occ = []) (ends : Ends c s ((begun s).asWrite ag a eff)) : Ends c s (eff (accepted s ag)) := by
  rwa [asWrite_quiet can eff (newRefusal_same (by rw [quiet, accepted_occ]))] at ends

/-! ### The engine goes on -/

/-- The start of the next copy changes what the copy engine is to do, and nothing else. -/
theorem srfKick_frame (s : State) : s.srfKick = { s with srf := { s.srf with
    fillDue := s.srfKick.srf.fillDue, inFlight := s.srfKick.srf.inFlight, rollbacks := s.srfKick.srf.rollbacks, echoes := s.srfKick.srf.echoes } } := by
  unfold State.srfKick
  dsimp only
  repeat' split
  all_goals rfl

@[simp] theorem srfKick_regs (s : State) : s.srfKick.regs = s.regs := by rw [srfKick_frame]
@[simp] theorem srfKick_occ (s : State) : s.srfKick.occ = s.occ := by rw [srfKick_frame]
@[simp] theorem srfKick_out (s : State) : s.srfKick.out = s.out := by rw [srfKick_frame]
@[simp] theorem srfKick_fst (s : State) : s.srfKick.fst = s.fst := by rw [srfKick_frame]
@[simp] theorem srfKick_exiting (s : State) : s.srfKick.srf.exiting = s.srf.exiting := by rw [srfKick_frame]
@[simp] theorem srfKick_complete (s : State) : s.srfKick.srf.complete = s.srf.complete := by rw [srfKick_frame]
@[simp] theorem srfKick_swapped (s : State) : s.srfKick.srf.swapped = s.srf.swapped := by rw [srfKick_frame]

@[simp] theorem cancelExit_regs (s : State) : s.cancelExit.regs = s.regs := by unfold State.cancelExit; split <;> simp
@[simp] theorem cancelExit_occ (s : State) : s.cancelExit.occ = s.occ := by unfold State.cancelExit; split <;> simp
@[simp] theorem cancelExit_out (s : State) : s.cancelExit.out = s.out := by unfold State.cancelExit; split <;> simp
@[simp] theorem cancelExit_fst (s : State) : s.cancelExit.fst = s.fst := by unfold State.cancelExit; split <;> simp

/-- After a cancelled exit none is under way. -/
theorem cancelExit_exiting (s : State) : s.cancelExit.srf.exiting = false := by
  unfold State.cancelExit
  split
  · next h => simpa using h
  · simp

theorem cancelExit_idle {s : State} (h : s.srf.exiting = false) : s.cancelExit = s := by simp [State.cancelExit, h]

/-! ### The causes -/

/-- A cause is one of four bits. -/
theorem causes_setBit_lt (s : State) {k : Nat} (h : k < 4) (b : Bool) : setBit s.causes k b < 16 := by
  have bound : s.causes < 16 := Nat.mod_lt _ (by decide)
  generalize s.causes = c at bound
  unfold setBit bitAt
  interval_cases k <;> cases b <;> simp <;> split <;> omega

/-- What `CAUSE` shows once a cause is set or cleared. -/
theorem causes_put (s : State) {k : Nat} (h : k < 4) (b : Bool) : (s.put F.SRF_STATUS_CAUSE (setBit s.causes k b)).causes = setBit s.causes k b := by
  rw [State.causes, get_put_self _ _ _ (by decide) (by decide)]
  exact Nat.mod_eq_of_lt (causes_setBit_lt s h b)

theorem setCause_occ (s : State) (k : Nat) : (s.setCause k).occ = s.occ := by unfold State.setCause; split <;> simp
theorem setCause_out (s : State) (k : Nat) : (s.setCause k).out = s.out := by unfold State.setCause; split <;> simp
theorem setCause_fst (s : State) (k : Nat) : (s.setCause k).fst = s.fst := by unfold State.setCause; split <;> simp

/-- A cause is set in `SRF_STATUS`, and in no other register. -/
theorem reg_setCause_ne (s : State) (k : Nat) {a : Nat} (h : a ≠ R.SRF_STATUS) : (s.setCause k).reg a = s.reg a := by
  unfold State.setCause
  split
  · rw [reg_congr (cancelExit_regs _), reg_put_ne _ _ h]
  · rfl

/-- While `SRF` is ON a cause that is set shows, and an exit under way is cancelled (R241, R243). -/
theorem setCause_on {s : State} {k : Nat} (on : s.domOn 33 = true) (h : k < 4) :
    (s.setCause k).causes = setBit s.causes k true ∧ (s.setCause k).srf.exiting = false := by
  rw [State.setCause, if_pos on]
  exact ⟨(get_congr (cancelExit_regs _) _).trans (causes_put s h true), cancelExit_exiting _⟩

/-- With no exit under way a cause that is set changes `SRF_STATUS` only. -/
theorem setCause_stays {s : State} (k : Nat) (exiting : s.srf.exiting = false) : (s.setCause k).srf = s.srf ∧ (s.setCause k).pil = s.pil := by
  unfold State.setCause
  split
  · rw [cancelExit_idle (by simpa using exiting)]
    simp
  · exact ⟨rfl, rfl⟩

theorem setCause_off {s : State} (k : Nat) (off : s.domOn 33 = false) : s.setCause k = s := by simp [State.setCause, off]

theorem clearCause_occ (s : State) (k : Nat) : (s.clearCause k).occ = s.occ := by rw [State.clearCause, State.put_occ]
theorem clearCause_out (s : State) (k : Nat) : (s.clearCause k).out = s.out := by rw [State.clearCause, State.put_out]

theorem reg_clearCause_ne (s : State) (k : Nat) {a : Nat} (h : a ≠ R.SRF_STATUS) : (s.clearCause k).reg a = s.reg a := reg_put_ne _ _ h

/-- A cause that is cleared changes `SRF_STATUS` only. -/
theorem regsOnly_clearCause (s : State) (k : Nat) : RegsOnly s (s.clearCause k) [R.SRF_STATUS] := by
  refine ⟨fun a ha => reg_clearCause_ne s k (by simpa using ha), ?_⟩
  rw [State.clearCause, State.put_tal, State.put_occ, State.put_out]
  rfl

theorem causes_clearCause (s : State) {k : Nat} (h : k < 4) : (s.clearCause k).causes = setBit s.causes k false := causes_put s h false

/-- The two bits of `SRF_CTRL` (Table 10.6). -/
theorem srfCtrl_enter (s : State) : s.srfCtrl 1 = s.setCause 3 := by simp [State.srfCtrl, bitAt]
theorem srfCtrl_exit (s : State) : s.srfCtrl 2 = s.clearCause 3 := by simp [State.srfCtrl, bitAt]

/-- A register of the registers of `SRF` and of the power domains is no port's. -/
theorem domOn_accepted (s : State) (ag : Agent) : (accepted s ag).domOn 33 = s.domOn 33 := by
  simp only [State.domOn, State.get, reg_accepted (s := s) (b := (F.PWR_DOM_STATE 33).addr) rfl ag]

theorem causes_begun (s : State) : (begun s).causes = s.causes := get_congr (begun_regs s) _

theorem causes_accepted (s : State) (ag : Agent) : (accepted s ag).causes = s.causes := by
  simp only [State.causes, State.get, reg_accepted (s := s) (b := F.SRF_STATUS_CAUSE.addr) rfl ag]

/-! ### SRF_ENTER, SRF_EXIT and STALL -/

section
variable {s : State} {ag : Agent} (can : CanWrite s ag R.SRF_CTRL)
include can

theorem ends_srfEnter_accepted : Ends (.srfEnter ag) s ((accepted s ag).setCause 3) := by
  have ends : Ends (.srfEnter ag) s ((begun s).asWrite ag R.SRF_CTRL fun s => s.srfCtrl 1) := ends_srfEnter ag s rfl
  simp only [srfCtrl_enter] at ends
  exact ends_asWrite_quiet (eff := fun s => s.setCause 3) can (by rw [setCause_occ, accepted_occ]) ends

theorem ends_srfExit_accepted : Ends (.srfExit ag) s ((accepted s ag).clearCause 3) := by
  have ends : Ends (.srfExit ag) s ((begun s).asWrite ag R.SRF_CTRL fun s => s.srfCtrl 2) := ends_srfExit ag s rfl
  simp only [srfCtrl_exit] at ends
  exact ends_asWrite_quiet (eff := fun s => s.clearCause 3) can (by rw [clearCause_occ, accepted_occ]) ends

end

/-- STALL's condition (Table 10.1). -/
theorem stall_of_due {s : State} (frames : 0 < s.get F.SRF_CFG_IDLE_FRAMES) (up : s.linkState = 2) (start : s.pil.startSeen = false)
    (due : s.get F.SRF_CFG_IDLE_FRAMES ≤ s.pil.idleFrames + (if s.frameEnding then 1 else 0)) : s.stall = s.setCause 2 := by
  simp [State.stall, frames, up, start, due]

theorem stall_of_not_due {s : State} (h : s.get F.SRF_CFG_IDLE_FRAMES = 0 ∨ s.linkState ≠ 2 ∨ s.pil.startSeen = true
    ∨ s.pil.idleFrames + (if s.frameEnding then 1 else 0) < s.get F.SRF_CFG_IDLE_FRAMES) : s.stall = s := by
  unfold State.stall
  rw [if_neg]
  simp only [Bool.and_eq_true, decide_eq_true_eq, Bool.not_eq_true', beq_iff_eq]
  rintro ⟨⟨⟨frames, up⟩, start⟩, due⟩
  rcases h with h | h | h | h
  · omega
  · exact h up
  · exact Bool.noConfusion (start.symm.trans h)
  · omega

end Sys2Proof.Laws
end

section
/-! Read starts (R31, R253) and the results of region updates (R255, R382). -/

namespace Sys2Proof.Laws

open Sys2Proof Sys2Proof.Machine

/-- A count changes its register and its tally twin. -/
theorem count_frame (s : State) (a n : Nat) : s.count a n = { s with regs := (s.count a n).regs, tal := (s.count a n).tal } := by
  unfold State.count State.tallyTwin
  split <;> rfl

theorem countIf_frame (s : State) (b : Bool) (a : Nat) : s.countIf b a = { s with regs := (s.countIf b a).regs, tal := (s.countIf b a).tal } := by
  cases b
  · rfl
  · exact count_frame s a 1

theorem reg_countIf_self (s : State) (b : Bool) (a : Nat) : (s.countIf b a).reg a = if b then min 0xFFFFFFFF (s.reg a + 1) else s.reg a := by
  cases b
  · rfl
  · exact reg_count_self s a

theorem reg_withSrf (s : State) (x : SrfState) (b : Nat) : ({ s with srf := x } : State).reg b = s.reg b := reg_congr (by rfl) b

theorem reg_emit (s : State) (o : Output) (b : Nat) : (s.emit o).reg b = s.reg b := reg_congr (by simp) b

/-- The front buffer is what `SRF_STATUS` says. -/
theorem frontBuf_congr {s t : State} (h : t.reg R.SRF_STATUS = s.reg R.SRF_STATUS) : t.frontBuf = s.frontBuf := by
  simp only [State.frontBuf, State.get, F.SRF_STATUS_FRONT, h]

/-- A buffer that becomes the front buffer shows with its number (R238). -/
theorem setFront_spec (s : State) {b : Nat} (h : b ≤ 1) :
    (s.setFront b).frontBuf = b ∧ (s.setFront b).reg R.SRF_FRONT_NO = (mget 0#32 s.srf.frontNo b).toNat := by
  constructor
  · rw [State.setFront, frontBuf_congr (reg_setReg_ne _ _ (by decide)), State.frontBuf, get_put_self _ _ _ (by decide) (by decide)]
    exact Nat.mod_eq_of_lt (Nat.lt_succ_of_le h)
  · rw [State.setFront, reg_setReg_self]
    exact Nat.mod_eq_of_lt (BitVec.isLt _)

/-! ### What the reader takes -/

/-- The reader takes the front buffer, the last part of a read start (R31). -/
def takeFront (s : State) : State :=
  let this := (s.frontBuf, mget 0#32 s.srf.frontNo s.frontBuf)
  let held := s.srf.lastRead == some this
  let t := s.countIf held R.SRF_CNT_HELD
  { t with srf := { t.srf with readBuf := t.frontBuf, readDue := true, lastRead := some this, readHeld := held, readPix := [], readSlots := []
                               exitDue := t.srf.exitDue || (t.srf.exiting && t.srf.exitReady) } }

theorem readStart_stopped {s : State} (h : (s.run 0).on = false) : s.readStart = s := by simp [State.readStart, h]

/-- Without a swap to decide on, a read start is the reader's. -/
theorem readStart_live {s : State} (on : (s.run 0).on = true) (h : s.selfRefresh = false) : s.readStart = takeFront s := by
  simp [State.readStart, on, h, takeFront]

/-- In self-refresh a read start first decides on the swap (R253). -/
theorem readStart_selfRefresh {s : State} (on : (s.run 0).on = true) (h : s.selfRefresh = true) (stays : s.srf.exiting = false) :
    s.readStart = takeFront s.swapOrHold := by
  simp [State.readStart, on, h, stays, takeFront]

theorem takeFront_frame (s : State) :
    takeFront s = { s with srf := (takeFront s).srf, regs := (takeFront s).regs, tal := (takeFront s).tal } := by
  unfold takeFront
  dsimp only
  rw [countIf_frame]

theorem reg_takeFront_ne (s : State) {a : Nat} (h : a ≠ R.SRF_CNT_HELD) : (takeFront s).reg a = s.reg a := reg_countIf_ne s _ h

/-- A frame that shows what the one before it showed is counted as held. -/
theorem reg_takeFront_held (s : State) : (takeFront s).reg R.SRF_CNT_HELD =
    if s.srf.lastRead = some (s.frontBuf, mget 0#32 s.srf.frontNo s.frontBuf) then min 0xFFFFFFFF (s.reg R.SRF_CNT_HELD + 1) else s.reg R.SRF_CNT_HELD := by
  refine (reg_countIf_self s _ _).trans ?_
  simp only [beq_iff_eq]

/-- What self-refresh holds after the reader has taken the front buffer. -/
theorem takeFront_srf (s : State) : ∃ x, (takeFront s).srf = { s.srf with
    readBuf := s.frontBuf, readDue := true, lastRead := some (s.frontBuf, mget 0#32 s.srf.frontNo s.frontBuf)
    readHeld := s.srf.lastRead == some (s.frontBuf, mget 0#32 s.srf.frontNo s.frontBuf), readPix := [], readSlots := [], exitDue := x } := by
  have front : (s.countIf (s.srf.lastRead == some (s.frontBuf, mget 0#32 s.srf.frontNo s.frontBuf)) R.SRF_CNT_HELD).frontBuf = s.frontBuf :=
    frontBuf_congr (reg_countIf_ne s _ (by decide))
  unfold takeFront
  dsimp only
  rw [front, State.countIf_srf]
  exact ⟨_, rfl⟩

theorem frontBuf_takeFront (s : State) : (takeFront s).frontBuf = s.frontBuf := frontBuf_congr (reg_takeFront_ne s (by decide))

theorem takeFront_occ (s : State) : (takeFront s).occ = s.occ := by rw [takeFront_frame]

/-! ### The swap (R253) -/

/-- A copy in flight holds the swap of complete updates, and the starts of others. -/
theorem swapOrHold_held {s : State} (updates : s.srf.complete ≠ []) (copy : s.srf.inFlight.isSome = true) :
    s.swapOrHold = (({ s with srf := { s.srf with holdStarts := true } }).count R.SRF_CNT_SWAP_WAIT).raise 226 0 := by
  simp [State.swapOrHold, updates, copy]

/-- Complete updates that no copy holds turn the buffers. -/
theorem swapOrHold_swaps {s : State} (updates : s.srf.complete ≠ []) (idle : s.srf.inFlight = none) :
    let t := (s.setFront (1 - s.frontBuf)).count R.SRF_CNT_SWAP
    s.swapOrHold = ({ t with srf := { t.srf with
      complete := [], swapped := t.srf.swapped ++ s.srf.complete, echoes := t.srf.echoes ++ [s.srf.complete], holdStarts := false } }).srfKick := by
  simp [State.swapOrHold, updates, idle]

theorem swapOrHold_held_spec {s : State} (updates : s.srf.complete ≠ []) (copy : s.srf.inFlight.isSome = true) :
    let t := s.swapOrHold
    t.frontBuf = s.frontBuf ∧ t.srf = { s.srf with holdStarts := true } ∧ t.occ = s.occ ++ [⟨226, 0⟩]
      ∧ t.reg R.SRF_CNT_SWAP_WAIT = min 0xFFFFFFFF (s.reg R.SRF_CNT_SWAP_WAIT + 1) := by
  rw [swapOrHold_held updates copy]
  refine ⟨frontBuf_congr ?_, by simp, by simp [State.raise], ?_⟩
  · rw [reg_raise, reg_count_ne _ _ (by decide), reg_withSrf]
  · rw [reg_raise, reg_count_self, reg_withSrf]

theorem swapOrHold_swaps_spec {s : State} (updates : s.srf.complete ≠ []) (idle : s.srf.inFlight = none) :
    let t := s.swapOrHold
    t.frontBuf = 1 - s.frontBuf ∧ t.srf.complete = [] ∧ t.srf.swapped = s.srf.swapped ++ s.srf.complete ∧ t.occ = s.occ
      ∧ t.reg R.SRF_FRONT_NO = (mget 0#32 s.srf.frontNo (1 - s.frontBuf)).toNat
      ∧ t.reg R.SRF_CNT_SWAP = min 0xFFFFFFFF (s.reg R.SRF_CNT_SWAP + 1) := by
  obtain ⟨front, number⟩ := setFront_spec s (b := 1 - s.frontBuf) (Nat.sub_le _ _)
  rw [swapOrHold_swaps updates idle]
  refine ⟨?_, by simp, by simp [State.setFront], by simp [State.setFront], ?_, ?_⟩
  · refine Eq.trans (frontBuf_congr ?_) front
    rw [reg_congr (srfKick_regs _), reg_withSrf, reg_count_ne _ _ (by decide)]
  · rw [reg_congr (srfKick_regs _), reg_withSrf, reg_count_ne _ _ (by decide), number]
  · rw [reg_congr (srfKick_regs _), reg_withSrf, reg_count_self, State.setFront, reg_setReg_ne _ _ (by decide), reg_put_ne _ _ (by decide)]

/-! ### READ_START -/

theorem ends_readStart_begun (s : State) : Ends .readStart s (begun s).readStart := ends_readStart s rfl

/-- A read start outside self-refresh (R31). -/
theorem readStart_live_spec {s : State} (on : (s.run 0).on = true) (h : s.selfRefresh = false) :
    let u := (begun s).readStart
    let this := (s.frontBuf, mget 0#32 s.srf.frontNo s.frontBuf)
    u = { begun s with srf := u.srf, regs := u.regs, tal := u.tal } ∧ OnlyRegs s u [R.SRF_CNT_HELD] ∧ u.srf.readBuf = s.frontBuf
      ∧ u.srf.readDue = true ∧ u.srf.readPix = [] ∧ u.srf.lastRead = some this ∧ (u.srf.readHeld = true ↔ s.srf.lastRead = some this)
      ∧ u.reg R.SRF_CNT_HELD = (if s.srf.lastRead = some this then min 0xFFFFFFFF (s.reg R.SRF_CNT_HELD + 1) else s.reg R.SRF_CNT_HELD) := by
  rw [readStart_live (s := begun s) on h]
  obtain ⟨x, srf⟩ := takeFront_srf (begun s)
  refine ⟨takeFront_frame _, fun a ha => reg_takeFront_ne _ (by simpa using ha), ?_, ?_, ?_, ?_, ?_, reg_takeFront_held (begun s)⟩
  all_goals rw [srf]
  · rfl
  · rfl
  · exact beq_iff_eq

/-- A read start of self-refresh while a copy runs holds the swap (R253). -/
theorem readStart_holds {s : State} (on : (s.run 0).on = true) (h : s.selfRefresh = true) (stays : s.srf.exiting = false)
    (updates : s.srf.complete ≠ []) (copy : s.srf.inFlight.isSome = true) :
    let u := (begun s).readStart
    u.frontBuf = s.frontBuf ∧ u.srf.complete = s.srf.complete ∧ u.srf.holdStarts = true ∧ u.occ = [⟨226, 0⟩]
      ∧ u.reg R.SRF_CNT_SWAP_WAIT = min 0xFFFFFFFF (s.reg R.SRF_CNT_SWAP_WAIT + 1) ∧ u.srf.readBuf = s.frontBuf := by
  obtain ⟨front, srf, occ, waits⟩ := swapOrHold_held_spec (s := begun s) updates copy
  rw [readStart_selfRefresh (s := begun s) on h stays]
  obtain ⟨x, taken⟩ := takeFront_srf (begun s).swapOrHold
  refine ⟨(frontBuf_takeFront _).trans front, ?_, ?_, (takeFront_occ _).trans occ, (reg_takeFront_ne _ (by decide)).trans waits, ?_⟩
  · rw [taken, srf]
    rfl
  · rw [taken, srf]
  · rw [taken]
    exact front

/-- A read start of self-refresh that no copy holds turns the buffers (R253). -/
theorem readStart_swaps {s : State} (on : (s.run 0).on = true) (h : s.selfRefresh = true) (stays : s.srf.exiting = false)
    (updates : s.srf.complete ≠ []) (idle : s.srf.inFlight = none) :
    let u := (begun s).readStart
    u.frontBuf = 1 - s.frontBuf ∧ u.srf.complete = [] ∧ u.srf.swapped = s.srf.swapped ++ s.srf.complete
      ∧ u.reg R.SRF_FRONT_NO = (mget 0#32 s.srf.frontNo (1 - s.frontBuf)).toNat ∧ u.occ = []
      ∧ u.reg R.SRF_CNT_SWAP = min 0xFFFFFFFF (s.reg R.SRF_CNT_SWAP + 1) ∧ u.srf.readBuf = 1 - s.frontBuf ∧ u.srf.readDue = true := by
  obtain ⟨front, complete, swapped, occ, number, swaps⟩ := swapOrHold_swaps_spec (s := begun s) updates idle
  rw [readStart_selfRefresh (s := begun s) on h stays]
  obtain ⟨x, taken⟩ := takeFront_srf (begun s).swapOrHold
  refine ⟨(frontBuf_takeFront _).trans front, ?_, ?_, (reg_takeFront_ne _ (by decide)).trans number, (takeFront_occ _).trans occ,
    (reg_takeFront_ne _ (by decide)).trans swaps, ?_, ?_⟩
  all_goals rw [taken]
  · exact complete
  · exact swapped
  · exact front

/-! ### SRF_RESULT_POP -/

theorem ends_srfResultPop_begun (s : State) (p : Port) {n : Nat} (h : n < 3) :
    Ends (.srfResultPop p n) s ((begun s).answer p ((begun s).popResult p n)) :=
  ends_srfResultPop p n s (decide_eq_true h)

/-- A foreign queue, and an empty one, give 0 and stay (R382). -/
theorem popResult_nothing {s : State} {p : Port} {n : Nat} (h : p.num ≠ n ∨ mget ([] : List SrfResult) s.srf.results n = []) :
    s.popResult p n = (0, s) := by
  by_cases own : p.num = n
  · have empty := h.resolve_left (not_not_intro own)
    simp only [State.popResult, own, ne_eq, not_true_eq_false, if_false, empty]
  · simp only [State.popResult, ne_eq, own, not_false_eq_true, if_true]

/-- The oldest result of the port's own queue leaves it, its tag to be read after it (R255). -/
theorem popResult_oldest {s : State} {p : Port} {n : Nat} {r : SrfResult} {q : List SrfResult} (own : p.num = n)
    (queue : mget ([] : List SrfResult) s.srf.results n = r :: q) :
    s.popResult p n = (2 ^ 31 + q.length * 2 ^ 24 + r.slot * 2 ^ 20 + r.frame * 256 + r.outcome,
      ({ s with srf := { s.srf with results := mset [] s.srf.results n q } }).setReg (R.SRF_H_RESULT_HI n) r.tag.toNat) := by
  simp only [State.popResult, own, ne_eq, not_true_eq_false, if_false, queue]

/-- What a pop of a result leaves. -/
theorem answer_popResult {s : State} {p : Port} {n : Nat} {r : SrfResult} {q : List SrfResult} (h : n < 3) (own : p.num = n)
    (queue : mget ([] : List SrfResult) s.srf.results n = r :: q) :
    let u := (begun s).answer p ((begun s).popResult p n)
    mget ([] : List SrfResult) u.srf.results n = q ∧ (∀ m, m ≠ n → mget ([] : List SrfResult) u.srf.results m = mget [] s.srf.results m)
      ∧ u.out = [.readData p (leBytes 4 (2 ^ 31 + q.length * 2 ^ 24 + r.slot * 2 ^ 20 + r.frame * 256 + r.outcome))]
      ∧ u.reg (R.SRF_H_RESULT_HI n) = r.tag.toNat ∧ OnlyRegs (accepted s (.host p)) u [R.SRF_H_RESULT_HI n] ∧ u.occ = [] := by
  rw [popResult_oldest (s := begun s) own queue, State.answer]
  dsimp only
  generalize ht : ({ begun s with srf := { (begun s).srf with results := mset [] (begun s).srf.results n q } } : State) = t
  have results : t.srf.results = mset [] s.srf.results n q := by rw [← ht]; rfl
  have same : t.regs = s.regs ∧ t.out = [] ∧ t.occ = [] := by rw [← ht]; exact ⟨rfl, rfl, rfl⟩
  obtain ⟨regs, out, occ⟩ := same
  have engine : isPortReg (R.SRF_H_RESULT_HI n) = false := isPortReg_engine (by simp only [R.SRF_H_RESULT_HI]; omega)
  refine ⟨?_, fun m hm => ?_, by simp [emit_out, out], ?_, fun a ha => ?_, by simp [occ]⟩
  · simp [results]
  · simp only [State.emit_srf, State.portAccept_srf, State.setReg_srf, results]
    exact mget_mset_ne _ _ _ hm
  · rw [reg_emit, reg_portAccept engine, reg_setReg_self]
    exact Nat.mod_eq_of_lt (BitVec.isLt _)
  · rw [reg_emit]
    exact reg_portAccept_congr p ((reg_setReg_ne _ _ (by simpa using ha)).trans (reg_congr regs a))

/-! ### The obligation -/

/-- Settles O50: each command is computed on the state in which its effect begins. -/
theorem selfRefresh : Obligations.SelfRefresh := by
  intro s ag p n hn
  refine ⟨fun can => ⟨fun off => ?_, fun on => ?_, ?_⟩, fun on frames up start due => ?_, fun h => ?_, fun off => ?_, fun on => ⟨fun live => ?_,
    fun active stays updates => ⟨fun copy => ?_, fun idle => ?_⟩⟩, fun r q own queue => ?_, fun h => ?_⟩
  · have ends := ends_srfEnter_accepted can
    rwa [setCause_off 3 ((domOn_accepted s ag).trans off)] at ends
  · obtain ⟨causes, exiting⟩ := setCause_on (k := 3) ((domOn_accepted s ag).trans on) (by decide)
    refine ⟨_, ends_srfEnter_accepted can, causes.trans (by rw [causes_accepted]), fun a ha => reg_setCause_ne _ 3 (by simpa using ha), ?_, ?_,
      exiting, fun stays => ?_, ?_⟩
    · rw [setCause_occ, accepted_occ]
    · rw [setCause_out, accepted_out]
    · simpa using setCause_stays (s := accepted s ag) 3 (by simpa using stays)
    · rw [setCause_fst, accepted_fst]
  · exact ⟨_, ends_srfExit_accepted can, (causes_clearCause _ (by decide)).trans (by rw [causes_accepted]),
      regsOnly_clearCause _ 3, by rw [clearCause_occ, accepted_occ],
      by rw [clearCause_out, accepted_out]⟩
  · have ends : Ends .stall s (begun s).stall := ends_stall s rfl
    rw [stall_of_due (s := begun s) frames up start due] at ends
    exact ⟨_, ends, (setCause_on (s := begun s) on (by decide)).1.trans (by rw [causes_begun]),
      fun a ha => reg_setCause_ne _ 2 (by simpa using ha), setCause_occ _ 2⟩
  · have ends : Ends .stall s (begun s).stall := ends_stall s rfl
    rwa [stall_of_not_due (s := begun s) h] at ends
  · have ends := ends_readStart_begun s
    rwa [readStart_stopped (s := begun s) off] at ends
  · exact ⟨_, ends_readStart_begun s, readStart_live_spec on live⟩
  · exact ⟨_, ends_readStart_begun s, readStart_holds on active stays updates copy⟩
  · exact ⟨_, ends_readStart_begun s, readStart_swaps on active stays updates idle⟩
  · exact ⟨_, ends_srfResultPop_begun s p hn, answer_popResult hn own queue⟩
  · have ends := ends_srfResultPop_begun s p hn
    rwa [popResult_nothing (s := begun s) h, State.answer, emit_accepted] at ends

end Sys2Proof.Laws
end

section
/-! The slot of one port (R192 to R194, R204, R205), part by part: the packet goes out, the poll is asked, the packet is counted, both lanes
are read back, the signatures go on. -/

namespace Sys2Proof.Laws

open Sys2Proof Sys2Proof.Machine

/-! ### The parts of a slot -/

/-- A port that sends nothing of an active line (Table 7.5, Table 8.5). -/
def slotIdle (s : State) (n nn : Nat) : Bool :=
  s.get (if n == 1 then F.TG_PANEL_STATUS_STATE_R else F.TG_PANEL_STATUS_STATE_F) == 1 || !s.adl.live.contains nn

/-- The values of a port's line are in the exit buffer (R32). -/
def slotReady (s : State) (n nn : Nat) : Bool := ((s.portCfg nn).keys (s.run n).line).all fun k => (mfind s.dth.values k).isSome

/-- The type of a port's packet (R194): 1 LINE, 2 REPEAT_LINE, 3 CTRL, 4 IDLE. -/
def slotType (s : State) (n nn : Nat) : Nat :=
  if (s.run n).line < (s.run n).vactive then (if slotIdle s n nn then 4 else if slotReady s n nn then 1 else 2)
  else if (s.run n).line = (s.run n).vactive then 3 else 4

/-- The payload of a port's packet. -/
def slotPayload (s : State) (n nn : Nat) : List Byte :=
  if slotType s n nn = 1 then
    linePayload (s.dth.snap.driverBits (n == 1)) (((s.portCfg nn).keys (s.run n).line).map (mget 0 s.dth.values ·))
  else if slotType s n nn = 3 then s.ctrlPayload (n == 1) (s.portCfg nn).channels else []

/-- Some lane of a port sends. -/
def slotSends (s : State) (nn : Nat) : Bool := s.laneSends (laneA nn) || s.laneSends (laneB nn)

/-- A port's packet asks for its status (R201). -/
def slotAsks (s : State) (nn : Nat) : Bool :=
  slotSends s nn && match mfind s.adl.polls (nn / 7) with | some p => p.port == nn && !p.asked | none => false

/-- A port's packet between K27.7 and K29.7 (Table 8.2). -/
def slotPacket (s : State) (n nn : Nat) : List Byte :=
  portPacketBytes (slotType s n nn) (s.dth.snap.driverBits (n == 1)) ((s.run n).line == 0) (slotAsks s nn) (mget 0 s.adl.tags nn)
    (s.reg (R.TG_FRAME_NO n)) (s.run n).line (if slotType s n nn = 1 then (s.portCfg nn).channels else 0) (slotPayload s n nn)

/-- The packet is shown, and goes out on the lanes that send. -/
def sendSlot (s : State) (n nn : Nat) : State :=
  (if slotSends s nn then s.emit (.portPacket nn ⟨slotType s n nn, slotPacket s n nn⟩) else s).each [laneA nn, laneB nn] fun t l =>
    t.laneSlot (t.launchAt n) (slotPacket s n nn) l

/-- A poll that the packet carries has been asked. -/
def askSlot (s : State) (nn : Nat) (t : State) : State :=
  match mfind s.adl.polls (nn / 7) with
  | some p => if slotAsks s nn then { t with adl := { t.adl with polls := mput t.adl.polls (nn / 7) { p with asked := true } } } else t
  | none => t

/-- The packet counts by its type. -/
def countSlot (s : State) (n nn : Nat) (t : State) : State :=
  if !slotSends s nn then t
  else if slotType s n nn = 1 then t.tally (0x4000 + 0x40 * nn + 8 * 5) 1
  else if slotType s n nn = 2 then t.count (R.ADL_PORT_CNT_REPEAT nn)
  else if slotType s n nn = 3 then { t with adl := { t.adl with ctrlSent := t.adl.ctrlSent.filter (· != nn) ++ [nn] } }
  else t

/-- The signatures of a generator go on: with what was read back, and with what was sent (R205). -/
def signWith (n : Nat) (got crc : List Byte) (t : State) : State :=
  { t with adl := { t.adl with
      sig := mput t.adl.sig n (crcStep (mget 0xFFFFFFFF t.adl.sig n) got)
      ref := mput t.adl.ref n (crcStep (mget 0xFFFFFFFF t.adl.ref n) crc) } }

/-- The CRC of an active line's packet, as the port's signature lane reads it back, goes into the signatures (R205). -/
def signSlot (s : State) (n nn : Nat) (badLanes : List Nat) (t : State) : State :=
  if !decide ((s.run n).line < (s.run n).vactive) || slotIdle s n nn then t
  else
    let crc := (slotPacket s n nn).drop ((slotPacket s n nn).length - 2)
    let lane := mget 0 t.adl.sigLane nn
    let sigL := if lane = 0 then laneA nn else laneB nn
    let bad := badLanes.contains sigL || (t.lane sigL).stopped
    let wrong := beBytes 2 (Nat.xor (beNat crc) (1 + t.freeVal 16 % 65535))
    signWith n (if lane = 2 then [0, 0] else if bad then wrong else crc) crc (if bad && lane != 2 then t.useFree else t)

theorem portSlot_eq (s : State) (n nn : Nat) (bad : List Nat) : s.portSlot n nn bad =
    signSlot s n nn bad (((countSlot s n nn (askSlot s nn (sendSlot s n nn))).readBack nn false (bad.contains (laneA nn))).readBack nn true
      (bad.contains (laneB nn))) := by
  rfl

/-! ### What the slots of ports leave as it is -/

/-- What the slots of ports leave of what another port's slot looks at: the generators, the exit buffer, which ports send lines and with
which configuration, the other ports' lanes, and every register but the ports' own two counters. -/
structure SlotFrame (ports : List Nat) (s t : State) : Prop where
  tg : t.tg = s.tg
  dth : t.dth = s.dth
  rearCfg : t.adl.rearCfg = s.adl.rearCfg
  live : t.adl.live = s.adl.live
  lanes : ∀ l, (∀ m ∈ ports, l ≠ laneA m ∧ l ≠ laneB m) → t.lane l = s.lane l
  regs : ∀ a, (∀ m ∈ ports, a ≠ R.ADL_PORT_CNT_RB m ∧ a ≠ R.ADL_PORT_CNT_REPEAT m) → t.reg a = s.reg a

/-- Slots raise nothing, and what has been sent stays sent. -/
structure SlotStep (ports : List Nat) (s t : State) : Prop extends SlotFrame ports s t where
  occ : t.occ = s.occ
  out : s.out ⊆ t.out
  ctrlSent : s.adl.ctrlSent ⊆ t.adl.ctrlSent

theorem SlotStep.refl (ports : List Nat) (s : State) : SlotStep ports s s :=
  ⟨⟨rfl, rfl, rfl, rfl, fun _ _ => rfl, fun _ _ => rfl⟩, rfl, List.Subset.refl _, List.Subset.refl _⟩

theorem SlotFrame.trans {ports : List Nat} {s t u : State} (h : SlotFrame ports s t) (k : SlotFrame ports t u) : SlotFrame ports s u :=
  ⟨k.tg.trans h.tg, k.dth.trans h.dth, k.rearCfg.trans h.rearCfg, k.live.trans h.live, fun l hl => (k.lanes l hl).trans (h.lanes l hl),
    fun a ha => (k.regs a ha).trans (h.regs a ha)⟩

theorem SlotStep.trans {ports : List Nat} {s t u : State} (h : SlotStep ports s t) (k : SlotStep ports t u) : SlotStep ports s u :=
  ⟨h.toSlotFrame.trans k.toSlotFrame, k.occ.trans h.occ, List.Subset.trans h.out k.out, List.Subset.trans h.ctrlSent k.ctrlSent⟩

theorem SlotFrame.mono {l ports : List Nat} {s t : State} (sub : l ⊆ ports) (h : SlotFrame l s t) : SlotFrame ports s t :=
  ⟨h.tg, h.dth, h.rearCfg, h.live, fun x hx => h.lanes x fun m hm => hx m (sub hm), fun a ha => h.regs a fun m hm => ha m (sub hm)⟩

theorem SlotStep.mono {l ports : List Nat} {s t : State} (sub : l ⊆ ports) (h : SlotStep l s t) : SlotStep ports s t :=
  ⟨h.toSlotFrame.mono sub, h.occ, h.out, h.ctrlSent⟩

/-- The slots of ports one after the other. -/
theorem SlotStep.each {l : List Nat} {f : State → Nat → State} (h : ∀ s m, SlotStep [m] s (f s m)) : ∀ s : State, SlotStep l s (s.each l f) := by
  induction l with
  | nil => exact SlotStep.refl []
  | cons m l ih =>
    intro s
    exact ((h s m).mono (by simp)).trans ((ih (f s m)).mono (by simp))

theorem SlotStep.ite {ports : List Nat} {s t u : State} {c : Prop} [Decidable c] (h : SlotStep ports s t) (k : SlotStep ports s u) :
    SlotStep ports s (if c then t else u) := by
  split <;> assumption

/-- A step that changes neither lanes nor registers. -/
theorem SlotStep.of_frame {ports : List Nat} {s t : State} (tg : t.tg = s.tg) (dth : t.dth = s.dth) (rearCfg : t.adl.rearCfg = s.adl.rearCfg)
    (live : t.adl.live = s.adl.live) (lns : t.lns = s.lns) (regs : t.regs = s.regs) (occ : t.occ = s.occ) (out : s.out ⊆ t.out)
    (ctrlSent : s.adl.ctrlSent ⊆ t.adl.ctrlSent) : SlotStep ports s t :=
  ⟨⟨tg, dth, rearCfg, live, fun l _ => by simp only [State.lane, lns], fun a _ => reg_congr regs a⟩, occ, out, ctrlSent⟩

/-! ### The parts of a slot keep to it -/

theorem lane_setLane_ne (s : State) {l m : Nat} (v : LnsLane) (h : m ≠ l) : (s.setLane l v).lane m = s.lane m := mget_mset_ne _ _ _ h

theorem slotStep_emit (ports : List Nat) (s : State) (o : Output) : SlotStep ports s (s.emit o) :=
  .of_frame rfl rfl rfl rfl rfl rfl rfl (List.subset_append_left _ _) (List.Subset.refl _)

/-- A packet on a lane of a port changes that lane only. -/
theorem slotStep_laneSlot {nn l : Nat} (hl : l = laneA nn ∨ l = laneB nn) (s : State) (start : Nat) (bs : List Byte) :
    SlotStep [nn] s (s.laneSlot start bs l) := by
  unfold State.laneSlot
  split
  · exact .refl _ s
  · refine SlotStep.trans (t := s.setLane l _) ⟨⟨rfl, rfl, rfl, rfl, fun m hm => ?_, fun _ _ => rfl⟩, rfl, List.Subset.refl _, List.Subset.refl _⟩
      (slotStep_emit [nn] _ _)
    obtain ⟨notA, notB⟩ := hm nn (by simp)
    exact lane_setLane_ne _ _ (by rcases hl with rfl | rfl <;> assumption)

theorem slotStep_sendSlot (s : State) (n nn : Nat) : SlotStep [nn] s (sendSlot s n nn) := by
  unfold sendSlot
  exact SlotStep.trans (.ite (slotStep_emit _ _ _) (.refl _ _))
    ((slotStep_laneSlot (.inl rfl) _ _ _).trans (slotStep_laneSlot (.inr rfl) _ _ _))

theorem slotStep_askSlot (s : State) (nn : Nat) (t : State) : SlotStep [nn] t (askSlot s nn t) := by
  unfold askSlot
  repeat' split
  all_goals exact .of_frame rfl rfl rfl rfl rfl rfl rfl (List.Subset.refl _) (List.Subset.refl _)

/-- A count in one of a port's two counters. -/
theorem slotStep_setReg {nn a : Nat} (ha : a = R.ADL_PORT_CNT_RB nn ∨ a = R.ADL_PORT_CNT_REPEAT nn) (s : State) (v : Nat) :
    SlotStep [nn] s (s.setReg a v) := by
  refine ⟨⟨rfl, rfl, rfl, rfl, fun _ _ => rfl, fun b hb => reg_setReg_ne s v ?_⟩, rfl, List.Subset.refl _, List.Subset.refl _⟩
  obtain ⟨notRb, notRepeat⟩ := hb nn (by simp)
  rcases ha with rfl | rfl <;> assumption

theorem slotStep_tally (ports : List Nat) (s : State) (o n : Nat) : SlotStep ports s (s.tally o n) :=
  .of_frame rfl rfl rfl rfl rfl rfl rfl (List.Subset.refl _) (List.Subset.refl _)

theorem slotStep_tallyTwin (ports : List Nat) (s : State) (a n : Nat) : SlotStep ports s (s.tallyTwin a n) := by
  unfold State.tallyTwin
  split
  · exact slotStep_tally _ _ _ _
  · exact .refl _ _

theorem slotStep_countSlot (s : State) (n nn : Nat) (t : State) : SlotStep [nn] t (countSlot s n nn t) := by
  unfold countSlot
  split
  · exact .refl _ _
  split
  · exact slotStep_tally _ _ _ _
  split
  · exact (slotStep_setReg (.inr rfl) t _).trans (slotStep_tallyTwin _ _ _ _)
  split
  · refine .of_frame rfl rfl rfl rfl rfl rfl rfl (List.Subset.refl _) fun m hm => ?_
    by_cases own : m = nn
    · simp [own]
    · simp [own, hm]
  · exact .refl _ _

theorem slotStep_readBack (s : State) (nn : Nat) (b bad : Bool) : SlotStep [nn] s (s.readBack nn b bad) := by
  have note (t : State) (x : SMap Nat) : SlotStep [nn] t { t with adl := { t.adl with bad := x } } :=
    .of_frame rfl rfl rfl rfl rfl rfl rfl (List.Subset.refl _) (List.Subset.refl _)
  unfold State.readBack
  generalize (if b = true then laneB nn else laneA nn) = l
  generalize (if b = true then (31, 16) else (15, 0)) = half
  dsimp only
  split
  · exact .refl _ _
  split
  · exact note s _
  · exact ((slotStep_setReg (.inl rfl) s _).trans (slotStep_tally _ _ _ _)).trans (note _ _)

theorem slotStep_signWith (ports : List Nat) (n : Nat) (got crc : List Byte) (t : State) : SlotStep ports t (signWith n got crc t) :=
  .of_frame rfl rfl rfl rfl rfl rfl rfl (List.Subset.refl _) (List.Subset.refl _)

theorem slotStep_signSlot (s : State) (n nn : Nat) (bad : List Nat) (t : State) : SlotStep [nn] t (signSlot s n nn bad t) := by
  unfold signSlot
  split
  · exact .refl _ _
  · refine SlotStep.trans (.ite ?_ (.refl _ _)) (slotStep_signWith [nn] n _ _ _)
    exact .of_frame rfl rfl rfl rfl rfl rfl rfl (List.Subset.refl _) (List.Subset.refl _)

/-- After a packet has gone out, its port's slot keeps it. -/
theorem slotStep_afterSend (s : State) (n nn : Nat) (bad : List Nat) : SlotStep [nn] (sendSlot s n nn) (s.portSlot n nn bad) := by
  rw [portSlot_eq]
  exact (((slotStep_askSlot s nn _).trans (slotStep_countSlot s n nn _)).trans (slotStep_readBack _ nn false _)).trans
    (slotStep_readBack _ nn true _) |>.trans (slotStep_signSlot s n nn bad _)

/-- The slot of a port leaves what those of other ports look at. -/
theorem slotStep_portSlot (s : State) (n nn : Nat) (bad : List Nat) : SlotStep [nn] s (s.portSlot n nn bad) :=
  (slotStep_sendSlot s n nn).trans (slotStep_afterSend s n nn bad)

/-! ### What a slot looks at -/

theorem run_congr {s t : State} (tg : t.tg = s.tg) (n : Nat) : t.run n = s.run n := by simp only [State.run, tg]

section
variable {s t : State}

/-- Whether a lane sends depends on that lane and on registers that no slot changes. -/
theorem laneSends_congr {l : Nat} (lane : t.lane l = s.lane l) (regs : ∀ a, a < 0x20000 ∨ 0x20E00 ≤ a → t.reg a = s.reg a) :
    t.laneSends l = s.laneSends l := by
  simp only [State.laneSends, State.domOn, State.pllLocked, State.get, lane, regs R.LNS_PLL_STATUS (by decide), regs R.PIL_CFG (by decide),
    F.PIL_CFG_FLOCK_EN, F.PWR_DOM_STATE, regs (R.PWR_DOM (laneDomain l)) (by simp only [R.PWR_DOM]; omega)]

/-- What a lane sends depends on that lane and on registers that no slot changes. -/
theorem txSend_congr {l : Nat} (lane : t.lane l = s.lane l) (regs : ∀ a, a < 0x20000 ∨ 0x20E00 ≤ a → t.reg a = s.reg a) (start : Nat) (cs : List Sym) :
    (t.txSend l start cs).1 = (s.txSend l start cs).1 ∧ (t.txSend l start cs).2.1 = (s.txSend l start cs).2.1 := by
  have rate : t.txRate l = s.txRate l := by
    simp only [State.txRate, State.get, F.ADL_FLOCK_CFG_RATE, regs (R.ADL_FLOCK_CFG ((l - 32) / 14)) (by simp only [R.ADL_FLOCK_CFG]; omega)]
  have ready : t.txReady l start = s.txReady l start := by
    simp only [State.txReady, State.txIdles, State.txTime, lane, rate]
    rfl
  have levels (x y : Bool) (gs : List Nat) : t.txLevels l x y gs = s.txLevels l x y gs := by
    simp only [State.txLevels, State.txInv, State.flag, State.get, F.LNS_LANE_TX_SWING, F.LNS_LANE_TX_PRE, F.LNS_LANE_TX_POST, F.LNS_LANE_CFG_TX_INV,
      regs (R.LNS_LANE_TX l) (by simp only [R.LNS_LANE_TX]; omega), regs (R.LNS_LANE_CFG l) (by simp only [R.LNS_LANE_CFG]; omega)]
    rfl
  constructor
  · simp only [State.txSend, ready]
  · simp only [State.txSend, ready, levels]

/-- When a packet is due depends on the generators and on `ADL_CFG`. -/
theorem launchAt_congr (tg : t.tg = s.tg) (regs : ∀ a, a < 0x20000 ∨ 0x20E00 ≤ a → t.reg a = s.reg a) (n : Nat) : t.launchAt n = s.launchAt n := by
  have field (f : FRef) (h : f.addr = R.ADL_CFG) : t.get f = s.get f := by
    rw [State.get, State.get, h, regs R.ADL_CFG (by decide)]
  have launch : t.get (if n = 0 then F.ADL_CFG_LAUNCH_F else F.ADL_CFG_LAUNCH_R) = s.get (if n = 0 then F.ADL_CFG_LAUNCH_F else F.ADL_CFG_LAUNCH_R) :=
    field _ (by split <;> rfl)
  simp only [State.launchAt, State.run, tg, launch]

end

section
variable {ports : List Nat} {s t : State} (h : SlotFrame ports s t) (lt : ∀ m ∈ ports, m < 56)
include h

theorem SlotFrame.run (n : Nat) : t.run n = s.run n := run_congr h.tg n

include lt

/-- A register that is no counter of a port is as before the slots. -/
theorem SlotFrame.reg {a : Nat} (ha : a < 0x20000 ∨ 0x20E00 ≤ a ∨ a % 0x40 < 0xC) : t.reg a = s.reg a := by
  refine h.regs a fun m hm => ?_
  have := lt m hm
  simp only [R.ADL_PORT_CNT_RB, R.ADL_PORT_CNT_REPEAT]
  omega

theorem SlotFrame.reg_beside (a : Nat) (ha : a < 0x20000 ∨ 0x20E00 ≤ a) : t.reg a = s.reg a := h.reg lt (by omega)

variable {nn : Nat}

theorem SlotFrame.portCfg : t.portCfg nn = s.portCfg nn := by
  simp only [State.portCfg, h.rearCfg, h.reg lt (a := R.ADL_PORT_CFG nn) (by simp only [R.ADL_PORT_CFG]; omega)]

variable (n : Nat)

theorem SlotFrame.idle : slotIdle t n nn = slotIdle s n nn := by
  have state (f : FRef) (hf : f.addr = R.TG_PANEL_STATUS) : t.get f = s.get f := by
    rw [State.get, State.get, hf, h.reg lt (by decide)]
  simp only [slotIdle, h.live, state (if (n == 1) = true then F.TG_PANEL_STATUS_STATE_R else F.TG_PANEL_STATUS_STATE_F) (by split <;> rfl)]

theorem SlotFrame.type : slotType t n nn = slotType s n nn := by
  simp only [slotType, slotReady, h.run, h.idle lt, h.portCfg lt, h.dth]
  rfl

theorem SlotFrame.payload : slotPayload t n nn = slotPayload s n nn := by
  have ctrl (rear : Bool) (c : Nat) : t.ctrlPayload rear c = s.ctrlPayload rear c := by
    have field {f : FRef} (hf : 0x20E00 ≤ f.addr) : t.get f = s.get f := by
      rw [State.get, State.get, h.reg lt (.inr (.inl hf))]
    cases rear <;> simp [State.ctrlPayload, field, F.ADL_CTRL_F0_INV, F.ADL_CTRL_R0_INV, F.ADL_CTRL_F0_SLEW, F.ADL_CTRL_R0_SLEW,
      F.ADL_CTRL_F0_OE_DELAY, F.ADL_CTRL_R0_OE_DELAY, F.ADL_CTRL_F1_OE_WIDTH, F.ADL_CTRL_R1_OE_WIDTH, R.ADL_CTRL_F0, R.ADL_CTRL_R0, R.ADL_CTRL_F1,
      R.ADL_CTRL_R1]
  simp only [slotPayload, h.type lt, h.run, h.portCfg lt, h.dth, ctrl]

variable (other : nn ∉ ports) {l : Nat} (hl : l = laneA nn ∨ l = laneB nn)
include other hl

omit lt in
/-- The lanes of another port are as before the slots. -/
theorem SlotFrame.lane : t.lane l = s.lane l := by
  refine h.lanes l fun m hm => ?_
  have ne : m ≠ nn := fun e => other (e ▸ hm)
  simp only [laneA, laneB] at hl ⊢
  omega

theorem SlotFrame.laneSends : t.laneSends l = s.laneSends l := laneSends_congr (h.lane other hl) (h.reg_beside lt)

theorem SlotFrame.txSend (start : Nat) (cs : List Sym) :
    (t.txSend l start cs).1 = (s.txSend l start cs).1 ∧ (t.txSend l start cs).2.1 = (s.txSend l start cs).2.1 :=
  txSend_congr (h.lane other hl) (h.reg_beside lt) start cs

end

/-! ### What a slot sends -/

/-- Bytes that a packet of generator n has between K27.7 and K29.7 go out on lane l, coded and at its levels (R192, R302, R305). -/
def Carries (s : State) (n : Nat) (bs : List Byte) (u : State) (l : Nat) : Prop :=
  s.laneSends l = true →
    Output.lanePacket l (s.txSend l (s.launchAt n) (symK27_7 :: bs.map dSym ++ [symK29_7])).1
      (s.txSend l (s.launchAt n) (symK27_7 :: bs.map dSym ++ [symK29_7])).2.1 ∈ u.out

theorem Carries.laneSlot (s : State) (n : Nat) (bs : List Byte) (l : Nat) : Carries s n bs (s.laneSlot (s.launchAt n) bs l) l := by
  intro sends
  simp [State.laneSlot, sends, State.emit]

theorem Carries.mono {s u v : State} {n l : Nat} {bs : List Byte} (sub : u.out ⊆ v.out) (h : Carries s n bs u l) : Carries s n bs v l :=
  fun sends => sub (h sends)

/-- What a lane carries depends on what its slot looks at. -/
theorem Carries.congr {s t u : State} {n l : Nat} {bs : List Byte} (tg : t.tg = s.tg) (lane : t.lane l = s.lane l)
    (regs : ∀ a, a < 0x20000 ∨ 0x20E00 ≤ a → t.reg a = s.reg a) (h : Carries t n bs u l) : Carries s n bs u l := by
  intro sends
  obtain ⟨groups, levels⟩ := txSend_congr lane regs (s.launchAt n) (symK27_7 :: bs.map dSym ++ [symK29_7])
  have out := h ((laneSends_congr lane regs).trans sends)
  rwa [launchAt_congr tg regs, groups, levels] at out

theorem laneB_ne_laneA (nn : Nat) : laneB nn ≠ laneA nn := by simp only [laneA, laneB]; omega

/-- A packet on one lane of a port leaves the other lane as it is. -/
theorem laneSlot_other (s : State) (start : Nat) (bs : List Byte) {l m : Nat} (h : m ≠ l) : (s.laneSlot start bs l).lane m = s.lane m := by
  unfold State.laneSlot
  split
  · rfl
  · exact lane_setLane_ne s _ h

theorem laneSlot_frame (s : State) (start : Nat) (bs : List Byte) (l : Nat) :
    (s.laneSlot start bs l).tg = s.tg ∧ (s.laneSlot start bs l).regs = s.regs ∧ s.out ⊆ (s.laneSlot start bs l).out := by
  unfold State.laneSlot
  split
  · exact ⟨rfl, rfl, List.Subset.refl _⟩
  · exact ⟨rfl, rfl, List.subset_append_left _ _⟩

/-- The slot of a port with a lane that sends shows its packet and puts it on both lanes (R192, R194). -/
theorem sendSlot_out {s : State} (n : Nat) {nn : Nat} (sends : slotSends s nn = true) :
    Output.portPacket nn ⟨slotType s n nn, slotPacket s n nn⟩ ∈ (sendSlot s n nn).out
      ∧ ∀ l, l = laneA nn ∨ l = laneB nn → Carries s n (slotPacket s n nn) (sendSlot s n nn) l := by
  generalize hbs : slotPacket s n nn = bs
  generalize hp : Output.portPacket nn ⟨slotType s n nn, bs⟩ = p
  generalize ht : s.emit p = t
  generalize hu : t.laneSlot (t.launchAt n) bs (laneA nn) = u
  have eq : sendSlot s n nn = u.laneSlot (u.launchAt n) bs (laneB nn) := by
    simp only [sendSlot, sends, if_true, hbs, hp, ht, State.each, List.foldl_cons, List.foldl_nil, hu]
  obtain ⟨tgA, regsA, outA⟩ := laneSlot_frame t (t.launchAt n) bs (laneA nn)
  obtain ⟨-, -, outB⟩ := laneSlot_frame u (u.launchAt n) bs (laneB nn)
  rw [hu] at tgA regsA outA
  have tg : t.tg = s.tg := by rw [← ht]; rfl
  have lns : t.lns = s.lns := by rw [← ht]; rfl
  have regs : t.regs = s.regs := by rw [← ht]; rfl
  have shown : p ∈ t.out := by rw [← ht]; simp [State.emit]
  have onA : Carries t n bs u (laneA nn) := hu ▸ Carries.laneSlot t n bs (laneA nn)
  have onB := Carries.laneSlot u n bs (laneB nn)
  have laneB_u : u.lane (laneB nn) = t.lane (laneB nn) := hu ▸ laneSlot_other t _ bs (laneB_ne_laneA nn)
  have lane (l : Nat) : t.lane l = s.lane l := by simp only [State.lane, lns]
  rw [eq]
  refine ⟨outB (outA shown), ?_⟩
  rintro l (rfl | rfl)
  · exact (onA.congr tg (lane _) fun a _ => reg_congr regs a).mono outB
  · exact onB.congr (tgA.trans tg) (laneB_u.trans (lane _)) fun a _ => reg_congr (regsA.trans regs) a

/-- A REPEAT_LINE counts for its port (R194, Table 8.10). -/
theorem countSlot_repeat {s : State} {n nn : Nat} (t : State) (sends : slotSends s nn = true) (typ : slotType s n nn = 2) :
    countSlot s n nn t = t.count (R.ADL_PORT_CNT_REPEAT nn) := by
  simp [countSlot, sends, typ]

/-- A CTRL is noted for its port (Table 8.5). -/
theorem countSlot_ctrl {s : State} {n nn : Nat} (t : State) (sends : slotSends s nn = true) (typ : slotType s n nn = 3) :
    nn ∈ (countSlot s n nn t).adl.ctrlSent := by
  simp [countSlot, sends, typ]

theorem reg_readBack_ne (s : State) (nn : Nat) (b bad : Bool) {a : Nat} (h : a ≠ R.ADL_PORT_CNT_RB nn) : (s.readBack nn b bad).reg a = s.reg a := by
  unfold State.readBack
  generalize (if b = true then laneB nn else laneA nn) = l
  generalize (if b = true then (31, 16) else (15, 0)) = half
  dsimp only
  split
  · rfl
  split
  · exact reg_congr rfl a
  · exact (reg_congr (by rfl) a).trans (reg_setReg_ne s _ h)

theorem signSlot_regs (s : State) (n nn : Nat) (bad : List Nat) (t : State) : (signSlot s n nn bad t).regs = t.regs := by
  unfold signSlot
  split
  · rfl
  · exact (apply_ite State.regs _ _ _).trans (ite_self _)

theorem askSlot_regs (s : State) (nn : Nat) (t : State) : (askSlot s nn t).regs = t.regs := by
  unfold askSlot
  repeat' split
  all_goals rfl

theorem sendSlot_regs (s : State) (n nn : Nat) : (sendSlot s n nn).regs = s.regs := by
  have lane (t : State) (start : Nat) (l : Nat) : (t.laneSlot start (slotPacket s n nn) l).regs = t.regs := (laneSlot_frame t start _ l).2.1
  simp only [sendSlot, State.each, List.foldl_cons, List.foldl_nil, lane]
  split <;> rfl

/-- What the slot of a port does with its packet (R192 to R194). -/
theorem portSlot_sends {s : State} (n : Nat) {nn : Nat} (bad : List Nat) (sends : slotSends s nn = true) :
    let u := s.portSlot n nn bad
    Output.portPacket nn ⟨slotType s n nn, slotPacket s n nn⟩ ∈ u.out
      ∧ (∀ l, l = laneA nn ∨ l = laneB nn → Carries s n (slotPacket s n nn) u l)
      ∧ (slotType s n nn = 2 → u.reg (R.ADL_PORT_CNT_REPEAT nn) = min 0xFFFFFFFF (s.reg (R.ADL_PORT_CNT_REPEAT nn) + 1))
      ∧ (slotType s n nn = 3 → nn ∈ u.adl.ctrlSent) := by
  obtain ⟨shown, lanes⟩ := sendSlot_out n sends
  have after := slotStep_afterSend s n nn bad
  refine ⟨after.out shown, fun l hl => (lanes l hl).mono after.out, fun typ => ?_, fun typ => ?_⟩
  · have apart : R.ADL_PORT_CNT_REPEAT nn ≠ R.ADL_PORT_CNT_RB nn := by simp only [R.ADL_PORT_CNT_REPEAT, R.ADL_PORT_CNT_RB]; omega
    rw [portSlot_eq, reg_congr (signSlot_regs s n nn bad _), reg_readBack_ne _ _ _ _ apart, reg_readBack_ne _ _ _ _ apart, countSlot_repeat _ sends typ,
      reg_count_self, reg_congr (askSlot_regs s nn _), reg_congr (sendSlot_regs s n nn)]
  · rw [portSlot_eq]
    have noted := countSlot_ctrl (askSlot s nn (sendSlot s n nn)) sends typ
    exact (((slotStep_readBack _ nn false _).trans (slotStep_readBack _ nn true _)).trans (slotStep_signSlot s n nn bad _)).ctrlSent noted

end Sys2Proof.Laws
end

section
/-! What follows the ports' slots in a line slot of the front layer (R32, R194, R205), and which ports have one. -/

namespace Sys2Proof.Laws

open Sys2Proof Sys2Proof.Machine

/-- The ports of the front layer that have a slot. -/
def frontPorts (s : State) : List Nat := (s.layerPorts false).filter fun nn => 2 ≤ s.portState nn && s.domOn (6 + nn / 7)

/-- Some live port of the front layer lacks values of an active line (R32). -/
def frontLate (s : State) : Bool :=
  (s.run 0).line < (s.run 0).vactive && !(s.get F.TG_PANEL_STATUS_STATE_F == 1)
    && ((frontPorts s).filter s.adl.live.contains).any fun nn => !slotReady s 0 nn

/-- The underrun is counted and reported, and the generator notes the line. -/
def markLine (late : Bool) (r : TgRun) (t : State) : State :=
  let u := (t.countIf late (R.TG_CNT_UNDERRUN 0)).raiseIf (late && !r.underrun) 115 3
  u.setRun 0 { u.run 0 with underrun := r.underrun || late, linesSent := r.line + 1 }

/-- An active line leaves the exit buffer (R32). -/
def dropLine (r : TgRun) (t : State) : State :=
  if r.line < r.vactive then
    { t with dth := { t.dth with values := t.dth.values.filter fun e => !(((e.1 % 4 == 3) == false) && e.1 / 65536 == r.line) } }
  else t

/-- What follows the ports' slots. -/
def endLine (s t : State) : State :=
  let u := dropLine (s.run 0) (markLine (frontLate s) (s.run 0) t)
  if (s.run 0).line + 1 = (s.run 0).vactive then u.frameDone 0 else u

/-- The slots of the front ports, and what follows them. -/
theorem lineSlot_front {s : State} (bad : List Nat) (on : (s.run 0).on = true) (due : (s.run 0).linesSent ≤ (s.run 0).line) :
    s.lineSlot .front bad = endLine s (s.each (frontPorts s) fun t nn => t.portSlot 0 nn bad) := by
  have go : ¬ (!(s.run 0).on || decide ((s.run 0).line < (s.run 0).linesSent)) = true := by simp [on]; omega
  exact if_neg go

theorem lineSlot_off {s : State} (bad : List Nat) (off : (s.run 0).on = false) : s.lineSlot .front bad = s := by
  have stop : (!(s.run 0).on || decide ((s.run 0).line < (s.run 0).linesSent)) = true := by simp [off]
  exact if_pos stop

/-! ### What follows the ports' slots -/

theorem markLine_frame (late : Bool) (r : TgRun) (t : State) :
    (markLine late r t).out = t.out ∧ (markLine late r t).adl = t.adl ∧ (markLine late r t).dth = t.dth := by
  simp [markLine]

theorem run_markLine (late : Bool) (r : TgRun) (t : State) :
    (markLine late r t).run 0 = { t.run 0 with underrun := r.underrun || late, linesSent := r.line + 1 } := by
  simp [markLine, State.setRun, State.run]

theorem reg_markLine_ne (late : Bool) (r : TgRun) (t : State) {a : Nat} (h : a ≠ R.TG_CNT_UNDERRUN 0) : (markLine late r t).reg a = t.reg a :=
  (reg_congr (by simp [markLine]) a).trans (reg_countIf_ne t late h)

theorem underruns_markLine {late : Bool} (r : TgRun) (t : State) (h : late = true) :
    (markLine late r t).reg (R.TG_CNT_UNDERRUN 0) = min 0xFFFFFFFF (t.reg (R.TG_CNT_UNDERRUN 0) + 1) := by
  have counted := reg_countIf_self t late (R.TG_CNT_UNDERRUN 0)
  rw [if_pos h] at counted
  exact (reg_congr (by simp [markLine]) _).trans counted

/-- An underrun is reported where the frame has none yet (R32). -/
theorem markLine_reports {late : Bool} {r : TgRun} (t : State) (h : late = true) (first : r.underrun = false) :
    ⟨115, 3⟩ ∈ (markLine late r t).occ := by
  simp [markLine, h, first, State.raiseIf, State.raise]

theorem dropLine_frame (r : TgRun) (t : State) :
    (dropLine r t).out = t.out ∧ (dropLine r t).adl = t.adl ∧ (dropLine r t).tg = t.tg ∧ (dropLine r t).occ = t.occ
      ∧ (dropLine r t).regs = t.regs := by
  unfold dropLine
  split <;> exact ⟨rfl, rfl, rfl, rfl, rfl⟩

/-- A key that a filter takes out is not found. -/
theorem mfind_filter_none {α : Type} {p : Nat → Bool} {k : Nat} (h : p k = false) (m : SMap α) : mfind (m.filter fun e => p e.1) k = none := by
  induction m with
  | nil => rfl
  | cons e m ih =>
    rw [List.filter_cons]
    split
    · next kept =>
      have ne : k ≠ e.1 := by
        rintro rfl
        simp [h] at kept
      simp only [mfind, if_neg ne, ih]
    · exact ih

theorem dropLine_values {r : TgRun} (t : State) {key : Nat} (active : r.line < r.vactive) (front : key % 4 ≠ 3) (line : key / 65536 = r.line) :
    mfind (dropLine r t).dth.values key = none := by
  rw [dropLine, if_pos active]
  exact mfind_filter_none (p := fun k => !(((k % 4 == 3) == false) && k / 65536 == r.line)) (by simp [front, line]) _

theorem frameDone_frame (s : State) (n : Nat) :
    (s.frameDone n).out = s.out ∧ (s.frameDone n).adl = s.adl ∧ (s.frameDone n).tg = s.tg ∧ (s.frameDone n).dth = s.dth
      ∧ (s.frameDone n).occ = s.occ ++ [⟨114 + 4 * n, 0⟩] := by
  simp [State.frameDone, State.raise]

theorem reg_frameDone_ne (s : State) {a : Nat} (h : a < 0x21000) : (s.frameDone 0).reg a = s.reg a := by
  simp only [State.frameDone]
  refine (reg_congr (State.raise_regs _ _ _) a).trans ((reg_putB_ne _ _ ?_).trans ((reg_setReg_ne _ _ ?_).trans ((reg_setReg_ne _ _ ?_).trans
    (reg_setReg_ne _ _ ?_))))
  · exact Nat.ne_of_lt (Nat.lt_of_lt_of_le h (by decide))
  · exact Nat.ne_of_lt (Nat.lt_of_lt_of_le h (by decide))
  · exact Nat.ne_of_lt (Nat.lt_of_lt_of_le h (by decide))
  · exact Nat.ne_of_lt (Nat.lt_of_lt_of_le h (by decide))

/-- The frame's end, where the last active line has been sent, adds an occurrence and writes registers above the ports'. -/
structure EndFrame (t u : State) : Prop where
  out : u.out = t.out
  adl : u.adl = t.adl
  tg : u.tg = t.tg
  dth : u.dth = t.dth
  occ : t.occ ⊆ u.occ
  regs : ∀ a, a < 0x21000 → u.reg a = t.reg a

theorem endFrame_endLine (s t : State) : EndFrame (dropLine (s.run 0) (markLine (frontLate s) (s.run 0) t)) (endLine s t) := by
  unfold endLine
  generalize dropLine (s.run 0) (markLine (frontLate s) (s.run 0) t) = u
  split
  · obtain ⟨out, adl, tg, dth, occ⟩ := frameDone_frame u 0
    exact ⟨out, adl, tg, dth, occ ▸ List.subset_append_left _ _, fun a ha => reg_frameDone_ne u ha⟩
  · exact ⟨rfl, rfl, rfl, rfl, List.Subset.refl _, fun _ _ => rfl⟩

section
variable (s t : State)

theorem endLine_out : (endLine s t).out = t.out :=
  ((endFrame_endLine s t).out.trans (dropLine_frame _ _).1).trans (markLine_frame _ _ t).1

theorem endLine_adl : (endLine s t).adl = t.adl :=
  ((endFrame_endLine s t).adl.trans (dropLine_frame _ _).2.1).trans (markLine_frame _ _ t).2.1

theorem run_endLine :
    (endLine s t).run 0 = { t.run 0 with underrun := (s.run 0).underrun || frontLate s, linesSent := (s.run 0).line + 1 } := by
  obtain ⟨-, -, tg, -, -⟩ := dropLine_frame (s.run 0) (markLine (frontLate s) (s.run 0) t)
  exact (run_congr ((endFrame_endLine s t).tg.trans tg) 0).trans (run_markLine _ _ t)

/-- Registers below those of the frame's end are as after the underrun's count. -/
theorem reg_endLine {a : Nat} (h : a < 0x21000) : (endLine s t).reg a = (markLine (frontLate s) (s.run 0) t).reg a := by
  obtain ⟨-, -, -, -, regs⟩ := dropLine_frame (s.run 0) (markLine (frontLate s) (s.run 0) t)
  exact ((endFrame_endLine s t).regs a h).trans (reg_congr regs a)

theorem endLine_values {key : Nat} (active : (s.run 0).line < (s.run 0).vactive) (front : key % 4 ≠ 3) (line : key / 65536 = (s.run 0).line) :
    mfind (endLine s t).dth.values key = none := by
  rw [(endFrame_endLine s t).dth]
  exact dropLine_values _ active front line

/-- An underrun counts, is kept, and is reported once a frame (R32). -/
theorem endLine_late (late : frontLate s = true) :
    (endLine s t).reg (R.TG_CNT_UNDERRUN 0) = min 0xFFFFFFFF (t.reg (R.TG_CNT_UNDERRUN 0) + 1) ∧ ((endLine s t).run 0).underrun = true
      ∧ ((s.run 0).underrun = false → ⟨115, 3⟩ ∈ (endLine s t).occ) := by
  obtain ⟨-, -, -, occ, -⟩ := dropLine_frame (s.run 0) (markLine (frontLate s) (s.run 0) t)
  refine ⟨(reg_endLine s t (by decide)).trans (underruns_markLine _ t late), by simp [run_endLine, late], fun first => ?_⟩
  refine (endFrame_endLine s t).occ ?_
  rw [occ]
  exact markLine_reports t late first

end

/-! ### Which ports have a slot -/

theorem mem_frontPorts {s : State} {nn : Nat} : nn ∈ frontPorts s ↔
    nn < 56 ∧ (s.portCfg nn).en = true ∧ (s.portCfg nn).rear = false ∧ 2 ≤ s.portState nn ∧ s.domOn (6 + nn / 7) = true := by
  simp only [frontPorts, State.layerPorts, upTo, List.mem_filter, List.mem_range, Bool.and_eq_true, beq_iff_eq, decide_eq_true_eq]
  tauto

theorem nodup_frontPorts (s : State) : (frontPorts s).Nodup := (List.nodup_range.filter _).filter _

theorem each_append {α : Type} (s : State) (l m : List α) (f : State → α → State) : s.each (l ++ m) f = (s.each l f).each m f :=
  List.foldl_append

/-- A live port without its values is an underrun of an active line. -/
theorem frontLate_of_missing {s : State} {nn : Nat} (active : (s.run 0).line < (s.run 0).vactive) (on : s.panelState .front ≠ 1)
    (port : nn ∈ frontPorts s) (live : nn ∈ s.adl.live) (missing : slotReady s 0 nn = false) : frontLate s = true := by
  have state : s.get F.TG_PANEL_STATUS_STATE_F ≠ 1 := on
  have some : ((frontPorts s).filter s.adl.live.contains).any (fun nn => !slotReady s 0 nn) = true :=
    List.any_eq_true.2 ⟨nn, by simp [port, live], by simp [missing]⟩
  simp [frontLate, active, state, some]

end Sys2Proof.Laws
end

section
/-! The slots of the front ports one after the other (R194), and the line slot. -/

namespace Sys2Proof.Laws

open Sys2Proof Sys2Proof.Machine

/-- The slots of all front ports. -/
def frontSlots (s : State) (bad : List Nat) : State := (begun s).each (frontPorts s) fun t nn => t.portSlot 0 nn bad

theorem lineSlot_begun {s : State} (bad : List Nat) (on : (s.run 0).on = true) (due : (s.run 0).linesSent ≤ (s.run 0).line) :
    (begun s).lineSlot .front bad = endLine s (frontSlots s bad) := lineSlot_front (s := begun s) bad on due

theorem slotFrame_begun (s : State) : SlotFrame [] s (begun s) :=
  ⟨rfl, rfl, rfl, rfl, fun _ _ => rfl, fun a _ => begun_reg s a⟩

/-- Slots of ports after the start of a command. -/
theorem slotFrame_each (s : State) (ports bad : List Nat) : SlotFrame ports s ((begun s).each ports fun t nn => t.portSlot 0 nn bad) :=
  ((slotFrame_begun s).mono (List.nil_subset _)).trans (SlotStep.each (fun t nn => slotStep_portSlot t 0 nn bad) (begun s)).toSlotFrame

theorem SlotFrame.slotSends {ports : List Nat} {s t : State} (h : SlotFrame ports s t) (lt : ∀ m ∈ ports, m < 56) {nn : Nat} (other : nn ∉ ports) :
    slotSends t nn = slotSends s nn := by
  simp only [Laws.slotSends, h.laneSends lt other (.inl rfl), h.laneSends lt other (.inr rfl)]

/-- The packet of a front port goes out, on the lanes that send, whatever status poll it carries (R192, R194, R302, R305). -/
def SlotSent (s : State) (nn typ count : Nat) (payload : List Byte) (u : State) : Prop := ∃ sreq tag,
  let bs := portPacketBytes typ (s.dth.snap.driverBits false) ((s.run 0).line == 0) sreq tag (s.reg (R.TG_FRAME_NO 0)) (s.run 0).line count payload
  Output.portPacket nn ⟨typ, bs⟩ ∈ u.out ∧ ∀ l, l = laneA nn ∨ l = laneB nn → Carries s 0 bs u l

theorem SlotSent.mono {s u v : State} {nn typ count : Nat} {payload : List Byte} (sub : u.out ⊆ v.out) (h : SlotSent s nn typ count payload u) :
    SlotSent s nn typ count payload v := by
  obtain ⟨sreq, tag, shown, lanes⟩ := h
  exact ⟨sreq, tag, sub shown, fun l hl => (lanes l hl).mono sub⟩

/-- Slots of other ports before that of a port are nothing to it. -/
theorem SlotFrame.sent {ports : List Nat} {s t u : State} (h : SlotFrame ports s t) (lt : ∀ m ∈ ports, m < 56) {nn : Nat} (other : nn ∉ ports)
    (shown : Output.portPacket nn ⟨slotType t 0 nn, slotPacket t 0 nn⟩ ∈ u.out)
    (lanes : ∀ l, l = laneA nn ∨ l = laneB nn → Carries t 0 (slotPacket t 0 nn) u l) :
    SlotSent s nn (slotType s 0 nn) (if slotType s 0 nn = 1 then (s.portCfg nn).channels else 0) (slotPayload s 0 nn) u := by
  have frame : t.reg (R.TG_FRAME_NO 0) = s.reg (R.TG_FRAME_NO 0) := h.reg lt (.inl (by decide))
  have bytes : slotPacket t 0 nn = portPacketBytes (slotType s 0 nn) (s.dth.snap.driverBits false) ((s.run 0).line == 0) (slotAsks t nn)
      (mget 0 t.adl.tags nn) (s.reg (R.TG_FRAME_NO 0)) (s.run 0).line (if slotType s 0 nn = 1 then (s.portCfg nn).channels else 0)
      (slotPayload s 0 nn) := by
    simp only [slotPacket, h.type lt, h.dth, h.run, frame, h.portCfg lt, h.payload lt]
    rfl
  rw [bytes] at shown lanes
  rw [h.type lt] at shown
  exact ⟨_, _, shown, fun l hl => (lanes l hl).congr h.tg (h.lane other hl) (h.reg_beside lt)⟩

/-- The counter of a port that no slot of other ports counts in. -/
theorem SlotFrame.repeats {ports : List Nat} {s t : State} (h : SlotFrame ports s t) {nn : Nat} (other : nn ∉ ports) :
    t.reg (R.ADL_PORT_CNT_REPEAT nn) = s.reg (R.ADL_PORT_CNT_REPEAT nn) := by
  refine h.regs _ fun m hm => ?_
  have ne : m ≠ nn := fun e => other (e ▸ hm)
  simp only [R.ADL_PORT_CNT_REPEAT, R.ADL_PORT_CNT_RB]
  omega

/-- What the slots do with the packet of one port among them (R192 to R194). -/
theorem frontSlots_send {s : State} {nn : Nat} (bad : List Nat) (port : nn ∈ frontPorts s) (sends : slotSends s nn = true) :
    let u := frontSlots s bad
    SlotSent s nn (slotType s 0 nn) (if slotType s 0 nn = 1 then (s.portCfg nn).channels else 0) (slotPayload s 0 nn) u
      ∧ (slotType s 0 nn = 2 → u.reg (R.ADL_PORT_CNT_REPEAT nn) = min 0xFFFFFFFF (s.reg (R.ADL_PORT_CNT_REPEAT nn) + 1))
      ∧ (slotType s 0 nn = 3 → nn ∈ u.adl.ctrlSent) := by
  obtain ⟨before, after, split⟩ := List.append_of_mem port
  have distinct := nodup_frontPorts s
  rw [split] at distinct
  obtain ⟨-, ⟨notAfter, -⟩, apart⟩ : before.Nodup ∧ (nn ∉ after ∧ after.Nodup) ∧ ∀ m ∈ before, m ≠ nn ∧ _ := by
    simpa [List.nodup_append, List.nodup_cons] using distinct
  have notBefore : nn ∉ before := fun h => (apart nn h).1 rfl
  have lt (m : Nat) (h : m ∈ before) : m < 56 := (mem_frontPorts.1 (split ▸ List.mem_append_left _ h)).1
  have first := slotFrame_each s before bad
  have eq : frontSlots s bad = (((begun s).each before fun t nn => t.portSlot 0 nn bad).portSlot 0 nn bad).each after fun t nn => t.portSlot 0 nn bad := by
    rw [frontSlots, split, each_append]
    rfl
  rw [eq]
  generalize ((begun s).each before fun t nn => t.portSlot 0 nn bad) = t at first
  obtain ⟨shown, lanes, counted, noted⟩ := portSlot_sends 0 bad ((first.slotSends lt notBefore).trans sends)
  have rest := SlotStep.each (fun t nn => slotStep_portSlot t 0 nn bad) (l := after) (t.portSlot 0 nn bad)
  refine ⟨(first.sent lt notBefore shown lanes).mono rest.out, fun typ => ?_, fun typ => rest.ctrlSent (noted ((first.type lt 0).trans typ))⟩
  rw [rest.repeats notAfter, counted ((first.type lt 0).trans typ), first.repeats notBefore]

/-! ### The type of a port's packet (R194) -/

section
variable {s : State} {nn : Nat}

/-- A live port of a layer that does not power on sends lines. -/
theorem slotIdle_front (on : s.panelState .front ≠ 1) (live : nn ∈ s.adl.live) : slotIdle s 0 nn = false := by
  have state : s.get F.TG_PANEL_STATUS_STATE_F ≠ 1 := on
  simp [slotIdle, state, live]

theorem slotType_line (active : (s.run 0).line < (s.run 0).vactive) (lines : slotIdle s 0 nn = false) (ready : slotReady s 0 nn = true) :
    slotType s 0 nn = 1 := by
  simp [slotType, active, lines, ready]

theorem slotType_repeat (active : (s.run 0).line < (s.run 0).vactive) (lines : slotIdle s 0 nn = false) (missing : slotReady s 0 nn = false) :
    slotType s 0 nn = 2 := by
  simp [slotType, active, lines, missing]

theorem slotType_ctrl (after : (s.run 0).line = (s.run 0).vactive) : slotType s 0 nn = 3 := by simp [slotType, after]

end

/-! ### The line slot of the front layer -/

section
variable {s : State} {nn : Nat} (bad : List Nat) (port : nn ∈ frontPorts s) (sends : slotSends s nn = true)
include port sends

/-- A port whose values are ready sends them (R193, R194). -/
theorem lineSlot_line (active : (s.run 0).line < (s.run 0).vactive) (lines : slotIdle s 0 nn = false) (ready : slotReady s 0 nn = true) :
    SlotSent s nn 1 (s.portCfg nn).channels
      (linePayload (s.dth.snap.driverBits false) (((s.portCfg nn).keys (s.run 0).line).map (mget 0 s.dth.values ·)))
      (endLine s (frontSlots s bad)) := by
  have sent := (frontSlots_send bad port sends).1
  have typ := slotType_line active lines ready
  rw [slotPayload, if_pos typ, if_pos typ, typ] at sent
  exact sent.mono (by rw [endLine_out]; exact List.Subset.refl _)

/-- A port whose values are not ready repeats its line, which counts (R32, R194). -/
theorem lineSlot_repeat (active : (s.run 0).line < (s.run 0).vactive) (lines : slotIdle s 0 nn = false) (missing : slotReady s 0 nn = false) :
    SlotSent s nn 2 0 [] (endLine s (frontSlots s bad))
      ∧ (endLine s (frontSlots s bad)).reg (R.ADL_PORT_CNT_REPEAT nn) = min 0xFFFFFFFF (s.reg (R.ADL_PORT_CNT_REPEAT nn) + 1) := by
  obtain ⟨sent, counted, -⟩ := frontSlots_send bad port sends
  have typ := slotType_repeat active lines missing
  have lt := (mem_frontPorts.1 port).1
  have below : R.ADL_PORT_CNT_REPEAT nn < 0x21000 := by simp only [R.ADL_PORT_CNT_REPEAT]; omega
  have apart : R.ADL_PORT_CNT_REPEAT nn ≠ R.TG_CNT_UNDERRUN 0 := by simp only [R.ADL_PORT_CNT_REPEAT, R.TG_CNT_UNDERRUN]; omega
  rw [slotPayload, typ] at sent
  refine ⟨sent.mono (by rw [endLine_out]; exact List.Subset.refl _), ?_⟩
  rw [reg_endLine _ _ below, reg_markLine_ne _ _ _ apart, counted typ]

/-- In the line after the active ones a port sends a CTRL packet (R194, Table 8.5). -/
theorem lineSlot_ctrl (after : (s.run 0).line = (s.run 0).vactive) :
    SlotSent s nn 3 0 (s.ctrlPayload false (s.portCfg nn).channels) (endLine s (frontSlots s bad))
      ∧ nn ∈ (endLine s (frontSlots s bad)).adl.ctrlSent := by
  obtain ⟨sent, -, noted⟩ := frontSlots_send bad port sends
  have typ : slotType s 0 nn = 3 := slotType_ctrl after
  rw [slotPayload, typ] at sent
  exact ⟨sent.mono (by rw [endLine_out]; exact List.Subset.refl _), by rw [endLine_adl]; exact noted typ⟩

end

/-- The line slot's underrun (R32). -/
theorem lineSlot_late {s : State} (bad : List Nat) (late : frontLate s = true) :
    let u := endLine s (frontSlots s bad)
    u.reg (R.TG_CNT_UNDERRUN 0) = min 0xFFFFFFFF (s.reg (R.TG_CNT_UNDERRUN 0) + 1) ∧ (u.run 0).underrun = true
      ∧ ((s.run 0).underrun = false → ⟨115, 3⟩ ∈ u.occ) := by
  have slots := slotFrame_each s (frontPorts s) bad
  have lt (m : Nat) (h : m ∈ frontPorts s) : m < 56 := (mem_frontPorts.1 h).1
  have counted := endLine_late s (frontSlots s bad) late
  rwa [show (frontSlots s bad).reg (R.TG_CNT_UNDERRUN 0) = s.reg (R.TG_CNT_UNDERRUN 0) from slots.reg lt (.inl (by decide))] at counted

theorem run_lineSlot (s : State) (bad : List Nat) : (endLine s (frontSlots s bad)).run 0 =
    { s.run 0 with underrun := (s.run 0).underrun || frontLate s, linesSent := (s.run 0).line + 1 } := by
  rw [run_endLine, show (frontSlots s bad).run 0 = s.run 0 from (slotFrame_each s (frontPorts s) bad).run 0]

theorem ends_frontSlot {s : State} {bad : List Nat} (lanes : (bad.all fun l => 32 ≤ l && l < 144) = true) (on : (s.run 0).on = true)
    (due : (s.run 0).linesSent ≤ (s.run 0).line) : Ends (.lineSlot .front bad) s (endLine s (frontSlots s bad)) :=
  lineSlot_begun bad on due ▸ ends_lineSlot .front bad s lanes

/-- Settles O45: the packet of a port keeps through the slots of the other ports, which look at and change nothing of it. -/
theorem lineSlots : Obligations.LineSlots := by
  unfold Obligations.LineSlots
  intro s nn bad lanes
  have slot (h : nn < 56 ∧ (s.portCfg nn).en = true ∧ (s.portCfg nn).rear = false ∧ s.portState nn = 2 ∧ s.domOn (6 + nn / 7) = true
      ∧ (s.laneSends (laneA nn) = true ∨ s.laneSends (laneB nn) = true)) : nn ∈ frontPorts s ∧ slotSends s nn = true := by
    obtain ⟨lt, en, front, up, dom, sends⟩ := h
    exact ⟨mem_frontPorts.2 ⟨lt, en, front, by omega, dom⟩, by simpa [slotSends] using sends⟩
  refine ⟨fun on due active => ⟨_, ends_frontSlot lanes on due, by rw [run_lineSlot], by rw [run_lineSlot],
      fun key front line => endLine_values s _ active front line, fun port panel live => ⟨fun ready => ?_, fun missing => ?_⟩⟩,
    fun on due after => ⟨_, ends_frontSlot lanes on due, fun port => ?_⟩, fun off => ?_⟩
  · exact lineSlot_line bad (slot port).1 (slot port).2 active (slotIdle_front panel live) ready
  · obtain ⟨sent, counted⟩ := lineSlot_repeat bad (slot port).1 (slot port).2 active (slotIdle_front panel live) missing
    obtain ⟨underruns, kept, reported⟩ := lineSlot_late bad (frontLate_of_missing active panel (slot port).1 live missing)
    exact ⟨sent, counted, underruns, kept, reported⟩
  · exact lineSlot_ctrl bad (slot port).1 (slot port).2 after
  · have stays : (begun s).lineSlot .front bad = begun s := lineSlot_off (s := begun s) bad off
    exact stays ▸ ends_lineSlot .front bad s lanes

end Sys2Proof.Laws
end

section
/-! What is wrong with O32. A command whose operands name a unit that the part does not have is refused (log entry 3), and VID_LINE names the
bands whose entry buffers overflow with the packet, 0 to 15. Only the clause of an overflow says of `bands` that they are bands; the clauses
of the lines that come whole, or after a gap, say so in stream mode alone, where they ask for none. -/

namespace Sys2Proof.Laws

open Sys2Proof Sys2Proof.Machine

/-- A refused command has no end. -/
theorem not_ends_of_refused {c : Instr} {s : State} {eff : State → State} (ill : c.wellFormed = false) (e : exec c s = checked c s eff) (u : State) :
    ¬ Ends c s u := by
  rw [Ends, e, checked_refused ill]
  exact nofun

/-- VID_LINE with an entry buffer that the part does not have is refused. -/
theorem not_ends_vidLine {rx : LinkRx} {bands : List Nat} (ill : bands.all (· < 16) = false) (s u : State) :
    ¬ Ends (.vidLine rx bands () () () () ()) s u :=
  not_ends_of_refused (c := .vidLine rx bands () () () () ()) (eff := fun s => s.packet 2 rx fun p s => s.vidPacket p bands rx.check) ill rfl u

/-- A frame of 64 × 4 pixels in format P24 whose first pixel the link brings next. -/
def awaited : RxFrame := { no := 7#32, w := 64, h := 4, fmt := 1 }

/-- The link UP on one flock, with that frame open, not in stream mode. -/
def receiving : State :=
  let s := (State.reset.put F.PIL_CFG_FLOCK_EN 1).put F.PIL_STATUS_LINK_STATE 2
  { s with pil := { s.pil with rx := some awaited } }

/-- The frame's first pixel in a VID_LINE of its own. -/
def firstPixel : LinkPacket := ⟨2, false, 0, 0, 0, 1, 1, [0x80#8, 0x80#8, 0x80#8]⟩

/-- That packet as the seven logical lanes bring it. -/
def firstPixelRx : LinkRx := ⟨stripe 7 firstPixel.toBytes, true, false, ⟨[], []⟩⟩

theorem rxPacket_firstPixelRx : rxPacket firstPixelRx = firstPixel := by decide +kernel

/-- The part takes the packet as good, and buffers its lines. -/
theorem receiving_good : receiving.packetGood firstPixelRx = true ∧ receiving.get F.DEV_PATH_STATUS_MODE ≠ 1 := by decide +kernel

/-- Refutes O32: off stream mode the pixel at the expected position is to be put in its place whatever `bands` holds, and with a band 16,
which the part does not have, the command is refused as ill-formed. -/
theorem not_sourceFrames : ¬ Obligations.SourceFrames := by
  intro h
  obtain ⟨-, packets, -⟩ := h receiving firstPixelRx awaited [16]
  obtain ⟨good, mode⟩ := receiving_good
  obtain ⟨-, line, -⟩ := packets good
  rw [rxPacket_firstPixelRx] at line
  obtain ⟨u, ends, -⟩ := line (by decide) (.inl mode) rfl rfl
  exact not_ends_vidLine (by decide) receiving u ends

end Sys2Proof.Laws
end

section
/-! What the effects of the link's commands keep (chapter 2): the registers outside a set, `LINK_STATE`, the events raised so far, the
rotations, the `META` payload that waits and the note of a failed packet. -/

namespace Sys2Proof.LinkLaws

open Sys2Proof Sys2Proof.Machine
open Sys2Proof.Laws hiding taken

/-- From s to t only registers of W change, and not `LINK_STATE` among them; events are only added, and of the link's state its
rotations, the `META` payload that waits and the note of a failed packet stay. -/
structure LinkStep (W : Nat → Prop) (s t : State) : Prop where
  reg : ∀ a, ¬ W a → t.reg a = s.reg a
  link : t.linkState = s.linkState
  occ : s.occ <+: t.occ
  rot : t.pil.rot = s.pil.rot
  metaNew : t.pil.metaNew = s.pil.metaNew
  crcSeen : t.pil.crcSeen = s.pil.crcSeen

/-- The registers that a concealment may change: its counter, and the folds' (R71, R269). -/
def ConcealRegs (a : Nat) : Prop := a = R.PIL_CNT_CONCEAL ∨ 0x2C000 ≤ a ∧ a < 0x34000

/-- The registers of the engines after the link's, from `SRF` on. -/
def LaterRegs (a : Nat) : Prop := 0x28000 ≤ a

/-- The registers that a change of the link's state may change. -/
def LinkRegs (a : Nat) : Prop := a = R.PIL_STATUS ∨ a = R.PIL_CNT_CONCEAL ∨ 0x28000 ≤ a

/-- The registers that the end of a frame in reception may change: besides a concealment's, those of a sleep that it lets begin (R76). -/
def CutRegs (a : Nat) : Prop := a = R.PIL_STATUS ∨ ConcealRegs a ∨ a = R.SRF_STATUS

theorem linkRegs_of_cut (a : Nat) (h : CutRegs a) : LinkRegs a := by unfold CutRegs ConcealRegs LinkRegs R.SRF_STATUS at *; omega

theorem linkRegs_of_conceal (a : Nat) (h : ConcealRegs a) : LinkRegs a := by unfold ConcealRegs LinkRegs at *; omega

theorem linkRegs_of_later (a : Nat) (h : LaterRegs a) : LinkRegs a := .inr (.inr h)

section
variable {W : Nat → Prop} {s t u : State}

theorem LinkStep.refl (s : State) : LinkStep W s s := ⟨fun _ _ => rfl, rfl, List.prefix_refl _, rfl, rfl, rfl⟩

theorem LinkStep.trans (h : LinkStep W s t) (k : LinkStep W t u) : LinkStep W s u where
  reg a ha := (k.reg a ha).trans (h.reg a ha)
  link := k.link.trans h.link
  occ := h.occ.trans k.occ
  rot := k.rot.trans h.rot
  metaNew := k.metaNew.trans h.metaNew
  crcSeen := k.crcSeen.trans h.crcSeen

theorem LinkStep.mono {V : Nat → Prop} (sub : ∀ a, V a → W a) (h : LinkStep V s t) : LinkStep W s t :=
  { h with reg := fun a ha => h.reg a fun v => ha (sub a v) }

theorem LinkStep.ite {c : Prop} [Decidable c] (h : LinkStep W s t) (k : LinkStep W s u) : LinkStep W s (if c then t else u) := by
  split
  · exact h
  · exact k

/-- A fold whose every step keeps to W. -/
theorem linkStep_foldl {α β : Type} (proj : β → State) {f : β → α → β} {l : List α} (h : ∀ b, ∀ x ∈ l, LinkStep W (proj b) (proj (f b x))) :
    ∀ b : β, LinkStep W (proj b) (proj (l.foldl f b)) := by
  induction l with
  | nil => exact fun b => .refl _
  | cons x l ih => exact fun b => (h b x (by simp)).trans (ih (fun b y hy => h b y (by simp [hy])) _)

theorem linkStep_each {α : Type} {f : State → α → State} {l : List α} (h : ∀ s, ∀ x ∈ l, LinkStep W s (f s x)) (s : State) :
    LinkStep W s (s.each l f) := linkStep_foldl id h s

/-- A step that leaves the registers alone. -/
theorem LinkStep.of_regs (regs : t.regs = s.regs) (occ : s.occ <+: t.occ) (rot : t.pil.rot = s.pil.rot) (metaNew : t.pil.metaNew = s.pil.metaNew)
    (crcSeen : t.pil.crcSeen = s.pil.crcSeen) : LinkStep W s t :=
  ⟨fun a _ => reg_congr regs a, get_congr regs _, occ, rot, metaNew, crcSeen⟩

/-- A step that changes neither the registers, nor the events, nor the link's own state. -/
theorem LinkStep.of_same (regs : t.regs = s.regs) (occ : t.occ = s.occ) (pil : t.pil = s.pil) : LinkStep W s t :=
  .of_regs regs (occ ▸ List.prefix_refl _) (by rw [pil]) (by rw [pil]) (by rw [pil])

/-- A change of the link's own state that keeps its rotations, the payload that waits and the note of a failed packet. -/
theorem linkStep_withPil (s : State) (p : PilState) (rot : p.rot = s.pil.rot) (metaNew : p.metaNew = s.pil.metaNew)
    (crcSeen : p.crcSeen = s.pil.crcSeen) : LinkStep W s { s with pil := p } := .of_regs rfl (List.prefix_refl _) rot metaNew crcSeen

theorem linkStep_withSrf (s : State) (x : SrfState) : LinkStep W s { s with srf := x } := .of_same rfl rfl rfl

end

section
variable {W : Nat → Prop} (s : State)

theorem linkStep_raise (k c : Nat) : LinkStep W s (s.raise k c) := .of_regs rfl (List.prefix_append _ _) rfl rfl rfl

theorem linkStep_raiseIf (b : Bool) (k c : Nat) : LinkStep W s (s.raiseIf b k c) := by
  cases b
  · exact .refl s
  · exact linkStep_raise s k c

theorem linkStep_tally (o n : Nat) : LinkStep W s (s.tally o n) := .of_same rfl rfl rfl

/-- A register of W is set, in a way that keeps `LINK_STATE`. -/
theorem linkStep_setReg_of_link {a : Nat} {v : Nat} (mem : W a) (link : (s.setReg a v).linkState = s.linkState) : LinkStep W s (s.setReg a v) where
  reg _ hb := reg_setReg_ne s v fun e => hb (e ▸ mem)
  link := link
  occ := List.prefix_refl _
  rot := rfl
  metaNew := rfl
  crcSeen := rfl

theorem linkStep_setReg {a : Nat} (v : Nat) (mem : W a) (other : a ≠ R.PIL_STATUS) : LinkStep W s (s.setReg a v) :=
  linkStep_setReg_of_link s mem (get_setReg_ne s v other.symm)

theorem linkStep_put {f : FRef} (v : Nat) (mem : W f.addr) (other : f.addr ≠ R.PIL_STATUS) : LinkStep W s (s.put f v) :=
  linkStep_setReg s _ mem other

theorem linkStep_putB {f : FRef} (b : Bool) (mem : W f.addr) (other : f.addr ≠ R.PIL_STATUS) : LinkStep W s (s.putB f b) :=
  linkStep_put s _ mem other

theorem linkStep_count {a : Nat} (n : Nat) (mem : W a) (other : a ≠ R.PIL_STATUS) : LinkStep W s (s.count a n) :=
  by
  unfold State.count
  refine (linkStep_setReg s (min 0xFFFFFFFF (s.reg a + n)) mem other).trans ?_
  exact .of_same (by simp) (by simp) (by simp)

theorem linkStep_countIf (b : Bool) {a : Nat} (mem : W a) (other : a ≠ R.PIL_STATUS) : LinkStep W s (s.countIf b a) := by
  cases b
  · exact .refl s
  · exact linkStep_count s 1 mem other

end

/-! ### The back-channel (R65, R66) -/

/-- From s to t messages leave on the back-channel: sequence numbers, transmitters and outputs change, nothing else does. -/
def BackFrame (s t : State) : Prop := t = { s with pil := { s.pil with bcSeq := t.pil.bcSeq }, lns := t.lns, out := t.out }

section
variable {s t u : State}

theorem BackFrame.refl (s : State) : BackFrame s s := rfl

theorem BackFrame.trans (h : BackFrame s t) (k : BackFrame t u) : BackFrame s u := by
  unfold BackFrame at *
  rw [k, h]

theorem BackFrame.ite {c : Prop} [Decidable c] (h : BackFrame s t) (k : BackFrame s u) : BackFrame s (if c then t else u) := by
  split
  · exact h
  · exact k

theorem BackFrame.regs (h : BackFrame s t) : t.regs = s.regs := by rw [h]
theorem BackFrame.occ (h : BackFrame s t) : t.occ = s.occ := by rw [h]
theorem BackFrame.srf (h : BackFrame s t) : t.srf = s.srf := by rw [h]
theorem BackFrame.fst (h : BackFrame s t) : t.fst = s.fst := by rw [h]
theorem BackFrame.now (h : BackFrame s t) : t.now = s.now := by rw [h]
theorem BackFrame.pil (h : BackFrame s t) : t.pil = { s.pil with bcSeq := t.pil.bcSeq } := by rw [h]

theorem BackFrame.linkStep {W : Nat → Prop} (h : BackFrame s t) : LinkStep W s t :=
  .of_regs h.regs (h.occ ▸ List.prefix_refl _) (by rw [h.pil]) (by rw [h.pil]) (by rw [h.pil])

theorem backFrame_each {α : Type} {f : State → α → State} (h : ∀ s x, BackFrame s (f s x)) (l : List α) : ∀ s : State, BackFrame s (s.each l f) := by
  induction l with
  | nil => exact fun s => rfl
  | cons x l ih => exact fun s => (h s x).trans (ih _)

end

theorem backFrame_backCopy (s : State) (k typ q : Nat) (m : List Byte) : BackFrame s (s.backCopy k typ q m) := rfl

theorem backFrame_backSend (s : State) (k typ : Nat) (m : List Nat) : BackFrame s (s.backSend k typ m) := by
  unfold State.backSend
  refine .ite (.refl s) ?_
  have one := (show BackFrame s { s with pil := { s.pil with bcSeq := mset 0 s.pil.bcSeq k ((mget 0 s.pil.bcSeq k + 1) % 256) } } from rfl).trans
    (backFrame_backCopy _ k typ ((mget 0 s.pil.bcSeq k + 1) % 256) (m.map (BitVec.ofNat 8)))
  exact .ite one (one.trans (backFrame_backCopy _ k typ _ _))

theorem backFrame_backAll (s : State) (typ : Nat) (m : List Nat) : BackFrame s (s.backAll typ m) :=
  backFrame_each (fun s k => backFrame_backSend s k typ m) _ s

theorem backFrame_sendCredit (s : State) (slot : Nat) : BackFrame s (s.sendCredit slot) := .ite (backFrame_backAll s 4 _) (.refl s)

/-! ### The causes of self-refresh, and updates of regions -/

section
variable {W : Nat → Prop} (s : State)

theorem linkStep_srfKick : LinkStep W s s.srfKick := by
  rw [srfKick_frame]
  exact .of_same rfl rfl rfl

theorem linkStep_cancelExit : LinkStep W s s.cancelExit := by
  unfold State.cancelExit
  refine .ite (.refl s) (.trans ?_ (linkStep_srfKick _))
  exact .of_regs rfl (List.prefix_refl _) rfl rfl rfl

theorem linkStep_clearCause (k : Nat) (srf : W R.SRF_STATUS) : LinkStep W s (s.clearCause k) := linkStep_put s _ srf (by decide)

theorem linkStep_setCause (k : Nat) (srf : W R.SRF_STATUS) : LinkStep W s (s.setCause k) :=
  .ite ((linkStep_put s _ srf (by decide)).trans (linkStep_cancelExit _)) (.refl s)

theorem linkStep_ringRelease (o : Nat) : LinkStep W s (s.ringRelease o) := .of_same rfl rfl rfl

theorem linkStep_giveCredit (slot : Nat) : LinkStep W s (s.giveCredit slot) := by
  unfold State.giveCredit
  refine LinkStep.trans ?_ (backFrame_sendCredit _ slot).linkStep
  exact linkStep_withPil s _ rfl rfl rfl

theorem linkStep_loseOpen (slot : Nat) (o : OpenUpd) : LinkStep LaterRegs s (s.loseOpen slot o) := by
  have cut : LinkStep LaterRegs s (s.cutOpen slot o) := .of_same rfl rfl rfl
  have status := linkStep_put (W := LaterRegs) (s.cutOpen slot o) (f := F.SRF_RS_STATUS_LAST_OUTCOME slot) 3
    (by simp [LaterRegs, F.SRF_RS_STATUS_LAST_OUTCOME, R.SRF_RS_STATUS]; omega)
    (by simp [F.SRF_RS_STATUS_LAST_OUTCOME, R.SRF_RS_STATUS, R.PIL_STATUS]; omega)
  exact ((cut.trans status).trans (linkStep_ringRelease _ _)).trans (linkStep_giveCredit _ slot)

theorem linkStep_regionsLost : LinkStep LaterRegs s s.regionsLost := linkStep_each (fun s e _ => linkStep_loseOpen s e.1 e.2) s

end

/-! ### Reads of the folds, and concealment (R71, R72, R269) -/

theorem concealRegs_foldStatus {nn : Nat} (h : nn < 64) : ConcealRegs (R.FST_FOLD_STATUS nn) ∧ R.FST_FOLD_STATUS nn ≠ R.PIL_STATUS := by
  simp only [ConcealRegs, R.FST_FOLD_STATUS, R.PIL_CNT_CONCEAL, R.PIL_STATUS]
  omega

section
variable (s : State)

theorem linkStep_noteCorrected {nn : Nat} (h : nn < 64) : LinkStep ConcealRegs s (s.noteCorrected nn) := by
  obtain ⟨mem, other⟩ := concealRegs_foldStatus h
  have counted := (linkStep_count (W := ConcealRegs) s 1 (a := R.FST_CNT_CE) (.inr (by decide)) (by decide)).trans (linkStep_tally _ (0xE800 + 0x10 * nn) 1)
  unfold State.noteCorrected
  exact (counted.trans (linkStep_put _ _ mem other)).trans (linkStep_raise _ _ _)

theorem linkStep_noteUncorrectable {addr : Nat} (cls : Nat) (h : foldOf addr < 64) : LinkStep ConcealRegs s (s.noteUncorrectable addr cls) := by
  obtain ⟨mem, other⟩ := concealRegs_foldStatus h
  have shown := linkStep_setReg s (a := R.FST_UE_ADDR) (addr / 8 * 8) (W := ConcealRegs) (.inr (by decide)) (by decide)
  have counted := (shown.trans (linkStep_count _ 1 (a := R.FST_CNT_UE) (.inr (by decide)) (by decide))).trans
    (linkStep_tally _ (0xE800 + 0x10 * foldOf addr + 8) 1)
  exact (counted.trans (linkStep_put _ _ mem other)).trans (linkStep_raise _ _ _)

theorem linkStep_noteEcc {addr : Nat} (e : Ecc) (cls : Nat) (h : foldOf addr < 64) : LinkStep ConcealRegs s (s.noteEcc addr e cls) := by
  cases e with
  | good => exact .refl s
  | single => exact linkStep_noteCorrected s h
  | double => exact linkStep_noteUncorrectable s cls h

/-- The check of words below the end of the folds. -/
theorem linkStep_checkWords (lo : Nat) {hi : Nat} (ecc : EccMap) (cls : Nat) (h : hi ≤ 0x80000000) :
    LinkStep ConcealRegs s (s.checkWords lo hi ecc cls).2 := by
  refine linkStep_each (fun s e he => linkStep_noteEcc s e.2 cls ?_) s
  have hit : lo / 8 ≤ e.1 ∧ 8 * e.1 < hi := by simpa using (List.mem_filter.1 he).2
  unfold foldOf
  omega

theorem linkStep_missCount {own nn : Nat} : LinkStep ConcealRegs s (s.missCount (s.ownerMiss own nn)) := by
  have counts : ∀ c, c = 1 ∨ c = R.FST_CNT_OFF_ACCESS ∨ c = R.FST_CNT_FOREIGN ∨ c = 0 → LinkStep ConcealRegs s (s.missCount c) := by
    rintro c (rfl | rfl | rfl | rfl)
    · exact .refl s
    · exact linkStep_count (a := R.FST_CNT_OFF_ACCESS) s 1 (.inr (by decide)) (by decide)
    · exact linkStep_count (a := R.FST_CNT_FOREIGN) s 1 (.inr (by decide)) (by decide)
    · exact .refl s
  refine counts _ ?_
  unfold State.ownerMiss
  split_ifs <;> simp

theorem lt_of_ownerMiss {s : State} {own nn : Nat} (h : s.ownerMiss own nn = 0) : nn < 64 := by
  unfold State.ownerMiss at h
  by_contra ge
  simp [show 64 ≤ nn by omega] at h

theorem linkStep_ownerRead (own addr n : Nat) (ecc : EccMap) (cls : Nat) : LinkStep ConcealRegs s (s.ownerRead own addr n ecc cls).2 := by
  unfold State.ownerRead State.readFolds
  split
  · exact .refl s
  · refine linkStep_foldl Prod.snd (fun r nn _ => ?_) (true, s)
    dsimp only
    split
    · exact linkStep_missCount r.2
    · next good =>
      refine linkStep_checkWords r.2 _ ecc cls ?_
      have lt := lt_of_ownerMiss (not_not.1 good)
      unfold foldBase
      omega

theorem linkStep_ownerSegment (own n b k addr limit : Nat) (ecc : EccMap) (cls : Nat) :
    LinkStep ConcealRegs s (s.ownerSegment own n b k addr limit ecc cls).2 := by
  unfold State.ownerSegment
  generalize memSegment s.fst.mem n b k addr limit = g
  dsimp only
  have read := linkStep_ownerRead s own g.1 g.2.1 ecc cls
  generalize s.ownerRead own g.1 g.2.1 ecc cls = r at read ⊢
  exact read

theorem linkStep_readSlot (b : Nat) (l : BufLayout) (i : Nat) (ecc : EccMap) (cls : Nat) : LinkStep ConcealRegs s (s.readSlot b l i ecc cls).2 := by
  unfold State.readSlot
  exact linkStep_ownerSegment s _ _ _ _ _ _ ecc cls

/-- The columns of the front buffer read in turn: each read keeps to W, so all do. The read is a variable, for the kernel is not to unfold
one. -/
theorem linkStep_readCols {W : Nat → Prop} {read : State → Nat → BufLayout → Nat → EccMap → Nat → Option (List (List Nat)) × State}
    {fb : Nat} {l : BufLayout} {ecc : EccMap} (h : ∀ t i, LinkStep W t (read t fb l i ecc 3).2) (row bx : Nat) (xs : List Nat) :
    LinkStep W s (xs.foldl (fun (r : SMap (List (List Nat)) × State) i =>
      match read r.2 fb l (row + bx + i) ecc 3 with
      | (some c, s) => (mput r.1 (bx + i) c, s)
      | (none, s) => (r.1, s)) ([], s)).2 := by
  refine linkStep_foldl Prod.snd (fun r i _ => ?_) ([], s)
  have kept := h r.2 (row + bx + i)
  generalize read r.2 fb l (row + bx + i) ecc 3 = q at kept ⊢
  obtain ⟨_ | c, t⟩ := q
  · exact kept
  · exact kept

theorem linkStep_frontLine (ecc : EccMap) (y x0 x1 : Nat) : LinkStep ConcealRegs s (s.frontLine ecc y x0 x1).2 := by
  have reads := fun (l : BufLayout) (t : State) (i : Nat) => linkStep_readSlot t s.frontBuf l i ecc 3
  rw [State.frontLine]
  generalize State.readSlot = read, List.range = numbers at reads ⊢
  cases s.layoutOf s.frontBuf with
  | none => exact .refl s
  | some l =>
    simp only []
    rw [apply_ite Prod.snd]
    refine .ite (.refl s) ?_
    simp only []
    generalize numbers _ = xs
    exact linkStep_readCols s (reads l) (y / 4 * l.cols) (x0 / 64) xs

theorem linkStep_concealCols (ecc : EccMap) (y x0 x1 : Nat) : LinkStep ConcealRegs s (s.concealCols ecc y x0 x1) :=
  by
  unfold State.concealCols State.putCols
  refine (linkStep_frontLine s ecc y x0 x1).trans ?_
  exact linkStep_withPil _ _ rfl rfl rfl

theorem linkStep_concealLine (ecc : EccMap) (f : RxFrame) (x0 x1 : Nat) : LinkStep ConcealRegs s (s.concealLine ecc f x0 x1).1 := by
  unfold State.concealLine
  split
  · exact .refl s
  · exact ((linkStep_concealCols s ecc _ x0 x1).trans (linkStep_countIf _ _ (.inl rfl) (by decide))).trans (linkStep_raiseIf _ _ _ _)

theorem linkStep_concealLines (ecc : EccMap) (n : Nat) : ∀ (s : State) (f : RxFrame), LinkStep ConcealRegs s (s.concealLines ecc f n).1 := by
  induction n with
  | zero => exact fun s f => .refl s
  | succ n ih => exact fun s f => (linkStep_concealLine s ecc f f.col f.w).trans (ih _ _)

theorem linkStep_concealTo (ecc : EccMap) (f : RxFrame) (line col : Nat) : LinkStep ConcealRegs s (s.concealTo ecc f line col).1 :=
  (linkStep_concealLines ecc (line - f.line) s f).trans (linkStep_concealLine _ ecc _ _ col)

end

/-! ### The state of the link (R62, R70, R76, R241) -/

section
variable (s : State)

theorem linkState_putSleep (v : Nat) : (s.put F.PIL_STATUS_SLEEP v).linkState = s.linkState :=
  get_put_disjoint s F.PIL_STATUS_SLEEP F.PIL_STATUS_LINK_STATE v (by decide) (by decide) (by decide) (by decide)

theorem linkStep_putSleep (v : Nat) : LinkStep CutRegs s (s.put F.PIL_STATUS_SLEEP v) :=
  linkStep_setReg_of_link s (.inl rfl) (linkState_putSleep s v)

theorem linkStep_sleepCheck : LinkStep CutRegs s s.sleepCheck := by
  unfold State.sleepCheck
  split
  · exact .refl s
  · dsimp only
    split
    · exact .refl s
    · next n _ =>
      have cleared : LinkStep CutRegs s { s with pil := { s.pil with sleepWant := none } } := .of_regs rfl (List.prefix_refl _) rfl rfl rfl
      refine LinkStep.trans ?_ (linkStep_setCause _ 0 (.inr (.inr rfl)))
      exact (cleared.trans (linkStep_putSleep _ 2)).trans (backFrame_backAll _ 6 _).linkStep

theorem linkStep_linkCut : LinkStep CutRegs s s.linkCut := by
  unfold State.linkCut
  split
  · exact .refl s
  · next f _ =>
    have concealed : LinkStep CutRegs s (s.useFree.concealTo s.freeEcc f f.h 0).1 :=
      (LinkStep.of_same (s := s) (t := s.useFree) rfl rfl rfl).trans ((linkStep_concealTo s.useFree s.freeEcc f f.h 0).mono (fun _ h => .inr (.inl h)))
    refine (concealed.trans ?_).trans (linkStep_sleepCheck _)
    refine LinkStep.trans (t := { (s.useFree.concealTo s.freeEcc f f.h 0).1 with
      pil := { (s.useFree.concealTo s.freeEcc f f.h 0).1.pil with rx := none } }) (.of_regs rfl (List.prefix_refl _) rfl rfl rfl) ?_
    exact .ite (linkStep_cancelExit _) (.refl _)

theorem linkStep_linkDown : LinkStep LinkRegs s s.linkDown :=
  (((linkStep_linkCut s).mono linkRegs_of_cut).trans (linkStep_raise _ 65 _)).trans (.ite (linkStep_setCause _ 1 (.inr (.inr (by decide)))) (.refl _))

theorem linkStep_linkUp (fresh : Bool) : LinkStep LinkRegs s (s.linkUp fresh) := by
  have up : LinkStep LinkRegs s ((s.raise 64 0).clearCause 1) :=
    (linkStep_raise s 64 0).trans (linkStep_clearCause _ 1 (.inr (.inr (by decide))))
  unfold State.linkUp
  split
  · exact up
  · refine (up.trans ?_).trans (linkStep_each (fun s i _ => (backFrame_sendCredit s i).linkStep) _)
    exact .of_regs rfl (List.prefix_refl _) rfl rfl rfl

/-- After `LINK_STATE` has taken its value, what follows keeps it (Table 2.14). -/
theorem linkStep_setLinkState (v : Nat) : LinkStep LinkRegs (s.put F.PIL_STATUS_LINK_STATE v) (s.setLinkState v) := by
  unfold State.setLinkState
  dsimp only
  split
  · exact .refl _
  · refine LinkStep.trans ?_ (.ite (linkStep_linkUp _ _) (.refl _))
    refine LinkStep.trans ?_ (.ite (linkStep_linkDown _) (.refl _))
    refine LinkStep.trans ?_ (.ite ((linkStep_regionsLost _).mono linkRegs_of_later) (.refl _))
    exact .of_regs rfl (List.prefix_refl _) rfl rfl rfl

theorem linkState_setLinkState {v : Nat} (h : v < 4) : (s.setLinkState v).linkState = v :=
  (linkStep_setLinkState s v).link.trans ((get_put_self s F.PIL_STATUS_LINK_STATE v (by decide) (by decide)).trans (Nat.mod_eq_of_lt h))

variable {W : Nat → Prop}

theorem linkStep_setPilLane (l : Nat) (p : PilLane) : LinkStep W s (s.setPilLane l p) := .of_regs rfl (List.prefix_refl _) rfl rfl rfl

theorem linkStep_sendLaneStatus (k : Nat) : LinkStep W s (s.sendLaneStatus k) := by
  unfold State.sendLaneStatus
  refine .ite (.refl s) ?_
  dsimp only
  refine LinkStep.trans ?_ (linkStep_withPil _ _ rfl rfl rfl)
  refine LinkStep.trans ?_ (linkStep_each (fun s l _ => linkStep_setPilLane s l _) _)
  exact (backFrame_backSend s k 1 _).linkStep

theorem linkStep_noteStatus : LinkStep W s s.noteStatus :=
  linkStep_each (fun s k _ => .ite (.refl s) (linkStep_sendLaneStatus s k)) s

end

end Sys2Proof.LinkLaws
end

section
/-! The write of `PIL_CFG` (R62): the link is down when its effect has passed, whatever the lanes and their calibration do after it. -/

namespace Sys2Proof.LinkLaws

open Sys2Proof Sys2Proof.Machine
open Sys2Proof.Laws hiding taken

/-! ### What the lanes' receivers and transmitters keep (chapter 13) -/

section
variable (s : State) (l : Nat)

/-- A field of a register of `LNS`. -/
theorem linkStep_laneField {f : FRef} (v : Nat) (h : 0x34000 ≤ f.addr) : LinkStep LaterRegs s (s.put f v) :=
  linkStep_put s v (by unfold LaterRegs; omega) (by unfold R.PIL_STATUS; omega)

theorem laneStatus_ge : 0x34000 ≤ R.LNS_LANE_STATUS l := by unfold R.LNS_LANE_STATUS; omega

theorem laneConfig_ge : 0x34000 ≤ R.LNS_LANE_CFG l := by unfold R.LNS_LANE_CFG; omega

theorem linkStep_setLane {W : Nat → Prop} (x : LnsLane) : LinkStep W s (s.setLane l x) := .of_same rfl rfl rfl

theorem linkStep_codeOff : LinkStep LaterRegs s (s.codeOff l) := linkStep_laneField s 0 (laneStatus_ge l)

theorem linkStep_setRx (v : Nat) : LinkStep LaterRegs s (s.setRx l v) := linkStep_laneField s v (laneStatus_ge l)

theorem linkStep_useFree {W : Nat → Prop} : LinkStep W s s.useFree := .of_same rfl rfl rfl

theorem linkStep_rawGroup : LinkStep LaterRegs s (s.rawGroup l) :=
  (linkStep_laneField s _ (laneStatus_ge l)).trans (linkStep_useFree _)

theorem linkStep_txStart {W : Nat → Prop} : LinkStep W s (s.txStart l) := .ite (.refl s) (.of_same rfl rfl rfl)

theorem linkStep_laneStop : LinkStep LaterRegs s (s.laneStop l) :=
  (linkStep_setLane s l _).trans (linkStep_laneField _ _ (laneStatus_ge l))

theorem linkStep_laneRestart : LinkStep LaterRegs s (s.laneRestart l) := by
  have short := (linkStep_setLane s l { s.lane l with stopped := false }).trans
    (linkStep_laneField _ (f := F.LNS_LANE_STATUS_SHORT l) (bit false) (laneStatus_ge l))
  exact .ite (short.trans (linkStep_txStart _ l)) short

theorem linkStep_laneUse : LinkStep LaterRegs s (s.laneUse l) := .ite (.refl s) (linkStep_laneField s _ (laneStatus_ge l))

theorem linkStep_testState : LinkStep LaterRegs s (s.testState l) := by
  refine .ite (.ite (.ite (.refl s) (.ite ?_ (linkStep_setRx s l 1))) ?_) (.refl s)
  · exact (linkStep_setRx s l 5).trans (linkStep_rawGroup _ l)
  · exact (linkStep_setRx s l 0).trans (linkStep_codeOff _ l)

theorem linkStep_pllDrop (p : Nat) : LinkStep LaterRegs s (s.pllDrop p) := by
  refine (linkStep_setReg s _ (a := R.LNS_PLL_STATUS) (by unfold LaterRegs; decide) (by decide)).trans (linkStep_each (fun t l _ => .ite (.refl t) ?_) _)
  exact ((linkStep_laneField t 1 (laneStatus_ge l)).trans (linkStep_codeOff _ l)).trans (linkStep_setLane _ l _)

theorem linkStep_pllRate (p : Nat) : LinkStep LaterRegs s (s.pllRate p) :=
  (linkStep_pllDrop s p).trans (linkStep_each (fun t l _ => linkStep_setReg t _
    (by unfold LaterRegs R.LNS_LANE_DFE; omega) (by unfold R.LNS_LANE_DFE R.PIL_STATUS; omega)) _)

theorem linkStep_flockUse (k : Nat) (fresh : Bool) : LinkStep LaterRegs s (s.flockUse k fresh) := by
  unfold State.flockUse
  have stopped : LinkStep LaterRegs s (if fresh then (s.laneStop (8 * k)).laneRestart (8 * k) else s.laneRestart (8 * k)) :=
    .ite ((linkStep_laneStop s _).trans (linkStep_laneRestart _ _)) (linkStep_laneRestart s _)
  refine stopped.trans (.ite (linkStep_each (fun t l _ => ?_) _) (linkStep_each (fun t l _ => linkStep_testState t l) _))
  exact ((linkStep_laneField t _ (laneConfig_ge l)).trans (linkStep_codeOff _ l)).trans (linkStep_laneUse _ l)

/-- The calibration's list of units to do is its own (chapter 10). -/
theorem linkStep_makeDue {W : Nat → Prop} (x trigger : Nat) : LinkStep W s (s.makeDue x trigger) := .ite (.refl s) (.of_same rfl rfl rfl)

theorem linkStep_calScan {W : Nat → Prop} : LinkStep W s s.calScan :=
  (linkStep_each (fun t x _ => .ite (linkStep_makeDue t x.1 x.2) (.refl t)) s).trans (linkStep_each (fun t x _ => linkStep_makeDue t x 0) _)

end

/-! ### The write -/

/-- A field of a register that holds the word w. -/
theorem get_of_reg {s : State} {f : FRef} {w : Nat} (h : s.reg f.addr = w) : s.get f = bits w f.hi f.lo := by rw [State.get, h]

theorem get_same_reg {s t : State} {f : FRef} (h : t.reg f.addr = s.reg f.addr) : t.get f = s.get f := get_of_reg h

/-- The word that `PIL_CFG` takes of a write: its writable fields. -/
def pilCfgWord (v : Nat) : Nat := bits v 27 24 * 2 ^ 24 + bits v 19 16 * 65536 + v % 8

theorem pilCfgWord_lt (v : Nat) : pilCfgWord v < 2 ^ 32 := by
  unfold pilCfgWord bits
  omega

theorem bits_pilCfgWord (v : Nat) :
    bits (pilCfgWord v) 27 24 = bits v 27 24 ∧ bits (pilCfgWord v) 19 16 = bits v 19 16 ∧ bits (pilCfgWord v) 2 0 = v % 8 := by
  unfold pilCfgWord bits
  omega

/-- The end of the write, after `FLOCK_UP` is 0. -/
theorem linkStep_pilConfigEnd (s : State) (rate used : Nat) :
    LinkStep LaterRegs s (((if rate = s.get F.PIL_CFG_RATE then s else s.each (List.range 4) fun s k => s.pllRate k).each (List.range 4)
      fun s k => s.flockUse k (!bitAt used k)).noteStatus).calScan := by
  refine LinkStep.trans ?_ (linkStep_calScan _)
  refine LinkStep.trans ?_ (linkStep_noteStatus _)
  refine LinkStep.trans ?_ (linkStep_each (fun t k _ => linkStep_flockUse t k _) _)
  exact .ite (.refl s) (linkStep_each (fun t k _ => linkStep_pllRate t k) _)

/-- The registers of `PIL` that show it after `PIL_CFG` has taken w, and the link its state (Table 2.14). -/
theorem get_configured (s : State) {w : Nat} (h : w < 2 ^ 32) :
    let t := ((s.setReg R.PIL_CFG w).setLinkState 0).put F.PIL_STATUS_FLOCK_UP 0
    t.linkState = 0 ∧ t.get F.PIL_STATUS_FLOCK_UP = 0 ∧ t.reg R.PIL_CFG = w := by
  refine ⟨?_, get_put_self _ _ 0 (by decide) (by decide), ?_⟩
  · exact (get_put_disjoint _ F.PIL_STATUS_FLOCK_UP F.PIL_STATUS_LINK_STATE 0 (by decide) (by decide) (by decide) (by decide)).trans
      (linkState_setLinkState _ (by decide))
  · have kept := (linkStep_setLinkState (s.setReg R.PIL_CFG w) 0).reg R.PIL_CFG (by simp [LinkRegs, R.PIL_CFG, R.PIL_STATUS, R.PIL_CNT_CONCEAL])
    rw [State.put, reg_setReg_ne _ _ (by decide), kept, State.put, reg_setReg_ne _ _ (by decide), reg_setReg_self, Nat.mod_eq_of_lt h]

theorem notLater_link : ¬ LaterRegs R.PIL_STATUS ∧ ¬ LaterRegs R.PIL_CFG := by unfold LaterRegs R.PIL_STATUS R.PIL_CFG; omega

/-- What a write of `PIL_CFG` leaves of the registers that say how the link stands. -/
theorem pilConfig_regs (s : State) (v : Nat) :
    (s.pilConfig v).linkState = 0 ∧ (s.pilConfig v).get F.PIL_STATUS_FLOCK_UP = 0 ∧ (s.pilConfig v).reg R.PIL_CFG = pilCfgWord v := by
  obtain ⟨link, up, cfg⟩ := get_configured (s.each (List.range 4) fun s k => s.flockRestart k) (pilCfgWord_lt v)
  have later := linkStep_pilConfigEnd ((((s.each (List.range 4) fun s k => s.flockRestart k).setReg R.PIL_CFG (pilCfgWord v)).setLinkState 0).put
    F.PIL_STATUS_FLOCK_UP 0) (s.get F.PIL_CFG_RATE) (s.get F.PIL_CFG_FLOCK_EN)
  obtain ⟨notStatus, notCfg⟩ := notLater_link
  exact ⟨later.link.trans link, (get_same_reg (later.reg _ notStatus)).trans up, (later.reg _ notCfg).trans cfg⟩

/-- What the port's status word shows of a refusal is a register of the port's own (R372). -/
theorem reg_shown {ag : Agent} {a b : Nat} {s t : State} (other : isPortReg b = false) : (shown ag a s t).reg b = t.reg b := by
  unfold shown
  split
  · rfl
  · split
    · rfl
    · exact reg_portRefused other _ _ _

/-- Settles O28: the write takes LINK_STATE and FLOCK_UP away, and what the lanes and the calibration do after it reaches neither. -/
theorem linkConfiguration : Obligations.LinkConfiguration := by
  intro s ag v can
  have done := asWrite_shown false can fun s => s.pilConfig v.toNat
  have same (b : Nat) (other : isPortReg b = false) :
      ((begun s).asWrite ag R.PIL_CFG fun s => s.pilConfig v.toNat).reg b = (((accepted s ag).cycle false).pilConfig v.toNat).reg b :=
    (congrArg (State.reg · b) done).trans (reg_shown other)
  obtain ⟨link, up, cfg⟩ := pilConfig_regs ((accepted s ag).cycle false) v.toNat
  obtain ⟨spare, flocks, rate⟩ := bits_pilCfgWord v.toNat
  have word := (same R.PIL_CFG rfl).trans cfg
  exact ⟨_, ends_pilCfgWrite ag v s rfl, (get_same_reg (same R.PIL_STATUS rfl)).trans link, (get_same_reg (same R.PIL_STATUS rfl)).trans up,
    (get_of_reg word).trans spare, (get_of_reg word).trans flocks, (get_of_reg word).trans rate⟩

end Sys2Proof.LinkLaws
end

section
/-! Rotations that get no answer or come back (R68, R69), and a degraded link whose spell ends (R70). -/

namespace Sys2Proof.LinkLaws

open Sys2Proof Sys2Proof.Machine
open Sys2Proof.Laws hiding taken

/-! ### The registers of a flock -/

theorem flockStatus_notLink (k : Nat) (h : k < 4) : ¬ LinkRegs (R.PIL_FLOCK_STATUS k) := by
  unfold LinkRegs R.PIL_FLOCK_STATUS R.PIL_STATUS R.PIL_CNT_CONCEAL
  omega

theorem flockStatus_ne (k : Nat) : R.PIL_FLOCK_STATUS k ≠ R.PIL_STATUS := by
  unfold R.PIL_FLOCK_STATUS R.PIL_STATUS
  omega

theorem linkUpdate_eq (s : State) : ∃ up v, s.linkUpdate = ((s.put F.PIL_STATUS_FLOCK_UP up).setLinkState v).noteStatus := by
  unfold State.linkUpdate
  extract_lets ks up s' any v
  exact ⟨_, v, rfl⟩

/-- The word of the link's state carries nothing of a flock: a flock's register stays over `LINK_UPDATE`, as do the rotations, and the
events raised before it (R70). -/
theorem linkUpdate_keeps (s : State) : (∀ k, k < 4 → s.linkUpdate.reg (R.PIL_FLOCK_STATUS k) = s.reg (R.PIL_FLOCK_STATUS k))
    ∧ s.linkUpdate.pil.rot = s.pil.rot ∧ s.occ <+: s.linkUpdate.occ := by
  obtain ⟨up, v, same⟩ := linkUpdate_eq s
  have step := (linkStep_setLinkState (s.put F.PIL_STATUS_FLOCK_UP up) v).trans (linkStep_noteStatus _)
  have rot := step.rot
  have occ := step.occ
  rw [State.put_pil, State.put_pil] at rot
  rw [State.put_occ, State.put_occ] at occ
  rw [same]
  refine ⟨fun k hk => ?_, rot, occ⟩
  rw [step.reg _ (flockStatus_notLink k hk), reg_put_ne _ _ (flockStatus_ne k), reg_put_ne _ _ (flockStatus_ne k)]

section
variable {W : Nat → Prop} (s : State)

theorem linkStep_setFallow (l : Nat) (b : Bool) : LinkStep W s (s.setFallow l b) :=
  (LinkStep.ite (linkStep_setLane s l _) (.refl s)).trans (.of_same rfl rfl rfl)

theorem linkStep_runAgain (r : CalRun) : LinkStep W s (s.runAgain r) :=
  ((LinkStep.of_same (s := s) (t := s.dropRun r.unit) rfl rfl rfl).trans (linkStep_setFallow _ (r.unit - 0x20) false)).trans (linkStep_makeDue _ r.unit r.trigger)

end

theorem rot_setRot_self (s : State) (k : Nat) (r : PilRot) : (s.setRot k r).rot k = r := mget_mset_self _ _ _ _

/-- A rotation that is released (R68): the flock's spare serves no lane, and nothing of the rotation is left. -/
theorem rotRelease_released (s : State) (k : Nat) {st : Nat} (h : st < 8) : (s.rotRelease k st).rotState k = st
    ∧ (s.rotRelease k st).get (F.PIL_FLOCK_STATUS_SPARE_SERVES k) = 7 ∧ (s.rotRelease k st).rot k = {} := by
  have sent := backFrame_backSend (((s.setRot k {}).put (F.PIL_FLOCK_STATUS_ROT_STATE k) st).put (F.PIL_FLOCK_STATUS_SPARE_SERVES k) 7) k 3
    [k, 0, 0, 0, 0, 0, 0, 0]
  refine ⟨?_, ?_, ?_⟩
  · refine (get_congr sent.regs _).trans ((get_put_disjoint _ (F.PIL_FLOCK_STATUS_SPARE_SERVES k) (F.PIL_FLOCK_STATUS_ROT_STATE k) 7
      (show 16 ≤ 18 by decide) (show 20 ≤ 22 by decide) (show 22 < 32 by decide) (.inl (show 18 < 20 by decide))).trans ?_)
    exact (get_put_self _ (F.PIL_FLOCK_STATUS_ROT_STATE k) st (show 20 ≤ 22 by decide) (show 22 < 32 by decide)).trans (Nat.mod_eq_of_lt h)
  · exact (get_congr sent.regs _).trans (get_put_self _ _ 7 (show 16 ≤ 18 by decide) (show 18 < 32 by decide))
  · exact (congrArg (fun p : PilState => mget ({} : PilRot) p.rot k) sent.pil).trans (rot_setRot_self s k {})

/-- The answer that the source did not give (R68). -/
theorem rotNoCoop_released {s : State} {k : Nat} (hk : k < 4) (asked : s.rotState k = 1) (none_seen : (s.rot k).dupSeen = 0) :
    (s.rotNoCoop k).rotState k = 6 ∧ (s.rotNoCoop k).get (F.PIL_FLOCK_STATUS_SPARE_SERVES k) = 7 ∧ ⟨74, 2⟩ ∈ (s.rotNoCoop k).occ
      ∧ (s.rotNoCoop k).rot k = {} := by
  unfold State.rotNoCoop
  dsimp only
  rw [if_pos ⟨.inl asked, none_seen⟩]
  obtain ⟨state, serves, rot⟩ := rotRelease_released s k (st := 6) (by decide)
  have again : LinkStep LinkRegs ((s.rotRelease k 6).raise 74 2) (match s.laneRun k (s.rot k).lane with
      | some c => ((s.rotRelease k 6).raise 74 2).runAgain c
      | none => (s.rotRelease k 6).raise 74 2) := by
    split
    · exact linkStep_runAgain _ _
    · exact .refl _
  obtain ⟨regs, rots, occ⟩ := linkUpdate_keeps (match s.laneRun k (s.rot k).lane with
    | some c => ((s.rotRelease k 6).raise 74 2).runAgain c
    | none => (s.rotRelease k 6).raise 74 2)
  have raised : (⟨74, 2⟩ : Occ) ∈ ((s.rotRelease k 6).raise 74 2).occ := by simp [State.raise]
  have word := (regs k hk).trans (again.reg _ (flockStatus_notLink k hk))
  refine ⟨(get_same_reg word).trans state, (get_same_reg word).trans serves, (again.occ.trans occ).subset raised, ?_⟩
  exact (congrArg (fun r => mget ({} : PilRot) r k) (rots.trans again.rot)).trans rot

/-- A lane that comes back from its emergency (R69). -/
theorem rotReturn_returning {s : State} {k : Nat} (emergency : s.rotState k = 5) (serves : s.get (F.PIL_FLOCK_STATUS_SPARE_SERVES k) = (s.rot k).lane)
    (locked : (s.pilLane (8 * k + s.physOf k (s.rot k).lane)).locked = true) :
    s.rotReturn k = (s.setRot k { s.rot k with agreed := 0, fails := 0 }).put (F.PIL_FLOCK_STATUS_ROT_STATE k) 4 := by
  simp [State.rotReturn, emergency, serves, locked]

/-! ### The end of a degraded spell (R70) -/

theorem srfKick_pil (s : State) : s.srfKick.pil = s.pil := by rw [srfKick_frame]

theorem rx_cancelExit {s : State} (h : s.pil.rx = none) : s.cancelExit.pil.rx = none := by
  unfold State.cancelExit
  split
  · exact h
  · rw [srfKick_pil]
    exact congrArg (Option.map _) h

theorem rx_setCause {s : State} (k : Nat) (h : s.pil.rx = none) : (s.setCause k).pil.rx = none := by
  have noted : (s.put F.SRF_STATUS_CAUSE (setBit s.causes k true)).pil.rx = none := by
    rw [State.put_pil]
    exact h
  by_cases on : s.domOn 33 = true
  · rw [State.setCause, if_pos on]
    exact rx_cancelExit noted
  · rw [State.setCause, if_neg on]
    exact h

theorem rx_sleepCheck {s : State} (h : s.pil.rx = none) : s.sleepCheck.pil.rx = none := by
  unfold State.sleepCheck
  split
  · exact h
  · dsimp only
    split
    · exact h
    · refine rx_setCause 0 ?_
      rw [(backFrame_backAll _ 6 _).pil, State.put_pil]
      exact h

theorem rx_linkCut (s : State) : s.linkCut.pil.rx = none := by
  unfold State.linkCut
  split
  · assumption
  · refine rx_sleepCheck ?_
    split
    · exact rx_cancelExit rfl
    · rfl

theorem linkCut_idle {s : State} (h : s.pil.rx = none) : s.linkCut = s := by simp [State.linkCut, h]

theorem domOn_linkCut (s : State) (d : Nat) (h : d < 64) : s.linkCut.domOn d = s.domOn d := by
  have kept := (linkStep_linkCut s).reg (F.PWR_DOM_STATE d).addr (by
    simp only [CutRegs, ConcealRegs, F.PWR_DOM_STATE, R.PWR_DOM, R.PIL_STATUS, R.PIL_CNT_CONCEAL, R.SRF_STATUS]
    omega)
  rw [State.domOn, State.domOn, get_same_reg kept]

theorem bitAt_setBit_true (c k : Nat) : bitAt (setBit c k true) k = true := by
  unfold setBit
  by_cases set : bitAt c k = true
  · have le : 2 ^ k ≤ c := by
      by_contra lt
      simp [bitAt, Nat.div_eq_of_lt (not_le.1 lt)] at set
    simp [set, Nat.sub_add_cancel le]
  · have clear : c / 2 ^ k % 2 = 0 := by
      have := Nat.mod_two_eq_zero_or_one (c / 2 ^ k)
      simp only [bitAt, beq_iff_eq] at set
      omega
    rw [if_neg set, if_pos rfl, Nat.sub_zero, bitAt, Nat.add_div_right c (Nat.two_pow_pos k), beq_iff_eq]
    omega

theorem degradedLoss_lost {s : State} (degraded : s.linkState = 3) (long : 2 ≤ s.pil.degradedFrames + (if s.frameEnding then 1 else 0))
    (enabled : s.flag F.SRF_CFG_LINK_EN = true) (awake : s.sleepAcked = false) : s.degradedLoss = s.linkCut.setCause 1 := by
  rw [State.degradedLoss, if_pos ⟨degraded, long, enabled, by simp [awake]⟩]

theorem degradedLoss_kept {s : State} (h : s.linkState ≠ 3) : s.degradedLoss = s := by simp [State.degradedLoss, h]

theorem rotReturn_kept {s : State} {k : Nat} (h : s.rotState k ≠ 5) : s.rotReturn k = s := by simp [State.rotReturn, h]

theorem rotNoCoop_kept {s : State} {k : Nat} (h : s.rotState k = 3) : s.rotNoCoop k = s := by simp [State.rotNoCoop, h]

/-- What a change of `ROT_STATE` and of the rotation leaves. -/
theorem rotState_put (s : State) (k : Nat) (r : PilRot) {st : Nat} (h : st < 8) :
    let u := (s.setRot k r).put (F.PIL_FLOCK_STATUS_ROT_STATE k) st
    u.rotState k = st ∧ u.rot k = r ∧ OnlyRegs s u [R.PIL_FLOCK_STATUS k] ∧ u.get (F.PIL_FLOCK_STATUS_LOCK k) = s.get (F.PIL_FLOCK_STATUS_LOCK k)
      ∧ u = { s with regs := u.regs, pil := { s.pil with rot := u.pil.rot } } := by
  refine ⟨?_, ?_, fun a ha => reg_put_ne _ _ (List.ne_of_not_mem_cons ha), ?_, rfl⟩
  · exact (get_put_self _ _ st (show 20 ≤ 22 by decide) (show 22 < 32 by decide)).trans (Nat.mod_eq_of_lt h)
  · rw [State.rot, State.put_pil]
    exact rot_setRot_self s k r
  · exact get_put_disjoint _ _ (F.PIL_FLOCK_STATUS_LOCK k) st (show 20 ≤ 22 by decide) (show 0 ≤ 7 by decide) (show 7 < 32 by decide)
      (.inr (show 7 < 20 by decide))

/-- Settles O31: LINK_UPDATE after the release reaches no flock's register, and the cut frame leaves the self-refresh's domain as it was. -/
theorem rotationTimeouts : Obligations.RotationTimeouts := by
  intro s k hk
  have wf : (Instr.rotNoCoop k).wellFormed = true ∧ (Instr.rotReturn k).wellFormed = true := by simp [Instr.wellFormed, hk]
  refine ⟨fun asked unseen => ?_, fun parked => ?_, fun emergency serves locked => ?_, fun other => ?_,
    fun degraded long enabled awake => ?_, fun other => ?_⟩
  · obtain ⟨state, free, raised, rot⟩ := rotNoCoop_released (s := begun s) hk asked unseen
    exact ⟨_, ends_rotNoCoop k s wf.1, state, free, raised, rot⟩
  · have kept := ends_rotNoCoop k s wf.1
    rw [show (fun s : State => s.rotNoCoop k) (begun s) = begun s from rotNoCoop_kept (s := begun s) parked] at kept
    exact kept
  · have back := ends_rotReturn k s wf.2
    rw [show (fun s : State => s.rotReturn k) (begun s) = _ from rotReturn_returning (s := begun s) emergency serves locked] at back
    obtain ⟨state, rot, regs, lock, same⟩ := rotState_put (begun s) k { (begun s).rot k with agreed := 0, fails := 0 } (st := 4) (by decide)
    exact ⟨_, back, state, rot, regs, lock, same⟩
  · have kept := ends_rotReturn k s wf.2
    rw [show (fun s : State => s.rotReturn k) (begun s) = begun s from rotReturn_kept (s := begun s) other] at kept
    exact kept
  · have lost := ends_degradedLinkLoss s rfl
    rw [degradedLoss_lost (s := begun s) degraded long enabled awake] at lost
    refine ⟨_, lost, fun on => ?_, rx_setCause 1 (rx_linkCut _), fun idle => ?_⟩
    · rw [(setCause_on ((domOn_linkCut (begun s) 33 (by decide)).trans on) (by decide)).1]
      exact bitAt_setBit_true _ 1
    · rw [linkCut_idle (s := begun s) idle]
      exact ⟨setCause_occ _ 1, fun a ha => reg_setCause_ne _ 1 (List.ne_of_not_mem_cons ha)⟩
  · have kept := ends_degradedLinkLoss s rfl
    rw [degradedLoss_kept (s := begun s) other] at kept
    exact kept

end Sys2Proof.LinkLaws
end

section
/-! A pixel through the front end that is neither its frame's first nor its last (R81, R82, R93). -/

namespace Sys2Proof.LinkLaws

open Sys2Proof Sys2Proof.Machine
open Sys2Proof.Laws hiding taken

/-- What the front end makes of a pixel that comes: its target, and whether it left the gamut or was limited (R82, R88, R93). -/
def converted (s : State) (i : InPixel) : Rgb × Bool × Bool :=
  let set := s.fe.snap.feSet s.fe.fmt i.x
  if s.fe.blank then (⟨0, 0, 0⟩, false, false) else feConvert (s.fe.snap.feParams set i.c) (s.fe.snap.hlgGain set)

theorem raiseIf_eq (s : State) (b : Bool) (k c : Nat) : s.raiseIf b k c = { s with occ := if b = true then s.occ ++ [⟨k, c⟩] else s.occ } := by
  cases b <;> rfl

/-- The state after a pixel that is not its frame's last: its target is stored, it counts, and the frame's first limited one is reported. -/
def pixelPut (s : State) (x y : Nat) (i : InPixel) : State := { s with
  occ := if (converted s i).2.2 = true ∧ s.fe.limited = 0 then s.occ ++ [⟨81, 0⟩] else s.occ
  fe := { s.fe with
    targets := mset ⟨0, 0, 0⟩ s.fe.targets (2 * pixKey x y + s.spl.zoneParity) (converted s i).1
    gamut := s.fe.gamut + bit (converted s i).2.1, limited := s.fe.limited + bit (converted s i).2.2
    set1 := s.fe.set1 + s.fe.snap.feSet s.fe.fmt i.x } }

theorem fePixel_inside {s : State} {x y : Nat} (i : InPixel) (inside : ¬ (x + 1 = s.fe.snap.width 0 ∧ y + 1 = s.fe.snap.lines 0)) :
    s.fePixel x y i = pixelPut s x y i := by
  unfold State.fePixel pixelPut
  dsimp only
  rw [if_neg inside, raiseIf_eq]
  simp only [Bool.and_eq_true, beq_iff_eq]
  rfl

theorem zonePixel_inside {s : State} {x y : Nat} (inside : ¬ (x + 1 = s.fe.snap.width 0 ∧ y + 1 = s.fe.snap.lines 0)) :
    s.zonePixel x y = { s with spl := { s.spl with lines := if x + 1 = s.fe.snap.width 0 then max s.spl.lines (y + 1) else s.spl.lines } } := by
  unfold State.zonePixel
  by_cases last : x + 1 = s.fe.snap.width 0
  · simp only [last, if_true]
    rw [if_neg (by simpa [last] using inside)]
  · simp only [last, if_false, false_and]

/-- A pixel of the frame under way that has come (R81). -/
theorem frontEnd_inside {s : State} {x y : Nat} {i : InPixel} (comes : s.feInput x y = some i) (on : s.domOn 31 = true) (width : s.snapshot.width 0 ≠ 0)
    (first : ¬ (x = 0 ∧ y = 0)) (hx : x < s.fe.snap.width 0) (hy : y < s.fe.snap.lines 0) : s.frontEnd x y = (s.fePixel x y i).zonePixel x y := by
  unfold State.frontEnd
  simp [on, width, first, comes, not_le.2 hx, not_le.2 hy]

theorem frontEnd_absent {s : State} {x y : Nat} (absent : s.feInput x y = none) (first : ¬ (x = 0 ∧ y = 0)) : s.frontEnd x y = s := by
  unfold State.frontEnd
  simp [first, absent]

theorem frontEnd_off {s : State} {x y : Nat} (off : s.domOn 31 = false) : s.frontEnd x y = s := by simp [State.frontEnd, off]

/-- Settles O35: the pixel changes its own target, the counts and the lines that the zone processor has. -/
theorem frontEndPixel : Obligations.FrontEndPixel := by
  intro s x y i
  have ends := ends_fePixel x y s rfl
  refine ⟨fun comes on width first hx hy inside => ?_, fun absent first => ?_, fun off => ?_⟩
  · have done := frontEnd_inside (s := begun s) comes on width first hx hy
    rw [fePixel_inside (s := begun s) i inside, zonePixel_inside (s := pixelPut (begun s) x y i) inside] at done
    rw [show (fun s : State => s.frontEnd x y) (begun s) = _ from done] at ends
    exact ⟨_, ends, mget_mset_self _ _ _ _, fun k hk => mget_mset_ne _ _ _ hk, rfl, rfl⟩
  · rw [show (fun s : State => s.frontEnd x y) (begun s) = begun s from frontEnd_absent (s := begun s) absent first] at ends
    exact ends
  · rw [show (fun s : State => s.frontEnd x y) (begun s) = begun s from frontEnd_off (s := begun s) off] at ends
    exact ends

end Sys2Proof.LinkLaws
end

section
/-! What is wrong with O30. The spare lane of a flock, lost while its own calibration runs, takes the calibration away with it, and the lane
starts afresh (R340, R362): the note that it was lost goes with its lock. The obligation asks for the note of every locked lane. -/

namespace Sys2Proof.LinkLaws

open Sys2Proof Sys2Proof.Machine
open Sys2Proof.Laws hiding taken

/-- What the link keeps is as the effect of the command left it. -/
theorem finish_pil (s u : State) : (finish s u).pil = u.pil := by
  rw [show finish s u = _ from sameBut_finish s u]

/-- What a command leaves of the link's own state is that of any effect that it ends with. -/
theorem pil_eq_of_ends {c : Instr} {s u v : State} (hu : Ends c s u) (hv : Ends c s v) : u.pil = v.pil := by
  have same : finish s u = finish s v := by
    rw [Ends] at hu hv
    injection hu.symm.trans hv
  rw [← finish_pil s u, same, finish_pil]

/-- Flock 0 with its spare lane locked and under its own calibration. -/
def spareUnderCalibration : State :=
  let s := State.reset.put F.PIL_CFG_FLOCK_EN 1
  { s with
    pil := { s.pil with lanes := [(7, { locked := true })] }
    cal := { s.cal with runs := [{ unit := 0x27, trigger := 0, phase := .fallow }], fallowLanes := [7] } }

/-- The spare's loss leaves no note that it was lost. -/
theorem spareUnderCalibration_lost : (((begun spareUnderCalibration).laneLost 7).pilLane 7).lost = false := by decide +kernel

/-- Refutes O30: the loss of a locked spare under its own calibration is not noted in the lane. -/
theorem not_laneMarkersAndLoss : ¬ Obligations.LaneMarkersAndLoss := by
  intro h
  obtain ⟨-, -, loss, -⟩ := h spareUnderCalibration 0 7 0 0 0 0 false (by decide) (by decide) (by decide +kernel)
  obtain ⟨u, ends, -, lost, -⟩ := loss (by decide +kernel)
  have same : u.pilLane 7 = ((begun spareUnderCalibration).laneLost 7).pilLane 7 :=
    congrArg (fun p : PilState => mget ({} : PilLane) p.lanes 7) (pil_eq_of_ends ends (ends_laneLost 7 () spareUnderCalibration rfl))
  have kept : (u.pilLane 7).lost = false := (congrArg PilLane.lost same).trans spareUnderCalibration_lost
  exact absurd (lost.symm.trans kept) (by decide)

end Sys2Proof.LinkLaws
end

section
/-! Messages on the back-channel (R65 to R67, R75): what a send puts out on the lane of its flock, and how the lane stands after it. -/

namespace Sys2Proof.LinkLaws

open Sys2Proof Sys2Proof.Machine
open Sys2Proof.Laws hiding taken

/-! ### The transmitter of a flock -/

/-- The running disparity and the last bit of a flock's transmitter, as the next message finds them (R302). -/
def lineOf (s : State) (k : Nat) : Bool × Bool := ((s.txReady (8 * k) s.now).txRd, (s.txReady (8 * k) s.now).txBit)

/-- How copies of messages leave the disparity and the last bit. -/
def lineAfter (typ : Nat) : List (Nat × List Nat) → Bool × Bool → Bool × Bool
  | [], line => line
  | (q, m) :: rest, line =>
    let e := encodeSyms line.1 (backSyms typ q (m.map (BitVec.ofNat 8)))
    lineAfter typ rest (e.2, e.1.getLastD 0 % 2 == 1)

theorem lineAfter_append (typ : Nat) (l m : List (Nat × List Nat)) : ∀ line, lineAfter typ (l ++ m) line = lineAfter typ m (lineAfter typ l line) := by
  induction l with
  | nil => exact fun _ => rfl
  | cons x l ih => exact fun _ => ih _

theorem copies_append (s : State) (k typ : Nat) (l m : List (Nat × List Nat)) : ∀ line : Bool × Bool,
    copies s k typ (l ++ m) line.1 line.2 = copies s k typ l line.1 line.2 ++ copies s k typ m (lineAfter typ l line).1 (lineAfter typ l line).2 := by
  induction l with
  | nil => exact fun _ => rfl
  | cons x l ih =>
    intro line
    have e := ih ((encodeSyms line.1 (backSyms typ x.1 (x.2.map (BitVec.ofNat 8)))).2,
      (encodeSyms line.1 (backSyms typ x.1 (x.2.map (BitVec.ofNat 8)))).1.getLastD 0 % 2 == 1)
    simp only [List.cons_append, copies, lineAfter]
    rw [e]

section
variable {s t : State}

theorem txLevels_congr (regs : t.regs = s.regs) (l : Nat) (x y : Bool) (gs : List Nat) : t.txLevels l x y gs = s.txLevels l x y gs := by
  simp only [State.txLevels, State.txInv, flag_congr regs, get_congr regs]
  rfl

theorem copies_congr (regs : t.regs = s.regs) (k typ : Nat) (l : List (Nat × List Nat)) :
    ∀ rd bit, copies t k typ l rd bit = copies s k typ l rd bit := by
  induction l with
  | nil => exact fun _ _ => rfl
  | cons x l ih => exact fun rd bit => by simp only [copies, txLevels_congr regs, ih]

theorem txReady_congr {l : Nat} (lane : t.lane l = s.lane l) (regs : t.regs = s.regs) (start : Nat) : t.txReady l start = s.txReady l start := by
  simp only [State.txReady, State.txIdles, State.txTime, State.txRate, lane, get_congr regs]
  rfl

theorem lineOf_congr {k : Nat} (lane : t.lane (8 * k) = s.lane (8 * k)) (regs : t.regs = s.regs) (now : t.now = s.now) : lineOf t k = lineOf s k := by
  simp only [lineOf, txReady_congr lane regs, now]

end

theorem le_mul_divCeil (n : Nat) {d : Nat} (h : 0 < d) : n ≤ d * divCeil n d := by
  have split := Nat.div_add_mod (n + d - 1) d
  have small := Nat.mod_lt (n + d - 1) h
  unfold divCeil
  omega

/-- A flock's transmitter, ready at a time: with the idle characters that fill the time up to it. -/
theorem txReady_flock (s : State) {l : Nat} (start : Nat) (hl : l < 32) : s.txReady l start =
    if s.txIdles l start = 0 then s.lane l
    else { s.lane l with
      txAt := (s.lane l).txAt + s.txTime l (s.txIdles l start * (idleOf l).length), txRd := (s.lane l).txRd != (s.txIdles l start % 2 == 1), txBit := false } := by
  simp only [State.txReady, hl, if_true, Nat.zero_max]

/-- A transmitter that is not behind sends at once. -/
theorem txReady_of_le {s : State} {l start : Nat} (hl : l < 32) (h : start ≤ (s.lane l).txAt) : s.txReady l start = s.lane l := by
  rw [txReady_flock s start hl, if_pos]
  simp [State.txIdles, Nat.sub_eq_zero_of_le h, divCeil, idleOf, hl, idleUnit, nsUnit]

/-- The idle characters before a message fill the time up to it. -/
theorem le_txAt_txReady (s : State) {l : Nat} (start : Nat) (hl : l < 32) : start ≤ (s.txReady l start).txAt := by
  have unit : (idleOf l).length = 4 := by simp [idleOf, hl, idleUnit]
  have need := le_mul_divCeil ((start - (s.lane l).txAt) * 125) (d := 4 * 1000 * 65536) (by decide)
  have fill := le_mul_divCeil ((s.txIdles l start * 4) * 1000 * 65536) (d := 125) (by decide)
  have idles : s.txIdles l start = divCeil ((start - (s.lane l).txAt) * 125) (4 * 1000 * 65536) := by
    simp [State.txIdles, State.txRate, hl, unit, nsUnit]
  have time : s.txTime l (s.txIdles l start * 4) = divCeil ((s.txIdles l start * 4) * 1000 * 65536) 125 := by
    simp [State.txTime, State.txRate, hl, nsUnit]
  rw [txReady_flock s start hl, unit]
  split
  · next none_sent =>
    rw [← idles, none_sent] at need
    omega
  · rw [← idles] at need
    rw [← time] at fill
    dsimp only
    omega

/-- A copy of a message: what goes out, and how it leaves the transmitter. -/
theorem backCopy_out (s : State) (k typ q : Nat) (m : List Nat) :
    (s.backCopy k typ q (m.map (BitVec.ofNat 8))).out = s.out ++ copies s k typ [(q, m)] (lineOf s k).1 (lineOf s k).2 := rfl

/-- The transmitter that sends a copy. -/
theorem lane_backCopy_self (s : State) (k typ q : Nat) (m : List Byte) :
    (s.backCopy k typ q m).lane (8 * k) = { s.txReady (8 * k) s.now with
      txRd := (encodeSyms (s.txReady (8 * k) s.now).txRd (backSyms typ q m)).2
      txAt := (s.txReady (8 * k) s.now).txAt + s.txTime (8 * k) (backSyms typ q m).length
      txBit := (encodeSyms (s.txReady (8 * k) s.now).txRd (backSyms typ q m)).1.getLastD 0 % 2 == 1 } := mget_mset_self _ _ _ _

theorem lane_backCopy_ne (s : State) {k l : Nat} (typ q : Nat) (m : List Byte) (h : l ≠ 8 * k) : (s.backCopy k typ q m).lane l = s.lane l :=
  lane_setLane_ne s _ h

theorem lineOf_backCopy (s : State) {k : Nat} (typ q : Nat) (m : List Nat) (hk : k < 4) :
    lineOf (s.backCopy k typ q (m.map (BitVec.ofNat 8))) k = lineAfter typ [(q, m)] (lineOf s k) := by
  have lane := lane_backCopy_self s k typ q (m.map (BitVec.ofNat 8))
  have late : (s.backCopy k typ q (m.map (BitVec.ofNat 8))).now ≤ ((s.backCopy k typ q (m.map (BitVec.ofNat 8))).lane (8 * k)).txAt := by
    rw [lane]
    exact (le_txAt_txReady s s.now (by omega)).trans (Nat.le_add_right _ _)
  rw [lineOf, txReady_of_le (by omega) late, lane]
  simp only [lineAfter, lineOf]

/-- Whether a flock's back-channel is on depends on whether its transmitter is stopped, and on registers. -/
theorem backOn_congr {s t : State} {k : Nat} (stopped : (t.lane (8 * k)).stopped = (s.lane (8 * k)).stopped) (regs : t.regs = s.regs) :
    t.backOn k = s.backOn k := by
  simp only [State.backOn, State.laneSends, State.domOn, State.pllLocked, get_congr regs, reg_congr regs, stopped]

theorem stopped_txReady (s : State) (l start : Nat) : (s.txReady l start).stopped = (s.lane l).stopped := by
  unfold State.txReady
  dsimp only
  generalize (max _ _ : Nat) = n
  split <;> rfl

theorem backOn_backCopy (s : State) (k j typ q : Nat) (m : List Byte) : (s.backCopy k typ q m).backOn j = s.backOn j := by
  refine backOn_congr ?_ rfl
  by_cases same : 8 * j = 8 * k
  · rw [same, lane_backCopy_self]
    exact stopped_txReady s _ _
  · rw [lane_backCopy_ne s typ q m same]

/-! ### Messages to one flock -/

/-- From s to t copies l of messages of type typ leave on flock k, and none on others; the flock's next `SEQ` counts n on. Registers and the
time stay. -/
structure Sends (k typ n : Nat) (l : List (Nat × List Nat)) (s t : State) : Prop where
  regs : t.regs = s.regs
  now : t.now = s.now
  on : t.backOn k = s.backOn k
  out : onFlock k t.out = onFlock k s.out ++ copies s k typ l (lineOf s k).1 (lineOf s k).2
  line : lineOf t k = lineAfter typ l (lineOf s k)
  seq : (mget 0 t.pil.bcSeq k + 1) % 256 = (mget 0 s.pil.bcSeq k + 1 + n) % 256

section
variable {k typ n m : Nat} {l l' : List (Nat × List Nat)} {s t u : State}

theorem Sends.refl (s : State) (k typ : Nat) : Sends k typ 0 [] s s := ⟨rfl, rfl, rfl, (List.append_nil _).symm, rfl, rfl⟩

theorem Sends.trans (h : Sends k typ n l s t) (g : Sends k typ m l' t u) : Sends k typ (n + m) (l ++ l') s u where
  regs := g.regs.trans h.regs
  now := g.now.trans h.now
  on := g.on.trans h.on
  out := by rw [g.out, h.out, copies_append, List.append_assoc, h.line, copies_congr h.regs]
  line := by rw [g.line, h.line, lineAfter_append]
  seq := by
    have first := h.seq
    have second := g.seq
    omega

/-- A step that leaves the flock's transmitter, the outputs and the sequence numbers alone. -/
theorem Sends.of_same (regs : t.regs = s.regs) (now : t.now = s.now) (lns : t.lns = s.lns) (out : t.out = s.out) (seq : t.pil.bcSeq = s.pil.bcSeq) :
    Sends k typ 0 [] s t := by
  have lane : t.lane (8 * k) = s.lane (8 * k) := by rw [State.lane, State.lane, lns]
  exact ⟨regs, now, backOn_congr (by rw [lane]) regs, by rw [out, copies, List.append_nil], lineOf_congr lane regs now, by rw [seq]⟩

end

theorem onFlock_append (k : Nat) (l m : List Output) : onFlock k (l ++ m) = onFlock k l ++ onFlock k m := List.filter_append ..

theorem onFlock_copies_self (s : State) (k typ : Nat) (l : List (Nat × List Nat)) :
    ∀ rd bit, onFlock k (copies s k typ l rd bit) = copies s k typ l rd bit := by
  induction l with
  | nil => exact fun _ _ => rfl
  | cons x l ih => exact fun rd bit => by simpa [onFlock, copies, message] using ih _ _

theorem onFlock_copies_ne (s : State) {k j : Nat} (typ : Nat) (l : List (Nat × List Nat)) (h : j ≠ k) :
    ∀ rd bit, onFlock k (copies s j typ l rd bit) = [] := by
  induction l with
  | nil => exact fun _ _ => rfl
  | cons x l ih => exact fun rd bit => by simpa [onFlock, copies, message, h] using ih _ _

/-- What one send puts on the back-channel: a status once, any other message twice with one `SEQ` (R65). -/
def sent (typ q : Nat) (m : List Nat) : List (Nat × List Nat) := if typ = 1 then [(q, m)] else [(q, m), (q, m)]

/-- A copy on flock k. -/
theorem sends_backCopy_self (s : State) {k : Nat} (typ q : Nat) (m : List Nat) (hk : k < 4) :
    Sends k typ 0 [(q, m)] s (s.backCopy k typ q (m.map (BitVec.ofNat 8))) where
  regs := rfl
  now := rfl
  on := backOn_backCopy s k k typ q _
  out := by rw [backCopy_out, onFlock_append, onFlock_copies_self]
  line := lineOf_backCopy s typ q m hk
  seq := rfl

/-- A copy on another flock. -/
theorem sends_backCopy_ne (s : State) {k j : Nat} (typ typ' q : Nat) (m : List Nat) (h : j ≠ k) :
    Sends k typ' 0 [] s (s.backCopy j typ q (m.map (BitVec.ofNat 8))) where
  regs := rfl
  now := rfl
  on := backOn_backCopy s j k typ q _
  out := by rw [backCopy_out, onFlock_append, onFlock_copies_ne s typ _ h, copies]
  line := lineOf_congr (lane_backCopy_ne s typ q _ (by omega)) rfl rfl
  seq := rfl

/-- The state in which flock k's next message has its `SEQ` (R65). -/
def nextSeq (s : State) (k : Nat) : State := { s with pil := { s.pil with bcSeq := mset 0 s.pil.bcSeq k ((mget 0 s.pil.bcSeq k + 1) % 256) } }

theorem backSend_off {s : State} {k : Nat} (typ : Nat) (m : List Nat) (off : s.backOn k = false) : s.backSend k typ m = s := by
  simp [State.backSend, off]

theorem backSend_on {s : State} {k : Nat} (typ : Nat) (m : List Nat) (on : s.backOn k = true) : s.backSend k typ m =
    let t := (nextSeq s k).backCopy k typ ((mget 0 s.pil.bcSeq k + 1) % 256) (m.map (BitVec.ofNat 8))
    if typ = 1 then t else t.backCopy k typ ((mget 0 s.pil.bcSeq k + 1) % 256) (m.map (BitVec.ofNat 8)) := by
  simp only [State.backSend, on, Bool.not_true, Bool.false_eq_true, if_false, nextSeq]

/-- The next message of a flock has the next `SEQ`. -/
theorem sends_nextSeq_self (s : State) (k typ : Nat) : Sends k typ 1 [] s (nextSeq s k) where
  regs := rfl
  now := rfl
  on := rfl
  out := (List.append_nil _).symm
  line := rfl
  seq := by
    simp only [nextSeq, mget_mset_self]
    omega

theorem sends_nextSeq_ne (s : State) {k j : Nat} (typ : Nat) (h : j ≠ k) : Sends k typ 0 [] s (nextSeq s j) where
  regs := rfl
  now := rfl
  on := rfl
  out := (List.append_nil _).symm
  line := rfl
  seq := by simp only [nextSeq, mget_mset_ne 0 s.pil.bcSeq _ h.symm, Nat.add_zero]

/-- A message to flock k, whose back-channel is on. -/
theorem sends_backSend_self {s : State} {k : Nat} (typ : Nat) (m : List Nat) (on : s.backOn k = true) :
    Sends k typ 1 (sent typ ((mget 0 s.pil.bcSeq k + 1) % 256) m) s (s.backSend k typ m) := by
  have hk : k < 4 := by
    simp only [State.backOn, Bool.and_eq_true, decide_eq_true_eq] at on
    exact on.1
  have first := (sends_nextSeq_self s k typ).trans (sends_backCopy_self _ typ ((mget 0 s.pil.bcSeq k + 1) % 256) m hk)
  rw [backSend_on typ m on, sent]
  dsimp only
  split
  · exact first
  · exact first.trans (sends_backCopy_self _ typ _ m hk)

/-- A message to another flock. -/
theorem sends_backSend_ne (s : State) {k j : Nat} (typ typ' : Nat) (m : List Nat) (h : j ≠ k) : Sends k typ' 0 [] s (s.backSend j typ m) := by
  by_cases on : s.backOn j = true
  · have first := (sends_nextSeq_ne s typ' h).trans (sends_backCopy_ne _ typ typ' ((mget 0 s.pil.bcSeq j + 1) % 256) m h)
    rw [backSend_on typ m on]
    dsimp only
    split
    · exact first
    · exact first.trans (sends_backCopy_ne _ typ typ' _ m h)
  · rw [backSend_off typ m (by simpa using on)]
    exact .refl s k typ'

/-! ### Messages to every flock in use -/

theorem mem_linkFlocks_of_on {s : State} {k : Nat} (on : s.backOn k = true) : k ∈ s.linkFlocks := by
  simp only [State.backOn, State.laneSends, Bool.and_eq_true, Bool.or_eq_true, decide_eq_true_eq] at on
  obtain ⟨hk, -, flock⟩ := on
  rw [Nat.mul_div_cancel_left k (by decide)] at flock
  simp only [State.linkFlocks, upTo, List.mem_filter, List.mem_range]
  exact ⟨hk, flock.resolve_left (by omega)⟩

theorem nodup_linkFlocks (s : State) : s.linkFlocks.Nodup := List.Nodup.filter _ List.nodup_range

/-- Steps of other flocks. -/
theorem sends_each_ne {k typ : Nat} {f : State → Nat → State} (others : ∀ s j, j ≠ k → Sends k typ 0 [] s (f s j)) {l : List Nat} (h : k ∉ l) :
    ∀ s : State, Sends k typ 0 [] s (s.each l f) := by
  induction l with
  | nil => exact fun s => .refl s k typ
  | cons x l ih =>
    rw [List.mem_cons, not_or] at h
    exact fun s => (others s x (Ne.symm h.1)).trans (ih h.2 _)

/-- The step of flock k among those of all flocks in use. -/
theorem each_split {f : State → Nat → State} {l : List Nat} {k : Nat} (nodup : l.Nodup) (mem : k ∈ l) (s : State) :
    ∃ before after, k ∉ before ∧ k ∉ after ∧ s.each l f = (f (s.each before f) k).each after f := by
  obtain ⟨before, after, rfl⟩ := List.append_of_mem mem
  obtain ⟨-, rest, apart⟩ := List.nodup_append.1 nodup
  exact ⟨before, after, fun h => apart k h k (by simp) rfl, (List.nodup_cons.1 rest).1, each_append s _ _ _⟩

/-- Steps of all flocks in use, of which that of flock k sends l. -/
theorem sends_each_self {k typ n : Nat} {l : List (Nat × List Nat)} {f : State → Nat → State} {s : State} {flocks : List Nat} (nodup : flocks.Nodup)
    (mem : k ∈ flocks) (others : ∀ s j, j ≠ k → Sends k typ 0 [] s (f s j)) (own : ∀ t, Sends k typ 0 [] s t → Sends k typ n l t (f t k)) :
    Sends k typ n l s (s.each flocks f) := by
  obtain ⟨before, after, notBefore, notAfter, same⟩ := each_split (f := f) nodup mem s
  have first := sends_each_ne others notBefore s
  have all := (first.trans (own _ first)).trans (sends_each_ne others notAfter _)
  rw [same]
  simpa using all

theorem sends_backAll {s : State} {k : Nat} (typ : Nat) (m : List Nat) (on : s.backOn k = true) :
    Sends k typ 1 (sent typ ((mget 0 s.pil.bcSeq k + 1) % 256) m) s (s.backAll typ m) := by
  refine sends_each_self (nodup_linkFlocks s) (mem_linkFlocks_of_on on) (fun t j h => sends_backSend_ne t typ typ m h) fun t before => ?_
  have seq : (mget 0 t.pil.bcSeq k + 1) % 256 = (mget 0 s.pil.bcSeq k + 1) % 256 := before.seq
  rw [← seq]
  exact sends_backSend_self typ m (before.on.trans on)

/-- To a flock whose back-channel is off nothing is sent. -/
theorem sends_backAll_off {s : State} {k : Nat} (typ : Nat) (m : List Nat) (off : s.backOn k = false) : Sends k typ 0 [] s (s.backAll typ m) := by
  have others := fun (t : State) (j : Nat) (h : j ≠ k) => sends_backSend_ne t typ typ m h
  by_cases mem : k ∈ s.linkFlocks
  · refine sends_each_self (nodup_linkFlocks s) mem others fun t before => ?_
    rw [backSend_off typ m (before.on.trans off)]
    exact .refl t k typ
  · exact sends_each_ne others mem s

/-! ### The three kinds of message that are sent periodically -/

/-- The payload of a credit message (R75). -/
def creditMsg (s : State) (i : Nat) : List Nat := [i, 0] ++ beNats 2 (mget 0 s.pil.credit i) ++ [0, 0, 0, 0]

section
variable {s : State} {k : Nat}

theorem sendCredit_works {i : Nat} (works : s.linkWorks = true) : s.sendCredit i = s.backAll 4 (creditMsg s i) := by
  simp [State.sendCredit, works, creditMsg]

theorem sendCredit_idle {i : Nat} (idle : s.linkWorks = false) : s.sendCredit i = s := by simp [State.sendCredit, idle]

theorem backFrame_credits (s : State) (l : List Nat) : BackFrame s (s.each l fun s i => s.sendCredit i) :=
  backFrame_each (fun s i => backFrame_sendCredit s i) l s

theorem linkWorks_congr {t : State} (regs : t.regs = s.regs) : t.linkWorks = s.linkWorks := by
  simp only [State.linkWorks, State.linkState, get_congr regs]
  rfl

/-- The limits of the first n slots, each twice. -/
theorem sends_credits (works : s.linkWorks = true) (on : s.backOn k = true) (n : Nat) :
    Sends k 4 n ((List.range n).flatMap fun i => sent 4 ((mget 0 s.pil.bcSeq k + 1 + i) % 256) (creditMsg s i)) s
      (s.each (List.range n) fun s i => s.sendCredit i) := by
  induction n with
  | zero => exact .refl s k 4
  | succ n ih =>
    have frame := backFrame_credits s (List.range n)
    rw [List.range_succ, each_append, List.flatMap_append]
    refine ih.trans ?_
    generalize s.each (List.range n) (fun s i => s.sendCredit i) = t at ih frame
    have next := sends_backAll 4 (creditMsg t n) (ih.on.trans on)
    rw [ih.seq, show creditMsg t n = creditMsg s n by rw [creditMsg, frame.pil]; rfl] at next
    rw [State.each, List.foldl_cons, List.foldl_nil, sendCredit_works ((linkWorks_congr ih.regs).trans works),
      show creditMsg t n = creditMsg s n by rw [creditMsg, frame.pil]; rfl]
    simpa using next

theorem sends_credits_off (works : s.linkWorks = true) (off : s.backOn k = false) (n : Nat) :
    Sends k 4 0 [] s (s.each (List.range n) fun s i => s.sendCredit i) := by
  induction n with
  | zero => exact .refl s k 4
  | succ n ih =>
    rw [List.range_succ, each_append]
    have all := ih.trans (sends_backAll_off 4 (creditMsg (s.each (List.range n) fun s i => s.sendCredit i) n) (ih.on.trans off))
    rw [State.each, List.foldl_cons, List.foldl_nil, sendCredit_works ((linkWorks_congr ih.regs).trans works)]
    simpa using all

theorem credits_idle (idle : s.linkWorks = false) (l : List Nat) : (s.each l fun s i => s.sendCredit i) = s := by
  induction l with
  | nil => rfl
  | cons i l ih => rw [State.each, List.foldl_cons, sendCredit_idle idle]; exact ih

end

end Sys2Proof.LinkLaws
end

section
/-! The messages that the part sends by the clock: the lanes' status, the credit and the repeats of a DUP (R65 to R67, R75). -/

namespace Sys2Proof.LinkLaws

open Sys2Proof Sys2Proof.Machine
open Sys2Proof.Laws hiding taken

/-! ### The status of a flock's lanes (R66) -/

theorem pilLane_setPilLane_self (s : State) (l : Nat) (p : PilLane) : (s.setPilLane l p).pilLane l = p := mget_mset_self _ _ _ _

theorem pilLane_setPilLane_ne (s : State) {l m : Nat} (p : PilLane) (h : m ≠ l) : (s.setPilLane l p).pilLane m = s.pilLane m := mget_mset_ne _ _ _ h

/-- The note of an invalid character is gone from the lanes of a list. -/
def seenCleared (s : State) (l : List Nat) : State := s.each l fun s l => s.setPilLane l { s.pilLane l with invalidSeen := false }

theorem seenCleared_cons (s : State) (x : Nat) (l : List Nat) :
    seenCleared s (x :: l) = seenCleared (s.setPilLane x { s.pilLane x with invalidSeen := false }) l := rfl

theorem pilLane_seenCleared_notMem {m : Nat} {l : List Nat} (h : m ∉ l) : ∀ s : State, (seenCleared s l).pilLane m = s.pilLane m := by
  induction l with
  | nil => exact fun _ => rfl
  | cons x l ih =>
    rw [List.mem_cons, not_or] at h
    exact fun s => (ih h.2 _).trans (pilLane_setPilLane_ne s _ h.1)

theorem pilLane_seenCleared_mem {m : Nat} {l : List Nat} (h : m ∈ l) :
    ∀ s : State, (seenCleared s l).pilLane m = { s.pilLane m with invalidSeen := false } := by
  induction l with
  | nil => simp at h
  | cons x l ih =>
    intro s
    rw [seenCleared_cons]
    by_cases again : m ∈ l
    · rw [ih again]
      by_cases same : m = x
      · rw [same, pilLane_setPilLane_self]
      · rw [pilLane_setPilLane_ne s _ same]
    · obtain rfl := (List.mem_cons.1 h).resolve_right again
      rw [pilLane_seenCleared_notMem again, pilLane_setPilLane_self]

/-- From s to t the status of lanes is told: messages leave, and the link's own state and the tallies change. -/
def StatusFrame (s t : State) : Prop := t = { s with pil := t.pil, tal := t.tal, lns := t.lns, out := t.out }

theorem StatusFrame.refl (s : State) : StatusFrame s s := rfl

theorem StatusFrame.trans {s t u : State} (h : StatusFrame s t) (k : StatusFrame t u) : StatusFrame s u := by
  unfold StatusFrame at *
  rw [k, h]

theorem statusFrame_each {α : Type} {f : State → α → State} (h : ∀ s x, StatusFrame s (f s x))
    (l : List α) : ∀ s : State, StatusFrame s (s.each l f) := by
  induction l with
  | nil => exact fun s => rfl
  | cons x l ih => exact fun s => (h s x).trans (ih _)

theorem BackFrame.statusFrame {s t : State} (h : BackFrame s t) : StatusFrame s t := by
  unfold StatusFrame
  rw [h]

theorem statusFrame_seenCleared (s : State) (l : List Nat) : StatusFrame s (seenCleared s l) :=
  statusFrame_each (f := fun s l => s.setPilLane l { s.pilLane l with invalidSeen := false }) (fun _ _ => rfl) l s


/-- The payload of a flock's status (R66). -/
def statusMsg (s : State) (k : Nat) : List Nat :=
  [k, (s.statusNow k).1, ofBits 8 fun j => (s.pilLane (8 * k + j)).invalidSeen, (s.statusNow k).2, s.linkState, 0, 0, 0]

theorem sendLaneStatus_off {s : State} {k : Nat} (off : s.backOn k = false) : s.sendLaneStatus k = s := by simp [State.sendLaneStatus, off]

/-- The status that a flock was told last. -/
def statusTold (s : State) (k : Nat) (p : Nat × Nat) : State := { s with pil := { s.pil with lastStatus := mput s.pil.lastStatus k p } }

theorem sendLaneStatus_on {s : State} {k : Nat} (on : s.backOn k = true) :
    s.sendLaneStatus k = statusTold (seenCleared (s.backSend k 1 (statusMsg s k)) (flockLanes k)) k (s.statusNow k) := by
  simp only [State.sendLaneStatus, on, Bool.not_true, Bool.false_eq_true, if_false]
  rfl

theorem pilLane_statusTold (s : State) (k m : Nat) (p : Nat × Nat) : (statusTold s k p).pilLane m = s.pilLane m := rfl

theorem statusFrame_statusTold (s : State) (k : Nat) (p : Nat × Nat) : StatusFrame s (statusTold s k p) := rfl

theorem statusFrame_sendLaneStatus (s : State) (k : Nat) : StatusFrame s (s.sendLaneStatus k) := by
  by_cases on : s.backOn k = true
  · rw [sendLaneStatus_on on]
    exact ((backFrame_backSend s k 1 (statusMsg s k)).statusFrame.trans (statusFrame_seenCleared _ (flockLanes k))).trans (statusFrame_statusTold _ _ _)
  · rw [sendLaneStatus_off (by simpa using on)]
    exact .refl s

theorem BackFrame.pilLane {s t : State} (h : BackFrame s t) (m : Nat) : t.pilLane m = s.pilLane m := by
  rw [State.pilLane, h.pil]
  rfl

theorem mem_flockLanes {k m : Nat} : m ∈ flockLanes k ↔ 8 * k ≤ m ∧ m < 8 * k + 8 := by
  simp only [flockLanes, List.mem_map, List.mem_range]
  exact ⟨fun ⟨i, hi, same⟩ => by omega, fun ⟨low, high⟩ => ⟨m - 8 * k, by omega, by omega⟩⟩

/-- What the status of a flock leaves of a lane of another flock, and of one of its own. -/
theorem pilLane_sendLaneStatus_ne (s : State) {j m : Nat} (h : m ∉ flockLanes j) : (s.sendLaneStatus j).pilLane m = s.pilLane m := by
  by_cases on : s.backOn j = true
  · rw [sendLaneStatus_on on, pilLane_statusTold, pilLane_seenCleared_notMem h, (backFrame_backSend s j 1 _).pilLane]
  · rw [sendLaneStatus_off (by simpa using on)]

theorem pilLane_sendLaneStatus_self {s : State} {k m : Nat} (on : s.backOn k = true) (h : m ∈ flockLanes k) :
    (s.sendLaneStatus k).pilLane m = { s.pilLane m with invalidSeen := false } := by
  rw [sendLaneStatus_on on, pilLane_statusTold, pilLane_seenCleared_mem h, (backFrame_backSend s k 1 _).pilLane]

theorem sends_statusTold (s : State) (k j : Nat) (p : Nat × Nat) : Sends k 1 0 [] s (statusTold s j p) := .of_same rfl rfl rfl rfl rfl

/-- The note of invalid characters sends nothing. -/
theorem sends_seenCleared (k : Nat) (l : List Nat) : ∀ s : State, Sends k 1 0 [] s (seenCleared s l) := by
  induction l with
  | nil => exact fun s => .refl s k 1
  | cons x l ih =>
    intro s
    rw [seenCleared_cons]
    exact (Sends.of_same (s := s) (t := s.setPilLane x { s.pilLane x with invalidSeen := false }) rfl rfl rfl rfl rfl).trans (ih _)

/-- The status of flock k, whose back-channel is on. -/
theorem sends_sendLaneStatus_self {s : State} {k : Nat} (on : s.backOn k = true) :
    Sends k 1 1 [((mget 0 s.pil.bcSeq k + 1) % 256, statusMsg s k)] s (s.sendLaneStatus k) := by
  rw [sendLaneStatus_on on]
  exact ((sends_backSend_self 1 (statusMsg s k) on).trans (sends_seenCleared k (flockLanes k) _)).trans (sends_statusTold _ k k _)

theorem sends_sendLaneStatus_ne (s : State) {k j : Nat} (h : j ≠ k) : Sends k 1 0 [] s (s.sendLaneStatus j) := by
  by_cases on : s.backOn j = true
  · rw [sendLaneStatus_on on]
    exact ((sends_backSend_ne s 1 1 (statusMsg s j) h).trans (sends_seenCleared k (flockLanes j) _)).trans (sends_statusTold _ k j _)
  · rw [sendLaneStatus_off (by simpa using on)]
    exact .refl s k 1

theorem physOf_lt (s : State) (k i : Nat) : s.physOf k i < 8 :=
  (Nat.mod_lt _ (Nat.two_pow_pos _)).trans_eq (by rw [show 3 * i + 2 + 1 - 3 * i = 3 by omega])

theorem ofBits_congr {n : Nat} {f g : Nat → Bool} (h : ∀ i < n, f i = g i) : ofBits n f = ofBits n g :=
  List.foldl_ext _ _ 0 fun a i hi => by rw [h i (List.mem_range.1 hi)]

/-- The status that is told depends on the registers and on the flock's lanes. -/
theorem statusMsg_congr {s t : State} {k : Nat} (regs : t.regs = s.regs) (lanes : ∀ m ∈ flockLanes k, t.pilLane m = s.pilLane m) :
    statusMsg t k = statusMsg s k := by
  have lane (j : Nat) (h : j < 8) : t.pilLane (8 * k + j) = s.pilLane (8 * k + j) := lanes _ (mem_flockLanes.2 (by omega))
  have spare : t.physOf k 7 = s.physOf k 7 := by simp only [State.physOf, reg_congr regs]
  have now : t.statusNow k = s.statusNow k := by
    simp only [State.statusNow, spare, lane _ (physOf_lt s k 7), get_congr regs]
  have seen : (ofBits 8 fun j => (t.pilLane (8 * k + j)).invalidSeen) = ofBits 8 fun j => (s.pilLane (8 * k + j)).invalidSeen :=
    ofBits_congr fun j hj => by rw [lane j hj]
  simp only [statusMsg, now, seen, State.linkState, get_congr regs]

theorem pilLane_statuses_ne {k m : Nat} (hm : m ∈ flockLanes k) {l : List Nat} (h : k ∉ l) :
    ∀ s : State, (s.each l fun s j => s.sendLaneStatus j).pilLane m = s.pilLane m := by
  induction l with
  | nil => exact fun _ => rfl
  | cons x l ih =>
    rw [List.mem_cons, not_or] at h
    refine fun s => (ih h.2 _).trans (pilLane_sendLaneStatus_ne s fun own => h.1 ?_)
    rw [mem_flockLanes] at hm own
    omega

/-- The status of every flock in use: what flock k is told, and its lanes' notes. -/
theorem sends_statuses {s : State} {k : Nat} (on : s.backOn k = true) :
    Sends k 1 1 [((mget 0 s.pil.bcSeq k + 1) % 256, statusMsg s k)] s (s.each s.linkFlocks fun s j => s.sendLaneStatus j)
    ∧ ∀ m ∈ flockLanes k, (s.each s.linkFlocks fun s j => s.sendLaneStatus j).pilLane m = { s.pilLane m with invalidSeen := false } := by
  obtain ⟨before, after, notBefore, notAfter, same⟩ := each_split (f := fun s j => s.sendLaneStatus j) (nodup_linkFlocks s) (mem_linkFlocks_of_on on) s
  have others (s : State) (j : Nat) (h : j ≠ k) : Sends k 1 0 [] s (s.sendLaneStatus j) := sends_sendLaneStatus_ne s h
  have first := sends_each_ne others notBefore s
  have lanes (m : Nat) (hm : m ∈ flockLanes k) := pilLane_statuses_ne hm notBefore s
  rw [same]
  generalize (s.each before fun s j => s.sendLaneStatus j) = t at first lanes
  have seq : (mget 0 t.pil.bcSeq k + 1) % 256 = (mget 0 s.pil.bcSeq k + 1) % 256 := first.seq
  have own := sends_sendLaneStatus_self (first.on.trans on)
  rw [seq, statusMsg_congr first.regs lanes] at own
  refine ⟨?_, fun m hm => ?_⟩
  · simpa using (first.trans own).trans (sends_each_ne others notAfter _)
  · exact (pilLane_statuses_ne hm notAfter _).trans ((pilLane_sendLaneStatus_self (first.on.trans on) hm).trans (by rw [lanes m hm]))

theorem sends_statuses_off {s : State} {k : Nat} (off : s.backOn k = false) :
    Sends k 1 0 [] s (s.each s.linkFlocks fun s j => s.sendLaneStatus j) := by
  have others (s : State) (j : Nat) (h : j ≠ k) : Sends k 1 0 [] s (s.sendLaneStatus j) := sends_sendLaneStatus_ne s h
  by_cases mem : k ∈ s.linkFlocks
  · refine sends_each_self (nodup_linkFlocks s) mem others fun t before => ?_
    rw [sendLaneStatus_off (before.on.trans off)]
    exact .refl t k 1
  · exact sends_each_ne others mem s

/-! ### The obligation -/

/-- Counting tallies changes nothing else. -/
theorem tallies_eq {α : Type} (o : α → Nat) (l : List α) : ∀ s : State,
    (s.each l fun s x => s.tally (o x) 1) = { s with tal := (s.each l fun s x => s.tally (o x) 1).tal } := by
  induction l with
  | nil => exact fun _ => rfl
  | cons x l ih => exact fun s => (ih (s.tally (o x) 1)).trans rfl

/-- LANE_STATUS: the tallies, then the status of every flock. -/
theorem laneStatus_eq (s : State) : ∃ tal, s.laneStatus = ({ s with tal := tal } : State).each s.linkFlocks fun s k => s.sendLaneStatus k := by
  refine ⟨(s.each (upTo 144 fun l => s.rxState l == 4) fun s l => s.tally (0x1000 + 0x40 * l + 24) 1).tal, ?_⟩
  unfold State.laneStatus
  rw [tallies_eq (fun l => 0x1000 + 0x40 * l + 24)]
  rfl

/-- A message that goes out twice, and nothing else. -/
theorem backSend_out {s : State} {k typ : Nat} (m : List Nat) (on : s.backOn k = true) (twice : typ ≠ 1) :
    (s.backSend k typ m).out = s.out ++ copies s k typ (sent typ ((mget 0 s.pil.bcSeq k + 1) % 256) m) (lineOf s k).1 (lineOf s k).2 := by
  have hk : k < 4 := by
    simp only [State.backOn, Bool.and_eq_true, decide_eq_true_eq] at on
    exact on.1
  rw [backSend_on typ m on, sent]
  simp only [twice, if_false]
  have both := copies_append s k typ [((mget 0 s.pil.bcSeq k + 1) % 256, m)] [((mget 0 s.pil.bcSeq k + 1) % 256, m)] (lineOf s k)
  rw [backCopy_out, backCopy_out, List.append_assoc, lineOf_backCopy _ typ _ m hk, copies_congr (s := s) (t := nextSeq s k) rfl,
    copies_congr (s := s) (t := (nextSeq s k).backCopy k typ _ _) rfl]
  exact congrArg (s.out ++ ·) both.symm

theorem rotDupRepeat_sends {s : State} {k : Nat} (asked : s.rotState k = 1) (unseen : (s.rot k).dupSeen = 0) (sends : (s.rot k).sends ≤ 10) :
    s.rotDupRepeat k = (s.setRot k { s.rot k with sends := (s.rot k).sends + 1 }).backSend k 2 [k, (s.rot k).lane, 0, 0, 0, 0, 0, 0] := by
  simp only [State.rotDupRepeat]
  rw [if_pos ⟨.inl asked, unseen, sends⟩]

theorem rotDupRepeat_idle {s : State} {k : Nat} (idle : s.rotState k = 0) : s.rotDupRepeat k = s := by simp [State.rotDupRepeat, idle]

/-- What the flock's transmitter finds in the state of a command's begin. -/
theorem copies_begun (s : State) (k typ : Nat) (l : List (Nat × List Nat)) :
    copies (begun s) k typ l (lineOf (begun s) k).1 (lineOf (begun s) k).2 =
      copies s k typ l (s.txReady (8 * k) s.now).txRd (s.txReady (8 * k) s.now).txBit :=
  copies_congr (s := s) (t := begun s) rfl k typ l _ _

/-- A message sent after a change of flock k's rotation. -/
theorem BackFrame.of_setRot {s t : State} {k : Nat} {r : PilRot} (h : BackFrame (s.setRot k r) t) :
    t = { s with pil := { s.pil with rot := t.pil.rot, bcSeq := t.pil.bcSeq }, lns := t.lns, out := t.out } := by
  unfold BackFrame at h
  rw [h]
  rfl

/-- Settles O29: every message is a send to one flock, and the sends to flock k are told apart from those to the others. -/
theorem periodicMessages : Obligations.PeriodicMessages := by
  intro s k hk
  refine ⟨?_, fun works => ?_, fun idle => ?_, fun asked unseen few on => ?_, fun idle => ?_⟩
  · obtain ⟨tal, same⟩ := laneStatus_eq (begun s)
    have ends := ends_laneStatus s rfl
    rw [same] at ends
    have frame : StatusFrame (begun s) _ := (show StatusFrame (begun s) { begun s with tal := tal } from rfl).trans
      (statusFrame_each (fun s j => statusFrame_sendLaneStatus s j) (begun s).linkFlocks _)
    refine ⟨_, ends, frame, fun on => ?_, fun off => ?_⟩
    · obtain ⟨sent, lanes⟩ := sends_statuses (s := { begun s with tal := tal }) on
      refine ⟨?_, fun j hj => lanes _ (mem_flockLanes.2 (by omega))⟩
      exact sent.out.trans (copies_congr rfl k 1 _ _ _)
    · exact (sends_statuses_off (s := { begun s with tal := tal }) off).out
  · have frame := backFrame_credits (begun s) (List.range 16)
    refine ⟨_, ends_creditPeriodic s rfl, frame, fun on => ?_, fun off => ?_⟩
    · exact (sends_credits (s := begun s) works on 16).out.trans (copies_begun s k 4 _)
    · exact (sends_credits_off (s := begun s) works off 16).out
  · have ends := ends_creditPeriodic s rfl
    rw [show (fun s : State => s.each (List.range 16) fun s i => s.sendCredit i) (begun s) = begun s from credits_idle (s := begun s) idle _] at ends
    exact ends
  · have ends := ends_rotDupRepeat k s (by simp [Instr.wellFormed, hk])
    rw [show (fun s : State => s.rotDupRepeat k) (begun s) = _ from rotDupRepeat_sends (s := begun s) asked unseen few] at ends
    have frame := backFrame_backSend ((begun s).setRot k { (begun s).rot k with sends := ((begun s).rot k).sends + 1 }) k 2
      [k, ((begun s).rot k).lane, 0, 0, 0, 0, 0, 0]
    refine ⟨_, ends, frame.of_setRot, ?_, ?_⟩
    · rw [State.rot, frame.pil]
      exact rot_setRot_self (begun s) k _
    · have out := backSend_out (s := (begun s).setRot k { (begun s).rot k with sends := ((begun s).rot k).sends + 1 }) (typ := 2)
        [k, ((begun s).rot k).lane, 0, 0, 0, 0, 0, 0] on (by decide)
      rw [copies_congr (s := s) (t := (begun s).setRot k { (begun s).rot k with sends := ((begun s).rot k).sends + 1 }) rfl] at out
      exact out
  · have ends := ends_rotDupRepeat k s (by simp [Instr.wellFormed, hk])
    rw [show (fun s : State => s.rotDupRepeat k) (begun s) = begun s from rotDupRepeat_idle (s := begun s) idle] at ends
    exact ends

end Sys2Proof.LinkLaws
end

section
/-! What a packet does before and beside its own effect: its symbols pass the receivers (R302), and the packets of its flocks count
(Table 19.1). -/

namespace Sys2Proof.LinkLaws

open Sys2Proof Sys2Proof.Machine
open Sys2Proof.Laws hiding taken

/-- The registers that the symbols of a packet may change: the disparities of the input lanes. -/
def TakeRegs (a : Nat) : Prop := 0x34000 ≤ a ∧ a < 0x35000

/-- From s to t only registers change, and only those of W. -/
def RegStep (W : Nat → Prop) (s t : State) : Prop := t = { s with regs := t.regs } ∧ ∀ a, ¬ W a → t.reg a = s.reg a

section
variable {W : Nat → Prop} {s t u : State}

theorem RegStep.refl (s : State) : RegStep W s s := ⟨rfl, fun _ _ => rfl⟩

theorem RegStep.trans (h : RegStep W s t) (k : RegStep W t u) : RegStep W s u := by
  obtain ⟨hs, hr⟩ := h
  obtain ⟨ks, kr⟩ := k
  refine ⟨?_, fun a ha => (kr a ha).trans (hr a ha)⟩
  rw [ks, hs]

theorem regStep_each {α : Type} {f : State → α → State} (h : ∀ s x, RegStep W s (f s x)) (l : List α) : ∀ s : State, RegStep W s (s.each l f) := by
  induction l with
  | nil => exact fun s => .refl s
  | cons x l ih => exact fun s => (h s x).trans (ih _)

end

theorem regStep_rxSyms (s : State) {l : Nat} (h : l < 32) (cs : List Sym) : RegStep TakeRegs s (s.rxSyms l cs) := by
  refine ⟨rfl, fun a ha => reg_putB_ne s _ fun e => ha ?_⟩
  simp only [TakeRegs, e, F.LNS_LANE_STATUS_RD, R.LNS_LANE_STATUS]
  omega

/-- The symbols of a packet pass the receivers of the lanes of the flocks in use. -/
theorem regStep_rxTake (s : State) (rx : LinkRx) : RegStep TakeRegs s (s.rxTake rx) := by
  refine regStep_each (fun t i => ?_) _ s
  split
  · exact .refl t
  · next k used =>
    have mem : k ∈ s.linkFlocks := List.mem_of_getElem? used
    have lt : k < 4 := List.mem_range.1 (List.mem_filter.1 mem).1
    refine regStep_rxSyms t ?_ _
    have phys := physOf_lt t k (if t.spareCarries k (i % 7) then 7 else i % 7)
    omega

/-- The state in which the effect of a packet begins, before its flocks count it. -/
def received (s : State) (rx : LinkRx) : State := (begun s).rxTake rx

section
variable (s : State) (rx : LinkRx)

theorem received_eq : received s rx = { begun s with regs := (received s rx).regs } := (regStep_rxTake (begun s) rx).1

theorem reg_received {a : Nat} (h : ¬ TakeRegs a) : (received s rx).reg a = s.reg a := (regStep_rxTake (begun s) rx).2 a h

theorem get_received {f : FRef} (h : ¬ TakeRegs f.addr) : (received s rx).get f = s.get f := get_same_reg (reg_received s rx h)

theorem received_pil : (received s rx).pil = s.pil := by rw [received_eq]; rfl
theorem received_srf : (received s rx).srf = s.srf := by rw [received_eq]; rfl
theorem received_fst : (received s rx).fst = s.fst := by rw [received_eq]; rfl
theorem received_lns : (received s rx).lns = s.lns := by rw [received_eq]; rfl
theorem received_occ : (received s rx).occ = [] := by rw [received_eq]; rfl
theorem received_out : (received s rx).out = [] := by rw [received_eq]; rfl

end

/-! ### The count of the packets -/

/-- The tallies after the packets of flocks have counted. -/
def packetTallies (s : State) (l : List Nat) : TalState := (s.each l fun s k => s.flockTally k 0).tal

theorem flockTallies_eq (l : List Nat) : ∀ s : State, (s.each l fun s k => s.flockTally k 0) = { s with tal := packetTallies s l } := by
  induction l with
  | nil => exact fun _ => rfl
  | cons x l ih => exact fun s => (ih (s.flockTally x 0)).trans rfl

/-- The tallies depend on the tallies alone. -/
theorem packetTallies_congr (l : List Nat) : ∀ {s t : State}, t.tal = s.tal → packetTallies t l = packetTallies s l := by
  induction l with
  | nil => exact fun h => h
  | cons x l ih =>
    intro s t h
    exact ih (s := s.flockTally x 0) (t := t.flockTally x 0) (by simp only [State.flockTally, State.tally, h])

/-- The state in which a good packet's effect begins, as the obligations name it. -/
theorem taken_eq (s : State) (rx : LinkRx) : taken s rx = { received s rx with tal := packetTallies (received s rx) s.linkFlocks } :=
  flockTallies_eq s.linkFlocks (received s rx)

theorem linkWorks_of_good {s : State} {rx : LinkRx} (good : s.packetGood rx = true) : s.linkWorks = true := by
  simp only [State.packetGood, Bool.and_eq_true, beq_iff_eq] at good
  simp [State.linkWorks, good.1]

section
variable (y : State) (z : TalState)

theorem reg_withTal (a : Nat) : ({ y with tal := z } : State).reg a = y.reg a := reg_congr rfl a
theorem get_withTal (f : FRef) : ({ y with tal := z } : State).get f = y.get f := get_congr rfl f
theorem causes_withTal : ({ y with tal := z } : State).causes = y.causes := get_withTal y z _
theorem linkState_withTal : ({ y with tal := z } : State).linkState = y.linkState := get_withTal y z _

end

/-- A good packet of the command's type has its effect on what the receivers left, and counts. -/
theorem packet_good {s : State} {rx : LinkRx} {typ : Nat} (good : s.packetGood rx = true) (is : (rxPacket rx).typ = typ) (eff : LinkPacket → State → State) :
    (begun s).packet typ rx eff =
      { eff (rxPacket rx) (received s rx) with tal := packetTallies (eff (rxPacket rx) (received s rx)) s.linkFlocks } := by
  have works : (begun s).linkWorks = true := linkWorks_of_good good
  have taking : (begun s).packetGood rx = true := good
  simp only [State.packet, works, taking, is, Bool.not_true, Bool.false_eq_true, if_false, ne_eq, not_true_eq_false]
  exact flockTallies_eq s.linkFlocks _

theorem packet_counted {s : State} {rx : LinkRx} {typ : Nat} (good : s.packetGood rx = true) (is : (rxPacket rx).typ = typ) (eff : LinkPacket → State → State) :
    ∃ z : TalState, (begun s).packet typ rx eff = { eff (rxPacket rx) (received s rx) with tal := z } := ⟨_, packet_good good is eff⟩

/-- The same, of an effect that counts nothing itself: the tallies are those of the state in which the packet counts. -/
theorem packet_good_tal {s : State} {rx : LinkRx} {typ : Nat} (good : s.packetGood rx = true) (is : (rxPacket rx).typ = typ) (eff : LinkPacket → State → State)
    (tal : (eff (rxPacket rx) (received s rx)).tal = (received s rx).tal) :
    (begun s).packet typ rx eff = { eff (rxPacket rx) (received s rx) with tal := (taken s rx).tal } := by
  rw [packet_good good is, packetTallies_congr _ tal, taken_eq]

/-- The same, with the state y that the effect leaves. -/
theorem packet_effect {s y : State} {rx : LinkRx} {typ : Nat} (good : s.packetGood rx = true) (is : (rxPacket rx).typ = typ)
    {eff : LinkPacket → State → State} (value : eff (rxPacket rx) (received s rx) = y) (tal : y.tal = (received s rx).tal) :
    (begun s).packet typ rx eff = { y with tal := (taken s rx).tal } := by
  rw [packet_good_tal good is eff (by rw [value, tal]), value]

theorem packet_effect_counted {s y : State} {rx : LinkRx} {typ : Nat} (good : s.packetGood rx = true) (is : (rxPacket rx).typ = typ)
    {eff : LinkPacket → State → State} (value : eff (rxPacket rx) (received s rx) = y) :
    ∃ z : TalState, (begun s).packet typ rx eff = { y with tal := z } := by
  obtain ⟨z, effect⟩ := packet_counted good is eff
  exact ⟨z, by rw [effect, value]⟩

/-- A packet that fails, while the link works. -/
theorem packet_bad {s : State} {rx : LinkRx} (typ : Nat) (works : s.linkWorks = true) (bad : s.packetGood rx = false) (eff : LinkPacket → State → State) :
    (begun s).packet typ rx eff = (received s rx).failedPacket (rxPacket rx) rx.check := by
  have works : (begun s).linkWorks = true := works
  have bad : (begun s).packetGood rx = false := bad
  simp only [State.packet, works, bad, Bool.not_true, Bool.false_eq_true, if_false, Bool.not_false, if_true]
  rfl

end Sys2Proof.LinkLaws
end

section
/-! `SLEEP` and `WAKE` (R76). -/

namespace Sys2Proof.LinkLaws

open Sys2Proof Sys2Proof.Machine
open Sys2Proof.Laws hiding taken

/-! ### What a cause of self-refresh leaves of the link -/

theorem sleepWant_cancelExit (s : State) : s.cancelExit.pil.sleepWant = s.pil.sleepWant := by
  unfold State.cancelExit
  split
  · rfl
  · rw [srfKick_pil]

theorem sleepWant_setCause (s : State) (k : Nat) : (s.setCause k).pil.sleepWant = s.pil.sleepWant := by
  by_cases on : s.domOn 33 = true
  · rw [State.setCause, if_pos on, sleepWant_cancelExit, State.put_pil]
  · rw [State.setCause, if_neg on]

/-- Whether the back-channel is on depends on the transmitter and on three registers. -/
theorem backOn_of_reg {s t : State} {k : Nat} (lns : t.lns = s.lns) (cfg : t.reg R.PIL_CFG = s.reg R.PIL_CFG)
    (pll : t.reg R.LNS_PLL_STATUS = s.reg R.LNS_PLL_STATUS) (dom : t.reg (R.PWR_DOM (laneDomain (8 * k))) = s.reg (R.PWR_DOM (laneDomain (8 * k)))) :
    t.backOn k = s.backOn k := by
  have lane : t.lane (8 * k) = s.lane (8 * k) := by rw [State.lane, State.lane, lns]
  have power : t.get (F.PWR_DOM_STATE (laneDomain (8 * k))) = s.get (F.PWR_DOM_STATE (laneDomain (8 * k))) := get_same_reg dom
  have flocks : t.get F.PIL_CFG_FLOCK_EN = s.get F.PIL_CFG_FLOCK_EN := get_same_reg cfg
  simp only [State.backOn, State.laneSends, State.domOn, State.pllLocked, lane, power, pll, flocks]

theorem domOn_of_reg {s t : State} {d : Nat} (h : t.reg (R.PWR_DOM d) = s.reg (R.PWR_DOM d)) : t.domOn d = s.domOn d := by
  have power : t.get (F.PWR_DOM_STATE d) = s.get (F.PWR_DOM_STATE d) := get_same_reg h
  rw [State.domOn, State.domOn, power]

theorem powerReg_apart (d : Nat) : R.PWR_DOM d ≠ R.PIL_STATUS ∧ R.PWR_DOM d ≠ R.SRF_STATUS ∧ ¬ TakeRegs (R.PWR_DOM d) := by
  unfold TakeRegs R.PWR_DOM R.PIL_STATUS R.SRF_STATUS
  omega

/-! ### SLEEP -/

theorem regStep_put (s : State) (f : FRef) (v : Nat) : RegStep (· = f.addr) s (s.put f v) := ⟨rfl, fun _ h => reg_put_ne s v h⟩

/-- `PIL_STATUS` shows a request to sleep, until it is acknowledged (R76). -/
def sleepShown (s : State) : State := if s.sleepAcked then s else s.put F.PIL_STATUS_SLEEP 1

theorem regStep_sleepShown (s : State) : RegStep (· = R.PIL_STATUS) s (sleepShown s) := by
  unfold sleepShown
  split
  · exact .refl s
  · exact regStep_put s F.PIL_STATUS_SLEEP 1

/-- A request to sleep is noted and reported. -/
def sleepHeard (s : State) (no : Word) : State := ({ sleepShown s with pil := { s.pil with sleepWant := some no } }).raise 75 0

theorem sleepMsg_eq (s : State) (no : Word) : s.sleepMsg no = (sleepHeard s no).sleepCheck := by
  have pil : (sleepShown s).pil = s.pil := by rw [(regStep_sleepShown s).1]
  rw [sleepHeard, ← pil]
  rfl

theorem reg_sleepHeard (s : State) (no : Word) {a : Nat} (h : a ≠ R.PIL_STATUS) : (sleepHeard s no).reg a = s.reg a :=
  (reg_congr (s := sleepHeard s no) (t := sleepShown s) rfl a).trans ((regStep_sleepShown s).2 a h)

theorem pil_sleepHeard (s : State) (no : Word) : (sleepHeard s no).pil = { s.pil with sleepWant := some no } := rfl

theorem occ_sleepHeard (s : State) (no : Word) : (sleepHeard s no).occ = s.occ ++ [⟨75, 0⟩] := by
  rw [sleepHeard, (regStep_sleepShown s).1]
  rfl

theorem lns_sleepHeard (s : State) (no : Word) : (sleepHeard s no).lns = s.lns := by
  rw [sleepHeard, (regStep_sleepShown s).1]
  rfl

/-- `PIL_STATUS` shows that the part sleeps, and no request waits. -/
def sleeping (s : State) : State := ({ s with pil := { s.pil with sleepWant := none } }).put F.PIL_STATUS_SLEEP 2

/-- The part goes to sleep with the frame of number n shown, and tells the source. -/
def asleep (s : State) (n : Word) : State := (sleeping s).backAll 6 (beNats 4 n.toNat ++ [0, 0, 0, 0])

theorem sleepCheck_last {s : State} {n : Word} (want : s.pil.sleepWant = some n) (last : s.pil.lastComplete = some n) :
    s.sleepCheck = (asleep s n).setCause 0 := by
  simp only [State.sleepCheck, want, last, if_true, asleep, sleeping]

theorem sleepCheck_waits {s : State} (last : s.pil.lastComplete = none) (rx : s.pil.rx = none) (draining : s.pil.draining = none) : s.sleepCheck = s := by
  unfold State.sleepCheck
  split
  · rfl
  · simp [last, rx, draining]

theorem backFrame_asleep (s : State) (n : Word) : BackFrame (sleeping s) (asleep s n) := backFrame_backAll _ 6 _

theorem reg_asleep (s : State) (n : Word) {a : Nat} (h : a ≠ R.PIL_STATUS) : (asleep s n).reg a = s.reg a :=
  (reg_congr (backFrame_asleep s n).regs a).trans (reg_put_ne _ 2 h)

theorem get_asleep (s : State) (n : Word) : (asleep s n).get F.PIL_STATUS_SLEEP = 2 :=
  (get_congr (backFrame_asleep s n).regs _).trans (get_put_self _ _ 2 (by decide) (by decide))

theorem occ_asleep (s : State) (n : Word) : (asleep s n).occ = s.occ := by rw [(backFrame_asleep s n).occ, sleeping, State.put_occ]

theorem sleepWant_asleep (s : State) (n : Word) : (asleep s n).pil.sleepWant = none := by rw [(backFrame_asleep s n).pil, sleeping, State.put_pil]

/-- What goes to every flock goes to flock k, whose back-channel is on. -/
theorem message_backAll {s : State} {k : Nat} (typ : Nat) (m : List Nat) (on : s.backOn k = true) :
    ∃ q gs ls, message k typ q m gs ls ∈ (s.backAll typ m).out := by
  have out := (sends_backAll typ m on).out
  have told : ∃ q gs ls, message k typ q m gs ls ∈ onFlock k (s.backAll typ m).out := by
    rw [out, sent]
    split
    · exact ⟨_, _, _, List.mem_append_right _ List.mem_cons_self⟩
    · exact ⟨_, _, _, List.mem_append_right _ List.mem_cons_self⟩
  obtain ⟨q, gs, ls, mem⟩ := told
  exact ⟨q, gs, ls, List.mem_of_mem_filter mem⟩

/-- The acknowledgement that every flock gets (R76). -/
theorem message_asleep {s : State} {k : Nat} (n : Word) (on : s.backOn k = true) :
    ∃ q gs ls, message k 6 q (beNats 4 n.toNat ++ [0, 0, 0, 0]) gs ls ∈ (asleep s n).out := by
  refine message_backAll 6 _ ?_
  rw [← on]
  exact backOn_of_reg (State.put_lns _ _ _) (reg_put_ne _ 2 (by decide)) (reg_put_ne _ 2 (by decide)) (reg_put_ne _ 2 (powerReg_apart _).1)

/-- `SLEEP` of the last complete frame (R76). -/
theorem sleepMsg_acked {s : State} {w : Word} (last : s.pil.lastComplete = some w) : s.sleepMsg w = (asleep (sleepHeard s w) w).setCause 0 := by
  rw [sleepMsg_eq]
  exact sleepCheck_last rfl last

/-- `SLEEP` while no frame has ever been complete (log entry 69). -/
theorem sleepMsg_waits {s : State} (w : Word) (last : s.pil.lastComplete = none) (rx : s.pil.rx = none) (draining : s.pil.draining = none) :
    s.sleepMsg w = sleepHeard s w := by
  rw [sleepMsg_eq]
  exact sleepCheck_waits last rx draining

end Sys2Proof.LinkLaws
end

section
/-! The obligation about sleep, wake and the side packets (R76 to R78). -/

namespace Sys2Proof.LinkLaws

open Sys2Proof Sys2Proof.Machine
open Sys2Proof.Laws hiding taken

/-! ### SLEEP and WAKE -/

section
variable {s : State} {rx : LinkRx}

/-- A register that neither the receivers' disparities nor `PIL_STATUS` and `SRF_STATUS` are, read in the state in which the packet counts. -/
theorem reg_taken (s : State) (rx : LinkRx) (a : Nat) : (taken s rx).reg a = (received s rx).reg a := by rw [taken_eq]; rfl

theorem sleepBits_apart : ¬ TakeRegs R.PIL_STATUS ∧ ¬ TakeRegs R.SRF_STATUS := by unfold TakeRegs R.PIL_STATUS R.SRF_STATUS; omega

theorem backOn_received (s : State) (rx : LinkRx) (k : Nat) : (received s rx).backOn k = s.backOn k :=
  backOn_of_reg (received_lns s rx) (reg_received s rx (by unfold TakeRegs R.PIL_CFG; omega))
    (reg_received s rx (by unfold TakeRegs R.LNS_PLL_STATUS; omega)) (reg_received s rx (powerReg_apart _).2.2)

theorem backOn_sleepHeard (s : State) (no : Word) (k : Nat) : (sleepHeard s no).backOn k = s.backOn k :=
  backOn_of_reg (lns_sleepHeard s no) (reg_sleepHeard s no (by decide)) (reg_sleepHeard s no (by decide)) (reg_sleepHeard s no (powerReg_apart _).1)

theorem sleepWord_acked {t : State} {w : Word} (last : t.pil.lastComplete = some w) :
    (t.sleepMsg w).get F.PIL_STATUS_SLEEP = 2 ∧ (t.sleepMsg w).pil.sleepWant = none ∧ (t.domOn 33 = true → bitAt (t.sleepMsg w).causes 0 = true)
      ∧ (t.sleepMsg w).occ = t.occ ++ [⟨75, 0⟩] ∧ OnlyRegs t (t.sleepMsg w) [R.PIL_STATUS, R.SRF_STATUS]
      ∧ ∀ k, t.backOn k = true → ∃ n gs ls, message k 6 n (beNats 4 w.toNat ++ [0, 0, 0, 0]) gs ls ∈ (t.sleepMsg w).out := by
  have kept (a : Nat) (h : a ≠ R.PIL_STATUS) : (asleep (sleepHeard t w) w).reg a = t.reg a := (reg_asleep _ w h).trans (reg_sleepHeard t w h)
  rw [sleepMsg_acked last]
  refine ⟨?_, ?_, fun on => ?_, ?_, fun a ha => ?_, fun k on => ?_⟩
  · exact (get_same_reg (reg_setCause_ne _ 0 (by decide))).trans (get_asleep _ w)
  · exact (sleepWant_setCause _ 0).trans (sleepWant_asleep _ w)
  · rw [(setCause_on ((domOn_of_reg (kept _ (powerReg_apart 33).1)).trans on) (by decide)).1]
    exact bitAt_setBit_true _ 0
  · rw [setCause_occ, occ_asleep, occ_sleepHeard]
  · simp only [List.mem_cons, List.not_mem_nil, or_false, not_or] at ha
    exact (reg_setCause_ne _ 0 ha.2).trans (kept a ha.1)
  · rw [setCause_out]
    exact message_asleep w ((backOn_sleepHeard t w k).trans on)

/-- `SLEEP` of the last complete frame (R76): what it leaves. -/
theorem sleep_acked (good : s.packetGood rx = true) (is : (rxPacket rx).typ = 7) (last : s.pil.lastComplete = some (rxPacket rx).word) :
    ∃ u, Ends (.sleep rx) s u ∧ u.get F.PIL_STATUS_SLEEP = 2 ∧ u.pil.sleepWant = none ∧ (s.domOn 33 = true → bitAt u.causes 0 = true)
      ∧ u.occ = [⟨75, 0⟩] ∧ OnlyRegs (taken s rx) u [R.PIL_STATUS, R.SRF_STATUS]
      ∧ ∀ k, s.backOn k = true → k < 4 →
        ∃ n gs ls, message k 6 n (beNats 4 (rxPacket rx).word.toNat ++ [0, 0, 0, 0]) gs ls ∈ u.out := by
  have ends := ends_sleep rx s rfl
  obtain ⟨z, effect⟩ := packet_counted good is fun p s => s.sleepMsg p.word
  rw [show (fun s : State => s.packet 7 rx fun p s => s.sleepMsg p.word) (begun s) = _ from effect] at ends
  have power : (received s rx).domOn 33 = s.domOn 33 := domOn_of_reg (reg_received s rx (powerReg_apart 33).2.2)
  obtain ⟨shows, want, cause, occ, regs, told⟩ := sleepWord_acked (t := received s rx) (w := (rxPacket rx).word) (by rw [received_pil]; exact last)
  rw [received_occ, List.nil_append] at occ
  refine ⟨_, ends, (get_withTal _ z _).trans shows, want, fun on => ?_, occ, fun a ha => ?_, fun k on _ => told k ((backOn_received s rx k).trans on)⟩
  · rw [causes_withTal]
    exact cause (power.trans on)
  · rw [reg_withTal, reg_taken]
    exact regs a ha

/-- From s to t the registers, the tallies, the link's own state, the events and the outputs change. -/
def PilStep (s t : State) : Prop := t = { s with regs := t.regs, tal := t.tal, occ := t.occ, out := t.out, pil := t.pil }

theorem PilStep.trans {s t u : State} (h : PilStep s t) (k : PilStep t u) : PilStep s u := by
  unfold PilStep at *
  rw [k, h]

theorem pilStep_put (s : State) (f : FRef) (v : Nat) : PilStep s (s.put f v) := rfl

theorem pilStep_withPil (s : State) (p : PilState) : PilStep s { s with pil := p } := rfl

theorem pilStep_raise (s : State) (k c : Nat) : PilStep s (s.raise k c) := rfl

/-- What a packet leaves whose effect on what the receivers left is y, and leaves the link's own state alone. -/
theorem regsOnly_taken_of {y : State} {l : List Nat} (z : TalState)
    (frame : y = { received s rx with regs := y.regs, tal := y.tal, occ := y.occ, out := y.out }) (regs : OnlyRegs (received s rx) y l) :
    RegsOnly (taken s rx) { y with tal := z } l := by
  refine ⟨fun a ha => (reg_withTal y z a).trans ((regs a ha).trans (reg_taken s rx a).symm), ?_⟩
  rw [taken_eq, frame]

/-- What a packet leaves beside the link's own state, where its effect on what the receivers left is y. -/
theorem regsOnly_taken {y : State} {l : List Nat} (z : TalState) (frame : PilStep (received s rx) y) (regs : OnlyRegs (received s rx) y l) :
    RegsOnly (taken s rx) { ({ y with tal := z } : State) with pil := s.pil } l := by
  refine ⟨fun a ha => (reg_congr (t := y) rfl a).trans ((regs a ha).trans (reg_taken s rx a).symm), ?_⟩
  rw [taken_eq, frame, ← received_pil s rx]

theorem pilStep_sleepShown (t : State) : PilStep t (sleepShown t) := by
  unfold PilStep
  rw [(regStep_sleepShown t).1]

theorem pilStep_sleepHeard (t : State) (w : Word) : PilStep t (sleepHeard t w) :=
  ((pilStep_sleepShown t).trans (pilStep_withPil _ _)).trans (pilStep_raise _ _ _)

theorem get_sleepHeard {t : State} (w : Word) (awake : t.sleepAcked = false) : (sleepHeard t w).get F.PIL_STATUS_SLEEP = 1 := by
  have shown : (sleepShown t).get F.PIL_STATUS_SLEEP = 1 := by
    rw [sleepShown, awake]
    exact get_put_self _ _ 1 (by decide) (by decide)
  exact (get_congr (t := sleepShown t) rfl _).trans shown

theorem out_sleepHeard (t : State) (w : Word) : (sleepHeard t w).out = t.out := by
  rw [sleepHeard, (regStep_sleepShown t).1]
  rfl

/-- `SLEEP` while no frame has ever been complete (log entry 69). -/
theorem sleep_waits (good : s.packetGood rx = true) (is : (rxPacket rx).typ = 7) (last : s.pil.lastComplete = none) (idle : s.pil.rx = none)
    (drained : s.pil.draining = none) (awake : s.sleepAcked = false) :
    ∃ u, Ends (.sleep rx) s u ∧ u.get F.PIL_STATUS_SLEEP = 1 ∧ u.pil = { s.pil with sleepWant := some (rxPacket rx).word } ∧ u.causes = s.causes
      ∧ RegsOnly (taken s rx) { u with pil := s.pil } [R.PIL_STATUS] ∧ u.occ = [⟨75, 0⟩] ∧ u.out = [] := by
  have ends := ends_sleep rx s rfl
  obtain ⟨z, effect⟩ := packet_counted good is fun p s => s.sleepMsg p.word
  rw [show (fun s : State => s.packet 7 rx fun p s => s.sleepMsg p.word) (begun s) = _ from effect] at ends
  have pil := received_pil s rx
  have acked : (received s rx).sleepAcked = false := by rw [State.sleepAcked, get_received s rx sleepBits_apart.1]; exact awake
  dsimp only at ends
  rw [sleepMsg_waits (s := received s rx) (rxPacket rx).word (by rw [pil]; exact last) (by rw [pil]; exact idle) (by rw [pil]; exact drained)] at ends
  generalize (rxPacket rx).word = w at ends
  have shows := get_sleepHeard w acked
  have regs (a : Nat) (ha : a ≠ R.PIL_STATUS) := reg_sleepHeard (received s rx) w ha
  have causes : (sleepHeard (received s rx) w).causes = s.causes :=
    (get_same_reg (regs R.SRF_STATUS (by decide))).trans (get_received s rx sleepBits_apart.2)
  have own : (sleepHeard (received s rx) w).pil = { s.pil with sleepWant := some w } := by rw [pil_sleepHeard, pil]
  have occ := occ_sleepHeard (received s rx) w
  have out := out_sleepHeard (received s rx) w
  rw [received_occ, List.nil_append] at occ
  rw [received_out] at out
  exact ⟨_, ends, (get_withTal _ z _).trans shows, own, (causes_withTal _ z).trans causes,
    regsOnly_taken z (pilStep_sleepHeard (received s rx) w) fun a ha => regs a (List.ne_of_not_mem_cons ha), occ, out⟩

theorem bitAt_setBit_false (c k : Nat) : bitAt (setBit c k false) k = false := by
  unfold setBit
  by_cases set : bitAt c k = true
  · have le : 2 ^ k ≤ c := by
      by_contra lt
      simp [bitAt, Nat.div_eq_of_lt (not_le.1 lt)] at set
    have split := Nat.add_div_right (c - 2 ^ k) (Nat.two_pow_pos k)
    rw [Nat.sub_add_cancel le] at split
    rw [if_pos set, if_neg (by decide), Nat.add_zero]
    simp only [bitAt, split, beq_iff_eq, beq_eq_false_iff_ne] at set ⊢
    omega
  · simp [set]

theorem wakeMsg_pil (t : State) : t.wakeMsg.pil = { t.pil with sleepWant := none } ∧ t.wakeMsg.occ = t.occ ++ [⟨76, 0⟩] := by
  unfold State.wakeMsg State.clearCause
  dsimp only
  constructor
  · rw [State.raise_pil, State.put_pil, State.put_pil]
  · rw [State.raise, State.put_occ, State.put_occ]

theorem wakeMsg_regs (t : State) : t.wakeMsg.get F.PIL_STATUS_SLEEP = 0 ∧ bitAt t.wakeMsg.causes 0 = false ∧ t.wakeMsg.linkState = t.linkState
    ∧ OnlyRegs t t.wakeMsg [R.PIL_STATUS, R.SRF_STATUS] := by
  have raised (y : State) (f : FRef) : (y.raise 76 0).get f = y.get f := get_congr rfl f
  have raisedReg (y : State) (a : Nat) : (y.raise 76 0).reg a = y.reg a := reg_congr rfl a
  unfold State.wakeMsg
  dsimp only
  refine ⟨?_, ?_, ?_, fun a ha => ?_⟩
  · rw [raised, State.clearCause, get_put_ne _ _ _ _ (by decide)]
    exact get_put_self _ _ 0 (by decide) (by decide)
  · rw [State.causes, raised, ← State.causes, causes_clearCause _ (by decide)]
    exact bitAt_setBit_false _ 0
  · rw [State.linkState, raised, State.clearCause, get_put_ne _ _ _ _ (by decide), ← State.linkState, linkState_putSleep]
    rfl
  · simp only [List.mem_cons, List.not_mem_nil, or_false, not_or] at ha
    rw [raisedReg, State.clearCause, reg_put_ne _ _ ha.2, reg_put_ne _ _ ha.1]
    rfl

theorem pilStep_wakeMsg (t : State) : PilStep t t.wakeMsg :=
  (((pilStep_withPil t _).trans (pilStep_put _ _ _)).trans (pilStep_put _ _ _)).trans (pilStep_raise _ _ _)

/-- `WAKE` ends the wish to sleep (R76). -/
theorem wake_good (good : s.packetGood rx = true) (is : (rxPacket rx).typ = 8) :
    ∃ u, Ends (.wake rx) s u ∧ u.get F.PIL_STATUS_SLEEP = 0 ∧ bitAt u.causes 0 = false ∧ u.pil = { s.pil with sleepWant := none } ∧ u.occ = [⟨76, 0⟩]
      ∧ u.linkState = s.linkState ∧ RegsOnly (taken s rx) { u with pil := s.pil } [R.PIL_STATUS, R.SRF_STATUS] := by
  have ends := ends_wake rx s rfl
  obtain ⟨z, effect⟩ := packet_counted good is fun _ s => s.wakeMsg
  rw [show (fun s : State => s.packet 8 rx fun _ s => s.wakeMsg) (begun s) = _ from effect] at ends
  obtain ⟨own, occ⟩ := wakeMsg_pil (received s rx)
  obtain ⟨shows, cause, link, regs⟩ := wakeMsg_regs (received s rx)
  rw [received_pil] at own
  rw [received_occ, List.nil_append] at occ
  refine ⟨_, ends, (get_withTal _ z _).trans shows, ?_, own, occ, ?_, regsOnly_taken z (pilStep_wakeMsg (received s rx)) regs⟩
  · rw [causes_withTal]
    exact cause
  · rw [linkState_withTal, link]
    exact get_received s rx sleepBits_apart.1

/-- `META` keeps its payload for the next frame (R77). -/
theorem meta_good (good : s.packetGood rx = true) (is : (rxPacket rx).typ = 9) :
    Ends (.metaPacket rx) s { taken s rx with pil := { s.pil with metaNew := some (rxPacket rx).payload } } := by
  have ends := ends_metaPacket rx s rfl
  rw [show (fun s : State => s.packet 9 rx fun p s => { s with pil := { s.pil with metaNew := some p.payload } }) (begun s) = _ from
    packet_good_tal good is _ rfl] at ends
  rw [← received_pil s rx, taken_eq]
  rw [taken_eq] at ends
  exact ends

end

/-! ### AUX (R78) -/

/-- `PIL_AUX_STATUS` shows the queue: how many payloads wait, and how long the first is. -/
theorem auxNote_shows (t : State) : t.auxNote.get F.PIL_AUX_STATUS_ENTRIES = t.pil.aux.length % 256
    ∧ t.auxNote.get F.PIL_AUX_STATUS_LENGTH = (t.pil.aux.map List.length).headD 0 % 256 := by
  refine ⟨?_, get_put_self _ _ _ (by decide) (by decide)⟩
  exact (get_put_disjoint _ F.PIL_AUX_STATUS_LENGTH F.PIL_AUX_STATUS_ENTRIES _ (by decide) (by decide) (by decide) (by decide)).trans
    (get_put_self _ _ _ (by decide) (by decide))

theorem regStep_auxNote (t : State) : RegStep (· = R.PIL_AUX_STATUS) t t.auxNote :=
  (regStep_put t F.PIL_AUX_STATUS_ENTRIES _).trans (regStep_put _ F.PIL_AUX_STATUS_LENGTH _)

/-- A payload joins the queue. -/
theorem auxRx_queued {t : State} (bs : List Byte) (room : t.pil.aux.length < 4) :
    t.auxRx bs = ({ t with pil := { t.pil with aux := t.pil.aux ++ [bs] } } : State).auxNote.raise 78 0 := by
  rw [State.auxRx, if_neg (by omega)]

theorem auxRx_full {t : State} (bs : List Byte) (full : 4 ≤ t.pil.aux.length) : t.auxRx bs = t.discard := by
  rw [State.auxRx, if_pos full]

/-- The payload of an `AUX` packet has at most 64 bytes (R78). -/
theorem auxLength_of_good {s : State} {rx : LinkRx} (good : s.packetGood rx = true) (is : (rxPacket rx).typ = 10) : (rxPacket rx).payload.length ≤ 64 := by
  simp only [State.packetGood, State.rxGood, Bool.and_eq_true] at good
  have fits : (rxPacket rx).lengthOk = true := by tauto
  simp only [LinkPacket.lengthOk, is, Bool.and_eq_true, decide_eq_true_eq] at fits
  exact fits.2

theorem pilStep_auxNote (t : State) : PilStep t t.auxNote := by
  unfold PilStep
  rw [(regStep_auxNote t).1]

theorem auxRx_eq {t : State} (bs : List Byte) (room : t.pil.aux.length < 4) :
    (t.auxRx bs).pil = { t.pil with aux := t.pil.aux ++ [bs] } ∧ (t.auxRx bs).occ = t.occ ++ [⟨78, 0⟩] ∧ PilStep t (t.auxRx bs) := by
  rw [auxRx_queued bs room]
  refine ⟨?_, ?_, ((pilStep_withPil t _).trans (pilStep_auxNote _)).trans (pilStep_raise _ _ _)⟩
  · rw [State.raise_pil, (regStep_auxNote _).1]
  · rw [State.raise, (regStep_auxNote _).1]

theorem auxRx_regs {t : State} (bs : List Byte) (room : t.pil.aux.length < 4) :
    (t.auxRx bs).get F.PIL_AUX_STATUS_ENTRIES = t.pil.aux.length + 1
    ∧ (t.auxRx bs).get F.PIL_AUX_STATUS_LENGTH = ((t.pil.aux ++ [bs]).map List.length).headD 0 % 256 ∧ OnlyRegs t (t.auxRx bs) [R.PIL_AUX_STATUS] := by
  have raised (y : State) (a : Nat) : (y.raise 78 0).reg a = y.reg a := reg_congr rfl a
  obtain ⟨entries, length⟩ := auxNote_shows { t with pil := { t.pil with aux := t.pil.aux ++ [bs] } }
  have kept := (regStep_auxNote { t with pil := { t.pil with aux := t.pil.aux ++ [bs] } }).2
  rw [auxRx_queued bs room]
  refine ⟨(get_same_reg (raised _ _)).trans (entries.trans ?_), (get_same_reg (raised _ _)).trans length, fun a ha => ?_⟩
  · simp only [List.length_append, List.length_cons, List.length_nil]
    omega
  · exact (raised _ _).trans ((kept a (List.ne_of_not_mem_cons ha)).trans (reg_congr rfl a))

/-- `AUX` into a queue with room. -/
theorem aux_queued {s : State} {rx : LinkRx} (good : s.packetGood rx = true) (is : (rxPacket rx).typ = 10) (room : s.pil.aux.length < 4) :
    ∃ u, Ends (.auxPacket rx) s u ∧ u.pil = { s.pil with aux := s.pil.aux ++ [(rxPacket rx).payload] }
      ∧ u.get F.PIL_AUX_STATUS_ENTRIES = s.pil.aux.length + 1
      ∧ (s.pil.aux = [] → u.get F.PIL_AUX_STATUS_LENGTH = (rxPacket rx).payload.length)
      ∧ RegsOnly (taken s rx) { u with pil := s.pil } [R.PIL_AUX_STATUS] ∧ u.occ = [⟨78, 0⟩] := by
  have ends := ends_auxPacket rx s rfl
  obtain ⟨z, effect⟩ := packet_counted good is fun p s => s.auxRx p.payload
  rw [show (fun s : State => s.packet 10 rx fun p s => s.auxRx p.payload) (begun s) = _ from effect] at ends
  have short := auxLength_of_good good is
  have pil := received_pil s rx
  have fits : (received s rx).pil.aux.length < 4 := by rw [pil]; exact room
  obtain ⟨own, occ, frame⟩ := auxRx_eq (rxPacket rx).payload fits
  obtain ⟨entries, length, regs⟩ := auxRx_regs (rxPacket rx).payload fits
  rw [pil] at own entries length
  rw [received_occ, List.nil_append] at occ
  refine ⟨_, ends, own, (get_withTal _ z _).trans entries, fun empty => (get_withTal _ z _).trans (length.trans ?_), regsOnly_taken z frame regs, occ⟩
  rw [empty]
  exact Nat.mod_eq_of_lt (short.trans_lt (by decide))

/-- `AUX` into a full queue (R78). -/
theorem aux_full {s : State} {rx : LinkRx} (good : s.packetGood rx = true) (is : (rxPacket rx).typ = 10) (full : 4 ≤ s.pil.aux.length) :
    ∃ u, Ends (.auxPacket rx) s u ∧ RegsOnly (taken s rx) u [R.PIL_CNT_DISCARD] ∧ u.occ = [⟨79, 0⟩] := by
  have ends := ends_auxPacket rx s rfl
  obtain ⟨z, effect⟩ := packet_counted good is fun p s => s.auxRx p.payload
  rw [show (fun s : State => s.packet 10 rx fun p s => s.auxRx p.payload) (begun s) = _ from effect, auxRx_full _ (by rw [received_pil]; exact full)] at ends
  have frame : (received s rx).discard = { received s rx with
      regs := (received s rx).discard.regs, tal := (received s rx).discard.tal, occ := (received s rx).discard.occ, out := (received s rx).discard.out } := by
    unfold State.discard
    rw [count_frame]
    rfl
  have occ : (received s rx).discard.occ = [⟨79, 0⟩] := by
    unfold State.discard
    rw [count_frame, State.raise]
    exact congrArg (· ++ [(⟨79, 0⟩ : Occ)]) (received_occ s rx)
  have regs : OnlyRegs (received s rx) (received s rx).discard [R.PIL_CNT_DISCARD] := fun a ha =>
    (reg_congr (s := (received s rx).discard) (t := (received s rx).count R.PIL_CNT_DISCARD) rfl a).trans (reg_count_ne _ 1 (List.ne_of_not_mem_cons ha))
  exact ⟨_, ends, regsOnly_taken_of z frame regs, occ⟩

/-! ### The pop of AUX (R78, R382) -/

theorem popAux_refused {t : State} {o : Port} (h : t.engineOwner 1 ≠ o.num ∨ t.pil.aux = []) : t.popAux o = (0, t) := by
  unfold State.popAux
  by_cases owner : t.engineOwner 1 ≠ o.num
  · rw [if_pos owner]
  · rw [if_neg owner, h.resolve_left owner]

/-- The queue after four bytes of its first payload have gone. -/
def popped (p : PilState) (bs : List Byte) (q : List (List Byte)) : PilState :=
  if bs.length ≤ p.auxPos + 4 then { p with aux := q, auxPos := 0 } else { p with auxPos := p.auxPos + 4 }

/-- The word of the next four bytes. -/
def popWord (p : PilState) (bs : List Byte) : Nat := beNat ((slice bs p.auxPos 4 ++ [0#8, 0#8, 0#8, 0#8]).take 4)

/-- The state after a pop by the owner. -/
def auxPopped (t : State) (bs : List Byte) (q : List (List Byte)) : State := ({ t with pil := popped t.pil bs q } : State).auxNote

theorem popAux_taken {t : State} {o : Port} {bs : List Byte} {q : List (List Byte)} (owner : t.engineOwner 1 = o.num) (some_wait : t.pil.aux = bs :: q) :
    t.popAux o = (popWord t.pil bs, auxPopped t bs q) := by
  unfold State.popAux auxPopped popped popWord
  rw [if_neg (not_not.2 owner), some_wait]
  dsimp only
  by_cases last : bs.length ≤ t.pil.auxPos + 4
  · rw [if_pos last, if_pos last]
  · rw [if_neg last, if_neg last, some_wait]

theorem popWord_eq (p : PilState) (bs : List Byte) : popWord p bs = beNat ((slice bs p.auxPos 4 ++ [0, 0, 0, 0]).take 4) := rfl

theorem auxPopped_eq (t : State) (bs : List Byte) (q : List (List Byte)) :
    auxPopped t bs q = { t with pil := popped t.pil bs q, regs := (auxPopped t bs q).regs } := by
  unfold auxPopped
  rw [(regStep_auxNote _).1]

theorem get_auxPopped {t : State} {bs : List Byte} {q : List (List Byte)} (last : bs.length ≤ t.pil.auxPos + 4) (few : q.length < 256) :
    (auxPopped t bs q).get F.PIL_AUX_STATUS_ENTRIES = q.length := by
  refine (auxNote_shows _).1.trans ?_
  rw [popped, if_pos last]
  exact Nat.mod_eq_of_lt few

/-- The answer to a pop: the port's status, and the word. -/
theorem answer_keeps (s : State) (p : Port) (w : Nat) {t : State} (occ : t.occ = []) (out : t.out = []) :
    (s.answer p (w, t)).occ = [] ∧ (s.answer p (w, t)).out = [.readData p (leBytes 4 w)] ∧ (s.answer p (w, t)).pil = t.pil
    ∧ ∀ b, isPortReg b = false → (s.answer p (w, t)).reg b = t.reg b := by
  unfold State.answer
  dsimp only
  refine ⟨?_, ?_, ?_, fun b hb => ?_⟩
  · rw [State.emit_occ, State.portAccept_occ, occ]
  · rw [emit_out, State.portAccept_out, out, List.nil_append]
  · rw [State.emit_pil, State.portAccept_pil]
  · rw [reg_congr (State.emit_regs _ _), reg_portAccept hb]

/-- A pop by the owner. -/
theorem auxPop_owner {s : State} {o : Port} {bs : List Byte} {q : List (List Byte)} (owner : s.engineOwner 1 = o.num) (waiting : s.pil.aux = bs :: q)
    (few : q.length < 256) :
    ∃ u, Ends (.auxPop o) s u ∧ u.occ = []
      ∧ u.out = [.readData o (leBytes 4 (beNat ((slice bs s.pil.auxPos 4 ++ [0, 0, 0, 0]).take 4)))]
      ∧ u.pil = (if bs.length ≤ s.pil.auxPos + 4 then { s.pil with aux := q, auxPos := 0 } else { s.pil with auxPos := s.pil.auxPos + 4 })
      ∧ (bs.length ≤ s.pil.auxPos + 4 → u.get F.PIL_AUX_STATUS_ENTRIES = q.length) := by
  have ends := ends_auxPop o s rfl
  have popping : (begun s).popAux o = (popWord s.pil bs, auxPopped (begun s) bs q) := popAux_taken (t := begun s) owner waiting
  rw [show (fun s : State => s.answer o (s.popAux o)) (begun s) = _ from congrArg ((begun s).answer o) popping] at ends
  have noOcc : (auxPopped (begun s) bs q).occ = [] := by rw [auxPopped_eq]; rfl
  have noOut : (auxPopped (begun s) bs q).out = [] := by rw [auxPopped_eq]; rfl
  have own : (auxPopped (begun s) bs q).pil = popped s.pil bs q := by rw [auxPopped_eq]; rfl
  obtain ⟨occ, out, pil, regs⟩ := answer_keeps (begun s) o (popWord s.pil bs) noOcc noOut
  have shown := get_same_reg (f := F.PIL_AUX_STATUS_ENTRIES) (regs R.PIL_AUX_STATUS rfl)
  have own := pil.trans own
  rw [popped] at own
  refine ⟨_, ends, occ, out.trans (by rw [popWord_eq]), own, fun last => ?_⟩
  rw [shown]
  exact get_auxPopped last few

/-- A pop by another port, and one of an empty queue. -/
theorem auxPop_nothing {s : State} {o : Port} (h : s.engineOwner 1 ≠ o.num ∨ s.pil.aux = []) :
    Ends (.auxPop o) s { accepted s (.host o) with out := [.readData o (leBytes 4 0)] } := by
  have ends := ends_auxPop o s rfl
  rw [show (fun s : State => s.answer o (s.popAux o)) (begun s) = _ from congrArg ((begun s).answer o) (popAux_refused (t := begun s) h), State.answer] at ends
  have out : (accepted s (.host o)).out = [] := by rw [accepted_host, State.portAccept_out]; rfl
  rw [State.emit, ← accepted_host, out] at ends
  exact ends

end Sys2Proof.LinkLaws
end

section
/-! The start of a source frame (R31, R77), and the end of a region update: what they keep of the link. -/

namespace Sys2Proof.LinkLaws

open Sys2Proof Sys2Proof.Machine
open Sys2Proof.Laws hiding taken

/-! ### Writes into the folds, and the end of a frame in reception -/

section
variable (s : State)

theorem linkStep_withFst {W : Nat → Prop} (x : FstState) : LinkStep W s { s with fst := x } := .of_same rfl rfl rfl

theorem linkStep_foldWrite (addr : Nat) (bs : List Byte) : LinkStep LaterRegs s (s.foldWrite addr bs) := by
  refine LinkStep.trans (linkStep_withFst s _) (.ite (.refl _) (linkStep_each (fun t nn _ => ?_) _))
  exact linkStep_putB t (f := F.FST_FOLD_STATUS_LOST nn) false (by simp only [LaterRegs, F.FST_FOLD_STATUS_LOST, R.FST_FOLD_STATUS]; omega)
    (by simp only [F.FST_FOLD_STATUS_LOST, R.FST_FOLD_STATUS, R.PIL_STATUS]; omega)

theorem linkStep_ownerPiece (nn : Nat) (w : FoldWait) : LinkStep LinkRegs s (s.ownerPiece nn w) := by
  unfold State.ownerPiece
  refine .ite (linkStep_withFst s _) ?_
  refine .ite ?_ ((linkStep_foldWrite s w.addr w.bytes).mono linkRegs_of_later)
  split
  · exact .refl s
  · exact (linkStep_missCount s).mono linkRegs_of_conceal

theorem linkStep_ownerWrite (own addr : Nat) (bs : List Byte) : LinkStep LinkRegs s (s.ownerWrite own addr bs) :=
  linkStep_each (fun t nn _ => linkStep_ownerPiece t nn _) s

theorem linkStep_storeSlot (b : Nat) (l : BufLayout) (i : Nat) (seg : List Byte × Bool) : LinkStep LinkRegs s (s.storeSlot b l i seg) :=
  (linkStep_ownerWrite s 1 _ _).trans (linkStep_countIf _ _ (a := R.CPR_CNT_RAW_SEG) (.inr (.inr (by decide))) (by decide))

theorem linkStep_writeFrame (f : RxFrame) : LinkStep LinkRegs s (s.writeFrame f) := linkStep_each (fun t i _ => linkStep_storeSlot t _ _ i _) s

theorem linkStep_verifySlots (f0 f : RxFrame) (wrong : List Nat) : LinkStep LinkRegs s (s.verifySlots f0 f wrong).1 :=
  linkStep_each (fun t _ _ => (linkStep_count t 1 (a := R.CPR_CNT_VERIFY) (.inr (.inr (by decide))) (by decide)).trans (linkStep_raise _ 254 1)) s

theorem linkStep_closeFrame (x : CopyCheck) : LinkStep LinkRegs s (s.closeFrame x) := by
  unfold State.closeFrame
  split
  · exact .refl s
  · next f0 _ =>
    dsimp only
    generalize shown : s.concealTo x.ecc f0 f0.h 0 = c
    have step : LinkStep LinkRegs s c.1 := shown ▸ (linkStep_concealTo s x.ecc f0 f0.h 0).mono linkRegs_of_conceal
    generalize checked : c.1.verifySlots f0 c.2 x.mismatch = v
    have step : LinkStep LinkRegs s v.1 := step.trans (checked ▸ linkStep_verifySlots c.1 f0 c.2 x.mismatch)
    refine .ite (step.trans (linkStep_withPil _ _ rfl rfl rfl)) ((step.trans ?_).trans (linkStep_writeFrame _ v.2))
    exact (linkStep_withPil v.1 _ rfl rfl rfl).trans (linkStep_withPil _ _ rfl rfl rfl)

theorem linkStep_modeChange {W : Nat → Prop} (w h fmt : Nat) : LinkStep W s (s.modeChange w h fmt) :=
  by
  refine .ite (.refl s) (LinkStep.trans ?_ (linkStep_raise _ 71 0))
  exact .of_regs rfl (List.prefix_refl _) rfl rfl rfl

/-! ### The end of a region update (R242, R246, R247) -/

theorem linkStep_reportOutcome {W : Nat → Prop} (r : RegionOutcome) : LinkStep W s (s.reportOutcome r) := by
  unfold State.reportOutcome
  split
  · exact (backFrame_backAll s 5 _).linkStep
  · exact (linkStep_withSrf s _).trans (linkStep_raise _ _ 0)

theorem linkStep_flushOutcomes {W : Nat → Prop} : LinkStep W s s.flushOutcomes := by
  refine linkStep_foldl Prod.fst (fun r u _ => ?_) (s, [])
  dsimp only
  split
  · exact .refl _
  · split
    · exact .refl _
    · exact (linkStep_withSrf r.1 _).trans (linkStep_reportOutcome _ _)

theorem regionStatus_later (slot : Nat) : LaterRegs (R.SRF_RS_STATUS slot) ∧ R.SRF_RS_STATUS slot ≠ R.PIL_STATUS := by
  unfold LaterRegs R.SRF_RS_STATUS R.PIL_STATUS
  omega

theorem linkStep_finishUpdate (u : RegionUpd) (outcome : Nat) : LinkStep LaterRegs s (s.finishUpdate u outcome) := by
  obtain ⟨later, other⟩ := regionStatus_later u.slot
  refine LinkStep.trans ?_ (linkStep_flushOutcomes _)
  have told := (linkStep_put s (f := F.SRF_RS_STATUS_LAST_OUTCOME u.slot) outcome later other).trans
    (linkStep_countIf _ (outcome == 1) (a := R.SRF_CNT_SUPERSEDED) (W := LaterRegs) (by unfold LaterRegs; decide) (by decide))
  refine .ite ?_ (told.trans (linkStep_withSrf _ _))
  refine LinkStep.trans (LinkStep.trans ?_ (linkStep_ringRelease _ u.data)) (linkStep_giveCredit _ u.slot)
  exact told.trans (linkStep_withSrf _ _)

theorem linkStep_endRunning {W : Nat → Prop} (slot : Nat) : LinkStep W s (s.endRunning slot) := linkStep_withSrf s _

theorem linkStep_supersede (below : Nat) : LinkStep LaterRegs s (s.supersede below) := by
  unfold State.supersede
  refine LinkStep.trans ?_ (linkStep_each (fun t u _ => linkStep_finishUpdate t u 1) _)
  exact (linkStep_withSrf s _).trans (linkStep_each (fun t e _ => linkStep_endRunning t e.1) _)

theorem linkStep_srfLeave : LinkStep LaterRegs s s.srfLeave := (linkStep_withSrf s _).trans (linkStep_supersede _ _)

end

end Sys2Proof.LinkLaws
end

section
/-! The `META` payload that a `FRAME_START` shows (R77). -/

namespace Sys2Proof.LinkLaws

open Sys2Proof Sys2Proof.Machine
open Sys2Proof.Laws hiding taken

/-- The registers that the start of a frame changes after it has shown the payload. -/
def AfterMeta (a : Nat) : Prop := a = R.PIL_CNT_FRAME_SKIP

/-- Any register. -/
def AnyReg (_ : Nat) : Prop := True

theorem anyReg_of {W : Nat → Prop} (a : Nat) (_ : W a) : AnyReg a := trivial

/-- No payload waits, `META_NEW` is raised, and `PIL_META` shows bs. -/
structure MetaShown (bs : List Byte) (t : State) : Prop where
  taken : t.pil.metaNew = none
  raised : ⟨77, 0⟩ ∈ t.occ
  shows : ∀ i, i < 7 → t.reg (R.PIL_META i) = beNat (slice bs (4 * i) 4)

theorem MetaShown.step {bs : List Byte} {t u : State} (h : MetaShown bs t) (k : LinkStep AfterMeta t u) : MetaShown bs u where
  taken := k.metaNew.trans h.taken
  raised := k.occ.subset h.raised
  shows i hi := (k.reg _ (by unfold AfterMeta R.PIL_META R.PIL_CNT_FRAME_SKIP; omega)).trans (h.shows i hi)

/-! ### What follows the payload -/

section
variable {W : Nat → Prop} (s : State)

theorem linkStep_withTal (x : TalState) : LinkStep W s { s with tal := x } := .of_same rfl rfl rfl

theorem linkStep_talCopy (g : Nat) (c : SMap Nat) (b : Bool) : LinkStep W s (s.talCopy g c b) := by
  unfold State.talCopy
  refine .ite (.refl s) ?_
  split
  · exact .refl s
  · exact (linkStep_each (fun t u _ => linkStep_withTal t _) s).trans (linkStep_withTal _ _)

theorem linkStep_talHeader (b off v : Nat) : LinkStep W s (s.talHeader b off v) := linkStep_withTal s _

theorem linkStep_talPublish : LinkStep W s s.talPublish := by
  unfold State.talPublish
  split
  · exact .refl s
  · refine .ite (.refl s) ?_
    refine LinkStep.trans ?_ (linkStep_raise _ 432 0)
    refine LinkStep.trans ?_ (linkStep_withTal _ _)
    refine LinkStep.trans ?_ (linkStep_talHeader _ _ 0x18 _)
    refine LinkStep.trans ?_ (linkStep_talHeader _ _ 0x14 _)
    refine LinkStep.trans ?_ (linkStep_talHeader _ _ 0x10 _)
    refine LinkStep.trans ?_ (linkStep_talHeader _ _ 0x0C _)
    exact (linkStep_talHeader _ _ 0x04 _).trans (linkStep_talHeader _ _ 0x08 _)

theorem linkStep_talBegin (g : Nat) : LinkStep W s (s.talBegin g) :=
  ((linkStep_withTal s _).trans (linkStep_talCopy _ g _ false)).trans (linkStep_talPublish _)

theorem linkStep_setRun (n : Nat) (r : TgRun) : LinkStep W s (s.setRun n r) := .of_same rfl rfl rfl

theorem linkStep_inputEdge (edge : Nat) : LinkStep W s (s.inputEdge edge) := by
  refine linkStep_each (fun t n _ => ?_) s
  exact .ite (.refl t) (linkStep_setRun t n _)

end

/-! ### The payload -/

theorem beNat_lt (bs : List Byte) : beNat bs < 256 ^ bs.length := by
  induction bs using List.reverseRecOn with
  | nil => simp [beNat]
  | append_singleton bs b ih =>
    have byte : b.toNat < 256 := b.isLt
    have last : beNat (bs ++ [b]) = beNat bs * 256 + b.toNat := by simp [beNat]
    rw [last, List.length_append, List.length_singleton, Nat.pow_succ]
    omega

theorem metaAddr_ne {i j : Nat} (h : i ≠ j) : R.PIL_META i ≠ R.PIL_META j := by
  unfold R.PIL_META
  omega

/-- Words put into `PIL_META` one after another. -/
theorem reg_metaWords (v : Nat → Nat) (t : State) (n : Nat) : ∀ i, i < n →
    (t.each (List.range n) fun s i => s.setReg (R.PIL_META i) (v i)).reg (R.PIL_META i) = v i % 2 ^ 32 := by
  induction n with
  | zero => exact fun i hi => absurd hi (Nat.not_lt_zero i)
  | succ n ih =>
    intro i hi
    rw [List.range_succ, each_append, State.each, List.foldl_cons, List.foldl_nil]
    by_cases last : i = n
    · rw [last, reg_setReg_self]
    · rw [reg_setReg_ne _ _ (metaAddr_ne last)]
      exact ih i (by omega)

/-- The payload's words in `PIL_META`. -/
def metaWords (t : State) (bs : List Byte) : State := t.each (List.range 7) fun s i => s.setReg (R.PIL_META i) (beNat (slice bs (4 * i) 4))

theorem latchMeta_eq {t : State} {bs : List Byte} (waits : t.pil.metaNew = some bs) :
    t.latchMeta = ({ metaWords t bs with pil := { (metaWords t bs).pil with metaNew := none } } : State).raise 77 0 := by
  rw [State.latchMeta, waits]
  rfl

theorem reg_metaWords_beNat (t : State) (bs : List Byte) {i : Nat} (hi : i < 7) : (metaWords t bs).reg (R.PIL_META i) = beNat (slice bs (4 * i) 4) := by
  have short := beNat_lt (slice bs (4 * i) 4)
  rw [show (slice bs (4 * i) 4).length = 4 by simp [slice]] at short
  exact (reg_metaWords (fun i => beNat (slice bs (4 * i) 4)) t 7 i hi).trans (Nat.mod_eq_of_lt short)

theorem reg_withPil_raise (t : State) (p : PilState) (k c a : Nat) : (({ t with pil := p } : State).raise k c).reg a = t.reg a := reg_congr rfl a

theorem latchMeta_shown {t : State} {bs : List Byte} (waits : t.pil.metaNew = some bs) : MetaShown bs t.latchMeta := by
  have words := fun i hi => reg_metaWords_beNat t bs (i := i) hi
  rw [latchMeta_eq waits]
  exact ⟨rfl, List.mem_append_right _ List.mem_cons_self, fun i hi => (reg_withPil_raise _ _ 77 0 _).trans (words i hi)⟩

theorem openFrame_shown {t : State} {bs : List Byte} (waits : t.pil.metaNew = some bs) (no : Word) (stamp : Option (Nat × Nat)) (w h fmt : Nat) :
    MetaShown bs (t.openFrame no stamp w h fmt) := by
  unfold State.openFrame
  dsimp only
  refine (latchMeta_shown ?_).step (linkStep_talBegin _ 1)
  rw [State.raiseIf_pil]
  exact (congrArg PilState.metaNew ((State.setReg_pil _ _ _).trans (State.setReg_pil _ _ _))).trans waits

theorem frameStart_shown {t : State} {bs : List Byte} (waits : t.pil.metaNew = some bs) (no : Word) (stamp : Option (Nat × Nat)) (w h fmt : Nat)
    (x : CopyCheck) : MetaShown bs (t.frameStart no stamp w h fmt x) := by
  unfold State.frameStart
  extract_lets s1 skip s2 s3 s4 fits s5 s6
  have closed : LinkStep AnyReg t s1 := (linkStep_closeFrame t x).mono anyReg_of
  have shown : LinkStep AnyReg t s3 := (closed.trans (linkStep_modeChange s1 w h fmt)).trans (linkStep_setReg s2 _ (a := R.PIL_MODE) trivial (by decide))
  have awake : LinkStep AnyReg t s4 := shown.trans (linkStep_clearCause s3 2 trivial)
  have left : LinkStep AnyReg t s5 := awake.trans (.ite ((linkStep_srfLeave s4).mono anyReg_of) (.refl s4))
  have opened := openFrame_shown (left.metaNew.trans waits) no stamp w h fmt
  have counted := opened.step (linkStep_countIf _ skip (a := R.PIL_CNT_FRAME_SKIP) rfl (by decide))
  have edged : MetaShown bs s6 := counted.step (linkStep_inputEdge _ _)
  exact edged.step (linkStep_withPil s6 _ rfl rfl rfl)

theorem MetaShown.withTal {bs : List Byte} {t : State} (h : MetaShown bs t) (z : TalState) : MetaShown bs { t with tal := z } :=
  h.step (linkStep_withTal t z)

/-- `FRAME_START` with a payload that waits (R77). -/
theorem frameStart_meta {s : State} {rx : LinkRx} {bs : List Byte} (good : s.packetGood rx = true) (is : (rxPacket rx).typ = 1)
    (waits : s.pil.metaNew = some bs) : ∃ u, Ends (.frameStart rx () () () ()) s u ∧ MetaShown bs u := by
  have ends := ends_frameStart rx () () () () s rfl
  obtain ⟨z, effect⟩ := packet_counted good is fun p s =>
    let h := p.frameHead
    s.frameStart h.no h.stamp h.w h.h h.fmt rx.check
  rw [show (fun s : State => s.packet 1 rx fun p s =>
    let h := p.frameHead
    s.frameStart h.no h.stamp h.w h.h h.fmt rx.check) (begun s) = _ from effect] at ends
  have waiting : (received s rx).pil.metaNew = some bs := by rw [received_pil]; exact waits
  exact ⟨_, ends, (frameStart_shown waiting _ _ _ _ _ _).withTal z⟩

/-- Settles O34: each packet has its effect on what the receivers left, and counts; a pop has the owner's queue. -/
theorem sleepAndSidePackets : Obligations.SleepAndSidePackets := by
  intro s rx bs q o
  refine ⟨fun good => ⟨sleep_acked good, sleep_waits good, wake_good good, meta_good good, fun is waits => ?_, aux_queued good, aux_full good⟩,
    auxPop_owner, auxPop_nothing⟩
  obtain ⟨u, ends, taken, raised, shows⟩ := frameStart_meta good is waits
  exact ⟨u, ends, taken, raised, shows⟩

end Sys2Proof.LinkLaws
end

section
/-! Region updates from the link (R73 to R75, R244, R248). -/

namespace Sys2Proof.LinkLaws

open Sys2Proof Sys2Proof.Machine
open Sys2Proof.Laws hiding taken

/-! ### What the receivers leave of the region updates' parameters -/

section
variable (s : State) (rx : LinkRx)

theorem slotLinked_received {slot : Nat} (h : slot < 16) : (received s rx).slotLinked slot = s.slotLinked slot := by
  have field (f : FRef) (at_cfg : f.addr = R.SRF_RS_CFG slot) : (received s rx).flag f = s.flag f :=
    flag_eq_of_get (get_received s rx (by rw [at_cfg]; unfold TakeRegs R.SRF_RS_CFG; omega))
  rw [State.slotLinked, State.slotLinked, field _ rfl, field _ rfl]

theorem ringSize_received : (received s rx).ringSize = s.ringSize := by
  rw [State.ringSize, State.ringSize, get_received s rx (f := F.SRF_STAGE_COUNT) (by unfold TakeRegs; decide)]

theorem frontBuf_received : (received s rx).frontBuf = s.frontBuf := get_received s rx (by unfold TakeRegs; decide)

theorem raster_received : (received s rx).snapshot.width 0 = s.snapshot.width 0 ∧ (received s rx).snapshot.lines 0 = s.snapshot.lines 0 :=
  ⟨get_received s rx (by unfold TakeRegs; decide), get_received s rx (by unfold TakeRegs; decide)⟩

theorem rectBad_received (x y w h : Nat) : (received s rx).rectBad x y w h = s.rectBad x y w h := by
  obtain ⟨width, lines⟩ := raster_received s rx
  simp only [State.rectBad, width, lines]

theorem layoutMismatch_received (b : Nat) : (received s rx).layoutMismatch b = s.layoutMismatch b := by
  obtain ⟨width, lines⟩ := raster_received s rx
  simp only [State.layoutMismatch, State.layoutOf, received_srf, width, lines]

end

/-! ### REGION_BEGIN (R73, R75) -/

/-- An update that opens: it is in the credit, and its pixels have their place in the ring. -/
def regionOpened (t : State) (slot x y w h : Nat) (tag : Word) : State := { t with
  pil := { t.pil with sent := mset 0 t.pil.sent slot ((mget 0 t.pil.sent slot + 1) % 65536) }
  srf := { t.srf with
    cut := merase t.srf.cut slot
    opens := mput t.srf.opens slot { x := x, y := y, w := w, h := h, tag := tag, stage := some (t.srf.ringNext % t.ringSize) }
    ring := t.srf.ring ++ [⟨t.srf.ringNext % t.ringSize, ringNeed w h, slot, tag, false⟩]
    ringNext := (t.srf.ringNext % t.ringSize + ringNeed w h) % t.ringSize } }

/-- The number sent is within the credit (R73). -/
theorem within_credit {sent limit : Nat} (credit : sent < limit) (small : limit < 32768) :
    ((limit + 65536 - sent) % 65536 == 0 || decide (32768 ≤ (limit + 65536 - sent) % 65536)) = false := by
  simp only [Bool.or_eq_false_iff, beq_eq_false_iff_ne, decide_eq_false_iff_not]
  omega

/-- Space in the ring for an update that fits (R244). -/
theorem ringReserve_fits {t : State} {slot n : Nat} (tag : Word) (room : t.srf.ring.foldl (fun (n : Nat) r => n + r.size) 0 + n ≤ t.ringSize) :
    t.ringReserve slot tag n = (some (t.srf.ringNext % t.ringSize), { t with srf := { t.srf with
      ring := t.srf.ring ++ [⟨t.srf.ringNext % t.ringSize, n, slot, tag, false⟩], ringNext := (t.srf.ringNext % t.ringSize + n) % t.ringSize } }) := by
  simp only [State.ringReserve]
  rw [if_neg (by omega)]

theorem regionBegin_opens {t : State} {slot x y w h : Nat} (tag : Word) (free : mfind t.srf.opens slot = none) (linked : t.slotLinked slot = true)
    (inside : t.rectBad x y w h = false) (credit : mget 0 t.pil.sent slot < mget 0 t.pil.credit slot) (small : mget 0 t.pil.credit slot < 32768)
    (room : t.srf.ring.foldl (fun (n : Nat) r => n + r.size) 0 + ringNeed w h ≤ t.ringSize) :
    t.regionBegin slot x y w h tag = regionOpened t slot x y w h tag := by
  have ahead := within_credit credit small
  have kept (p : PilState) (f : SrfState) : ({ t with pil := p, srf := f } : State).slotLinked slot = true := linked
  have fits (p : PilState) (f : SrfState) : ({ t with pil := p, srf := f } : State).rectBad x y w h = false := inside
  have reserve (p : PilState) (c : SMap Word) := ringReserve_fits (t := { t with pil := p, srf := { t.srf with cut := c } }) (slot := slot) tag room
  unfold State.regionBegin regionOpened
  -- the kernel is not to unfold the ring's size, whose factor 2^24 it would count out
  obtain ⟨ring, same⟩ : ∃ r, r = State.ringReserve := ⟨_, rfl⟩
  rw [← same] at reserve ⊢
  rw [free]
  dsimp only
  rw [ahead, kept, fits, reserve]
  rfl

theorem domOn_received (s : State) (rx : LinkRx) (d : Nat) : (received s rx).domOn d = s.domOn d :=
  domOn_of_reg (reg_received s rx (powerReg_apart d).2.2)

theorem inSlot_on {t : State} {p : LinkPacket} (slot : p.id < 16) (on : t.domOn 33 = true) (eff : State → State) : t.inSlot p eff = eff t := by
  simp [State.inSlot, slot, on]

theorem regionOpened_received (s : State) (rx : LinkRx) (slot x y w h : Nat) (tag : Word) : regionOpened (received s rx) slot x y w h tag =
    { received s rx with
      pil := { s.pil with sent := mset 0 s.pil.sent slot ((mget 0 s.pil.sent slot + 1) % 65536) }
      srf := { s.srf with
        cut := merase s.srf.cut slot
        opens := mput s.srf.opens slot { x := x, y := y, w := w, h := h, tag := tag, stage := some (s.srf.ringNext % s.ringSize) }
        ring := s.srf.ring ++ [⟨s.srf.ringNext % s.ringSize, ringNeed w h, slot, tag, false⟩]
        ringNext := (s.srf.ringNext % s.ringSize + ringNeed w h) % s.ringSize } } := by
  rw [regionOpened, received_pil, received_srf, ringSize_received]

section
variable {s : State} {rx : LinkRx} (good : s.packetGood rx = true) (slot : (rxPacket rx).id < 16) (on : s.domOn 33 = true)
include good slot on

/-- `REGION_BEGIN` within the credit, of an update for which the ring has room. -/
theorem regionBegin_good {x y w h : Nat} {tag : Word} (is : (rxPacket rx).typ = 4) (rect : (rxPacket rx).rect = (x, y, w, h, tag))
    (free : mfind s.srf.opens (rxPacket rx).id = none) (linked : s.slotLinked (rxPacket rx).id = true) (inside : s.rectBad x y w h = false)
    (credit : mget 0 s.pil.sent (rxPacket rx).id < mget 0 s.pil.credit (rxPacket rx).id) (small : mget 0 s.pil.credit (rxPacket rx).id < 32768)
    (room : s.srf.ring.foldl (fun (n : Nat) r => n + r.size) 0 + ringNeed w h ≤ s.ringSize) :
    ∃ u, Ends (.regionBegin rx () () () () ()) s u ∧ u.occ = []
      ∧ mfind u.srf.opens (rxPacket rx).id = some { x := x, y := y, w := w, h := h, tag := tag, stage := some (s.srf.ringNext % s.ringSize) }
      ∧ u.srf.ring = s.srf.ring ++ [⟨s.srf.ringNext % s.ringSize, ringNeed w h, (rxPacket rx).id, tag, false⟩]
      ∧ mget 0 u.pil.sent (rxPacket rx).id = mget 0 s.pil.sent (rxPacket rx).id + 1
      ∧ u = { taken s rx with
        pil := { s.pil with sent := u.pil.sent }
        srf := { s.srf with opens := u.srf.opens, ring := u.srf.ring, ringNext := u.srf.ringNext, cut := u.srf.cut } } := by
  have ends := ends_regionBegin rx () () () () () s rfl
  have value : (received s rx).inSlot (rxPacket rx) (fun s =>
      let (x, y, w, h, tag) := (rxPacket rx).rect
      s.regionBegin (rxPacket rx).id x y w h tag) = regionOpened (received s rx) (rxPacket rx).id x y w h tag := by
    rw [inSlot_on slot ((domOn_received s rx 33).trans on), rect]
    exact regionBegin_opens tag (by rw [received_srf]; exact free) ((slotLinked_received s rx slot).trans linked)
      ((rectBad_received s rx x y w h).trans inside) (by rw [received_pil]; exact credit) (by rw [received_pil]; exact small)
      (by rw [received_srf, ringSize_received]; exact room)
  rw [regionOpened_received] at value
  have effect := packet_effect good is (eff := fun p s => s.inSlot p fun s =>
    let (x, y, w, h, tag) := p.rect
    s.regionBegin p.id x y w h tag) value rfl
  rw [show (fun s : State => s.packet 4 rx fun p s => s.inSlot p fun s =>
    let (x, y, w, h, tag) := p.rect
    s.regionBegin p.id x y w h tag) (begun s) = _ from effect] at ends
  refine ⟨_, ends, received_occ s rx, mfind_mput_self _ _ _, rfl, ?_, ?_⟩
  · exact (mget_mset_self _ _ _ _).trans (Nat.mod_eq_of_lt (by omega))
  · rw [taken_eq]

end

end Sys2Proof.LinkLaws
end

section
/-! The lines and the commit of a region update from the link (R73, R244, R248). -/

namespace Sys2Proof.LinkLaws

open Sys2Proof Sys2Proof.Machine
open Sys2Proof.Laws hiding taken

/-! ### Writes of an owner into the folds -/

/-- From s to t the folds, registers and tallies change. -/
def FoldStep (s t : State) : Prop := t = { s with regs := t.regs, tal := t.tal, fst := t.fst }

section
variable {s t u : State}

theorem FoldStep.refl (s : State) : FoldStep s s := rfl

theorem FoldStep.trans (h : FoldStep s t) (k : FoldStep t u) : FoldStep s u := by
  unfold FoldStep at *
  rw [k, h]

theorem FoldStep.ite {c : Prop} [Decidable c] (h : FoldStep s t) (k : FoldStep s u) : FoldStep s (if c then t else u) := by
  split
  · exact h
  · exact k

theorem foldStep_each {α : Type} {f : State → α → State} (h : ∀ s x, FoldStep s (f s x)) (l : List α) : ∀ s : State, FoldStep s (s.each l f) := by
  induction l with
  | nil => exact fun s => .refl s
  | cons x l ih => exact fun s => (h s x).trans (ih _)

theorem foldStep_put (s : State) (f : FRef) (v : Nat) : FoldStep s (s.put f v) := rfl

theorem foldStep_withFst (s : State) (x : FstState) : FoldStep s { s with fst := x } := rfl

theorem foldStep_count (s : State) (c : Nat) : FoldStep s (s.count c) := by
  unfold FoldStep
  rw [count_frame]

theorem foldStep_missCount (s : State) (c : Nat) : FoldStep s (s.missCount c) := .ite (foldStep_count s c) (.refl s)

theorem foldStep_foldWrite (s : State) (addr : Nat) (bs : List Byte) : FoldStep s (s.foldWrite addr bs) := by
  have written := foldStep_withFst s { s.fst with mem := memWrite s.fst.mem addr bs }
  exact .ite written (written.trans (foldStep_each (fun t nn => foldStep_put t (F.FST_FOLD_STATUS_LOST nn) _) _ _))

theorem foldStep_ownerPiece (s : State) (nn : Nat) (w : FoldWait) : FoldStep s (s.ownerPiece nn w) :=
  .ite (foldStep_withFst s _) (.ite (foldStep_missCount s _) (foldStep_foldWrite s _ _))

theorem foldStep_ownerWrite (s : State) (own addr : Nat) (bs : List Byte) : FoldStep s (s.ownerWrite own addr bs) :=
  foldStep_each (fun t nn => foldStep_ownerPiece t nn _) _ s

theorem foldStep_ringWrite (s : State) (o : Nat) (bs : List Byte) : FoldStep s (s.ringWrite o bs) :=
  (foldStep_ownerWrite s 2 _ _).trans (foldStep_ownerWrite _ 2 _ _)

end

/-! ### What an owner's write depends on -/

/-- Two states with the same folds, and the same registers but for the receivers' disparities. -/
structure Beside (s t : State) : Prop where
  fst : t.fst = s.fst
  reg : ∀ a, ¬ TakeRegs a → t.reg a = s.reg a

section
variable {s t : State}

theorem Beside.get (h : Beside s t) {f : FRef} (apart : ¬ TakeRegs f.addr) : t.get f = s.get f := get_same_reg (h.reg _ apart)

theorem Beside.flag (h : Beside s t) {f : FRef} (apart : ¬ TakeRegs f.addr) : t.flag f = s.flag f := flag_eq_of_get (h.get apart)

theorem Beside.setReg (h : Beside s t) {a v v' : Nat} (same : ¬ TakeRegs a → v' = v) : Beside (s.setReg a v) (t.setReg a v') where
  fst := by rw [State.setReg_fst, State.setReg_fst, h.fst]
  reg b hb := by
    by_cases at_a : b = a
    · rw [at_a, reg_setReg_self, reg_setReg_self, same (at_a ▸ hb)]
    · rw [reg_setReg_ne _ _ at_a, reg_setReg_ne _ _ at_a, h.reg b hb]

theorem Beside.put (h : Beside s t) (f : FRef) (v : Nat) : Beside (s.put f v) (t.put f v) :=
  h.setReg fun apart => by rw [h.reg _ apart]

theorem Beside.missCount (h : Beside s t) (c : Nat) : Beside (s.missCount c) (t.missCount c) := by
  unfold State.missCount
  split
  · have counted := h.setReg (a := c) (v := min 0xFFFFFFFF (s.reg c + 1)) (v' := min 0xFFFFFFFF (t.reg c + 1)) fun apart => by rw [h.reg _ apart]
    refine ⟨?_, fun b hb => ?_⟩
    · rw [State.count_fst, State.count_fst, h.fst]
    · rw [State.count, State.count, reg_tallyTwin, reg_tallyTwin]
      exact counted.reg b hb
  · exact h

theorem Beside.each {α : Type} {f : State → α → State} (step : ∀ {s t : State} (x : α), Beside s t → Beside (f s x) (f t x)) (l : List α) :
    ∀ {s t : State}, Beside s t → Beside (s.each l f) (t.each l f) := by
  induction l with
  | nil => exact fun h => h
  | cons x l ih => exact fun h => ih (step x h)

theorem Beside.foldWrite (h : Beside s t) (addr : Nat) (bs : List Byte) : Beside (s.foldWrite addr bs) (t.foldWrite addr bs) := by
  have written : Beside { s with fst := { s.fst with mem := memWrite s.fst.mem addr bs } } { t with fst := { t.fst with mem := memWrite t.fst.mem addr bs } } :=
    ⟨by rw [h.fst], fun a ha => h.reg a ha⟩
  unfold State.foldWrite
  dsimp only
  split
  · exact written
  · exact .each (fun nn k => k.put (F.FST_FOLD_STATUS_LOST nn) _) _ written

theorem foldRegs_apart {nn : Nat} (h : nn < 64) : ¬ TakeRegs (R.FST_FOLD_STATUS nn) ∧ ¬ TakeRegs (R.FST_FOLD_OWNER nn) := by
  unfold TakeRegs R.FST_FOLD_STATUS R.FST_FOLD_OWNER
  omega

/-- A transfer that has not been granted yet. -/
theorem Beside.ownerPiece (h : Beside s t) (nn own addr : Nat) (bs : List Byte) :
    Beside (s.ownerPiece nn ⟨own, addr, bs, false⟩) (t.ownerPiece nn ⟨own, addr, bs, false⟩) := by
  have waits : t.ownerWaits own nn = s.ownerWaits own nn := by
    unfold State.ownerWaits State.foldOwner
    by_cases lt : nn < 64
    · obtain ⟨status, owner⟩ := foldRegs_apart lt
      rw [h.flag (f := F.FST_FOLD_STATUS_INIT nn) status, h.flag (f := F.FST_FOLD_STATUS_OWNER_CHANGING nn) status, h.get (f := F.FST_FOLD_OWNER_OWNER nn) owner]
    · simp [lt]
  have misses : t.ownerMiss own nn = s.ownerMiss own nn := by
    unfold State.ownerMiss State.foldOwner State.foldOn
    by_cases lt : nn < 64
    · obtain ⟨status, owner⟩ := foldRegs_apart lt
      rw [h.get (f := F.FST_FOLD_STATUS_POWER nn) status, h.get (f := F.FST_FOLD_OWNER_OWNER nn) owner]
    · simp [not_lt.1 lt]
  unfold State.ownerPiece
  simp only [waits, misses, Bool.false_and, Bool.false_eq_true, if_false]
  split
  · exact ⟨by rw [h.fst], fun a ha => h.reg a ha⟩
  · split
    · exact h.missCount _
    · exact h.foldWrite _ _

theorem Beside.ownerWrite (h : Beside s t) (own addr : Nat) (bs : List Byte) : Beside (s.ownerWrite own addr bs) (t.ownerWrite own addr bs) := by
  refine Beside.each ?_ _ h
  exact fun nn k => k.ownerPiece nn own _ _

theorem Beside.ringWrite (h : Beside s t) (o : Nat) (bs : List Byte) : Beside (s.ringWrite o bs) (t.ringWrite o bs) := by
  have addr {s t : State} (h : Beside s t) (o : Nat) : t.ringAddr o = s.ringAddr o := by
    unfold State.ringAddr State.ringSize
    rw [h.get (f := F.SRF_STAGE_BASE) (by unfold TakeRegs; decide), h.get (f := F.SRF_STAGE_COUNT) (by unfold TakeRegs; decide)]
  unfold State.ringWrite
  dsimp only
  rw [addr h, addr h]
  exact (h.ownerWrite 2 _ _).ownerWrite 2 _ _

end

theorem beside_received (s : State) (rx : LinkRx) : Beside (begun s) (received s rx) := ⟨received_fst s rx, fun _ ha => reg_received s rx ha⟩

/-! ### REGION_LINE (R73, R244) -/

/-- The update of a slot as it stands open. -/
def openPut (t : State) (slot : Nat) (o : OpenUpd) : State := { t with srf := { t.srf with opens := mput t.srf.opens slot o } }

theorem regionLine_whole {t : State} {slot a : Nat} {o : OpenUpd} (fmt : Nat) (payload : List Byte) (opened : mfind t.srf.opens slot = some o)
    (sound : o.bad = none) (stage : o.stage = some a) (inside : o.line < o.h) (start : o.col = 0) (wide : 1 ≤ o.w) (few : o.packets < 16) :
    t.regionLine slot (o.y + o.line) o.x o.w fmt true payload =
      openPut (t.ringWrite (a + ringRow o.w * o.line) (packRow ((List.range o.w).map (pixelAt fmt payload)))) slot
        { o with line := o.line + 1, col := 0, packets := 0 } := by
  unfold State.regionLine
  rw [opened]
  dsimp only
  rw [sound, stage]
  dsimp only
  simp [inside, start, wide, few, openPut]

/-! ### REGION_COMMIT (R244) -/

/-- A complete update is the slot's running one. -/
def regionAccepted (t : State) (slot : Nat) (o : OpenUpd) : State := { t with srf := { t.srf with
  opens := merase t.srf.opens slot
  nextId := t.srf.nextId + 1
  unreported := t.srf.unreported ++ [(t.srf.nextId, slot)]
  running := mput t.srf.running slot { o.upd slot t.noStage with id := t.srf.nextId } } }

/-- The start of self-refresh's next transfer leaves the updates and the ring alone. -/
theorem srfKick_kept (t : State) : t.srfKick.srf.opens = t.srf.opens ∧ t.srfKick.srf.nextId = t.srf.nextId ∧ t.srfKick.srf.running = t.srf.running
    ∧ t.srfKick.srf.ring = t.srf.ring := by
  rw [srfKick_frame]
  exact ⟨rfl, rfl, rfl, rfl⟩

/-- An update that is complete while nothing else is in flight. -/
theorem acceptUpdate_alone {t : State} {u : RegionUpd} (alone : t.unshown = []) : t.acceptUpdate u = ({ t with srf := { t.srf with
    nextId := t.srf.nextId + 1
    unreported := t.srf.unreported ++ [(t.srf.nextId, u.slot)]
    running := mput t.srf.running u.slot { u with id := t.srf.nextId } } } : State).srfKick := by
  have idle : t.srf.running = [] := by
    simp only [State.unshown, List.append_eq_nil_iff, List.map_eq_nil_iff] at alone
    exact alone.1.1.1
  have others : (t.takeId u).2.unshown = [] := alone
  have running : mfind (t.takeId u).2.srf.running (t.takeId u).1.slot = none := by
    rw [show (t.takeId u).2.srf.running = t.srf.running from rfl, idle]
    rfl
  unfold State.acceptUpdate
  dsimp only
  rw [others, if_neg (by simp), running]
  rfl

theorem regionCommit_accepted {t : State} {slot : Nat} {o : OpenUpd} (opened : mfind t.srf.opens slot = some o) (sound : o.bad = none)
    (complete : o.line = o.h) (matching : t.layoutMismatch t.frontBuf = false) (alone : t.unshown = []) :
    t.regionCommit slot o.tag = (regionAccepted t slot o).srfKick := by
  unfold State.regionCommit
  rw [opened]
  dsimp only
  rw [sound]
  dsimp only
  rw [if_neg (by simp [complete]), matching, if_neg (by decide)]
  exact acceptUpdate_alone (t := { t with srf := { t.srf with opens := merase t.srf.opens slot } }) alone

section
variable {s : State} {rx : LinkRx} (good : s.packetGood rx = true) (slot : (rxPacket rx).id < 16) (on : s.domOn 33 = true)
include good slot on

/-- `REGION_LINE` with the next whole line. -/
theorem regionLine_good {o : OpenUpd} {a : Nat} (is : (rxPacket rx).typ = 5) (opened : mfind s.srf.opens (rxPacket rx).id = some o) (sound : o.bad = none)
    (stage : o.stage = some a) (inside : o.line < o.h) (start : o.col = 0) (wide : 1 ≤ o.w) (few : o.packets < 16)
    (line : (rxPacket rx).line = o.y + o.line) (first : (rxPacket rx).firstX = o.x) (count : (rxPacket rx).count = o.w)
    (last : (rxPacket rx).lineEnd = true) :
    ∃ u, Ends (.regionLine rx () () () () () ()) s u
      ∧ mfind u.srf.opens (rxPacket rx).id = some { o with line := o.line + 1, col := 0, packets := 0 }
      ∧ u.fst = ((begun s).ringWrite (a + ringRow o.w * o.line)
        (packRow ((List.range o.w).map fun i => pixelAt (rxPacket rx).fmt (rxPacket rx).payload i))).fst
      ∧ u.pil = s.pil ∧ u.srf.ring = s.srf.ring ∧ u.occ = [] := by
  have ends := ends_regionLine rx () () () () () () s rfl
  have value : (received s rx).inSlot (rxPacket rx) (fun s => s.regionLine (rxPacket rx).id (rxPacket rx).line (rxPacket rx).firstX (rxPacket rx).count
      (rxPacket rx).fmt (rxPacket rx).lineEnd (rxPacket rx).payload) =
      openPut ((received s rx).ringWrite (a + ringRow o.w * o.line) (packRow ((List.range o.w).map (pixelAt (rxPacket rx).fmt (rxPacket rx).payload))))
        (rxPacket rx).id { o with line := o.line + 1, col := 0, packets := 0 } := by
    rw [inSlot_on slot ((domOn_received s rx 33).trans on), line, first, count, last]
    exact regionLine_whole _ _ (by rw [received_srf]; exact opened) sound stage inside start wide few
  obtain ⟨z, effect⟩ := packet_effect_counted good is (eff := fun p s => s.inSlot p fun s =>
    s.regionLine p.id p.line p.firstX p.count p.fmt p.lineEnd p.payload) value
  rw [show (fun s : State => s.packet 5 rx fun p s => s.inSlot p fun s =>
    s.regionLine p.id p.line p.firstX p.count p.fmt p.lineEnd p.payload) (begun s) = _ from effect] at ends
  have frame := foldStep_ringWrite (received s rx) (a + ringRow o.w * o.line)
    (packRow ((List.range o.w).map (pixelAt (rxPacket rx).fmt (rxPacket rx).payload)))
  have written := ((beside_received s rx).ringWrite (a + ringRow o.w * o.line)
    (packRow ((List.range o.w).map (pixelAt (rxPacket rx).fmt (rxPacket rx).payload)))).fst
  refine ⟨_, ends, mfind_mput_self _ _ _, written, ?_, ?_, ?_⟩
  · exact (congrArg State.pil frame).trans (received_pil s rx)
  · exact (congrArg (fun t : State => t.srf.ring) frame).trans (congrArg SrfState.ring (received_srf s rx))
  · exact (congrArg State.occ frame).trans (received_occ s rx)

/-- `REGION_COMMIT` of a complete update with nothing else in flight. -/
theorem regionCommit_good {o : OpenUpd} (is : (rxPacket rx).typ = 6) (opened : mfind s.srf.opens (rxPacket rx).id = some o) (sound : o.bad = none)
    (tag : o.tag = (rxPacket rx).word) (complete : o.line = o.h) (matching : s.layoutMismatch s.frontBuf = false) (alone : s.unshown = []) :
    ∃ u, Ends (.regionCommit rx ()) s u ∧ mfind u.srf.opens (rxPacket rx).id = none ∧ u.srf.nextId = s.srf.nextId + 1 ∧ u.occ = []
      ∧ mfind u.srf.running (rxPacket rx).id = some { o.upd (rxPacket rx).id s.noStage with id := s.srf.nextId } ∧ u.srf.ring = s.srf.ring
      ∧ u.regs = (taken s rx).regs := by
  have ends := ends_regionCommit rx () s rfl
  have srf := received_srf s rx
  have value : (received s rx).inSlot (rxPacket rx) (fun s => s.regionCommit (rxPacket rx).id (rxPacket rx).word) =
      (regionAccepted (received s rx) (rxPacket rx).id o).srfKick := by
    rw [inSlot_on slot ((domOn_received s rx 33).trans on), ← tag]
    refine regionCommit_accepted (by rw [srf]; exact opened) sound complete ?_ ?_
    · rw [frontBuf_received, layoutMismatch_received]
      exact matching
    · rw [State.unshown, srf]
      exact alone
  obtain ⟨z, effect⟩ := packet_effect_counted good is (eff := fun p s => s.inSlot p fun s => s.regionCommit p.id p.word) value
  rw [show (fun s : State => s.packet 6 rx fun p s => s.inSlot p fun s => s.regionCommit p.id p.word) (begun s) = _ from effect] at ends
  have stage : (received s rx).noStage = s.noStage := ringSize_received s rx
  obtain ⟨opens, nextId, running, ring⟩ := srfKick_kept (regionAccepted (received s rx) (rxPacket rx).id o)
  refine ⟨_, ends, ?_, ?_, ?_, ?_, ?_, ?_⟩
  · exact (congrArg (mfind · _) opens).trans (mfind_merase_self _ _)
  · exact nextId.trans (show (received s rx).srf.nextId + 1 = _ by rw [srf])
  · exact (srfKick_occ _).trans (received_occ s rx)
  · refine (congrArg (mfind · _) running).trans ((mfind_mput_self _ _ _).trans ?_)
    rw [stage, srf]
  · exact ring.trans (show (received s rx).srf.ring = _ by rw [srf])
  · exact (srfKick_regs _).trans (show (received s rx).regs = _ by rw [taken_eq])

end

end Sys2Proof.LinkLaws
end

section
/-! Packets that fail (R52, R72, R73): whatever the packet was to be, the part counts and reports its failure alike. -/

namespace Sys2Proof.LinkLaws

open Sys2Proof Sys2Proof.Machine
open Sys2Proof.Laws hiding taken

section
variable (s : State)

theorem linkStep_finishOpen (slot : Nat) (o : OpenUpd) (outcome : Nat) : LinkStep LaterRegs s (s.finishOpen slot o outcome) := by
  refine LinkStep.trans ?_ (linkStep_finishUpdate _ _ outcome)
  exact (linkStep_withSrf s _).trans (linkStep_withSrf _ _)

theorem linkStep_regionFailed (typ slot : Nat) : LinkStep LaterRegs s (s.regionFailed typ slot) := by
  unfold State.regionFailed
  split
  · exact .refl s
  · next o _ => exact .ite (linkStep_finishOpen s slot o _) (linkStep_withSrf s _)

theorem linkStep_concealFailed (x : CopyCheck) : LinkStep LinkRegs s (s.concealFailed x) := by
  unfold State.concealFailed
  split
  · exact .refl s
  · next f0 _ =>
    refine .ite (.refl s) ?_
    dsimp only
    generalize shown : s.concealLine x.ecc f0 f0.col f0.w = c
    have step : LinkStep LinkRegs s c.1 := shown ▸ (linkStep_concealLine s x.ecc f0 f0.col f0.w).mono linkRegs_of_conceal
    split
    · exact (step.trans (linkStep_verifySlots _ _ _ _)).trans (linkStep_withPil _ _ rfl rfl rfl)
    · exact step.trans (linkStep_withPil _ _ rfl rfl rfl)

/-- The failure is counted, and the frame's first one reported (R52). -/
def failureNoted : State :=
  let t := (s.count R.PIL_CNT_CRC).raiseIf (!s.pil.crcSeen) 69 0
  { t with pil := { t.pil with crcSeen := true } }

theorem failureNoted_eq : failureNoted s = { s with
    regs := (s.count R.PIL_CNT_CRC).regs, tal := (s.count R.PIL_CNT_CRC).tal
    occ := if s.pil.crcSeen then s.occ else s.occ ++ [⟨69, 0⟩], pil := { s.pil with crcSeen := true } } := by
  unfold failureNoted
  rw [raiseIf_eq, count_frame]
  cases s.pil.crcSeen <;> rfl

theorem reg_failureNoted (a : Nat) : (failureNoted s).reg a = (s.count R.PIL_CNT_CRC).reg a := by
  rw [failureNoted_eq]
  exact reg_congr rfl a

/-- What follows the note of a failure keeps it. -/
theorem linkStep_failedPacket (p : LinkPacket) (x : CopyCheck) : LinkStep LinkRegs (failureNoted s) (s.failedPacket p x) := by
  have concealed := linkStep_concealFailed (failureNoted s) x
  exact .ite (concealed.trans ((linkStep_regionFailed _ p.typ p.id).mono linkRegs_of_later)) concealed

theorem failedPacket_quiet {s : State} {p : LinkPacket} (x : CopyCheck) (idle : s.pil.rx = none) (other : regionType p.typ = false) :
    s.failedPacket p x = failureNoted s := by
  have none_open : (failureNoted s).pil.rx = none := by rw [failureNoted_eq]; exact idle
  have concealed : (failureNoted s).concealFailed x = failureNoted s := by
    unfold State.concealFailed
    rw [none_open]
  unfold State.failedPacket
  rw [other]
  exact concealed

end

section
variable {s : State} {rx : LinkRx}

/-- A command for a packet, where the packet fails. -/
theorem ends_bad {c : Instr} {typ : Nat} {eff : LinkPacket → State → State} (works : s.linkWorks = true) (bad : s.packetGood rx = false)
    (ends : Ends c s ((begun s).packet typ rx eff)) : Ends c s ((received s rx).failedPacket (rxPacket rx) rx.check) := by
  rw [packet_bad typ works bad] at ends
  exact ends

theorem failure_bad (works : s.linkWorks = true) (bad : s.packetGood rx = false) :
    (begun s).failure rx = (received s rx).failedPacket (rxPacket rx) rx.check := by
  have works : (begun s).linkWorks = true := works
  have bad : (begun s).packetGood rx = false := bad
  simp only [State.failure, works, bad, Bool.not_false, Bool.and_self, if_true]
  rfl

theorem failure_none (h : s.packetGood rx = true ∨ s.linkWorks = false) : (begun s).failure rx = begun s := by
  unfold State.failure
  rw [if_neg]
  rcases h with good | idle
  · simp [show (begun s).packetGood rx = true from good]
  · simp [show (begun s).linkWorks = false from idle]

theorem ends_failedPacket_none (h : s.packetGood rx = true ∨ s.linkWorks = false) : Ends (.failedPacket rx ()) s (begun s) := by
  have ends := ends_failedPacket rx () s rfl
  rw [show (fun s : State => s.failure rx) (begun s) = begun s from failure_none h] at ends
  exact ends

/-- What a packet that fails leaves in the counter, in the note and among the events. -/
theorem failedPacket_counted (s : State) (rx : LinkRx) :
    ((received s rx).failedPacket (rxPacket rx) rx.check).reg R.PIL_CNT_CRC = min 0xFFFFFFFF (s.reg R.PIL_CNT_CRC + 1)
    ∧ ((received s rx).failedPacket (rxPacket rx) rx.check).pil.crcSeen = true
    ∧ (s.pil.crcSeen = false → ⟨69, 0⟩ ∈ ((received s rx).failedPacket (rxPacket rx) rx.check).occ) := by
  have step := linkStep_failedPacket (received s rx) (rxPacket rx) rx.check
  have noted := failureNoted_eq (received s rx)
  refine ⟨?_, step.crcSeen.trans (by rw [noted]), fun unseen => step.occ.subset ?_⟩
  · rw [step.reg _ (by unfold LinkRegs; decide), reg_failureNoted, reg_count_self, reg_received s rx (by unfold TakeRegs; decide)]
  · have fresh : (received s rx).pil.crcSeen = false := by rw [received_pil]; exact unseen
    rw [noted, fresh]
    exact List.mem_append_right _ List.mem_cons_self

/-- A packet that fails outside a frame, and is none of a region. -/
theorem failedPacket_idle (idle : s.pil.rx = none) (other : regionType (rxPacket rx).typ = false) :
    let u := (received s rx).failedPacket (rxPacket rx) rx.check
    OnlyRegs (received s rx) u [R.PIL_CNT_CRC] ∧ u.occ = (if s.pil.crcSeen then [] else [⟨69, 0⟩])
      ∧ u = { received s rx with regs := u.regs, tal := u.tal, occ := u.occ, pil := { s.pil with crcSeen := true } } := by
  have noted := failureNoted_eq (received s rx)
  rw [failedPacket_quiet rx.check (by rw [received_pil]; exact idle) other]
  refine ⟨fun a ha => ?_, ?_, ?_⟩
  · rw [reg_failureNoted]
    exact reg_count_ne _ 1 (List.ne_of_not_mem_cons ha)
  · rw [noted, received_occ, received_pil]
    rfl
  · rw [noted, received_pil]

end

/-- Settles O33: a good packet of a region has its effect on what the receivers left; a packet that fails is one effect, whatever command
brings it. -/
theorem linkRegions : Obligations.LinkRegions := by
  intro s rx x y w h tag o a
  refine ⟨fun good slot on => ⟨regionBegin_good good slot on, regionLine_good good slot on, regionCommit_good good slot on⟩,
    fun works bad => ?_, fun good => ends_failedPacket_none (.inl good), fun idle => ends_failedPacket_none (.inr idle)⟩
  have failed := ends_failedPacket rx () s rfl
  rw [show (fun s : State => s.failure rx) (begun s) = _ from failure_bad works bad] at failed
  obtain ⟨counted, seen, reported⟩ := failedPacket_counted s rx
  exact ⟨_, failed, ends_bad works bad (ends_frameStart rx () () () () s rfl), ends_bad works bad (ends_vidLine rx [] () () () () () s rfl),
    ends_bad works bad (ends_frameEnd rx s rfl), ends_bad works bad (ends_regionBegin rx () () () () () s rfl),
    ends_bad works bad (ends_regionLine rx () () () () () () s rfl), ends_bad works bad (ends_regionCommit rx () s rfl),
    ends_bad works bad (ends_sleep rx s rfl), ends_bad works bad (ends_wake rx s rfl), ends_bad works bad (ends_metaPacket rx s rfl),
    ends_bad works bad (ends_auxPacket rx s rfl), counted, seen, reported, failedPacket_idle⟩

end Sys2Proof.LinkLaws
end

section
/-! What is wrong with O23. A whole word of a table entry goes to the shadow (R90, R144) as it is written, except for the first word of a
line-list entry: a host's write to its `AUTO` bit is ignored, and clears it (Table 5.1). The obligation asks for the word as it was
written there too. -/

namespace Sys2Proof.Laws

open Sys2Proof Sys2Proof.Machine

/-- The word that a table keeps of a written word: the first word of a line-list entry is kept without `AUTO` (Table 5.1). -/
def keptWord (a v : Nat) : Nat := if lineWord0 a then putBits v 31 31 0 else v

/-- The state that a write of the word v of a table leaves. -/
def tblWritten (s : State) (ag : Agent) (a v : Nat) : State :=
  { accepted s ag with tblShadow := mput s.tblShadow a (BitVec.ofNat 32 (keptWord a v)) }

/-- Every table that has a shadow lies below the tables of `BLE` (Table 23.3). -/
theorem tblEngine_shadowed {a e : Nat} (h : tblEngine a = some e) (not9 : e ≠ 9) : 0x200000 ≤ a ∧ a < 0x2E0000 := by
  unfold tblEngine at h
  grind

/-- A 32-bit word is known by its four bytes. -/
theorem eq_of_bytes {w v : Nat} (hw : w < 2 ^ 32) (hv : v < 2 ^ 32) (b0 : bits w 7 0 = v % 2 ^ 8) (b1 : bits w 15 8 = v / 256 % 2 ^ 8)
    (b2 : bits w 23 16 = v / 256 / 256 % 2 ^ 8) (b3 : bits w 31 24 = v / 256 / 256 / 256 % 2 ^ 8) : w = v := by
  simp only [bits] at b0 b1 b2 b3
  omega

/-- Four bytes that all belong to entries replace the whole word. -/
theorem mergeBytes_word {ok : Nat → Bool} {w v : Nat} (all : ∀ i, i < 4 → ok i = true) (hw : w < 2 ^ 32) (hv : v < 2 ^ 32) :
    mergeBytes ok w 0 (leBytes 4 v) = v := by
  simp only [leBytes, mergeBytes, all, Nat.zero_add, Nat.reduceAdd, Nat.reduceLT, if_true, BitVec.toNat_ofNat, Nat.reduceMul]
  refine eq_of_bytes ?bound hv ?_ ?_ ?_ ?_
  case bound =>
    iterate 4 refine putBits_lt _ _ _ _ (by decide) (by decide) ?_
    exact hw
  all_goals simp (disch := decide) only [bits_putBits_self, bits_putBits_disjoint, Nat.reduceAdd, Nat.reduceSub, Nat.mod_mod]

section
variable {s : State} {ag : Agent} {a e v : Nat} (shadowed : tblEngine a = some e) (not9 : e ≠ 9)
include shadowed not9

/-- A whole word of a table entry goes to its shadow word (R90, R144). -/
theorem applyTable_word (entry : ∀ i, i < 4 → tblEntry (a + i) = true) (hv : v < 2 ^ 32) :
    s.applyTable a 0 (leBytes 4 v) = { s with tblShadow := mput s.tblShadow a (BitVec.ofNat 32 (keptWord a v)) } := by
  obtain ⟨lo, hi⟩ := tblEngine_shadowed shadowed not9
  have reached : (List.range (leBytes 4 v).length).any (fun i => tblEntry (a + 0 + i)) = true :=
    List.any_eq_true.2 ⟨0, by simp [length_leBytes], entry 0 (by decide)⟩
  rw [State.applyTable, if_neg (by omega), if_neg (by omega), reached]
  simp only [mergeBytes_word (ok := fun i => tblEntry (a + i)) entry (s.tblShadowWord a).isLt hv, keptWord, Bool.not_true, Bool.false_eq_true,
    if_false]

/-- A whole word of a table meets ownership only, whatever the table's write unit (R371, R379). -/
theorem partCode_tableWord : s.partCode ag ⟨a, 0, leBytes 4 v⟩ = s.permits ag a := by
  obtain ⟨lo, hi⟩ := tblEngine_shadowed shadowed not9
  have table : ¬a < 0x60000 := by omega
  have whole : 4 % tableUnit a = 0 := by rcases tableUnit_cases a with h | h | h <;> rw [h]
  simp [State.partCode, table, length_leBytes, whole]

/-- The transaction of a whole word of a table entry that is let through. -/
theorem writeTx_tableWord (can : CanWrite s ag a) (h4 : a % 4 = 0) (entry : ∀ i, i < 4 → tblEntry (a + i) = true) (hv : v < 2 ^ 32) :
    (begun s).writeTx ag a (leBytes 4 v) = tblWritten s ag a v := by
  obtain ⟨permitted, held⟩ := can
  obtain ⟨lo, hi⟩ := tblEngine_shadowed shadowed not9
  have fin : regionEnd a = 0x400000 := by
    rw [regionEnd, if_neg (by omega), if_neg (by omega), if_neg (by omega), if_pos (by omega)]
  have code : (begun s).partCode ag ⟨a, 0, leBytes 4 v⟩ = 0 := (partCode_tableWord shadowed not9).trans permitted
  have begins : taken ag (begun s) = accepted s ag := rfl
  have len := length_leBytes 4 v
  rw [writeTx_words (s := begun s) held (inFolds_low (by omega)) (by omega) (startOk_of_aligned h4) (by omega), splitWords_word _ _ h4,
    writeParts_one code (verdict_eq_zero _ (by simp only; omega) (by simp only; omega)), begins, State.applyPart, if_neg (by simp only; omega),
    applyTable_word shadowed not9 entry hv, shown_quiet (by rfl), accepted_tblShadow]
  rfl

end

/-- TABLE_SHADOW_WRITE of a whole word of a table entry ends with the kept word in the shadow table, and so does PCM_LIST_WRITE in the
lists. -/
theorem ends_tableWord {s : State} {ag : Agent} {a v : Word} {e : Nat} (can : CanWrite s ag a.toNat) (h4 : a.toNat % 4 = 0)
    (shadowed : tblEngine a.toNat = some e) (not9 : e ≠ 9) (entry : ∀ i, i < 4 → tblEntry (a.toNat + i) = true) :
    Ends (.tableShadowWrite ag a (leBytes 4 v.toNat)) s (tblWritten s ag a.toNat v.toNat)
      ∧ (e = 4 → Ends (.pcmListWrite ag a (leBytes 4 v.toNat)) s (tblWritten s ag a.toNat v.toNat)) := by
  obtain ⟨lo, hi⟩ := tblEngine_shadowed shadowed not9
  have written := writeTx_tableWord shadowed not9 can h4 entry v.isLt
  constructor
  · have ends := ends_tableShadowWrite ag a (leBytes 4 v.toNat) s rfl
    simp only [lo, show a.toNat < 0x400000 by omega, and_self, if_true, written] at ends
    exact ends
  · rintro rfl
    have ends := ends_pcmListWrite ag a (leBytes 4 v.toNat) s rfl
    simp only [shadowed, if_true, written] at ends
    exact ends

/-! ### A write with `AUTO` -/

/-- The table shadows are as the effect of the command left them. -/
theorem finish_tblShadow (s u : State) : (finish s u).tblShadow = u.tblShadow := by
  rw [show finish s u = _ from sameBut_finish s u]

/-- The table shadows that a command leaves are those of any effect that it ends with. -/
theorem tblShadow_eq_of_ends {c : Instr} {s u v : State} (hu : Ends c s u) (hv : Ends c s v) : u.tblShadow = v.tblShadow := by
  have same : finish s u = finish s v := by
    rw [Ends] at hu hv
    injection hu.symm.trans hv
  rw [← finish_tblShadow s u, same, finish_tblShadow]

/-- Refutes O23: after reset the core writes 0x80000000, which has `AUTO` set, to the first word of the line list, and the shadow takes 0. -/
theorem not_tableWrites : ¬ Obligations.TableWrites := by
  intro h
  have can : CanWrite State.reset .core 0x240000 := ⟨by decide +kernel, nofun⟩
  have entry : ∀ i, i < 4 → tblEntry (0x240000 + i) = true := by decide
  obtain ⟨u, ends, -, -, word, -⟩ := h State.reset .core 0x240000#32 0x80000000#32 4 can rfl rfl (by decide) entry
  obtain ⟨kept, -⟩ := ends_tableWord (a := 0x240000#32) (v := 0x80000000#32) (e := 4) can rfl rfl (by decide) entry
  have cleared : mfind u.tblShadow 0x240000 = some 0#32 := by
    rw [tblShadow_eq_of_ends ends kept]
    exact mfind_mput_self _ _ _
  have asWritten : u.tblShadowWord 0x240000 = 0x80000000#32 := word
  rw [State.tblShadowWord, cleared] at asWritten
  exact absurd asWritten (show 0#32 ≠ 0x80000000#32 by decide)

end Sys2Proof.Laws
end

section
/-! A pixel of the split that is neither its frame's first nor its last (R112, R113), and the request of a synchronising reset (R104). -/

namespace Sys2Proof.Laws

open Sys2Proof Sys2Proof.Machine
open Sys2Proof.LinkLaws (raiseIf_eq)

/-- The state with the rear transmittances and their count as given. -/
def withRear (s : State) (r : SMap Nat) (n : Nat) : State := { s with spl := { s.spl with tRear := r, tmin := n } }

/-- What the front layer takes of a pixel: its transmittances and, where one clips, the count and the frame's first report (R113). -/
def frontPut (s : State) (x y : Nat) : State := { s with
  occ := if (s.frontT x y).2 = true ∧ s.spl.clip = 0 then s.occ ++ [⟨85, 0⟩] else s.occ
  spl := { s.spl with tFront := mset ⟨0, 0, 0⟩ s.spl.tFront (pixKey x y) (s.frontT x y).1, clip := s.spl.clip + bit (s.frontT x y).2 } }

section
variable {s : State} {x y : Nat}

/-- The first front pixel of a rear pixel stores it; it may count as raised by `TMIN` (R112). -/
theorem splitRear_first (rear : s.spl.pixSnap.flag F.SPL_CFG_REAR_EN = true) (first : s.spl.pixSnap.geom.firstOf x y = true) :
    let g := s.spl.pixSnap.geom
    let t := s.rearT (g.rearX x) (g.rearY y)
    s.splitRear x y = withRear s (mset 0 s.spl.tRear (pixKey (g.rearX x) (g.rearY y)) t.1)
      (s.spl.tmin + bit (t.2 && !s.bypassed (bandOf g.wr (g.rearX x)))) := by
  simp only [State.splitRear, rear, first, Bool.not_true, Bool.or_self, Bool.false_eq_true, if_false]
  generalize s.rearT _ _ = t
  rfl

/-- Every other pixel leaves the rear layer alone. -/
theorem splitRear_none (h : s.spl.pixSnap.flag F.SPL_CFG_REAR_EN = false ∨ s.spl.pixSnap.geom.firstOf x y = false) : s.splitRear x y = s := by
  rcases h with off | later
  · simp [State.splitRear, off]
  · simp [State.splitRear, later]

/-- What a pixel does to the rear layer. -/
theorem splitRear_spec : ∃ r n, s.splitRear x y = withRear s r n
    ∧ (s.spl.pixSnap.flag F.SPL_CFG_REAR_EN = true → s.spl.pixSnap.geom.firstOf x y = true →
        mget 0 r (pixKey (s.spl.pixSnap.geom.rearX x) (s.spl.pixSnap.geom.rearY y)) =
          (s.rearT (s.spl.pixSnap.geom.rearX x) (s.spl.pixSnap.geom.rearY y)).1)
    ∧ (s.spl.pixSnap.flag F.SPL_CFG_REAR_EN = false → r = s.spl.tRear ∧ n = s.spl.tmin) := by
  cases rear : s.spl.pixSnap.flag F.SPL_CFG_REAR_EN with
  | false => exact ⟨_, _, splitRear_none (.inl rear), nofun, fun _ => ⟨rfl, rfl⟩⟩
  | true =>
    cases first : s.spl.pixSnap.geom.firstOf x y with
    | false => exact ⟨_, _, splitRear_none (.inr first), nofun, nofun⟩
    | true => exact ⟨_, _, splitRear_first rear first, fun _ _ => mget_mset_self _ _ _ _, nofun⟩

/-- What a pixel does once its rear pixel is stored, with its transmittances and whether it is its frame's last as variables: the kernel is
not to compute them. -/
def splitWith (t : State) (x y : Nat) (bypass : Bool) (last : Prop) [Decidable last] (f : Rgb × Bool) : State :=
  match f with
  | (v, clips) =>
    let clips := clips && !bypass
    let s := t.raiseIf (clips && t.spl.clip == 0) 85 0
    let s := { s with spl := { s.spl with tFront := mset ⟨0, 0, 0⟩ s.spl.tFront (pixKey x y) v, clip := s.spl.clip + bit clips } }
    if last then (s.latchCount R.SPL_CNT_CLIP s.spl.clip).latchCount R.SPL_CNT_TMIN s.spl.tmin else s

theorem splitOne_eq : s.splitOne x y =
    splitWith (s.splitRear x y) x y ((s.splitRear x y).bypassed (bandOf s.spl.pixSnap.geom.w x))
      (x + 1 = s.spl.pixSnap.geom.w ∧ y + 1 = s.spl.pixSnap.geom.h) ((s.splitRear x y).frontT x y) := rfl

theorem splitWith_inside (t : State) {last : Prop} [Decidable last] (inside : ¬ last) (f : Rgb × Bool) : splitWith t x y false last f = { t with
    occ := if f.2 = true ∧ t.spl.clip = 0 then t.occ ++ [⟨85, 0⟩] else t.occ
    spl := { t.spl with tFront := mset ⟨0, 0, 0⟩ t.spl.tFront (pixKey x y) f.1, clip := t.spl.clip + bit f.2 } } := by
  obtain ⟨v, clips⟩ := f
  unfold splitWith
  simp only [if_neg inside, raiseIf_eq, Bool.not_false, Bool.and_true, Bool.and_eq_true, beq_iff_eq]

theorem splitOne_inside (inside : ¬ (x + 1 = s.spl.pixSnap.geom.w ∧ y + 1 = s.spl.pixSnap.geom.h))
    (engine : (s.splitRear x y).bypassed (bandOf s.spl.pixSnap.geom.w x) = false) : s.splitOne x y = frontPut (s.splitRear x y) x y := by
  rw [splitOne_eq, engine]
  exact splitWith_inside _ inside _

theorem splitPixel_inside (on : s.domOn 31 = true) (first : ¬ (x = 0 ∧ y = 0)) (hx : x < s.spl.pixSnap.geom.w) (hy : y < s.spl.pixSnap.geom.h)
    (due : s.splitDue y = true) : s.splitPixel x y = s.splitOne x y := by
  simp [State.splitPixel, first, on, due, not_le.2 hx, not_le.2 hy]

/-- Without power, or before the field of its line is ready, a pixel has no effect (R118). -/
theorem splitPixel_waits (waits : s.domOn 31 = false ∨ s.splitDue y = false) (first : ¬ (x = 0 ∧ y = 0)) : s.splitPixel x y = s := by
  rcases waits with off | early
  · simp [State.splitPixel, off]
  · simp [State.splitPixel, first, early]

end

/-- Settles O38: a pixel stores the rear pixel that it is the first of, then its own front transmittances. -/
theorem splitPixels : Obligations.SplitPixels := by
  intro s x y ag p g
  have ends : Ends (.splitPixel x y) s ((begun s).splitPixel x y) := ends_splitPixel x y s rfl
  refine ⟨fun on first hx hy inside engine due => ?_, fun waits first => ?_, fun can => ?_⟩
  · obtain ⟨r, n, rear, stored, none⟩ := splitRear_spec (s := begun s) (x := x) (y := y)
    rw [splitPixel_inside (s := begun s) on first hx hy due, splitOne_inside (s := begun s) inside (by rw [rear]; exact engine), rear] at ends
    refine ⟨_, ends, mget_mset_self _ _ _ _, rfl, rfl, fun k hk => mget_mset_ne _ _ _ hk, stored, none, rfl⟩
  · rwa [splitPixel_waits (s := begun s) waits first] at ends
  · have ends : Ends (.syncReset ag) s ((begun s).asWrite ag R.SPL_CTRL State.requestSync) := ends_syncReset ag s rfl
    rw [asWrite_quiet can _ (newRefusal_same rfl), State.requestSync] at ends
    have kept : (accepted s ag).spl = s.spl := by unfold accepted; split <;> simp [begun]
    rwa [kept] at ends

end Sys2Proof.Laws
end

section
/-! Elements of the front layer in panel compensation (R128, R129, R134, R139): what stage A makes of a transmittance, and stage B of a code
that no table changes. -/

namespace Sys2Proof.Laws

open Sys2Proof Sys2Proof.Machine

/-- The columns and lines of the front layer are those of the raster. -/
theorem layer_front (g : SplGeom) : g.layer false = (g.w, g.h, 3) := rfl

theorem isRear_of_lt {plane : Nat} (h : plane < 3) : (plane == 3) = false := by simp; omega

section
variable (s : State)

/-- The count and the report of an element where it clips or saturates (R134). -/
def clipWhere (b : Bool) (key : Nat) : State := if b then s.pcmClip key else s

/-- An element that clips changes the counts of the frame and may be reported, and does nothing else. -/
theorem clipWhere_frame (b : Bool) (key : Nat) : clipWhere s b key =
    { s with occ := (clipWhere s b key).occ
             pcm := { s.pcm with clip := (clipWhere s b key).pcm.clip, clippedAt := (clipWhere s b key).pcm.clippedAt } } := by
  unfold clipWhere State.pcmClip
  split
  · split
    · rfl
    · cases s.pcm.clippedAt.isEmpty <;> rfl
  · rfl

theorem clipWhere_codeA (b : Bool) (key : Nat) : (clipWhere s b key).pcm.codeA = s.pcm.codeA := by rw [clipWhere_frame]

theorem clipWhere_codeB (b : Bool) (key : Nat) : (clipWhere s b key).pcm.codeB = s.pcm.codeB := by rw [clipWhere_frame]

/-! ### Stage A -/

/-- The transmittance that stage A maps to the code of a front element, and whether it clips (R124, R129, R134). -/
def frontEdited (x y plane : Nat) : Nat × Bool :=
  let k := bandOf s.pcmSnap.geom.w x
  if s.bypassed k then ((s.bypassT x y).comp plane, false)
  else if s.pcmOn k then s.stageAFront s.pcmSnap.pcmLists plane x y
  else (s.splitTc plane x y, false)

/-- A stage A code is stored. -/
def codeAPut (key code : Nat) : State := { s with pcm := { s.pcm with codeA := mset 0 s.pcm.codeA key code } }

end

section
variable {s : State} {x y plane : Nat}

theorem frontEdited_fst : (frontEdited s x y plane).1 =
    if s.bypassed (bandOf s.pcmSnap.geom.w x) then (s.bypassT x y).comp plane
    else if s.pcmOn (bandOf s.pcmSnap.geom.w x) then (s.stageAFront s.pcmSnap.pcmLists plane x y).1 else s.splitTc plane x y := by
  rw [frontEdited, apply_ite Prod.fst, apply_ite Prod.fst]

/-- Only the edits of compensation clip. -/
theorem frontEdited_quiet (off : s.pcmOn (bandOf s.pcmSnap.geom.w x) = false) : (frontEdited s x y plane).2 = false := by
  rw [frontEdited, apply_ite Prod.snd, off]
  simp

theorem stageA_front (on : s.domOn 31 = true) (front : plane < 3) (hx : x < s.pcmSnap.geom.w) (hy : y < s.pcmSnap.geom.h) :
    s.stageA x y plane =
      clipWhere (codeAPut s (elemKey plane x y) (splResponse (s.spl.pixSnap.response plane) (frontEdited s x y plane).1))
        (frontEdited s x y plane).2 (elemKey plane x y) := by
  unfold State.stageA frontEdited clipWhere
  simp only [isRear_of_lt front, layer_front, on, not_le.2 hx, not_le.2 hy, Bool.not_true, Bool.false_and, Bool.or_self, decide_false,
    Bool.false_eq_true, if_false]
  split
  · rfl
  · cases s.pcmOn (bandOf s.pcmSnap.geom.w x) <;> rfl

/-! ### Stage B -/

/-- A stage B code is stored. -/
def codeBPut (s : State) (key code : Nat) : State := { s with pcm := { s.pcm with codeB := mset 0 s.pcm.codeB key code } }

theorem stageBWaits_off {k : Nat} (off : s.pcmOn k = false) : s.stageBWaits x y plane k = false := by simp [State.stageBWaits, off]

theorem stageBWaits_without_tables {k : Nat} (mura : s.pcmSnap.flag (F.PCM_PLANE_CFG_MURA_EN plane) = false)
    (gain : s.pcmSnap.flag (F.PCM_PLANE_CFG_GAIN_EN plane) = false) : s.stageBWaits x y plane k = false := by
  simp [State.stageBWaits, mura, gain]

theorem stageB_off {ecc : EccMap} (on : s.domOn 31 = true) (front : plane < 3) (hx : x < s.pcmSnap.geom.w) (hy : y < s.pcmSnap.geom.h)
    (inside : ¬ (x + 1 = s.pcmSnap.geom.w ∧ y + 1 = s.pcmSnap.geom.h)) (off : s.pcmOn (bandOf s.pcmSnap.geom.w x) = false) :
    s.stageB x y plane ecc = codeBPut s (elemKey plane x y) (mget 0 s.pcm.codeA (elemKey plane x y)) := by
  have last : ¬ (x + 1 = s.pcmSnap.geom.w ∧ y + 1 = s.pcmSnap.geom.h ∧ 2 ≤ plane) := fun h => inside ⟨h.1, h.2.1⟩
  unfold State.stageB
  simp only [isRear_of_lt front, layer_front, stageBWaits_off off, on, not_le.2 hx, not_le.2 hy, off, last, Bool.not_true, Bool.not_false, Bool.false_and,
    Bool.or_self, decide_false, Bool.false_eq_true, if_false, if_true]
  rfl

/-- The stage B code of a front element that no table of its plane changes, and whether it saturates (R139). -/
def plainCodeB (s : State) (x y plane : Nat) : Nat × Bool :=
  stageBCode s.pcmSnap.pcmLists false plane x y (mget 0 s.pcm.codeA (elemKey plane x y)) (s.pcmSnap.driverBits false)
    (64 / 4 ^ s.pcmSnap.get (F.PCM_PLANE_CFG_UNIT plane)) none none

theorem stageB_without_tables {ecc : EccMap} (on : s.domOn 31 = true) (front : plane < 3) (hx : x < s.pcmSnap.geom.w) (hy : y < s.pcmSnap.geom.h)
    (inside : ¬ (x + 1 = s.pcmSnap.geom.w ∧ y + 1 = s.pcmSnap.geom.h)) (works : s.pcmOn (bandOf s.pcmSnap.geom.w x) = true)
    (mura : s.pcmSnap.flag (F.PCM_PLANE_CFG_MURA_EN plane) = false) (gain : s.pcmSnap.flag (F.PCM_PLANE_CFG_GAIN_EN plane) = false) :
    s.stageB x y plane ecc =
      clipWhere (codeBPut s (elemKey plane x y) (plainCodeB s x y plane).1) (plainCodeB s x y plane).2 (elemKey plane x y) := by
  have last : ¬ (x + 1 = s.pcmSnap.geom.w ∧ y + 1 = s.pcmSnap.geom.h ∧ 2 ≤ plane) := fun h => inside ⟨h.1, h.2.1⟩
  have noMura (k c : Nat) : s.pcmMura k plane x y c ecc = (none, s) := by simp [State.pcmMura, mura]
  have noGain (k : Nat) : s.pcmGain k plane x y ecc = (none, s) := by simp [State.pcmGain, gain]
  unfold State.stageB plainCodeB clipWhere
  simp only [isRear_of_lt front, layer_front, stageBWaits_without_tables mura gain, on, not_le.2 hx, not_le.2 hy, works, last, noMura, noGain, ite_self,
    Nat.mod_eq_of_lt front, Bool.not_true, Bool.false_and, Bool.or_self, decide_false, Bool.false_eq_true, if_false]
  rfl

end

/-! ### The obligation -/

/-- Settles O39: stage A stores the code of the edited transmittance and counts a clip, stage B the code that no table changes. -/
theorem compensationElements : Obligations.CompensationElements := by
  intro s x y plane ecc p w h key k c on front hx hy
  have wf : decide (plane < 4) = true := by simp; omega
  have endsA : Ends (.stageA x y plane) s ((begun s).stageA x y plane) := ends_stageA x y plane s wf
  have endsB : Ends (.stageB x y plane ecc) s ((begun s).stageB x y plane ecc) := ends_stageB x y plane ecc s wf
  refine ⟨?_, fun inside off => ?_, fun inside works mura gain => ?_⟩
  · rw [stageA_front (s := begun s) on front hx hy] at endsA
    refine ⟨_, endsA, ?_, fun j hj => ?_, fun off => ?_, ?_⟩
    · rw [clipWhere_codeA]
      exact (mget_mset_self _ _ _ _).trans (congrArg _ (frontEdited_fst (s := begun s)))
    · rw [clipWhere_codeA]
      exact mget_mset_ne _ _ _ hj
    · rw [frontEdited_quiet (s := begun s) off]
      exact ⟨rfl, rfl⟩
    · rw [clipWhere_codeA]
      exact clipWhere_frame _ _ _
  · rw [stageB_off (s := begun s) on front hx hy inside off] at endsB
    exact ⟨_, endsB, mget_mset_self _ _ _ _, fun j hj => mget_mset_ne _ _ _ hj, rfl⟩
  · rw [stageB_without_tables (s := begun s) on front hx hy inside works mura gain] at endsB
    refine ⟨_, endsB, ?_, fun j hj => ?_, ?_⟩
    · rw [clipWhere_codeB]
      exact mget_mset_self _ _ _ _
    · rw [clipWhere_codeB]
      exact mget_mset_ne _ _ _ hj
    · rw [clipWhere_codeA]
      rfl

end Sys2Proof.Laws
end

section
/-! The levels of a zone row (R101, R104, R123): which level each zone-colour of the row takes, and that deciding a row changes levels and
filter states only. -/

namespace Sys2Proof.Laws

open Sys2Proof Sys2Proof.Machine

/-- The components of a triple are what it is made of. -/
theorem comp_of (f : Nat → Nat) {c : Nat} (h : c < 3) : (Rgb.of f).comp c = f c := by
  interval_cases c <;> rfl

theorem rgbOf_congr {f g : Nat → Nat} (h : ∀ c, c < 3 → f c = g c) : Rgb.of f = Rgb.of g := by
  rw [Rgb.of, Rgb.of, h 0 (by omega), h 1 (by omega), h 2 (by omega)]

/-- The state with the levels and the filter states as given. -/
def withLevels (s : State) (l : SMap Rgb) (f : SMap Nat) : State := { s with spl := { s.spl with levels := l, filter := f } }

@[simp] theorem withLevels_withLevels (s : State) (l l' : SMap Rgb) (f f' : SMap Nat) :
    withLevels (withLevels s l f) l' f' = withLevels s l' f' := rfl

@[simp] theorem withLevels_levels (s : State) (l : SMap Rgb) (f : SMap Nat) : (withLevels s l f).spl.levels = l := rfl

@[simp] theorem withLevels_filter (s : State) (l : SMap Rgb) (f : SMap Nat) : (withLevels s l f).spl.filter = f := rfl

@[simp] theorem withLevels_zoneParity (s : State) (l : SMap Rgb) (f : SMap Nat) : (withLevels s l f).spl.zoneParity = s.spl.zoneParity := rfl

/-- The level before the filter does not look at levels or filter states (R101). -/
theorem zoneLambda_withLevels (s : State) (l : SMap Rgb) (f : SMap Nat) (p : Snap) (c zx zy : Nat) :
    (withLevels s l f).zoneLambda p c zx zy = s.zoneLambda p c zx zy := rfl

section
variable {s : State} {p : Snap} {zx zy c : Nat}

/-! ### One zone-colour -/

theorem decideLevel_local (mode : s.splMode p = 0) : s.decideLevel p zx zy c =
    s.zoneFilter p (s.zoneLambda p c zx zy) (zy * p.geom.zc + zx) c := by
  rw [State.decideLevel]
  simp only [mode]

theorem decideLevel_global (mode : s.splMode p = 1) : s.decideLevel p zx zy c =
    (if p.zoneGain (zy * p.geom.zc + zx) c = 0 then 0 else s.spl.globalLevel.comp c, s) := by
  rw [State.decideLevel]
  simp only [mode]

theorem decideLevel_fixed (mode : 2 ≤ s.splMode p) : s.decideLevel p zx zy c =
    (if p.zoneGain (zy * p.geom.zc + zx) c = 0 then 0 else p.get F.SPL_PEAK1_FIXED, s) := by
  rw [State.decideLevel]
  split
  · omega
  · omega
  · rfl

/-- The filter of a zone-colour. -/
theorem zoneFilter_eq (lambda z : Nat) : s.zoneFilter p lambda z c =
    let q := splFilter s.spl.seeding (p.zoneGain z c != 0) lambda (p.get F.SPL_FILTER_ATTACK) (p.get F.SPL_FILTER_DECAY) (mget 0 s.spl.filter (4 * z + c))
    (q.2, withLevels s s.spl.levels (mset 0 s.spl.filter (4 * z + c) q.1)) := by
  unfold State.zoneFilter
  generalize splFilter _ _ _ _ _ _ = q
  rfl

theorem splMode_cases (s : State) (p : Snap) : s.splMode p = 0 ∨ s.splMode p = 1 ∨ 2 ≤ s.splMode p := by omega

/-- Deciding a zone-colour moves at most its own filter state. -/
theorem decideLevel_state : ∃ f, (s.decideLevel p zx zy c).2 = withLevels s s.spl.levels f
    ∧ ∀ k, k ≠ 4 * (zy * p.geom.zc + zx) + c → mget 0 f k = mget 0 s.spl.filter k := by
  rcases splMode_cases s p with mode | mode | mode
  · rw [decideLevel_local mode, zoneFilter_eq]
    exact ⟨_, rfl, fun k hk => mget_mset_ne _ _ _ hk⟩
  · rw [decideLevel_global mode]
    exact ⟨_, rfl, fun _ _ => rfl⟩
  · rw [decideLevel_fixed mode]
    exact ⟨_, rfl, fun _ _ => rfl⟩

/-- The level of a zone-colour looks at no filter state but its own, and at no level. -/
theorem decideLevel_withLevels {l : SMap Rgb} {f : SMap Nat}
    (own : mget 0 f (4 * (zy * p.geom.zc + zx) + c) = mget 0 s.spl.filter (4 * (zy * p.geom.zc + zx) + c)) :
    ((withLevels s l f).decideLevel p zx zy c).1 = (s.decideLevel p zx zy c).1 := by
  have same : (withLevels s l f).splMode p = s.splMode p := rfl
  rcases splMode_cases s p with mode | mode | mode
  · rw [decideLevel_local mode, decideLevel_local (same.trans mode), zoneFilter_eq, zoneFilter_eq, zoneLambda_withLevels, withLevels_filter, own]
    rfl
  · rw [decideLevel_global mode, decideLevel_global (same.trans mode)]
    rfl
  · rw [decideLevel_fixed mode, decideLevel_fixed (mode.trans_eq same.symm)]

/-! ### One zone -/

/-- The levels that a zone takes. -/
def decidedLevels (s : State) (p : Snap) (zx zy : Nat) : Rgb := Rgb.of fun c => (s.decideLevel p zx zy c).1

/-- A swap of the banks does not touch the levels that are decided after it. -/
theorem decidedLevels_swapped {t : State} (fe : t.fe = s.fe) (spl : t.spl = { s.spl with swap := {} }) :
    decidedLevels t p zx zy = decidedLevels s p zx zy := by
  have same : t.splMode p = s.splMode p := by rw [State.splMode, State.splMode, spl]
  refine rgbOf_congr fun c _ => ?_
  rcases splMode_cases s p with mode | mode | mode
  · have lambda : t.zoneLambda p c zx zy = s.zoneLambda p c zx zy := by
      simp only [State.zoneLambda, State.boostedStat, State.zoneStat, State.scaledOver, State.scaled, fe, spl]
    rw [decideLevel_local mode, decideLevel_local (same.trans mode), zoneFilter_eq, zoneFilter_eq, lambda, spl]
  · rw [decideLevel_global mode, decideLevel_global (same.trans mode), spl]
  · rw [decideLevel_fixed mode, decideLevel_fixed (mode.trans_eq same.symm)]

/-- The three colours of a zone are decided one after the other. -/
theorem decideZone_eq (s : State) (p : Snap) (zx zy : Nat) : s.decideZone p zx zy =
    let r := s.decideLevel p zx zy 0
    let g := r.2.decideLevel p zx zy 1
    let b := g.2.decideLevel p zx zy 2
    withLevels b.2 (mset ⟨0, 0, 0⟩ b.2.spl.levels (2 * (zy * p.geom.zc + zx) + b.2.spl.zoneParity) ⟨r.1, g.1, b.1⟩) b.2.spl.filter := by
  unfold State.decideZone withLevels
  generalize State.decideLevel = level
  rfl

/-- Deciding a zone sets its levels and moves at most its own filter states. -/
theorem decideZone_spec (s : State) (p : Snap) (zx zy : Nat) : ∃ f, s.decideZone p zx zy =
      withLevels s (mset ⟨0, 0, 0⟩ s.spl.levels (2 * (zy * p.geom.zc + zx) + s.spl.zoneParity) (decidedLevels s p zx zy)) f
    ∧ ∀ k, (∀ c, c < 3 → k ≠ 4 * (zy * p.geom.zc + zx) + c) → mget 0 f k = mget 0 s.spl.filter k := by
  obtain ⟨f0, red, other0⟩ := decideLevel_state (s := s) (p := p) (zx := zx) (zy := zy) (c := 0)
  obtain ⟨f1, green, other1⟩ := decideLevel_state (s := withLevels s s.spl.levels f0) (p := p) (zx := zx) (zy := zy) (c := 1)
  obtain ⟨f2, blue, other2⟩ := decideLevel_state (s := withLevels s s.spl.levels f1) (p := p) (zx := zx) (zy := zy) (c := 2)
  simp only [withLevels_filter, withLevels_levels, withLevels_withLevels] at green blue other1 other2
  have level1 : ((withLevels s s.spl.levels f0).decideLevel p zx zy 1).1 = (s.decideLevel p zx zy 1).1 :=
    decideLevel_withLevels (other0 _ (by omega))
  have level2 : ((withLevels s s.spl.levels f1).decideLevel p zx zy 2).1 = (s.decideLevel p zx zy 2).1 :=
    decideLevel_withLevels ((other1 _ (by omega)).trans (other0 _ (by omega)))
  refine ⟨f2, ?_, fun k hk => ?_⟩
  · rw [decideZone_eq]
    simp only [red, green, blue, level1, level2, withLevels_withLevels, withLevels_levels, withLevels_filter, withLevels_zoneParity]
    rfl
  · rw [other2 k (hk 2 (by omega)), other1 k (hk 1 (by omega)), other0 k (hk 0 (by omega))]

end

/-! ### The row -/

/-- From s to t the first n zones of a row have been decided: they have their levels, the others their filter states as before. -/
structure RowUpTo (s t : State) (p : Snap) (zy n : Nat) : Prop where
  frame : t = withLevels s t.spl.levels t.spl.filter
  levels : ∀ zx, zx < n → t.zoneNow (zy * p.geom.zc + zx) = decidedLevels s p zx zy
  ahead : ∀ zx c, n ≤ zx → c < 3 → mget 0 t.spl.filter (4 * (zy * p.geom.zc + zx) + c) = mget 0 s.spl.filter (4 * (zy * p.geom.zc + zx) + c)

theorem zoneNow_withLevels (s : State) (l : SMap Rgb) (f : SMap Nat) (z : Nat) :
    (withLevels s l f).zoneNow z = mget ⟨0, 0, 0⟩ l (2 * z + s.spl.zoneParity) := rfl

theorem RowUpTo.succ {s t : State} {p : Snap} {zy n : Nat} (h : RowUpTo s t p zy n) : RowUpTo s (t.decideZone p n zy) p zy (n + 1) := by
  obtain ⟨frame, levels, ahead⟩ := h
  obtain ⟨f, zone, other⟩ := decideZone_spec t p n zy
  have own : decidedLevels t p n zy = decidedLevels s p n zy := rgbOf_congr fun c hc => by
    rw [frame, decideLevel_withLevels (ahead n c le_rfl hc)]
  rw [zone, own]
  refine ⟨?_, fun zx hx => ?_, fun zx c hx hc => ?_⟩
  · have base (l : SMap Rgb) (f : SMap Nat) : withLevels t l f = withLevels s l f := by rw [frame, withLevels_withLevels]
    exact base _ f
  · rw [zoneNow_withLevels]
    by_cases last : zx = n
    · rw [last, mget_mset_self]
    · rw [mget_mset_ne _ _ _ (by omega)]
      exact levels zx (by omega)
  · rw [withLevels_filter, other _ fun c' hc' => by omega]
    exact ahead zx c (by omega) hc

theorem rowUpTo_each (s : State) (p : Snap) (zy n : Nat) : RowUpTo s (s.each (List.range n) fun s zx => s.decideZone p zx zy) p zy n := by
  induction n with
  | zero => exact ⟨rfl, nofun, fun _ _ _ _ => rfl⟩
  | succ n ih =>
    rw [List.range_succ, each_append]
    exact ih.succ

end Sys2Proof.Laws
end

section
/-! What the split's hand-over of a zone row and a swap of the banks do to the backlight's zone store (R119, R212, R221). -/

namespace Sys2Proof.Laws

open Sys2Proof Sys2Proof.Machine

theorem bleBank_congr {s t : State} (h : t.regs = s.regs) : t.bleBank = s.bleBank := get_congr h _

theorem bleBank_le (s : State) : s.bleBank ≤ 1 := Nat.lt_succ_iff.1 (Nat.mod_lt _ (by decide))

/-- The place of a zone-colour of a bank in the zone store. -/
def zoneKey (bank z c : Nat) : Nat := 65536 * bank + 4 * z + c

theorem zoneLevel_eq (s : State) (bank z c : Nat) : s.zoneLevel bank z c = mget 0 s.ble.zones (zoneKey bank z c) := rfl

/-- The state with the zone store as given. -/
def withZones (s : State) (m : SMap Nat) : State := { s with ble := { s.ble with zones := m } }

@[simp] theorem withZones_withZones (s : State) (m m' : SMap Nat) : withZones (withZones s m) m' = withZones s m' := rfl

@[simp] theorem withZones_zones (s : State) (m : SMap Nat) : (withZones s m).ble.zones = m := rfl

@[simp] theorem bleBank_withZones (s : State) (m : SMap Nat) : (withZones s m).bleBank = s.bleBank := bleBank_congr rfl

theorem writeLevel_eq (s : State) (z c l : Nat) :
    s.writeLevel z c l = withZones s (mset 0 s.ble.zones (zoneKey (1 - s.bleBank) z c) (l % 65536)) := rfl

/-! ### The levels of a row -/

/-- The levels of a zone go to the inactive bank. -/
def writeZone (s : State) (z : Nat) (l : Rgb) : State := ((s.writeLevel z 0 l.r).writeLevel z 1 l.g).writeLevel z 2 l.b

theorem writeZone_spec (s : State) (z : Nat) (l : Rgb) : ∃ m, writeZone s z l = withZones s m
    ∧ (∀ c, c < 3 → mget 0 m (zoneKey (1 - s.bleBank) z c) = l.comp c % 65536)
    ∧ ∀ k, (∀ c, c < 3 → k ≠ zoneKey (1 - s.bleBank) z c) → mget 0 m k = mget 0 s.ble.zones k := by
  have apart {b c d : Nat} (h : c ≠ d) : zoneKey b z c ≠ zoneKey b z d := by
    unfold zoneKey
    omega
  unfold writeZone
  simp only [writeLevel_eq, bleBank_withZones, withZones_zones, withZones_withZones]
  refine ⟨_, rfl, fun c hc => ?_, fun k hk => ?_⟩
  · interval_cases c
    · rw [mget_mset_ne _ _ _ (apart (by omega)), mget_mset_ne _ _ _ (apart (by omega)), mget_mset_self]
      rfl
    · rw [mget_mset_ne _ _ _ (apart (by omega)), mget_mset_self]
      rfl
    · rw [mget_mset_self]
      rfl
  · rw [mget_mset_ne _ _ _ (hk 2 (by omega)), mget_mset_ne _ _ _ (hk 1 (by omega)), mget_mset_ne _ _ _ (hk 0 (by omega))]

/-- From s to t the levels of the first n zones of a row have gone to the inactive bank. -/
structure StoredUpTo (s t : State) (zc zy : Nat) (level : Nat → Rgb) (n : Nat) : Prop where
  frame : t = withZones s t.ble.zones
  stored : ∀ zx c, zx < n → c < 3 → mget 0 t.ble.zones (zoneKey (1 - s.bleBank) (zy * zc + zx) c) = (level zx).comp c % 65536
  kept : ∀ k, (∀ zx c, zx < n → c < 3 → k ≠ zoneKey (1 - s.bleBank) (zy * zc + zx) c) → mget 0 t.ble.zones k = mget 0 s.ble.zones k

theorem StoredUpTo.succ {s t : State} {zc zy n : Nat} {level : Nat → Rgb} (h : StoredUpTo s t zc zy level n) :
    StoredUpTo s (writeZone t (zy * zc + n) (level n)) zc zy level (n + 1) := by
  obtain ⟨frame, stored, kept⟩ := h
  obtain ⟨m, zone, own, other⟩ := writeZone_spec t (zy * zc + n) (level n)
  have bank : t.bleBank = s.bleBank := by rw [frame, bleBank_withZones]
  rw [bank] at own other
  rw [zone]
  refine ⟨?_, fun zx c hx hc => ?_, fun k hk => ?_⟩
  · have base (m : SMap Nat) : withZones t m = withZones s m := by rw [frame, withZones_withZones]
    exact base m
  · rw [withZones_zones]
    by_cases last : zx = n
    · rw [last]
      exact own c hc
    · refine (other _ fun c' hc' => ?_).trans (stored zx c (by omega) hc)
      unfold zoneKey
      omega
  · rw [withZones_zones, other k fun c hc => hk n c (by omega) hc]
    exact kept k fun zx c hx hc => hk zx c (by omega) hc

theorem storedUpTo_each (s : State) (zc zy : Nat) (level : Nat → Rgb) (n : Nat) :
    StoredUpTo s (s.each (List.range n) fun s zx => writeZone s (zy * zc + zx) (level zx)) zc zy level n := by
  induction n with
  | zero => exact ⟨rfl, nofun, fun _ _ => rfl⟩
  | succ n ih =>
    rw [List.range_succ, each_append]
    exact ih.succ

/-! ### Rows of the chains -/

/-- From s to t only chains of the backlight change. -/
def ChainStep (s t : State) : Prop := t = { s with ble := { s.ble with chains := t.ble.chains } }

theorem ChainStep.trans {s t u : State} (h : ChainStep s t) (k : ChainStep t u) : ChainStep s u := by
  unfold ChainStep at *
  rw [k, h]

theorem chainStep_each {α : Type} {f : State → α → State} (h : ∀ s x, ChainStep s (f s x)) (l : List α) : ∀ s : State, ChainStep s (s.each l f) := by
  induction l with
  | nil => exact fun _ => rfl
  | cons x l ih => exact fun s => (h s x).trans (ih _)

theorem chainStep_setChain (s : State) (c : Nat) (v : BleChain) : ChainStep s (s.setChain c v) := rfl

theorem chainStep_makeReady (s : State) (c : Nat) (rows : List Nat) : ChainStep s (s.makeReady c rows) := chainStep_setChain s c _

/-! ### The hand-over of a row -/

/-- With `SOURCE` at the host the split's levels are counted as dropped (R212). -/
theorem splitWrites_dropped {s : State} (zc zy : Nat) (level : Nat → Rgb) (host : s.flag F.BLE_CFG_SOURCE = true) :
    s.splitWrites zc zy level = s.count R.BLE_CNT_SPL_DROP (3 * zc) := by
  rw [State.splitWrites, if_pos host]

/-- The row counts as written for the new frame. -/
def rowNoted (s : State) (zy : Nat) : State := { s with ble := { s.ble with rowsWritten := zy :: s.ble.rowsWritten } }

/-- The split's levels are written, and rows of chains may become ready (R119, R221). -/
theorem splitWrites_stored {s : State} (zc zy : Nat) (level : Nat → Rgb) (split : s.flag F.BLE_CFG_SOURCE = false) :
    ChainStep (rowNoted (s.each (List.range zc) fun s zx => writeZone s (zy * zc + zx) (level zx)) zy) (s.splitWrites zc zy level) := by
  rw [State.splitWrites, if_neg (by simp [split])]
  dsimp only
  split
  · rfl
  · exact chainStep_each (fun t c => chainStep_makeReady t c _) _ _

/-- From s to t the split has handed a row over: its levels stand in the inactive bank, and what else the zone store held is as before. -/
structure RowHanded (s t : State) (zc zy : Nat) (level : Nat → Rgb) : Prop where
  frame : t = { s with ble := t.ble }
  stored : ∀ zx c, zx < zc → c < 3 → t.zoneLevel (1 - s.bleBank) (zy * zc + zx) c = (level zx).comp c % 65536
  kept : zy * zc + zc ≤ 16384 → ∀ z c, z < 16384 → c < 4 → t.zoneLevel s.bleBank z c = s.zoneLevel s.bleBank z c
  rows : t.ble.rowsWritten = zy :: s.ble.rowsWritten

theorem splitWrites_handed {s : State} (zc zy : Nat) (level : Nat → Rgb) (split : s.flag F.BLE_CFG_SOURCE = false) :
    RowHanded s (s.splitWrites zc zy level) zc zy level := by
  obtain ⟨frame, stored, kept⟩ := storedUpTo_each s zc zy level zc
  have step := splitWrites_stored zc zy level split
  generalize s.each (List.range zc) (fun s zx => writeZone s (zy * zc + zx) (level zx)) = t at frame stored kept step
  rw [ChainStep] at step
  rw [step, frame]
  refine ⟨rfl, stored, fun small z c hz hc => kept _ fun zx c' hx hc' => ?_, rfl⟩
  have bank := bleBank_le s
  unfold zoneKey
  omega

/-! ### The swap of the banks -/

/-- From s to t the banks have swapped (R119): `BANK` and the swaps' count have moved and no swap is due; of the other
registers none but `SWAP_PENDING` has changed, and of the pixel path nothing. -/
structure Swapped (s t : State) : Prop where
  fe : t.fe = s.fe
  spl : t.spl = { s.spl with swap := {} }
  bank : t.bleBank = 1 - s.bleBank
  counted : t.reg R.BLE_CNT_SWAP = min 0xFFFFFFFF (s.reg R.BLE_CNT_SWAP + 1)
  reg : ∀ a, a ≠ R.BLE_STATUS → a ≠ R.BLE_CNT_SWAP → t.reg a = s.reg a

/-- The registers of a swap. -/
def swapRegs (s : State) : State := ((s.put F.BLE_STATUS_BANK (1 - s.bleBank)).count R.BLE_CNT_SWAP).putB F.BLE_STATUS_SWAP_PENDING false

theorem bleBank_swapRegs (s : State) : (swapRegs s).bleBank = 1 - s.bleBank := by
  unfold swapRegs
  rw [State.bleBank, State.putB, get_put_disjoint _ _ _ _ (by decide) (by decide) (by decide) (by decide), get_count_ne _ _ (by decide),
    get_put_self _ _ _ (by decide) (by decide)]
  exact Nat.mod_eq_of_lt (show 1 - s.bleBank < 2 by omega)

theorem swapCount_swapRegs (s : State) : (swapRegs s).reg R.BLE_CNT_SWAP = min 0xFFFFFFFF (s.reg R.BLE_CNT_SWAP + 1) := by
  unfold swapRegs
  rw [reg_putB_ne _ _ (by decide), reg_count_self, reg_put_ne _ _ (by decide)]

theorem reg_swapRegs (s : State) {a : Nat} (status : a ≠ R.BLE_STATUS) (count : a ≠ R.BLE_CNT_SWAP) : (swapRegs s).reg a = s.reg a := by
  unfold swapRegs
  rw [reg_putB_ne _ _ status, reg_count_ne _ _ count, reg_put_ne _ _ status]

/-- The zone rows of the new frame are still to be written, and no swap is due. -/
def banksTurned (s : State) : State := { s with ble := { s.ble with rowsWritten := [] }, spl := { s.spl with swap := {} } }

/-- A chain's rows after a swap: those not sent from the new bank yet are ready (R119). -/
def chainTurned (s : State) (c : Nat) : State :=
  let h := s.chain c
  (s.setChain c { h with ready := h.ready.filterMap (fun r => if 16 ≤ r then some (r - 16) else none), served := [] }).makeReady c
    (((s.setChain c { h with ready := h.ready.filterMap (fun r => if 16 ≤ r then some (r - 16) else none), served := [] }).chainRows c).filter
      fun r => !h.served.contains r)

theorem bankSwap_eq (s : State) : s.bankSwap =
    ((banksTurned (swapRegs s)).each (banksTurned (swapRegs s)).liveChains chainTurned).talSwap
      (if s.flag F.BLE_CFG_SOURCE then none else some s.spl.swap.no) := rfl

theorem sameBut_talSwap (s : State) (no : Option Nat) : SameBut s (s.talSwap no) := by
  unfold State.talSwap
  split
  · exact (sameBut_talCopy s 4 _ false).trans (sameBut_talPublish _)
  · rfl

theorem swapped_bankSwap (s : State) : Swapped s s.bankSwap := by
  rw [bankSwap_eq]
  have chains : ChainStep (banksTurned (swapRegs s)) ((banksTurned (swapRegs s)).each (banksTurned (swapRegs s)).liveChains chainTurned) :=
    chainStep_each (fun t c => (chainStep_setChain t c _).trans (chainStep_makeReady _ c _)) _ _
  generalize (banksTurned (swapRegs s)).each (banksTurned (swapRegs s)).liveChains chainTurned = t at chains ⊢
  have tally := sameBut_talSwap t (if s.flag F.BLE_CFG_SOURCE then none else some s.spl.swap.no)
  generalize t.talSwap (if s.flag F.BLE_CFG_SOURCE then none else some s.spl.swap.no) = u at tally ⊢
  obtain ⟨regs, fe, spl⟩ : u.regs = (swapRegs s).regs ∧ u.fe = (swapRegs s).fe ∧ u.spl = { (swapRegs s).spl with swap := {} } := by
    rw [SameBut] at tally
    rw [ChainStep] at chains
    rw [tally, chains]
    exact ⟨rfl, rfl, rfl⟩
  exact {
    fe := by rw [fe]; simp [swapRegs]
    spl := by rw [spl]; simp [swapRegs]
    bank := (bleBank_congr regs).trans (bleBank_swapRegs s)
    counted := (reg_congr regs _).trans (swapCount_swapRegs s)
    reg := fun a status count => (reg_congr regs a).trans (reg_swapRegs s status count) }

end Sys2Proof.Laws
end

section
/-! A zone row decided (R116): the row's levels, what the backlight takes of them, and at the frame's last row the capture of the field
and the bank's completion (R119, R263). -/

namespace Sys2Proof.Laws

open Sys2Proof Sys2Proof.Machine
open Sys2Proof.LinkLaws (LinkStep ConcealRegs FoldStep linkStep_each linkStep_withFst linkStep_missCount linkStep_putB foldStep_each
  foldStep_ownerWrite lt_of_ownerMiss concealRegs_foldStatus domOn_of_reg get_same_reg)

/-! ### The capture of the field (R263) -/

/-- Bytes of one fold of the part are stored. -/
theorem linkStep_foldWrite_fold (s : State) {nn addr : Nat} {bs : List Byte} (fold : nn < 64)
    (inside : bs ≠ [] → foldOf addr = nn ∧ foldOf (addr + bs.length - 1) = nn) : LinkStep ConcealRegs s (s.foldWrite addr bs) := by
  obtain ⟨mem, other⟩ := concealRegs_foldStatus fold
  unfold State.foldWrite
  split
  · exact linkStep_withFst s _
  · next full =>
    obtain ⟨first, last⟩ := inside (by simpa using full)
    refine (linkStep_withFst s _).trans (linkStep_each (fun t m hm => ?_) _)
    obtain rfl : m = nn := by
      rw [first, last] at hm
      simpa using hm
    exact linkStep_putB t (f := F.FST_FOLD_STATUS_LOST m) false mem other

/-- An owner's write changes no register outside the folds' own. -/
theorem linkStep_ownerWrite_folds (s : State) (own addr : Nat) (bs : List Byte) : LinkStep ConcealRegs s (s.ownerWrite own addr bs) := by
  refine linkStep_each (fun t nn _ => ?_) s
  unfold State.ownerPiece
  simp only [Bool.false_and, Bool.false_eq_true, if_false]
  refine .ite (linkStep_withFst t _) ?_
  split
  · exact linkStep_missCount t
  · next good =>
    refine linkStep_foldWrite_fold t (lt_of_ownerMiss (not_not.1 good)) fun full => ?_
    generalize part : (bs.drop (max addr (foldBase nn) - addr)).take (foldBase (nn + 1) - max addr (foldBase nn)) = piece at full ⊢
    have short : piece.length ≤ foldBase (nn + 1) - max addr (foldBase nn) := by
      rw [← part]
      exact List.length_take_le _ _
    have some_byte : 0 < piece.length := List.length_pos_iff.2 full
    exact ⟨foldOf_unique (by omega) (by omega), foldOf_unique (by omega) (by omega)⟩

/-- The capture of the field writes folds, and no register outside the folds' own. -/
theorem fieldCapture_steps (s : State) (p : Snap) : FoldStep s (s.fieldCapture p) ∧ LinkStep ConcealRegs s (s.fieldCapture p) := by
  unfold State.fieldCapture
  split
  · exact ⟨.refl s, .refl s⟩
  · exact ⟨foldStep_each (fun t j => .ite (.refl t) (foldStep_ownerWrite t 5 _ _)) _ s,
      linkStep_each (fun t j _ => .ite (.refl t) (linkStep_ownerWrite_folds t 5 _ _)) s⟩

/-! ### The levels and the hand-over -/

/-- The levels of a row are decided. -/
def rowLevels (s : State) (p : Snap) (zy : Nat) : State :=
  let t := s.each (List.range p.geom.zc) fun s zx => s.decideZone p zx zy
  { t with spl := { t.spl with zonesDecided := zy + 1 } }

/-- The field as given. -/
def withField (s : State) (f : SMap Rgb) : State := { s with spl := { s.spl with field := f } }

theorem fieldUpdate_eq (s : State) (p : Snap) (zy : Nat) : ∃ f, s.fieldUpdate p zy = withField s f := ⟨_, rfl⟩

/-- The levels of a row go to the backlight where it is on. -/
def handRow (s : State) (zc zy : Nat) : State := if s.domOn 32 then s.splitWrites zc zy (fun zx => s.zoneNow (zy * zc + zx)) else s

/-- What ZONE_ROW_DECIDED does at every row. -/
def rowGiven (s : State) (p : Snap) (zy : Nat) : State := (handRow (rowLevels s p zy) p.geom.zc zy).fieldUpdate p zy

/-- The levels of a whole frame by zone. -/
def frameLevels (s : State) (n : Nat) : SMap Rgb := (List.range n).foldl (fun m z => mset ⟨0, 0, 0⟩ m z (s.zoneNow z)) []

/-- The state with the levels of the last whole frame as given. -/
def withLast (s : State) (l : SMap Rgb) : State := { s with spl := { s.spl with lastLevels := l } }

/-- At the frame's last row the field is captured and the frame's levels are kept. -/
def captured (s : State) (p : Snap) : State := withLast (s.fieldCapture p) (frameLevels (s.fieldCapture p) (p.geom.zc * p.geom.zr))

theorem zoneRowDecided_due {s : State} {zy : Nat} (on : s.domOn 31 = true) (turn : zy = s.spl.zonesDecided) (due : s.zoneRowDue zy = true)
    (row : zy < s.spl.zoneSnap.geom.zr) : s.zoneRowDecided zy =
      let t := rowGiven (if zy = 0 then s.swapLate else s) s.spl.zoneSnap zy
      if zy + 1 < s.spl.zoneSnap.geom.zr then t else (captured t s.spl.zoneSnap).bankComplete := by
  have go : ¬ (!s.domOn 31 || zy != s.spl.zonesDecided || decide (s.spl.zoneSnap.geom.zr ≤ zy) || !s.zoneRowDue zy) = true := by
    rw [on, due, ← turn]
    simp [row]
  exact if_neg go

/-- A row out of turn, or before its last input line, changes nothing (R116). -/
theorem zoneRowDecided_waits {s : State} {zy : Nat} (waits : zy ≠ s.spl.zonesDecided ∨ s.zoneRowDue zy = false) : s.zoneRowDecided zy = s := by
  have stop : (!s.domOn 31 || zy != s.spl.zonesDecided || decide (s.spl.zoneSnap.geom.zr ≤ zy) || !s.zoneRowDue zy) = true := by
    rcases waits with turn | early
    · simp [turn]
    · simp [early]
  exact if_pos stop

/-! ### What a row's decision leaves -/

/-- From s to t a row of the zone processor's frame has been decided: its levels stand, and the row counts as decided. -/
structure RowDone (s t : State) (p : Snap) (zy : Nat) : Prop where
  levels : ∀ zx, zx < p.geom.zc → t.zoneNow (zy * p.geom.zc + zx) = decidedLevels s p zx zy
  counted : t.spl.zonesDecided = zy + 1

/-- What later steps leave of the split's levels and their count is what the decision rests on. -/
theorem RowDone.of_spl {s t u : State} {p : Snap} {zy : Nat} (h : RowDone s t p zy) (levels : u.spl.levels = t.spl.levels)
    (parity : u.spl.zoneParity = t.spl.zoneParity) (counted : u.spl.zonesDecided = t.spl.zonesDecided) : RowDone s u p zy :=
  ⟨fun zx hx => by rw [State.zoneNow, levels, parity]; exact h.levels zx hx, counted.trans h.counted⟩

section
variable (s : State) (p : Snap) (zy : Nat)

theorem rowLevels_frame : rowLevels s p zy =
    { s with spl := { s.spl with zonesDecided := zy + 1, levels := (rowLevels s p zy).spl.levels, filter := (rowLevels s p zy).spl.filter } } := by
  obtain ⟨frame, -, -⟩ := rowUpTo_each s p zy p.geom.zc
  unfold rowLevels
  generalize s.each (List.range p.geom.zc) (fun s zx => s.decideZone p zx zy) = t at frame
  rw [frame]
  rfl

theorem rowDone_rowLevels : RowDone s (rowLevels s p zy) p zy := by
  obtain ⟨-, levels, -⟩ := rowUpTo_each s p zy p.geom.zc
  exact ⟨levels, rfl⟩

theorem rowLevels_regs : (rowLevels s p zy).regs = s.regs := by rw [rowLevels_frame]

theorem rowLevels_ble : (rowLevels s p zy).ble = s.ble := by rw [rowLevels_frame]

/-- With the backlight off its levels go nowhere. -/
theorem rowGiven_off (off : s.domOn 32 = false) : ∃ f, rowGiven s p zy = withField (rowLevels s p zy) f := by
  have still : (rowLevels s p zy).domOn 32 = false := (domOn_of_reg (reg_congr (rowLevels_regs s p zy) _)).trans off
  unfold rowGiven handRow
  rw [if_neg (by simp [still])]
  exact fieldUpdate_eq _ p zy

theorem rowGiven_on (on : s.domOn 32 = true) : ∃ f, rowGiven s p zy =
    withField ((rowLevels s p zy).splitWrites p.geom.zc zy fun zx => (rowLevels s p zy).zoneNow (zy * p.geom.zc + zx)) f := by
  have still : (rowLevels s p zy).domOn 32 = true := (domOn_of_reg (reg_congr (rowLevels_regs s p zy) _)).trans on
  unfold rowGiven handRow
  rw [if_pos still]
  exact fieldUpdate_eq _ p zy

/-- With `SOURCE` at the host the row's levels are dropped and counted (R212). -/
theorem rowGiven_dropped (on : s.domOn 32 = true) (host : s.flag F.BLE_CFG_SOURCE = true) :
    ∃ f, rowGiven s p zy = withField ((rowLevels s p zy).count R.BLE_CNT_SPL_DROP (3 * p.geom.zc)) f := by
  obtain ⟨f, given⟩ := rowGiven_on s p zy on
  rw [splitWrites_dropped _ _ _ ((flag_congr (rowLevels_regs s p zy) _).trans host)] at given
  exact ⟨f, given⟩

/-- Else the backlight takes them (R119, R212). -/
theorem rowGiven_handed (on : s.domOn 32 = true) (split : s.flag F.BLE_CFG_SOURCE = false) : ∃ t f, rowGiven s p zy = withField t f
    ∧ RowHanded (rowLevels s p zy) t p.geom.zc zy fun zx => (rowLevels s p zy).zoneNow (zy * p.geom.zc + zx) := by
  obtain ⟨f, given⟩ := rowGiven_on s p zy on
  exact ⟨_, f, given, splitWrites_handed _ _ _ ((flag_congr (rowLevels_regs s p zy) _).trans split)⟩

/-- What every row keeps: of the split all but its levels, filter states, field and count, and of the registers all but the count of dropped
levels. -/
structure RowKept (s t : State) : Prop where
  swap : t.spl.swap = s.spl.swap
  zoneNo : t.spl.zoneNo = s.spl.zoneNo
  reg : ∀ a, a ≠ R.BLE_CNT_SPL_DROP → t.reg a = s.reg a

theorem rowGiven_spec : RowDone s (rowGiven s p zy) p zy ∧ RowKept s (rowGiven s p zy) := by
  have base := rowDone_rowLevels s p zy
  have swap : (rowLevels s p zy).spl.swap = s.spl.swap := by rw [rowLevels_frame]
  have zoneNo : (rowLevels s p zy).spl.zoneNo = s.spl.zoneNo := by rw [rowLevels_frame]
  have regs := rowLevels_regs s p zy
  cases on : s.domOn 32 with
  | false =>
    obtain ⟨f, given⟩ := rowGiven_off s p zy on
    rw [given]
    exact ⟨base.of_spl rfl rfl rfl, swap, zoneNo, fun a _ => reg_congr regs a⟩
  | true =>
    cases source : s.flag F.BLE_CFG_SOURCE with
    | true =>
      obtain ⟨f, given⟩ := rowGiven_dropped s p zy on source
      have spl := State.count_spl (rowLevels s p zy) R.BLE_CNT_SPL_DROP (3 * p.geom.zc)
      have reg (a : Nat) (ha : a ≠ R.BLE_CNT_SPL_DROP) := reg_count_ne (rowLevels s p zy) (3 * p.geom.zc) ha
      generalize (rowLevels s p zy).count R.BLE_CNT_SPL_DROP (3 * p.geom.zc) = t at given spl reg
      have done : RowDone s t p zy :=
        base.of_spl (congrArg SplState.levels spl) (congrArg SplState.zoneParity spl) (congrArg SplState.zonesDecided spl)
      rw [given]
      refine ⟨done.of_spl rfl rfl rfl, ?_, ?_, fun a ha => ?_⟩
      · exact (congrArg SplState.swap spl).trans swap
      · exact (congrArg SplState.zoneNo spl).trans zoneNo
      · exact (reg a ha).trans (reg_congr regs a)
    | false =>
      obtain ⟨t, f, given, ⟨frame, -, -, -⟩⟩ := rowGiven_handed s p zy on source
      rw [given, frame]
      exact ⟨base.of_spl rfl rfl rfl, swap, zoneNo, fun a _ => reg_congr regs a⟩

end

/-! ### The frame's last row (R119) -/

theorem splitFeeds_of_reg {s t : State} (power : t.reg (R.PWR_DOM 32) = s.reg (R.PWR_DOM 32)) (config : t.reg R.BLE_CFG = s.reg R.BLE_CFG) :
    t.splitFeeds = s.splitFeeds := by
  rw [State.splitFeeds, State.splitFeeds, domOn_of_reg power, flag_eq_of_get (f := F.BLE_CFG_SOURCE) (get_same_reg config)]

theorem mget_frameLevels (s : State) {n i : Nat} (h : i < n) : mget ⟨0, 0, 0⟩ (frameLevels s n) i = s.zoneNow i := by
  have read := mget_foldl_mset ⟨0, 0, 0⟩ id s.zoneNow (fun _ => True) (List.mem_range.2 h) trivial (fun _ _ _ same => same) []
  simpa [frameLevels] using read

/-- The bank holds the levels of the frame. -/
def bankNumbered (s : State) : State := { s with spl := { s.spl with swap := { s.spl.swap with no := s.spl.zoneNo } } }

theorem bankComplete_off {s : State} (off : s.splitFeeds = false) : s.bankComplete = s := by simp [State.bankComplete, off]

theorem bankComplete_deferred {s : State} (feeds : s.splitFeeds = true) (deferred : s.spl.swap.deferred = true) :
    s.bankComplete = (bankNumbered s).bankSwap := by
  simp [State.bankComplete, feeds, deferred, bankNumbered]

theorem bankComplete_waits {s : State} (feeds : s.splitFeeds = true) (direct : s.spl.swap.deferred = false) :
    s.bankComplete = { s with spl := { s.spl with swap := { s.spl.swap with no := s.spl.zoneNo, bankDone := true } } } := by
  simp [State.bankComplete, feeds, direct]

/-- The bank's completion leaves of the split all but the swap. -/
theorem bankComplete_spl (s : State) : s.bankComplete.spl = { s.spl with swap := s.bankComplete.spl.swap } := by
  cases feeds : s.splitFeeds with
  | false => rw [bankComplete_off feeds]
  | true =>
    cases deferred : s.spl.swap.deferred with
    | false => rw [bankComplete_waits feeds deferred]
    | true =>
      obtain ⟨-, spl, -, -, -⟩ := swapped_bankSwap (bankNumbered s)
      rw [bankComplete_deferred feeds deferred, spl]
      rfl

theorem captured_spl (s : State) (p : Snap) : (captured s p).spl = { s.spl with lastLevels := (captured s p).spl.lastLevels } := by
  have step := (fieldCapture_steps s p).1
  unfold captured withLast
  rw [FoldStep] at step
  generalize s.fieldCapture p = t at step ⊢
  rw [step]

theorem captured_levels (s : State) (p : Snap) {i : Nat} (h : i < p.geom.zc * p.geom.zr) :
    mget ⟨0, 0, 0⟩ (captured s p).spl.lastLevels i = (captured s p).zoneNow i := mget_frameLevels _ h

theorem captured_reg (s : State) (p : Snap) {a : Nat} (h : ¬ ConcealRegs a) : (captured s p).reg a = s.reg a :=
  (fieldCapture_steps s p).2.reg a h

end Sys2Proof.Laws
end

section
/-! The obligation about zone rows (R101, R104, R116, R119, R123, R212). -/

namespace Sys2Proof.Laws

open Sys2Proof Sys2Proof.Machine
open Sys2Proof.LinkLaws (ConcealRegs domOn_of_reg get_same_reg)

/-- A counter register adds what it counts, up to its largest value (R403). -/
theorem reg_count_add (s : State) (a n : Nat) : (s.count a n).reg a = min 0xFFFFFFFF (s.reg a + n) := by
  rw [State.count, reg_tallyTwin, reg_setReg_self]
  omega

/-! ### The levels that the modes give -/

/-- The zone (zx, zy) has been decided from s to u, with the level of each colour that the mode of the frame gives. -/
def ZoneShown (s u : State) (zy zx : Nat) : Prop :=
  let p := s.spl.zoneSnap
  let z := zy * p.geom.zc + zx
  u.spl.zonesDecided = zy + 1
    ∧ (s.splMode p = 2 → ∀ c, c < 3 → (u.zoneNow z).comp c = if p.zoneGain z c = 0 then 0 else p.get F.SPL_PEAK1_FIXED)
    ∧ (s.splMode p = 0 → ∀ c, c < 3 → (u.zoneNow z).comp c =
        (splFilter s.spl.seeding (p.zoneGain z c != 0) (s.zoneLambda p c zx zy) (p.get F.SPL_FILTER_ATTACK) (p.get F.SPL_FILTER_DECAY)
          (mget 0 s.spl.filter (4 * z + c))).2)

theorem RowDone.shown {s u : State} {zy zx : Nat} (h : RowDone s u s.spl.zoneSnap zy) (hx : zx < s.spl.zoneSnap.geom.zc) : ZoneShown s u zy zx := by
  obtain ⟨levels, counted⟩ := h
  refine ⟨counted, fun mode c hc => ?_, fun mode c hc => ?_⟩
  · rw [levels zx hx, decidedLevels, comp_of _ hc, decideLevel_fixed mode.ge]
  · rw [levels zx hx, decidedLevels, comp_of _ hc, decideLevel_local mode, zoneFilter_eq]

/-! ### The swap that is late (R119) -/

theorem swapLate_idle {s : State} (idle : s.spl.swap.bankDone = false) : s.swapLate = s := by simp [State.swapLate, idle]

theorem swapLate_late {s : State} (late : s.spl.swap.bankDone = true) (feeds : s.splitFeeds = true) :
    s.swapLate = (s.bankSwap.count R.SPL_CNT_BL_SWAP).raise 89 3 := by
  simp [State.swapLate, late, feeds]

/-- From s to t a late swap has been made, counted and raised. -/
structure SwappedLate (s t : State) : Prop where
  fe : t.fe = s.fe
  spl : t.spl = { s.spl with swap := {} }
  bank : t.bleBank = 1 - s.bleBank
  feeds : t.splitFeeds = s.splitFeeds
  counted : t.reg R.SPL_CNT_BL_SWAP = min 0xFFFFFFFF (s.reg R.SPL_CNT_BL_SWAP + 1)
  raised : ⟨89, 3⟩ ∈ t.occ

theorem swappedLate_swapLate {s : State} (late : s.spl.swap.bankDone = true) (feeds : s.splitFeeds = true) : SwappedLate s s.swapLate := by
  obtain ⟨fe, spl, bank, -, reg⟩ := swapped_bankSwap s
  rw [swapLate_late late feeds]
  generalize s.bankSwap = t at *
  have other {a : Nat} (h : a ≠ R.SPL_CNT_BL_SWAP) : ((t.count R.SPL_CNT_BL_SWAP).raise 89 3).reg a = t.reg a := reg_count_ne t 1 h
  exact {
    fe := by simpa using fe
    spl := by simpa using spl
    bank := (get_same_reg (other (by decide))).trans bank
    feeds := splitFeeds_of_reg ((other (by decide)).trans (reg _ (by decide) (by decide))) ((other (by decide)).trans (reg _ (by decide) (by decide)))
    counted := (reg_count_self t R.SPL_CNT_BL_SWAP).trans (by rw [reg _ (by decide) (by decide)])
    raised := List.mem_append_right _ (by simp) }

/-! ### The forms of ZONE_ROW_DECIDED -/

section
variable {s : State} {zy : Nat} (on : s.domOn 31 = true) (turn : zy = s.spl.zonesDecided) (due : s.zoneRowDue zy = true)
include on turn due

theorem zoneRowDecided_inner (idle : s.spl.swap.bankDone = false) (more : zy + 1 < s.spl.zoneSnap.geom.zr) :
    s.zoneRowDecided zy = rowGiven s s.spl.zoneSnap zy := by
  rw [zoneRowDecided_due on turn due (by omega), swapLate_idle idle, ite_self]
  exact if_pos more

theorem zoneRowDecided_last (idle : s.spl.swap.bankDone = false) (last : zy + 1 = s.spl.zoneSnap.geom.zr) :
    s.zoneRowDecided zy = (captured (rowGiven s s.spl.zoneSnap zy) s.spl.zoneSnap).bankComplete := by
  rw [zoneRowDecided_due on turn due (by omega), swapLate_idle idle, ite_self]
  exact if_neg (by omega)

theorem zoneRowDecided_late (first : zy = 0) (more : 1 < s.spl.zoneSnap.geom.zr) :
    s.zoneRowDecided zy = rowGiven s.swapLate s.spl.zoneSnap zy := by
  rw [zoneRowDecided_due on turn due (by omega), if_pos first]
  exact if_pos (by omega)

end

section
variable (s : State) (p : Snap) (zy : Nat)

theorem rowGiven_off_frame (off : s.domOn 32 = false) : rowGiven s p zy = { s with spl := { s.spl with
    zonesDecided := zy + 1, levels := (rowGiven s p zy).spl.levels, filter := (rowGiven s p zy).spl.filter, field := (rowGiven s p zy).spl.field } } := by
  obtain ⟨f, given⟩ := rowGiven_off s p zy off
  rw [given, rowLevels_frame]
  rfl

/-- With `SOURCE` at the host the backlight stays, and the row's levels are counted as dropped. -/
theorem rowGiven_dropped_shown (works : s.domOn 32 = true) (host : s.flag F.BLE_CFG_SOURCE = true) :
    let u := rowGiven s p zy
    u.ble = s.ble ∧ u.reg R.BLE_CNT_SPL_DROP = min 0xFFFFFFFF (s.reg R.BLE_CNT_SPL_DROP + 3 * p.geom.zc) ∧ OnlyRegs s u [R.BLE_CNT_SPL_DROP] := by
  obtain ⟨-, -, -, reg⟩ := rowGiven_spec s p zy
  obtain ⟨f, given⟩ := rowGiven_dropped s p zy works host
  refine ⟨?_, ?_, fun a ha => reg a (by simpa using ha)⟩
  · rw [given]
    exact (State.count_ble _ _ _).trans (rowLevels_ble s p zy)
  · rw [given]
    exact (reg_count_add _ _ _).trans (by rw [reg_congr (rowLevels_regs s p zy)])

/-- Else the backlight's inactive bank has the row's levels, and its active bank is as before. -/
theorem rowGiven_handed_shown (works : s.domOn 32 = true) (split : s.flag F.BLE_CFG_SOURCE = false) :
    let u := rowGiven s p zy
    u.occ = s.occ ∧ u.regs = s.regs ∧ u.spl.swap = s.spl.swap ∧ u.ble.rowsWritten = zy :: s.ble.rowsWritten
    ∧ (∀ zx c, zx < p.geom.zc → c < 3 → u.zoneLevel (1 - s.bleBank) (zy * p.geom.zc + zx) c = (u.zoneNow (zy * p.geom.zc + zx)).comp c % 65536)
    ∧ (zy * p.geom.zc + p.geom.zc ≤ 16384 → ∀ z c, z < 16384 → c < 4 → u.zoneLevel s.bleBank z c = s.zoneLevel s.bleBank z c) := by
  obtain ⟨t, f, given, frame, stored, kept, rows⟩ := rowGiven_handed s p zy works split
  have bank : (rowLevels s p zy).bleBank = s.bleBank := bleBank_congr (rowLevels_regs s p zy)
  have decided := (rowGiven_spec s p zy).1.levels
  have base := (rowDone_rowLevels s p zy).levels
  obtain ⟨occ, regs, swap⟩ : t.occ = s.occ ∧ t.regs = s.regs ∧ t.spl.swap = s.spl.swap := by
    rw [frame, rowLevels_frame]
    exact ⟨rfl, rfl, rfl⟩
  rw [bank] at stored kept
  rw [rowLevels_ble] at rows
  dsimp only
  refine ⟨by rw [given]; exact occ, by rw [given]; exact regs, by rw [given]; exact swap, by rw [given]; exact rows, fun zx c hx hc => ?_,
    fun small z c hz hc => ?_⟩
  · rw [decided zx hx, ← base zx hx, given]
    exact stored zx c hx hc
  · rw [given]
    refine (kept small z c hz hc).trans ?_
    rw [zoneLevel_eq, rowLevels_ble, zoneLevel_eq]

/-- After a late swap the row's levels go to the bank that was active before it. -/
theorem rowGiven_late_shown (late : s.spl.swap.bankDone = true) (feeds : s.splitFeeds = true) :
    let u := rowGiven s.swapLate p zy
    RowDone s u p zy ∧ u.spl.swap = {} ∧ u.bleBank = 1 - s.bleBank ∧ ⟨89, 3⟩ ∈ u.occ
    ∧ u.reg R.SPL_CNT_BL_SWAP = min 0xFFFFFFFF (s.reg R.SPL_CNT_BL_SWAP + 1)
    ∧ ∀ zx c, zx < p.geom.zc → c < 3 → u.zoneLevel s.bleBank (zy * p.geom.zc + zx) c = (u.zoneNow (zy * p.geom.zc + zx)).comp c % 65536 := by
  obtain ⟨fe, spl, bank, stays, counted, raised⟩ := swappedLate_swapLate late feeds
  generalize s.swapLate = t at *
  obtain ⟨works, split⟩ : t.domOn 32 = true ∧ t.flag F.BLE_CFG_SOURCE = false := by
    simpa [State.splitFeeds] using stays.trans feeds
  obtain ⟨occ, regs, swap, -, stored, -⟩ := rowGiven_handed_shown t p zy works split
  obtain ⟨levels, decided⟩ := (rowGiven_spec t p zy).1
  have inactive : 1 - t.bleBank = s.bleBank := by
    have le := bleBank_le s
    omega
  rw [inactive] at stored
  exact ⟨⟨fun zx hx => (levels zx hx).trans (decidedLevels_swapped fe spl), decided⟩, by rw [swap, spl], (bleBank_congr regs).trans bank,
    by rw [occ]; exact raised, (reg_congr regs _).trans counted, stored⟩

end

/-- What the frame's last row leaves (R119). -/
theorem bankComplete_shown (s : State) (p : Snap) (zy : Nat) :
    let u := (captured (rowGiven s p zy) p).bankComplete
    RowDone s u p zy ∧ (∀ i, i < p.geom.zc * p.geom.zr → mget ⟨0, 0, 0⟩ u.spl.lastLevels i = u.zoneNow i)
      ∧ (s.splitFeeds = false → u.spl.swap = s.spl.swap)
      ∧ (s.splitFeeds = true → s.spl.swap.deferred = false → u.spl.swap.bankDone = true ∧ u.spl.swap.no = s.spl.zoneNo ∧ u.bleBank = s.bleBank)
      ∧ (s.splitFeeds = true → s.spl.swap.deferred = true → u.spl.swap = {} ∧ u.bleBank = 1 - s.bleBank
          ∧ u.reg R.BLE_CNT_SWAP = min 0xFFFFFFFF (s.reg R.BLE_CNT_SWAP + 1)) := by
  obtain ⟨done, swap, zoneNo, reg⟩ := rowGiven_spec s p zy
  have spl := captured_spl (rowGiven s p zy) p
  have last (i : Nat) (h : i < p.geom.zc * p.geom.zr) := captured_levels (rowGiven s p zy) p h
  have regs {a : Nat} (drop : a ≠ R.BLE_CNT_SPL_DROP) (folds : ¬ ConcealRegs a) : (captured (rowGiven s p zy) p).reg a = s.reg a :=
    (captured_reg _ p folds).trans (reg a drop)
  have done : RowDone s (captured (rowGiven s p zy) p) p zy := done.of_spl (by rw [spl]) (by rw [spl]) (by rw [spl])
  have swap : (captured (rowGiven s p zy) p).spl.swap = s.spl.swap := by rw [spl]; exact swap
  have zoneNo : (captured (rowGiven s p zy) p).spl.zoneNo = s.spl.zoneNo := by rw [spl]; exact zoneNo
  generalize captured (rowGiven s p zy) p = t at *
  have bank : t.bleBank = s.bleBank := get_same_reg (regs (by decide) (by unfold ConcealRegs; decide))
  have feeds : t.splitFeeds = s.splitFeeds :=
    splitFeeds_of_reg (regs (by decide) (by unfold ConcealRegs; decide)) (regs (by decide) (by unfold ConcealRegs; decide))
  have kept := bankComplete_spl t
  refine ⟨done.of_spl (by rw [kept]) (by rw [kept]) (by rw [kept]), fun i hi => ?_, fun off => ?_, fun works direct => ?_, fun works deferred => ?_⟩
  · rw [State.zoneNow, kept]
    exact last i hi
  · rw [bankComplete_off (feeds.trans off), swap]
  · rw [bankComplete_waits (feeds.trans works) (by rw [swap]; exact direct)]
    exact ⟨rfl, zoneNo, bank⟩
  · obtain ⟨-, swapped, banks, counted, -⟩ := swapped_bankSwap (bankNumbered t)
    rw [bankComplete_deferred (feeds.trans works) (by rw [swap]; exact deferred)]
    refine ⟨by rw [swapped], banks.trans (congrArg (1 - ·) bank), counted.trans ?_⟩
    rw [show (bankNumbered t).reg R.BLE_CNT_SWAP = s.reg R.BLE_CNT_SWAP from regs (by decide) (by unfold ConcealRegs; decide)]

/-! ### The obligation -/

/-- The zones of a row lie in the zone store. -/
theorem row_fits {zy zc zr : Nat} (row : zy < zr) (small : zc * zr ≤ 16384) : zy * zc + zc ≤ 16384 :=
  calc zy * zc + zc = zc * (zy + 1) := by ring
    _ ≤ zc * zr := Nat.mul_le_mul_left _ row
    _ ≤ 16384 := small

/-- Settles O37: the row's levels are decided zone by zone; then come the hand-over, and at the frame's last row the bank's completion. -/
theorem zoneRows : Obligations.ZoneRows := by
  intro s zy zx p g z decided
  have ends : Ends (.zoneRowDecided zy) s ((begun s).zoneRowDecided zy) := ends_zoneRowDecided zy s rfl
  refine ⟨fun on turn due hx row small => ?_, fun waits => ?_⟩
  · have shown {u : State} (h : RowDone (begun s) u p zy) : decided u := RowDone.shown (s := begun s) h hx
    have done := (rowGiven_spec (begun s) p zy).1
    refine ⟨fun idle more => ?_, fun idle last => ?_, fun late first more feeds => ?_⟩
    · rw [zoneRowDecided_inner (s := begun s) on turn due idle more] at ends
      refine ⟨fun off => ?_, fun works split => ?_, fun works host => ?_⟩
      · have frame := rowGiven_off_frame (begun s) p zy off
        exact ⟨_, ends, shown done, congrArg State.occ frame, frame⟩
      · obtain ⟨occ, regs, -, rows, stored, kept⟩ := rowGiven_handed_shown (begun s) p zy works split
        exact ⟨_, ends, shown done, occ, regs, fun c hc => stored zx c hx hc, kept (row_fits row small), rows⟩
      · exact ⟨_, ends, shown done, rowGiven_dropped_shown (begun s) p zy works host⟩
    · rw [zoneRowDecided_last (s := begun s) on turn due idle last] at ends
      obtain ⟨done, complete⟩ := bankComplete_shown (begun s) p zy
      exact ⟨_, ends, shown done, complete⟩
    · rw [zoneRowDecided_late (s := begun s) on turn due first more] at ends
      obtain ⟨done, swap, bank, raised, counted, stored⟩ := rowGiven_late_shown (begun s) p zy late feeds
      exact ⟨_, ends, shown done, swap, bank, raised, counted, fun c hc => stored zx c hx hc⟩
  · rwa [zoneRowDecided_waits (s := begun s) waits] at ends

end Sys2Proof.Laws
end

section
/-! An element of the front layer that is not its frame's last: in overdrive where no stored history is read (R150, R151, R153, R164), and in
dither (R166, R186). -/

namespace Sys2Proof.Laws

open Sys2Proof Sys2Proof.Machine

/-- An overdriven code is stored. -/
def odrCodePut (s : State) (key code : Nat) : State := { s with odr := { s.odr with codes := mset 0 s.odr.codes key code } }

/-- The history value of a front element is taken for its frame's stream (R151). -/
def frontSampled (s : State) (key h : Nat) : State :=
  { s with odr := { s.odr with front := { s.odr.front with samples := mset 0 s.odr.front.samples key h } } }

/-- The driver value of an element is put in the exit buffer, and its saturation is counted (R166). -/
def ditheredPut (s : State) (key : Nat) (r : Nat × Bool) : State :=
  { s with dth := { s.dth with values := mput s.dth.values key r.1, sat := s.dth.sat + bit r.2 } }

section
variable {s : State} {x y plane : Nat}

/-! ### OVERDRIVE -/

/-- A layer that is off passes its codes (R151). -/
theorem overdrive_off {ecc : EccMap} {mis : Bool} (on : s.domOn 31 = true) (front : plane < 3)
    (hx : x < (s.odr.snap.geom.layer false).1) (hy : y < (s.odr.snap.geom.layer false).2.1) (off : s.odr.snap.odrOn false = false) :
    s.overdrive x y plane ecc mis = odrCodePut s (elemKey plane x y) (mget 0 s.pcm.codeB (elemKey plane x y)) := by
  unfold State.overdrive
  simp only [isRear_of_lt front, on, not_le.2 hx, not_le.2 hy, off, Bool.not_true, Bool.not_false, Bool.or_self, decide_false,
    Bool.false_eq_true, if_false, if_true]
  rfl

/-- No stored history is read before frame 2 (R164), so nothing is waited for. -/
theorem odrWaits_early {k : Nat} (early : s.odr.front.frame < 2) : s.odrWaits false k x y = false := by
  simp [State.odrWaits, State.odrHistory, early]

/-- On frame 1 both history values are the element's own (R164). -/
theorem odrHistories_early {k comp h : Nat} {ecc : EccMap} (early : s.odr.front.frame < 2) :
    s.odrHistories false k x y comp h ecc = (h, h, s) := by
  simp [State.odrHistories, State.odrHistory, early]

theorem overdrive_early {ecc : EccMap} (on : s.domOn 31 = true) (front : plane < 3)
    (hx : x < (s.odr.snap.geom.layer false).1) (hy : y < (s.odr.snap.geom.layer false).2.1)
    (inside : ¬ (x + 1 = (s.odr.snap.geom.layer false).1 ∧ y + 1 = (s.odr.snap.geom.layer false).2.1))
    (works : s.odr.snap.odrOn false = true) (edits : s.bypassed (bandOf (s.odr.snap.geom.layer false).1 x) = false)
    (early : s.odr.front.frame < 2) :
    let key := elemKey plane x y
    let c := mget 0 s.pcm.codeB key
    s.overdrive x y plane ecc false =
      odrCodePut (frontSampled s key (odrHist c)) key (s.odrOutput plane x y c (odrHist c) (odrHist c)) := by
  have last : ¬ (x + 1 = (s.odr.snap.geom.layer false).1 ∧ y + 1 = (s.odr.snap.geom.layer false).2.1 ∧ 2 ≤ plane) :=
    fun ⟨right, bottom, _⟩ => inside ⟨right, bottom⟩
  unfold State.overdrive
  simp only [isRear_of_lt front, on, not_le.2 hx, not_le.2 hy, works, edits, odrWaits_early early, odrHistories_early early, last,
    Bool.not_true, Bool.or_self, decide_false, Bool.false_eq_true, if_false]
  rfl

/-! ### DITHER -/

/-- The code that the dither of a front element takes: the overdriven one, or that of a black frame (Table 7.5). -/
theorem dthInput_front (front : plane < 3) (key : Nat) : s.dthInput plane key =
    if s.tg.front.black then splResponse (s.dth.snap.response plane) 0 else mget 0 s.odr.codes key := by
  simp only [State.dthInput, front.ne, if_false]

/-- The driver value of a front element, and whether it saturated (R166). -/
def frontDithered (s : State) (x y plane : Nat) : Nat × Bool :=
  let p := s.dth.snap
  ditherCode (p.driverBits false) (p.get F.DTH_CFG_FRONT_MODE) (s.get F.DTH_STATUS_PHASE)
    (fun ty tx => tblByte p.tbl (0x2D0000 + 64 * ty + tx)) (x + p.get (F.DTH_PLANE_OFS_OX plane)) (y + p.get (F.DTH_PLANE_OFS_OY plane))
    (s.dthInput plane (elemKey plane x y))

theorem dither_inside (on : s.domOn 31 = true) (front : plane < 3)
    (hx : x < (s.dth.snap.geom.layer false).1) (hy : y < (s.dth.snap.geom.layer false).2.1)
    (inside : ¬ (x + 1 = (s.dth.snap.geom.layer false).1 ∧ y + 1 = (s.dth.snap.geom.layer false).2.1)) :
    s.dither x y plane = ditheredPut s (elemKey plane x y) (frontDithered s x y plane) := by
  have last : ¬ (x + 1 = (s.dth.snap.geom.layer false).1 ∧ y + 1 = (s.dth.snap.geom.layer false).2.1 ∧ 2 ≤ plane) :=
    fun ⟨right, bottom, _⟩ => inside ⟨right, bottom⟩
  unfold State.dither
  simp only [isRear_of_lt front, on, not_le.2 hx, not_le.2 hy, last, Bool.not_true, Bool.false_and, Bool.or_self, decide_false,
    Bool.false_eq_true, if_false]
  rfl

end

/-! ### The obligation -/

/-- Settles O40: each of the three forms stores one code or value, and the first frame's history is the element's own. -/
theorem overdriveAndDither : Obligations.OverdriveAndDither := by
  intro s x y plane ecc mis on front key p c d r
  have wf : decide (plane < 4) = true := decide_eq_true (by omega)
  have endsO (m : Bool) : Ends (.overdrive x y plane ecc m) s ((begun s).overdrive x y plane ecc m) := ends_overdrive x y plane ecc m s wf
  have endsD : Ends (.dither x y plane) s ((begun s).dither x y plane) := ends_dither x y plane s wf
  refine ⟨fun hx hy inside => ⟨fun off => ?_, fun works edits early => ?_⟩, fun hx hy inside => ?_⟩
  · have ends := endsO mis
    rw [overdrive_off (s := begun s) on front hx hy off] at ends
    exact ⟨_, ends, mget_mset_self _ _ _ _, fun j hj => mget_mset_ne _ _ _ hj, rfl⟩
  · have ends := endsO false
    rw [overdrive_early (s := begun s) on front hx hy inside works edits early] at ends
    exact ⟨_, ends, mget_mset_self _ _ _ _, mget_mset_self _ _ _ _, fun j hj => mget_mset_ne _ _ _ hj, rfl⟩
  · have dithered : frontDithered (begun s) x y plane = r := by
      rw [frontDithered, dthInput_front front]
      rfl
    rw [dither_inside (s := begun s) on front hx hy inside, dithered] at endsD
    exact ⟨_, endsD, mfind_mput_self _ _ _, rfl, fun j hj => mfind_mput_ne _ _ hj, rfl⟩

end Sys2Proof.Laws
end

section
/-! A conversion of a thermistor's input that is not excluded (R155). -/

namespace Sys2Proof.Laws

open Sys2Proof Sys2Proof.Machine

/-- The record of a thermistor's input is stored. -/
def inputPut (s : State) (k : Nat) (t : Thermistor) : State :=
  { s with odr := { s.odr with inputs := mset ({} : Thermistor) s.odr.inputs k t } }

theorem input_inputPut (s : State) (k : Nat) (t : Thermistor) : mget ({} : Thermistor) (inputPut s k t).odr.inputs k = t :=
  mget_mset_self _ _ _ _

/-- The temperature of a mean code through the curve of the table window, in the 16 bits of `TEMP` (R155). -/
def curveTemp (s : State) (a : Nat) : Nat := signedSat 16 (odrCurve (fun i => signed 16 (tblHalf s.tbl (0x2C1000 + 2 * i))) a)

/-- A valid reading is shown: the mean code and its temperature. -/
def readingShown (s : State) (k a : Nat) : State :=
  ((s.put (F.ODR_TH_READ_ADC k) a).put (F.ODR_TH_READ_TEMP k) (curveTemp s a)).putB (F.ODR_TH_READ_VALID k) true

/-- An input is excluded: its reading is invalid, and the exclusion is counted and reported. -/
def exclusionShown (s : State) (k cls : Nat) : State := ((s.putB (F.ODR_TH_READ_VALID k) false).count R.ODR_CNT_TH_EXCL).raise 108 cls

/-! ### What the readings show -/

section
variable (s : State) (k a cls : Nat)

theorem flag_putB_valid (v : Bool) : (s.putB (F.ODR_TH_READ_VALID k) v).flag (F.ODR_TH_READ_VALID k) = v :=
  flag_putB_self _ _ _ (show 31 ≤ 31 by decide) (show 31 < 32 by decide)

/-- The fields below `VALID` stay as they are when it is set. -/
theorem get_putB_valid (v : Bool) {f : FRef} (h : f.lo ≤ f.hi) (below : f.hi < 31) : (s.putB (F.ODR_TH_READ_VALID k) v).get f = s.get f :=
  get_put_disjoint _ _ _ _ (show 31 ≤ 31 by decide) h (by omega) (.inr below)

theorem temp_readingShown : (readingShown s k a).get (F.ODR_TH_READ_TEMP k) = curveTemp s a % 65536 :=
  (get_putB_valid _ k true (show 0 ≤ 15 by decide) (show 15 < 31 by decide)).trans
    (get_put_self _ _ _ (show 0 ≤ 15 by decide) (show 15 < 32 by decide))

theorem adc_readingShown : (readingShown s k a).get (F.ODR_TH_READ_ADC k) = a % 4096 :=
  calc (readingShown s k a).get (F.ODR_TH_READ_ADC k)
      = ((s.put (F.ODR_TH_READ_ADC k) a).put (F.ODR_TH_READ_TEMP k) (curveTemp s a)).get (F.ODR_TH_READ_ADC k) :=
        get_putB_valid _ k true (show 16 ≤ 27 by decide) (show 27 < 31 by decide)
    _ = (s.put (F.ODR_TH_READ_ADC k) a).get (F.ODR_TH_READ_ADC k) :=
        get_put_disjoint _ _ _ _ (show 0 ≤ 15 by decide) (show 16 ≤ 27 by decide) (show 27 < 32 by decide) (.inl (show 15 < 16 by decide))
    _ = a % 4096 := get_put_self _ _ _ (show 16 ≤ 27 by decide) (show 27 < 32 by decide)

theorem onlyRegs_readingShown : OnlyRegs s (readingShown s k a) [R.ODR_TH_READ k] := fun b hb => by
  have ne : b ≠ R.ODR_TH_READ k := by simpa using hb
  calc (readingShown s k a).reg b
      = ((s.put (F.ODR_TH_READ_ADC k) a).put (F.ODR_TH_READ_TEMP k) (curveTemp s a)).reg b := reg_putB_ne _ _ ne
    _ = (s.put (F.ODR_TH_READ_ADC k) a).reg b := reg_put_ne _ _ ne
    _ = s.reg b := reg_put_ne _ _ ne

/-- The readings of the sixteen inputs lie past the counter of exclusions (Table 6.4). -/
theorem th_read_ne_excl : R.ODR_TH_READ k ≠ R.ODR_CNT_TH_EXCL := by
  unfold R.ODR_TH_READ R.ODR_CNT_TH_EXCL
  omega

theorem reg_exclusionShown (b : Nat) : (exclusionShown s k cls).reg b =
    ((s.putB (F.ODR_TH_READ_VALID k) false).count R.ODR_CNT_TH_EXCL).reg b := reg_raise _ _ _ b

theorem invalid_exclusionShown : (exclusionShown s k cls).flag (F.ODR_TH_READ_VALID k) = false := by
  rw [exclusionShown, flag_congr (State.raise_regs _ _ _), flag_eq_of_get (get_count_ne _ _ (th_read_ne_excl k))]
  exact flag_putB_valid s k false

theorem excl_exclusionShown : (exclusionShown s k cls).reg R.ODR_CNT_TH_EXCL = min 0xFFFFFFFF (s.reg R.ODR_CNT_TH_EXCL + 1) := by
  rw [reg_exclusionShown, reg_count_self, reg_putB_ne _ _ (th_read_ne_excl k).symm]

theorem occ_exclusionShown : (exclusionShown s k cls).occ = s.occ ++ [⟨108, cls⟩] := by
  rw [exclusionShown, State.raise, State.count_occ, State.putB_occ]

theorem odr_exclusionShown : (exclusionShown s k cls).odr = s.odr := by
  rw [exclusionShown, State.raise_odr, State.count_odr, State.putB_odr]

theorem onlyRegs_exclusionShown : OnlyRegs s (exclusionShown s k cls) [R.ODR_TH_READ k, R.ODR_CNT_TH_EXCL] := fun b hb => by
  obtain ⟨read, excl⟩ : b ≠ R.ODR_TH_READ k ∧ b ≠ R.ODR_CNT_TH_EXCL := by simpa using hb
  rw [reg_exclusionShown, reg_count_ne _ _ excl, reg_putB_ne _ _ read]

end

/-! ### THERMISTOR_CONVERSION -/

section
variable {s : State} {k code : Nat}

theorem thermistor_inside (on : s.domOn 31 = true) (lo : s.get F.ODR_TH_LIMITS_LO ≤ code) (hi : code ≤ s.get F.ODR_TH_LIMITS_HI)
    (valid : (mget ({} : Thermistor) s.odr.inputs k).excluded = false) :
    let t := mget ({} : Thermistor) s.odr.inputs k
    let codes := (code :: t.codes).take 16
    s.thermistor k code = readingShown (inputPut s k ⟨codes, false, min 16 (t.good + 1)⟩) k (odrMean codes) := by
  unfold State.thermistor
  simp only [on, lo, hi, valid, decide_true, Bool.and_self, Bool.not_true, Bool.false_and, Bool.false_eq_true, if_false, if_true, bne_self_eq_false,
    State.countIf, State.raiseIf]
  rfl

/-- The event tells by its class whether every mapped input is now excluded (R155, R172). -/
theorem thermistor_outside (on : s.domOn 31 = true) (outside : code < s.get F.ODR_TH_LIMITS_LO ∨ s.get F.ODR_TH_LIMITS_HI < code)
    (valid : (mget ({} : Thermistor) s.odr.inputs k).excluded = false) :
    ∃ cls, (cls = 2 ∨ cls = 3) ∧ s.thermistor k code =
      exclusionShown (inputPut s k ⟨(mget ({} : Thermistor) s.odr.inputs k).codes, true, 0⟩) k cls := by
  have beyond : (decide (s.get F.ODR_TH_LIMITS_LO ≤ code) && decide (code ≤ s.get F.ODR_TH_LIMITS_HI)) = false := by
    simp only [Bool.and_eq_false_iff, decide_eq_false_iff_not]
    omega
  unfold State.thermistor
  simp only [on, beyond, valid, Bool.not_true, Bool.not_false, Bool.and_self, Bool.true_and, Bool.false_eq_true, if_false, if_true,
    Bool.bne_false, State.countIf, State.raiseIf]
  exact ⟨_, (ite_eq_or_eq _ _ _).symm, rfl⟩

end

/-! ### The obligation -/

/-- Settles O41: a code within the limits shows the new mean as a valid reading, one outside them excludes the input. -/
theorem thermistorConversions : Obligations.ThermistorConversions := by
  intro s k code hk hc on t
  have wf : (decide (k < 16) && decide (code < 4096)) = true := by simp [hk, hc]
  have ends : Ends (.thermistorConversion k code) s ((begun s).thermistor k code) := ends_thermistorConversion k code s wf
  refine ⟨fun lo hi valid => ?_, fun outside valid => ?_⟩
  · rw [thermistor_inside (s := begun s) on lo hi valid] at ends
    exact ⟨_, ends, input_inputPut (begun s) k _, flag_putB_valid _ k true, adc_readingShown _ k _, temp_readingShown _ k _, rfl,
      onlyRegs_readingShown _ k _, rfl⟩
  · obtain ⟨cls, either, effect⟩ := thermistor_outside (s := begun s) on outside valid
    rw [effect] at ends
    refine ⟨_, cls, ends, ?_, invalid_exclusionShown _ k cls, excl_exclusionShown _ k cls, occ_exclusionShown _ k cls, either,
      onlyRegs_exclusionShown _ k cls⟩
    rw [odr_exclusionShown]
    exact input_inputPut (begun s) k _

end Sys2Proof.Laws
end

section
/-! The frame rules of chapter 7's proofs: from one state to the next, which registers an operation may write, and that the frames
in progress, the panel and the time stay as they are. -/

namespace Sys2Proof.TgLaws

open Sys2Proof Sys2Proof.Machine
open Sys2Proof.Laws hiding taken
open Sys2Proof.LinkLaws (BackFrame backFrame_backAll backFrame_backSend backFrame_sendCredit)

/-! ### Steps of the other engines -/

/-- From s to t an engine outside chapter 7 works: only registers of W change, events are only added, and the generators, the panel
and the time stay. -/
structure EngineStep (W : Nat → Prop) (s t : State) : Prop where
  reg : ∀ a, ¬ W a → t.reg a = s.reg a
  tg : t.tg = s.tg
  now : t.now = s.now
  occ : s.occ <+: t.occ

/-- The registers outside the generators' block (Table 7.8). -/
abbrev OffTg (a : Nat) : Prop := a < 0x1C000 ∨ 0x20000 ≤ a

/-- Those that hold no note of `BL_SYNC_IN` either. -/
abbrev OffSync (a : Nat) : Prop := OffTg a ∧ a ≠ R.BLE_STATUS

section
variable {W : Nat → Prop} {s t u : State}

namespace EngineStep

theorem refl (s : State) : EngineStep W s s := ⟨fun _ _ => rfl, rfl, rfl, List.prefix_refl _⟩

theorem trans (h : EngineStep W s t) (k : EngineStep W t u) : EngineStep W s u where
  reg a ha := (k.reg a ha).trans (h.reg a ha)
  tg := k.tg.trans h.tg
  now := k.now.trans h.now
  occ := h.occ.trans k.occ

theorem mono {V : Nat → Prop} (sub : ∀ a, V a → W a) (h : EngineStep V s t) : EngineStep W s t :=
  { h with reg := fun a ha => h.reg a fun v => ha (sub a v) }

theorem ite {c : Prop} [Decidable c] (h : EngineStep W s t) (k : EngineStep W s u) : EngineStep W s (if c then t else u) := by
  split
  · exact h
  · exact k

/-- A step that changes none of the four. -/
theorem of_same (regs : t.regs = s.regs) (tg : t.tg = s.tg) (now : t.now = s.now) (occ : t.occ = s.occ) : EngineStep W s t :=
  ⟨fun a _ => reg_congr regs a, tg, now, occ ▸ List.prefix_refl _⟩

theorem of_back (h : BackFrame s t) : EngineStep W s t := by
  rw [BackFrame] at h
  rw [h]
  exact of_same rfl rfl rfl rfl

/-- A fold whose every step is one of the engine's. -/
theorem foldl {α β : Type} (proj : β → State) {f : β → α → β} {l : List α} (h : ∀ b, ∀ x ∈ l, EngineStep W (proj b) (proj (f b x))) :
    ∀ b : β, EngineStep W (proj b) (proj (l.foldl f b)) := by
  induction l with
  | nil => exact fun b => refl _
  | cons x l ih => exact fun b => (h b x (by simp)).trans (ih (fun b y hy => h b y (by simp [hy])) _)

/-! The operations on registers and events, each after the steps so far. -/

section
variable (h : EngineStep W s t)
include h

theorem each {α : Type} {f : State → α → State} {l : List α} (step : ∀ s, ∀ x ∈ l, EngineStep W s (f s x)) : EngineStep W s (t.each l f) :=
  h.trans (foldl id step t)

theorem setReg {a : Nat} (v : Nat) (mem : W a) : EngineStep W s (t.setReg a v) :=
  h.trans ⟨fun _ hb => reg_setReg_ne t v fun e => hb (e ▸ mem), rfl, rfl, List.prefix_refl _⟩

theorem put {f : FRef} (v : Nat) (mem : W f.addr) : EngineStep W s (t.put f v) := h.setReg _ mem

theorem putB {f : FRef} (b : Bool) (mem : W f.addr) : EngineStep W s (t.putB f b) := h.put _ mem

theorem tally (o n : Nat) : EngineStep W s (t.tally o n) := h.trans (of_same rfl rfl rfl rfl)

theorem count {a : Nat} (n : Nat) (mem : W a) : EngineStep W s (t.count a n) :=
  (h.setReg (min 0xFFFFFFFF (t.reg a + n)) mem).trans (of_same (by simp [State.count]) (by simp [State.count]) (by simp [State.count]) (by simp [State.count]))

theorem countIf {a : Nat} (b : Bool) (mem : W a) : EngineStep W s (t.countIf b a) := by
  cases b
  · exact h
  · exact h.count 1 mem

theorem raise (k c : Nat) : EngineStep W s (t.raise k c) := h.trans ⟨fun _ _ => rfl, rfl, rfl, List.prefix_append _ _⟩

theorem raiseIf (b : Bool) (k c : Nat) : EngineStep W s (t.raiseIf b k c) := by
  cases b
  · exact h
  · exact h.raise k c

end

theorem run (h : EngineStep W s t) (n : Nat) : t.run n = s.run n := by rw [State.run, State.run, h.tg]

theorem get (h : EngineStep W s t) {f : FRef} (kept : ¬ W f.addr) : t.get f = s.get f := by rw [State.get, State.get, h.reg _ kept]

theorem mem_occ (h : EngineStep W s t) {o : Occ} (mem : o ∈ s.occ) : o ∈ t.occ := h.occ.subset mem

end EngineStep

end

/-! ### Steps in which the frames in progress go on -/

/-- What a frame in progress shows of itself stays. -/
structure SameFrame (r q : TgRun) : Prop where
  on : q.on = r.on
  line : q.line = r.line
  frameStart : q.frameStart = r.frameStart
  lineStart : q.lineStart = r.lineStart

theorem SameFrame.refl (r : TgRun) : SameFrame r r := ⟨rfl, rfl, rfl, rfl⟩

theorem SameFrame.trans {r q p : TgRun} (h : SameFrame r q) (k : SameFrame q p) : SameFrame r p :=
  ⟨k.on.trans h.on, k.line.trans h.line, k.frameStart.trans h.frameStart, k.lineStart.trans h.lineStart⟩

/-- From s to t only registers of W change, and the frames in progress and the time stay. -/
structure FrameStep (W : Nat → Prop) (s t : State) : Prop where
  reg : ∀ a, ¬ W a → t.reg a = s.reg a
  run : ∀ n, SameFrame (s.run n) (t.run n)
  now : t.now = s.now

/-- The registers outside those of the four generators. -/
abbrev OffGen (a : Nat) : Prop := a < 0x1C000 ∨ 0x1D000 ≤ a

/-- The registers that a frame boundary may change besides the frame number: not the generators' `CFG`, `FRAME_NO` and `CNT_RELOCK`. -/
def Passing (a : Nat) : Prop := ∀ n, n < 4 → a ≠ R.TG_CFG n ∧ a ≠ R.TG_FRAME_NO n ∧ a ≠ R.TG_CNT_RELOCK n

/-- Those that hold no note of `BL_SYNC_IN` either. -/
def PassingSync (a : Nat) : Prop := Passing a ∧ a ≠ R.BLE_STATUS

theorem offGen_of_offTg (a : Nat) (h : OffTg a) : OffGen a := by unfold OffTg OffGen at *; omega

theorem passing_of_offGen (a : Nat) (h : OffGen a) : Passing a := by
  intro n hn
  unfold OffGen at h
  simp only [R.TG_CFG, R.TG_FRAME_NO, R.TG_CNT_RELOCK]
  omega

theorem passing_of_offTg (a : Nat) (h : OffTg a) : Passing a := passing_of_offGen a (offGen_of_offTg a h)

theorem offTg_of_offSync (a : Nat) (h : OffSync a) : OffTg a := h.1

theorem passingSync_of_offSync (a : Nat) (h : OffSync a) : PassingSync a := ⟨passing_of_offTg a h.1, h.2⟩

theorem passing_of_passingSync (a : Nat) (h : PassingSync a) : Passing a := h.1

section
variable {W : Nat → Prop} {s t u : State}

@[simp] theorem run_setRun_self (s : State) (n : Nat) (r : TgRun) : (s.setRun n r).run n = r := mget_mset_self _ _ _ _

theorem run_setRun_ne (s : State) {m n : Nat} (r : TgRun) (h : m ≠ n) : (s.setRun n r).run m = s.run m := mget_mset_ne _ _ _ h

namespace FrameStep

theorem refl (s : State) : FrameStep W s s := ⟨fun _ _ => rfl, fun _ => .refl _, rfl⟩

theorem trans (h : FrameStep W s t) (k : FrameStep W t u) : FrameStep W s u where
  reg a ha := (k.reg a ha).trans (h.reg a ha)
  run n := (h.run n).trans (k.run n)
  now := k.now.trans h.now

theorem mono {V : Nat → Prop} (sub : ∀ a, V a → W a) (h : FrameStep V s t) : FrameStep W s t :=
  { h with reg := fun a ha => h.reg a fun v => ha (sub a v) }

theorem ite {c : Prop} [Decidable c] (h : FrameStep W s t) (k : FrameStep W s u) : FrameStep W s (if c then t else u) := by
  split
  · exact h
  · exact k

theorem of_engine (h : EngineStep W s t) : FrameStep W s t := ⟨h.reg, fun n => h.run n ▸ .refl _, h.now⟩

/-- A step that changes neither the registers, nor the generators, nor the time. -/
theorem of_same (regs : t.regs = s.regs) (runs : t.tg.runs = s.tg.runs) (now : t.now = s.now) : FrameStep W s t :=
  ⟨fun a _ => reg_congr regs a, fun n => by rw [show t.run n = s.run n by rw [State.run, State.run, runs]]; exact .refl _, now⟩

theorem of_sameBut (h : SameBut s t) : FrameStep W s t := by
  rw [SameBut] at h
  rw [h]
  exact of_same rfl rfl rfl

theorem of_each {α : Type} {f : State → α → State} {l : List α} (step : ∀ s, ∀ x ∈ l, FrameStep W s (f s x)) :
    ∀ s : State, FrameStep W s (s.each l f) := by
  induction l with
  | nil => exact fun s => refl s
  | cons x l ih => exact fun s => (step s x (by simp)).trans (ih (fun s y hy => step s y (by simp [hy])) _)

section
variable (h : FrameStep W s t)
include h

theorem engine (k : EngineStep W t u) : FrameStep W s u := h.trans (of_engine k)

theorem each {α : Type} {f : State → α → State} {l : List α} (step : ∀ s, ∀ x ∈ l, FrameStep W s (f s x)) : FrameStep W s (t.each l f) :=
  h.trans (of_each step t)

theorem setReg {a : Nat} (v : Nat) (mem : W a) : FrameStep W s (t.setReg a v) := h.engine ((EngineStep.refl t).setReg v mem)

theorem put {f : FRef} (v : Nat) (mem : W f.addr) : FrameStep W s (t.put f v) := h.engine ((EngineStep.refl t).put v mem)

theorem setRun {n : Nat} {r : TgRun} (same : SameFrame (t.run n) r) : FrameStep W s (t.setRun n r) := by
  refine h.trans ⟨fun _ _ => rfl, fun m => ?_, rfl⟩
  by_cases e : m = n
  · subst e
    rwa [run_setRun_self]
  · rw [run_setRun_ne _ _ e]
    exact .refl _

theorem sameBut (k : SameBut t u) : FrameStep W s u := h.trans (of_sameBut k)

end

end FrameStep

end

end Sys2Proof.TgLaws
end

section
/-! What the engines outside chapter 7 do at a line, a boundary or the stop of a generator: chains, ports, lanes and slices. -/

namespace Sys2Proof.TgLaws

open Sys2Proof Sys2Proof.Machine
open Sys2Proof.Laws hiding taken
open Sys2Proof.LinkLaws (BackFrame backFrame_backAll backFrame_backSend backFrame_sendCredit)

/-! ### Registers of the driver link, of the lanes and of the slices -/

theorem offTg_port (nn : Nat) : OffTg (R.ADL_PORT_STATUS nn) ∧ OffTg (R.ADL_PORT_CNT_POLL_ERR nn) ∧ OffTg (R.ADL_FLOCK_STATUS nn) := by
  simp only [OffTg, R.ADL_PORT_STATUS, R.ADL_PORT_CNT_POLL_ERR, R.ADL_FLOCK_STATUS]
  omega

theorem offSync_lane (l : Nat) : OffSync (R.LNS_LANE_STATUS l) ∧ OffSync (R.LNS_LANE_DFE l) ∧ OffSync (R.LNS_LANE_TRIM l) := by
  simp only [OffSync, OffTg, R.LNS_LANE_STATUS, R.LNS_LANE_DFE, R.LNS_LANE_TRIM, R.BLE_STATUS]
  omega

theorem offTg_lane (l : Nat) : OffTg (R.LNS_LANE_STATUS l) ∧ OffTg (R.LNS_LANE_DFE l) ∧ OffTg (R.LNS_LANE_TRIM l) :=
  ⟨(offSync_lane l).1.1, (offSync_lane l).2.1.1, (offSync_lane l).2.2.1⟩

theorem offTg_slice (k : Nat) : OffTg (R.SLC_SLICE_STATUS k) ∧ OffTg (R.SLC_SLICE_TAPS k) ∧ OffTg (R.SLC_SLICE_FIELD k) ∧ OffTg (R.SLC_SLICE_CAL k) := by
  simp only [OffTg, R.SLC_SLICE_STATUS, R.SLC_SLICE_TAPS, R.SLC_SLICE_FIELD, R.SLC_SLICE_CAL]
  omega

section
variable {W : Nat → Prop} (s : State)

/-! ### Poll windows and the boundary of a layer's ports (R200, R205) -/

theorem engineStep_withAdl (x : AdlState) : EngineStep W s { s with adl := x } := .of_same rfl rfl rfl rfl

theorem engineStep_setLane (l : Nat) (v : LnsLane) : EngineStep W s (s.setLane l v) := .of_same rfl rfl rfl rfl

theorem engineStep_pollFail (k : Nat) (p : AdlPoll) : EngineStep OffTg s (s.pollFail k p) := by
  unfold State.pollFail
  exact .ite (engineStep_withAdl s _) ((engineStep_withAdl s _).count 1 (offTg_port p.port).2.1)

theorem engineStep_windowEnd : EngineStep OffTg s s.windowEnd :=
  ((EngineStep.refl s).each fun s e _ => engineStep_pollFail s e.1 e.2).each fun s k _ => (EngineStep.refl s).putB _ (offTg_port k).2.2

theorem engineStep_windowFlock (k : Nat) : EngineStep OffTg s (s.windowFlock k) := by
  have opened : EngineStep OffTg s (if s.domOn (6 + k) then s.putB (F.ADL_FLOCK_STATUS_WINDOW k) true else s) :=
    .ite ((EngineStep.refl s).putB _ (offTg_port k).2.2) (.refl s)
  unfold State.windowFlock
  dsimp only
  split
  · exact opened
  · exact opened.trans (.ite (.refl _) ((engineStep_withAdl _ _).put _ (offTg_port k).2.2))

theorem engineStep_adlLineStart : EngineStep OffTg s s.adlLineStart := by
  have ended : EngineStep OffTg s (if s.adl.windowLeft = 1 then s.windowEnd else s) := .ite (engineStep_windowEnd s) (.refl s)
  unfold State.adlLineStart
  dsimp only
  split
  · exact (ended.trans (engineStep_withAdl _ _)).each fun s k _ => engineStep_windowFlock s k
  · exact ended.trans (engineStep_withAdl _ _)

theorem engineStep_laneRestart (l : Nat) : EngineStep OffTg s (s.laneRestart l) := by
  have shown : EngineStep OffTg s ((s.setLane l { s.lane l with stopped := false }).putB (F.LNS_LANE_STATUS_SHORT l) false) :=
    (engineStep_setLane s l _).putB _ (offTg_lane l).1
  have starts (t : State) : EngineStep OffTg t (t.txStart l) := .ite (.refl t) (.of_same rfl rfl rfl rfl)
  unfold State.laneRestart
  exact .ite (shown.trans (starts _)) shown

theorem engineStep_laneUse (l : Nat) : EngineStep OffTg s (s.laneUse l) := .ite (.refl s) ((EngineStep.refl s).put _ (offTg_lane l).1)

theorem engineStep_setPort (nn st : Nat) : EngineStep OffTg s (s.setPort nn st) := by
  have shown : EngineStep OffTg s (s.put (F.ADL_PORT_STATUS_STATE nn) st) := (EngineStep.refl s).put _ (offTg_port nn).1
  exact .ite shown (shown.putB _ (offTg_port (nn / 7)).2.2)

theorem engineStep_portApply (nn old new : Nat) : EngineStep OffTg s (s.portApply nn old new) := by
  unfold State.portApply
  dsimp only
  split
  · refine EngineStep.trans ?_ (engineStep_setPort _ nn _)
    exact (((engineStep_withAdl s _).putB _ (offTg_port nn).1).putB _ (offTg_port nn).1).each fun s l _ =>
      (engineStep_laneRestart s l).trans (.ite (.refl _) (engineStep_laneUse _ l))
  · exact ((engineStep_withAdl s _).each fun s l _ => (EngineStep.refl s).put _ (offTg_lane l).1).trans (engineStep_setPort _ nn 0)

theorem engineStep_rearApply : EngineStep OffTg s s.rearApply := (engineStep_withAdl s _).each fun s e _ => engineStep_portApply s e.1 _ _

theorem engineStep_adlBoundary (n : Nat) : EngineStep OffTg s (s.adlBoundary n) :=
  (EngineStep.ite (c := n = 1) (engineStep_rearApply s) (.refl s)).trans (engineStep_withAdl _ _)

/-! ### Slices and the backlight's lines -/

theorem engineStep_sliceLine : EngineStep W s s.sliceLine :=
  ((EngineStep.refl s).each fun s _ _ => .ite ((EngineStep.refl s).tally _ _) (.refl s)).each fun s _ _ => (EngineStep.refl s).tally _ _

theorem engineStep_withBle (x : BleState) : EngineStep W s { s with ble := x } := .of_same rfl rfl rfl rfl

theorem engineStep_makeReady (c : Nat) (rows : List Nat) : EngineStep W s (s.makeReady c rows) := engineStep_withBle s _

theorem engineStep_allReady : EngineStep W s s.allReady := (EngineStep.refl s).each fun s c _ => engineStep_makeReady s c _

theorem engineStep_bleDark : EngineStep W s s.bleDark := (engineStep_withBle s _).trans (engineStep_allReady _)

/-! ### The end of the backlight's frame (R210, R406) -/

theorem engineStep_setWindow (r : Nat) (w : BleWindow) (old : Bool) : EngineStep W s (s.setWindow r w old) :=
  (EngineStep.ite (engineStep_withBle s _) (engineStep_withBle s _)).trans (engineStep_withBle _ _)

theorem engineStep_suppressed : EngineStep OffSync s s.suppressed :=
  (((EngineStep.refl s).count 1 (by decide)).raiseIf _ 211 0).trans (engineStep_withBle _ _)

theorem engineStep_cutWindow (at' r : Nat) (old : Bool) : EngineStep OffSync s (s.cutWindow at' r old) := by
  unfold State.cutWindow
  exact .ite ((engineStep_setWindow s r {} old).trans (engineStep_suppressed _)) (engineStep_setWindow s r {} old)

theorem engineStep_driveAddOne (y : Nat) (d : Rat) : EngineStep W s (s.driveAddOne y d) := by
  unfold State.driveAddOne
  exact .ite (engineStep_withBle s _) (.of_same rfl rfl rfl rfl)

theorem engineStep_driveAdd (at' : Nat) : EngineStep W s (s.driveAdd at') := (EngineStep.refl s).each fun s y _ => engineStep_driveAddOne s y _

theorem engineStep_cutWindows (at' : Nat) : EngineStep OffSync s (s.cutWindows at') :=
  ((EngineStep.refl s).each fun s r _ => engineStep_cutWindow s at' r true).each fun s r _ => engineStep_cutWindow s at' r false

theorem engineStep_bleFrameEnd (at' : Nat) (early : Bool) : EngineStep OffSync s (s.bleFrameEnd at' early) := by
  unfold State.bleFrameEnd
  have cut : EngineStep OffSync s (if early then (s.driveAdd at').cutWindows at' else s.driveAdd at') :=
    .ite ((engineStep_driveAdd s at').trans (engineStep_cutWindows _ at')) (engineStep_driveAdd s at')
  exact .ite (.refl s) ((cut.trans (engineStep_withBle _ _)).trans (engineStep_withBle _ _))

/-! ### Slow layers (R167, R168) -/

theorem engineStep_slowLayer (rear : Bool) : EngineStep OffSync s (s.slowLayer rear) := by
  have shown (hold frozen : FRef) (h : Bool) (slow : Bool) (hHold : OffSync hold.addr) (hFrozen : OffSync frozen.addr) : EngineStep OffSync s
      (let s := (s.raiseIf (h != s.flag hold) 109 0).putB hold h
       (s.raiseIf (slow != s.flag frozen) 111 0).putB frozen slow) :=
    ((((EngineStep.refl s).raiseIf _ 109 0).putB _ hHold).raiseIf _ 111 0).putB _ hFrozen
  unfold State.slowLayer
  refine .ite (.refl s) ?_
  cases rear
  · exact shown _ _ _ _ (by decide) (by decide)
  · exact shown _ _ _ _ (by decide) (by decide)

theorem engineStep_slowCount : EngineStep OffSync s s.slowCount := by
  unfold State.slowCount
  refine .ite (.refl s) ?_
  exact (((EngineStep.refl s).countIf _ (by decide)).countIf _ (by decide)).trans (.of_same rfl rfl rfl rfl)

end

end Sys2Proof.TgLaws
end

section
/-! The rules of the panel's operations (R183 to R186): what setting a panel state, a pad or a panel sequence changes and leaves. -/

namespace Sys2Proof.TgLaws

open Sys2Proof Sys2Proof.Machine
open Sys2Proof.Laws hiding taken

/-! ### Pads, panel sequences and runs -/

section
variable (s : State) (l m : Layer)

@[simp] theorem panel_setPanel_self (p : PanelSeq) : (s.setPanel l p).panel l = p := by cases l <;> rfl

theorem panel_setPanel_ne (p : PanelSeq) (h : m ≠ l) : (s.setPanel l p).panel m = s.panel m := by
  cases l
  · cases m
    · exact absurd rfl h
    · rfl
  · cases m
    · rfl
    · exact absurd rfl h

@[simp] theorem regs_setPanel (p : PanelSeq) : (s.setPanel l p).regs = s.regs := rfl

@[simp] theorem run_setPanel (p : PanelSeq) (n : Nat) : (s.setPanel l p).run n = s.run n := by cases l <;> rfl

@[simp] theorem pad_setPanel (p : PanelSeq) (i : Nat) : (s.setPanel l p).pad m i = s.pad m i := by cases l <;> rfl

@[simp] theorem enables_setPanel (p : PanelSeq) : (s.setPanel l p).tg.enables = s.tg.enables := by cases l <;> rfl

@[simp] theorem pad_setPad_self (i : Nat) (p : GatePad) : (s.setPad l i p).pad l i = p := mget_mset_self _ _ _ _

theorem pad_setPad_ne {i j : Nat} (p : GatePad) (h : j ≠ i) : (s.setPad l i p).pad l j = s.pad l j :=
  mget_mset_ne _ _ _ (by omega)

end

/-! ### The panel's registers -/

theorem panelState_congr {s t : State} (h : t.regs = s.regs) (l : Layer) : t.panelState l = s.panelState l := get_congr h _

theorem addr_panelField (l : Layer) : (panelField l).addr = R.TG_PANEL_STATUS := by cases l <;> rfl
theorem addr_panelOnField (l : Layer) : (panelOnField l).addr = R.TG_PANEL_CTRL := by cases l <;> rfl
theorem addr_panelShortField (l : Layer) : (panelShortField l).addr = R.TG_GATE_SHORT := by cases l <;> rfl

theorem panelState_putField (s : State) (l : Layer) {st : Nat} (h : st < 8) : (s.put (panelField l) st).panelState l = st := by
  have wide : st % 2 ^ ((panelField l).hi + 1 - (panelField l).lo) = st := by
    cases l <;> exact Nat.mod_eq_of_lt h
  exact (get_put_self s (panelField l) st (by cases l <;> decide) (by cases l <;> decide)).trans wide

theorem panelState_putField_ne (s : State) {l m : Layer} (st : Nat) (h : m ≠ l) : (s.put (panelField l) st).panelState m = s.panelState m := by
  refine get_put_disjoint s (panelField l) (panelField m) st (by cases l <;> decide) (by cases m <;> decide) (by cases m <;> decide) ?_
  cases l
  · cases m
    · exact absurd rfl h
    · exact .inl (by decide)
  · cases m
    · exact .inr (by decide)
    · exact absurd rfl h

theorem panelState_of_reg {s t : State} (h : t.reg R.TG_PANEL_STATUS = s.reg R.TG_PANEL_STATUS) (l : Layer) : t.panelState l = s.panelState l := by
  rw [State.panelState, State.panelState, State.get, State.get, addr_panelField, h]

/-- The `ON` bit of a layer as a bit of its register. -/
theorem flag_panelOn (s : State) (l : Layer) : s.flag (panelOnField l) = bitAt (s.reg R.TG_PANEL_CTRL) (layerTg l) := by
  have bit (x : Nat) : (x % 2 != 0) = (x % 2 == 1) := by
    rcases Nat.mod_two_eq_zero_or_one x with h | h <;> rw [h] <;> rfl
  cases l <;> exact bit _

theorem flag_putB_panelOn (s : State) (l : Layer) (b : Bool) : (s.putB (panelOnField l) b).flag (panelOnField l) = b :=
  flag_putB_self _ _ _ (by cases l <;> decide) (by cases l <;> decide)

/-- The `ON` bit of the other layer stays. -/
theorem flag_putB_panelOn_ne (s : State) {l m : Layer} (b : Bool) (h : m ≠ l) :
    (s.putB (panelOnField l) b).flag (panelOnField m) = s.flag (panelOnField m) := by
  refine flag_eq_of_get (get_put_disjoint _ _ _ _ (by cases l <;> decide) (by cases m <;> decide) (by cases m <;> decide) ?_)
  cases l
  · cases m
    · exact absurd rfl h
    · exact .inl (by decide)
  · cases m
    · exact .inr (by decide)
    · exact absurd rfl h

/-! ### Steps that may put the backlight off -/

/-- From s to t only registers of W change; of the generators and the panel none but the note that the backlight is off, and no event is
added. -/
structure DarkStep (W : Nat → Prop) (s t : State) : Prop where
  reg : ∀ a, ¬ W a → t.reg a = s.reg a
  tg : t.tg = { s.tg with dark := t.tg.dark }
  now : t.now = s.now
  occ : t.occ = s.occ

section
variable {W : Nat → Prop} {s t u : State}

namespace DarkStep

theorem of_same (regs : t.regs = s.regs) (tg : t.tg = { s.tg with dark := t.tg.dark }) (now : t.now = s.now) (occ : t.occ = s.occ) :
    DarkStep W s t := ⟨fun a _ => reg_congr regs a, tg, now, occ⟩

theorem refl (s : State) : DarkStep W s s := of_same rfl rfl rfl rfl

theorem trans (h : DarkStep W s t) (k : DarkStep W t u) : DarkStep W s u where
  reg a ha := (k.reg a ha).trans (h.reg a ha)
  tg := by rw [k.tg, h.tg]
  now := k.now.trans h.now
  occ := k.occ.trans h.occ

theorem mono {V : Nat → Prop} (sub : ∀ a, V a → W a) (h : DarkStep V s t) : DarkStep W s t :=
  { h with reg := fun a ha => h.reg a fun v => ha (sub a v) }

theorem ite {c : Prop} [Decidable c] (h : DarkStep W s t) (k : DarkStep W s u) : DarkStep W s (if c then t else u) := by
  split
  · exact h
  · exact k

theorem panel (h : DarkStep W s t) (l : Layer) : t.panel l = s.panel l := by
  cases l
  · exact (congrArg TgState.front h.tg :)
  · exact (congrArg TgState.rear h.tg :)

theorem pad (h : DarkStep W s t) (l : Layer) (i : Nat) : t.pad l i = s.pad l i :=
  (congrArg (fun x : TgState => mget ({} : GatePad) x.pads (16 * layerTg l + i)) h.tg :)

theorem run (h : DarkStep W s t) (n : Nat) : t.run n = s.run n := (congrArg (fun x : TgState => mget ({} : TgRun) x.runs n) h.tg :)

theorem enables (h : DarkStep W s t) : t.tg.enables = s.tg.enables := (congrArg TgState.enables h.tg :)

theorem frame (h : DarkStep W s t) : FrameStep W s t := ⟨h.reg, fun n => h.run n ▸ .refl _, h.now⟩

end DarkStep

end

section
variable (s : State) (l : Layer)

theorem bleDark_frame : s.bleDark = { s with ble := s.bleDark.ble } := by
  have ready : ChainStep s.closeWindows s.bleDark := chainStep_each (fun t c => chainStep_makeReady t c _) _ _
  rw [ChainStep] at ready
  rw [ready]
  rfl

theorem darkStep_bleDark {W : Nat → Prop} : DarkStep W s s.bleDark := by
  rw [bleDark_frame]
  exact .of_same rfl rfl rfl rfl

theorem darkStep_backlightOff {W : Nat → Prop} : DarkStep W s s.backlightOff :=
  have noted : DarkStep W s { s with tg := { s.tg with dark := true } } := .of_same rfl rfl rfl rfl
  .ite (noted.trans (darkStep_bleDark _)) noted

/-- After the field has its value, the rest of a change of the panel state. -/
theorem darkStep_setPanelState {W : Nat → Prop} (st : Nat) : DarkStep W (s.put (panelField l) st) (s.setPanelState l st) := by
  unfold State.setPanelState
  refine .ite (.trans ?_ (darkStep_bleDark _)) ?_
  · exact .ite (.of_same rfl rfl rfl rfl) (.refl _)
  · exact .ite (.of_same rfl rfl rfl rfl) (.refl _)

theorem darkStep_putPanelField (st : Nat) : DarkStep (· = R.TG_PANEL_STATUS) s (s.setPanelState l st) := by
  have shown : DarkStep (· = R.TG_PANEL_STATUS) s (s.put (panelField l) st) :=
    ⟨fun a ha => reg_put_ne s st (addr_panelField l ▸ ha), rfl, rfl, rfl⟩
  exact shown.trans (darkStep_setPanelState s l st)

theorem panelState_setPanelState {st : Nat} (h : st < 8) : (s.setPanelState l st).panelState l = st :=
  (panelState_of_reg ((darkStep_setPanelState (W := fun _ => False) s l st).reg _ id) l).trans (panelState_putField s l h)

theorem panelState_setPanelState_ne {m : Layer} (st : Nat) (h : m ≠ l) : (s.setPanelState l st).panelState m = s.panelState m :=
  (panelState_of_reg ((darkStep_setPanelState (W := fun _ => False) s l st).reg _ id) m).trans (panelState_putField_ne s st h)

end

end Sys2Proof.TgLaws
end

section
/-! What the calibration and the sequences do to the generators and the panel: nothing (chapter 15, R383 to R390). -/

namespace Sys2Proof.TgLaws

open Sys2Proof Sys2Proof.Machine
open Sys2Proof.Laws hiding taken
open Sys2Proof.LinkLaws (BackFrame backFrame_backAll backFrame_backSend backFrame_sendCredit)

section
variable {W : Nat → Prop} (s : State)

/-! ### Roles, runs and trims -/

theorem engineStep_setCal (c : CalState) : EngineStep W s (s.setCal c) := .of_same rfl rfl rfl rfl

theorem engineStep_logAdd (off n : Nat) : EngineStep W s (s.logAdd off n) := .of_same rfl rfl rfl rfl

theorem engineStep_setRole (k role band : Nat) : EngineStep OffTg s (s.setRole k role band) :=
  ((EngineStep.refl s).put _ (offTg_slice k).1).put _ (offTg_slice k).1

theorem engineStep_makeDue (u trigger : Nat) : EngineStep W s (s.makeDue u trigger) := .ite (.refl s) (engineStep_setCal s _)

theorem engineStep_calRescan : EngineStep W s s.calRescan :=
  (EngineStep.refl s).each fun s x _ => .ite (engineStep_makeDue s x.1 x.2) (.refl s)

theorem engineStep_calScan : EngineStep W s s.calScan := (engineStep_calRescan s).each fun s u _ => engineStep_makeDue s u 0

theorem engineStep_applyTrims (u : Nat) (agreed : List Int) : EngineStep OffTg s (s.applyTrims u agreed) := by
  obtain ⟨-, taps, field, -⟩ := offTg_slice u
  unfold State.applyTrims
  refine .ite (.refl s) (.ite (((EngineStep.refl s).setReg _ taps).setReg _ field) ?_)
  exact (EngineStep.refl s).each fun s x _ => ((EngineStep.refl s).put _ (offTg_lane x.1).2.2).put _ (offTg_lane x.1).2.2

theorem engineStep_calLast (r : CalRun) (result : Nat) : EngineStep OffTg s (s.calLast r result) := (EngineStep.refl s).setReg _ (by decide)

theorem engineStep_calNote (u : Nat) : EngineStep OffTg s (s.calNote u) := by
  unfold State.calNote
  exact .ite ((engineStep_setCal s _).put _ (offTg_slice u).2.2.2) (engineStep_setCal s _)

theorem engineStep_calDone (r : CalRun) : EngineStep OffTg s (s.calDone r) := by
  have dropped : EngineStep OffTg s (s.dropRun r.unit) := engineStep_setCal s _
  unfold State.calDone
  dsimp only
  generalize s.dropRun r.unit = t at dropped ⊢
  refine dropped.trans (.ite (.refl t) ?_)
  have noted : EngineStep OffTg t ((t.calLast r 1).setReg R.CAL_LAST_Q (t.calQuality r)) :=
    (engineStep_calLast t r 1).setReg _ (by decide)
  generalize State.setReg _ R.CAL_LAST_Q _ = u at noted ⊢
  have used : EngineStep OffTg u (if r.unit < 17 ∧ r.quality.any (· ≤ 0) then u.useFree else u) := .ite (.of_same rfl rfl rfl rfl) (.refl u)
  have told (v : State) : EngineStep OffTg v
      ((((if r.unit < 17 then v.putB (F.SLC_SLICE_STATUS_UNSTABLE r.unit) false else v).calNote r.unit).count R.CAL_CNT_DONE).raise 422 0) :=
    (((EngineStep.ite ((EngineStep.refl v).putB _ (offTg_slice r.unit).1) (.refl v)).trans (engineStep_calNote _ r.unit)).count 1
      (by decide)).raise 422 0
  exact noted.trans (used.trans (told _))

theorem engineStep_portTrims (r : CalRun) : EngineStep OffTg s (s.portTrims r) := by
  unfold State.portTrims
  split
  · exact .ite ((EngineStep.refl s).setReg _ (offTg_lane _).2.2) (.refl s)
  · exact .refl s

/-! ### Lanes that come back -/

theorem engineStep_rxRelock (l : Nat) : EngineStep OffTg s (s.rxRelock l) := .ite ((EngineStep.refl s).put _ (offTg_lane l).1) (.refl s)

theorem engineStep_setFallow (l : Nat) (b : Bool) : EngineStep W s (s.setFallow l b) :=
  (EngineStep.ite (engineStep_setLane s l _) (.refl s)).trans (engineStep_setCal _ _)

theorem engineStep_laneResume (l : Nat) : EngineStep OffTg s (s.laneResume l) :=
  .ite ((engineStep_setFallow s l false).trans (engineStep_rxRelock _ l)) (.refl s)

theorem engineStep_withPil (x : PilState) : EngineStep W s { s with pil := x } := .of_same rfl rfl rfl rfl

theorem engineStep_sendLaneStatus (k : Nat) : EngineStep W s (s.sendLaneStatus k) := by
  unfold State.sendLaneStatus
  refine .ite (.refl s) ?_
  dsimp only
  refine .trans ?_ (engineStep_withPil _ _)
  exact (EngineStep.of_back (backFrame_backSend s k 1 _)).each fun s l _ => engineStep_withPil s _

theorem engineStep_noteStatus : EngineStep W s s.noteStatus :=
  (EngineStep.refl s).each fun s k _ => .ite (.refl s) (engineStep_sendLaneStatus s k)

/-- The registers of the input flocks (Table 2.12). -/
theorem offTg_flock {k : Nat} (h : k < 4) : OffTg (R.PIL_FLOCK_STATUS k) := by
  simp only [OffTg, R.PIL_FLOCK_STATUS]
  omega

theorem engineStep_laneRelock {l : Nat} (h : l < 32) : EngineStep OffTg s (s.laneRelock l) :=
  (((engineStep_rxRelock s l).trans (engineStep_withPil _ _)).put _ (offTg_flock (k := l / 8) (by omega))).trans (engineStep_noteStatus _)

theorem engineStep_rotRelease {k : Nat} (st : Nat) (h : k < 4) : EngineStep OffTg s (s.rotRelease k st) :=
  (((engineStep_withPil s _).put _ (offTg_flock h)).put _ (offTg_flock h)).trans (.of_back (backFrame_backSend _ k 3 _))

/-! ### Recalls (R341, R185) -/

theorem engineStep_calRecall (r : CalRun) : EngineStep OffTg s (s.calRecall r) := by
  have dropped : EngineStep OffTg s (s.dropRun r.unit) := engineStep_setCal s _
  unfold State.calRecall
  dsimp only
  generalize s.dropRun r.unit = t at dropped ⊢
  refine dropped.trans ?_
  have reported : EngineStep OffTg t
      (if r.bare then t
      else if !r.away then t.makeDue r.unit r.trigger
      else (((t.setCal { t.cal with recalled := t.cal.recalled.filter (fun x => x.1 != r.unit) ++ [(r.unit, r.trigger)] }).calLast r 3).count
        R.CAL_CNT_RECALL).raise 425 0) :=
    .ite (.refl t) (.ite (engineStep_makeDue t _ _)
      ((((engineStep_setCal t _).trans (engineStep_calLast _ r 3)).count 1 (by decide)).raise 425 0))
  refine reported.trans ((engineStep_portTrims _ r).trans ?_)
  generalize State.portTrims _ r = u
  split
  · split
    · exact .refl u
    · exact engineStep_setRole u 16 1 0
    · exact engineStep_setCal u _
  · refine .ite (.ite (engineStep_setRole u 16 1 0) (.refl u)) ?_
    split
    · next small =>
      have lane : r.unit - 0x20 < 32 := by omega
      have back := (engineStep_setFallow (W := OffTg) u (r.unit - 0x20) false).trans (engineStep_laneRelock _ lane)
      refine .ite back ?_
      split
      · exact back
      · exact back
      · exact .ite ((engineStep_setFallow u _ false).trans (engineStep_rotRelease _ 0 (by omega)))
          ((engineStep_setFallow u _ false).put _ (offTg_flock (k := (r.unit - 0x20) / 8) (by omega)))
      · exact engineStep_rotRelease u 0 (by omega)
    · exact (engineStep_laneResume u _).trans (engineStep_laneResume _ _)

theorem engineStep_calFreeze {s t u : State} (h : EngineStep W s u) : EngineStep W s (t.calFreeze u) := h.raiseIf _ 426 0

theorem engineStep_calGateShort (l : Layer) : EngineStep OffTg s (s.calGateShort l) := by
  unfold State.calGateShort
  refine .ite (.refl s) (engineStep_calFreeze ?_)
  exact ((EngineStep.refl s).each fun s r _ => engineStep_calRecall s r).trans (engineStep_setCal _ _)

/-! ### Sequences -/

theorem offSync_slot (k : Nat) : OffSync (R.SEQ_SLOT_STATUS k) := by
  simp only [OffSync, OffTg, R.SEQ_SLOT_STATUS, R.BLE_STATUS]
  omega

theorem engineStep_withSeq (x : SeqState) : EngineStep W s { s with seq := x } := .of_same rfl rfl rfl rfl

theorem engineStep_setHold (slot mask : Nat) : EngineStep OffSync s (s.setHold slot mask) := by
  exact (engineStep_withSeq s _).putB _ (offSync_slot slot)

theorem engineStep_setRuns (n : Nat) (l : List SeqRun) : EngineStep W s (s.setRuns n l) := .of_same rfl rfl rfl rfl

theorem engineStep_seqReport (n : Nat) (r : SeqRun) (status next : Nat) : EngineStep OffSync s (s.seqReport n r status next) := by
  have shown : EngineStep OffSync s (((s.put (F.SEQ_SLOT_STATUS_STATE r.slot) (seqEndState status)).put (F.SEQ_SLOT_STATUS_RESULT r.slot) status).put
      (F.SEQ_SLOT_STATUS_NEXT r.slot) (seqNext next)) :=
    (((EngineStep.refl s).put _ (offSync_slot r.slot)).put _ (offSync_slot r.slot)).put _ (offSync_slot r.slot)
  unfold State.seqReport
  generalize ((s.put (F.SEQ_SLOT_STATUS_STATE r.slot) (seqEndState status)).put (F.SEQ_SLOT_STATUS_RESULT r.slot) status).put
      (F.SEQ_SLOT_STATUS_NEXT r.slot) (seqNext next) = t at shown ⊢
  dsimp only
  exact ((shown.trans (engineStep_setHold t r.slot _)).trans (engineStep_withSeq _ _)).raise (51 + n) 0

theorem engineStep_seqTurn (n : Nat) (l : List SeqRun) : ∀ s : State, EngineStep OffSync s (s.seqTurn n l) := by
  induction l with
  | nil => exact fun s => engineStep_setRuns s n []
  | cons r rs ih =>
    exact fun s => .ite ((engineStep_seqReport s n r 6 _).trans (ih _))
      (((engineStep_setRuns s n _).put _ (offSync_slot r.slot)).trans (engineStep_setHold _ r.slot r.hold))

theorem engineStep_seqFinish (n status next : Nat) : EngineStep OffSync s (s.seqFinish n status next) := by
  unfold State.seqFinish
  split
  · exact .refl s
  · next r rs _ => exact (engineStep_seqReport s n r status next).trans (engineStep_seqTurn n rs _)

/-- The sequences that wait for boundaries of a generator (R385). -/
theorem engineStep_waitBoundary (n : Nat) : EngineStep OffSync s (s.waitBoundary n) := by
  refine (EngineStep.refl s).each fun s p _ => ?_
  split
  · exact .refl s
  · next r rs _ =>
    refine .ite (.refl s) (.ite (engineStep_setRuns s p _) ?_)
    have ended := (engineStep_setRuns (W := OffSync) s p
      ({ r with waitLeft := 0, waiting := false, words := [], step := r.step + 1 } :: rs)).put (f := F.SEQ_SLOT_STATUS_NEXT r.slot)
        (seqNext (r.step + 1)) (offSync_slot r.slot)
    exact .ite (ended.trans (engineStep_seqFinish _ p 6 _)) ended

/-- A preemption's reports (R388). -/
theorem engineStep_preempt : EngineStep OffSync s s.preempt := by
  refine EngineStep.raiseIf ?_ _ 54 0
  refine (EngineStep.refl s).each fun s n _ => ?_
  exact ((EngineStep.refl s).each fun s r _ => engineStep_seqReport s n r 5 r.step).trans (engineStep_setRuns _ n [])

end

/-! ### The runs after a preemption -/

section
variable (s : State)

theorem seqRuns_setRuns_self (n : Nat) (l : List SeqRun) : (s.setRuns n l).seqRuns n = l := mget_mset_self _ _ _ _

theorem seqRuns_setRuns_ne {m n : Nat} (l : List SeqRun) (h : m ≠ n) : (s.setRuns n l).seqRuns m = s.seqRuns m := mget_mset_ne _ _ _ h

theorem seqRuns_seqReport (n : Nat) (r : SeqRun) (status next m : Nat) : (s.seqReport n r status next).seqRuns m = s.seqRuns m := by
  simp [State.seqReport, State.setHold, State.seqRuns, State.raise]

theorem each_cons {α : Type} (s : State) (x : α) (l : List α) (f : State → α → State) : s.each (x :: l) f = (f s x).each l f := rfl

theorem seqRuns_reports (n m : Nat) (l : List SeqRun) : ∀ s : State, (s.each l fun s r => s.seqReport n r 5 r.step).seqRuns m = s.seqRuns m := by
  induction l with
  | nil => exact fun _ => rfl
  | cons r l ih =>
    intro s
    rw [each_cons, ih, seqRuns_seqReport]

/-- A port's sequences are told and taken away. -/
def portPreempted (s : State) (n : Nat) : State := (s.each (s.seqRuns n) fun s r => s.seqReport n r 5 r.step).setRuns n []

theorem seqRuns_portPreempted_self (n : Nat) : (portPreempted s n).seqRuns n = [] := seqRuns_setRuns_self _ n []

theorem seqRuns_portPreempted_ne {m n : Nat} (h : m ≠ n) : (portPreempted s n).seqRuns m = s.seqRuns m :=
  (seqRuns_setRuns_ne _ [] h).trans (seqRuns_reports n m _ s)

theorem preempt_eq : s.preempt = ([0, 1, 2].foldl portPreempted s).raiseIf ([0, 1, 2].any fun n => !(s.seqRuns n).isEmpty) 54 0 := rfl

theorem seqRuns_preempt {p : Nat} (h : p < 3) : s.preempt.seqRuns p = [] := by
  have raised (t : State) (b : Bool) : (t.raiseIf b 54 0).seqRuns p = t.seqRuns p := by cases b <;> rfl
  rw [preempt_eq, raised]
  simp only [List.foldl]
  interval_cases p
  · rw [seqRuns_portPreempted_ne _ (by decide), seqRuns_portPreempted_ne _ (by decide), seqRuns_portPreempted_self]
  · rw [seqRuns_portPreempted_ne _ (by decide), seqRuns_portPreempted_self]
  · exact seqRuns_portPreempted_self _ 2

end

end Sys2Proof.TgLaws
end

section
/-! The panel's commands (R183 to R186), the gate pads' edges, and the short of a pad (R185, R388). -/

namespace Sys2Proof.TgLaws

open Sys2Proof Sys2Proof.Machine
open Sys2Proof.Laws hiding taken
open Sys2Proof.LinkLaws (bitAt_setBit_true bitAt_setBit_false)

theorem other_of_ne {l m : Layer} (h : m ≠ l) : l = .front ∧ m = .rear ∨ l = .rear ∧ m = .front := by
  cases l
  · cases m
    · exact absurd rfl h
    · exact .inl ⟨rfl, rfl⟩
  · cases m
    · exact .inr ⟨rfl, rfl⟩
    · exact absurd rfl h

/-! ### A write of one `ON` bit -/

/-- Setting the bit of one layer leaves the other's. -/
theorem bitAt_setBit_layer (w : Nat) {l m : Layer} (b : Bool) (h : m ≠ l) : bitAt (setBit w (layerTg l) b) (layerTg m) = bitAt w (layerTg m) := by
  unfold bitAt setBit bitAt
  obtain ⟨rfl, rfl⟩ | ⟨rfl, rfl⟩ := other_of_ne h
  · simp only [layerTg, beq_iff_eq, Nat.pow_zero, Nat.pow_one, Nat.div_one]
    congr 1
    split_ifs <;> omega
  · simp only [layerTg, beq_iff_eq, Nat.pow_zero, Nat.pow_one, Nat.div_one]
    congr 1
    split_ifs <;> omega

/-- `TG_PANEL_CTRL` with the `ON` bit of a layer set so. -/
def ctrlSet (s : State) (l : Layer) (b : Bool) : State := s.setReg R.TG_PANEL_CTRL (setBit (s.reg R.TG_PANEL_CTRL) (layerTg l) b % 4)

theorem panelBit_on {s : State} {l : Layer} (off : s.flag (panelOnField l) = false) : s.panelBit l true = (ctrlSet s l true).panelOnWrite l := by
  rw [flag_panelOn] at off
  have set := bitAt_setBit_true (s.reg R.TG_PANEL_CTRL) (layerTg l)
  unfold State.panelBit State.panelCtrl
  cases l
  · have kept := bitAt_setBit_layer (s.reg R.TG_PANEL_CTRL) true (show Layer.rear ≠ .front by decide)
    simp only [layerTg] at off set kept ⊢
    simp [off, set, kept, ctrlSet, layerTg]
  · have kept := bitAt_setBit_layer (s.reg R.TG_PANEL_CTRL) true (show Layer.front ≠ .rear by decide)
    simp only [layerTg] at off set kept ⊢
    simp [off, set, kept, ctrlSet, layerTg]

theorem panelBit_off {s : State} {l : Layer} (on : s.flag (panelOnField l) = true) : s.panelBit l false = (ctrlSet s l false).panelOffWrite l := by
  rw [flag_panelOn] at on
  have clear := bitAt_setBit_false (s.reg R.TG_PANEL_CTRL) (layerTg l)
  unfold State.panelBit State.panelCtrl
  cases l
  · have kept := bitAt_setBit_layer (s.reg R.TG_PANEL_CTRL) false (show Layer.rear ≠ .front by decide)
    simp only [layerTg] at on clear kept ⊢
    simp [on, clear, kept, ctrlSet, layerTg]
  · have kept := bitAt_setBit_layer (s.reg R.TG_PANEL_CTRL) false (show Layer.front ≠ .rear by decide)
    simp only [layerTg] at on clear kept ⊢
    simp [on, clear, kept, ctrlSet, layerTg]

theorem panelState_ctrlSet (s : State) (l m : Layer) (b : Bool) : (ctrlSet s l b).panelState m = s.panelState m :=
  panelState_of_reg (reg_setReg_ne _ _ (by decide)) m

theorem flag_ctrlSet (s : State) (l : Layer) : (ctrlSet s l true).flag (panelOnField l) = true := by
  have set := bitAt_setBit_true (s.reg R.TG_PANEL_CTRL) (layerTg l)
  rw [flag_panelOn, ctrlSet, reg_setReg_self]
  generalize setBit (s.reg R.TG_PANEL_CTRL) (layerTg l) true = w at set ⊢
  simp only [bitAt, beq_iff_eq] at set ⊢
  cases l
  · simp only [layerTg] at set ⊢
    omega
  · simp only [layerTg] at set ⊢
    omega

/-! ### Power-on (Table 7.5, step 1) -/

/-- Pads 0 to n − 1 of a layer are as at reset, and nothing but pads has changed. -/
theorem blankPads_spec (s : State) (l : Layer) (n : Nat) :
    ∃ x, (s.each (List.range n) fun s g => s.setPad l g {}) = { s with tg := { s.tg with pads := x } }
      ∧ ∀ i, i < n → (s.each (List.range n) fun s g => s.setPad l g {}).pad l i = {} := by
  induction n with
  | zero => exact ⟨_, rfl, fun i hi => absurd hi (by omega)⟩
  | succ n ih =>
    obtain ⟨x, frame, blank⟩ := ih
    rw [List.range_succ, each_append]
    generalize s.each (List.range n) (fun s g => s.setPad l g {}) = t at frame blank ⊢
    refine ⟨_, by rw [frame]; rfl, fun i hi => ?_⟩
    change (t.setPad l n {}).pad l i = {}
    by_cases last : i = n
    · rw [last, pad_setPad_self]
    · rw [pad_setPad_ne _ _ _ last]
      exact blank i (by omega)

/-- From s to t the power-on of a layer has started. -/
structure PoweringOn (s t : State) (l : Layer) : Prop where
  state : t.panelState l = 1
  flag : t.flag (panelOnField l) = s.flag (panelOnField l)
  panel : t.panel l = {}
  pads : ∀ i, i < 16 → t.pad l i = {}
  occ : t.occ = s.occ

theorem poweringOn_panelStart (s : State) (l : Layer) : PoweringOn s (s.panelStart l) l := by
  obtain ⟨x, frame, blank⟩ := blankPads_spec (s.setPanel l {}) l 16
  unfold State.panelStart
  dsimp only
  generalize State.each _ _ _ = t at frame blank ⊢
  obtain ⟨v, lit, lights⟩ : ∃ v, (if l = .rear then { t with tg := { t.tg with dark := false } } else t) = v
      ∧ DarkStep (· = R.TG_PANEL_STATUS) t v := ⟨_, rfl, .ite (.of_same rfl rfl rfl rfl) (.refl t)⟩
  rw [lit]
  have started := lights.trans (darkStep_putPanelField v l 1)
  have ctrl := started.reg R.TG_PANEL_CTRL (by decide)
  have shown := panelState_setPanelState v l (st := 1) (by decide)
  refine ⟨shown, ?_, ?_, fun i hi => (started.pad l i).trans (blank i hi), ?_⟩
  · rw [flag_panelOn, flag_panelOn, ctrl, frame]
    rfl
  · rw [started.panel, frame]
    exact panel_setPanel_self s l {}
  · rw [started.occ, frame]
    rfl

/-! ### Power-off (Table 7.6) -/

/-- From s to t the orderly power-off of a layer has started. -/
structure PoweringOff (s t : State) (l : Layer) : Prop where
  state : t.panelState l = if (s.run (layerTg l)).on then 4 else 5
  flag : t.flag (panelOnField l) = false
  held : (t.panel l).heldOn = false
  occ : t.occ = s.occ

/-- From s to t a layer's state, `ON` bit and panel sequence stay. -/
structure LayerKept (s t : State) (l : Layer) : Prop where
  state : t.panelState l = s.panelState l
  flag : t.flag (panelOnField l) = s.flag (panelOnField l)
  panel : t.panel l = s.panel l

theorem flag_of_ctrl {s t : State} (h : t.reg R.TG_PANEL_CTRL = s.reg R.TG_PANEL_CTRL) (l : Layer) :
    t.flag (panelOnField l) = s.flag (panelOnField l) := by rw [flag_panelOn, flag_panelOn, h]

/-- A panel sequence and a panel state are set. -/
structure SetsPanel (s t : State) (l : Layer) (p : PanelSeq) (st : Nat) : Prop where
  state : t.panelState l = st
  panel : t.panel l = p
  reg : ∀ a, a ≠ R.TG_PANEL_STATUS → t.reg a = s.reg a
  occ : t.occ = s.occ
  otherState : ∀ m, m ≠ l → t.panelState m = s.panelState m
  otherPanel : ∀ m, m ≠ l → t.panel m = s.panel m
  pad : ∀ m i, t.pad m i = s.pad m i
  run : ∀ n, t.run n = s.run n
  enables : t.tg.enables = s.tg.enables
  now : t.now = s.now

theorem setsPanel_setPanelState (s : State) (l : Layer) (p : PanelSeq) {st : Nat} (h : st < 8) :
    SetsPanel s ((s.setPanel l p).setPanelState l st) l p st := by
  have dark := darkStep_putPanelField (s.setPanel l p) l st
  exact {
    state := panelState_setPanelState _ l h
    panel := (dark.panel l).trans (panel_setPanel_self s l p)
    reg := fun a ha => dark.reg a ha
    occ := dark.occ
    otherState := fun m hm => (panelState_setPanelState_ne _ l st hm).trans (panelState_congr rfl m)
    otherPanel := fun m hm => (dark.panel m).trans (panel_setPanel_ne s l m p hm)
    pad := fun m i => (dark.pad m i).trans (pad_setPanel s l m p i)
    run := fun n => (dark.run n).trans (run_setPanel s l p n)
    enables := dark.enables.trans (enables_setPanel s l p)
    now := dark.now }

theorem SetsPanel.kept {s t : State} {l m : Layer} {p : PanelSeq} {st : Nat} (h : SetsPanel s t l p st) (ne : m ≠ l) : LayerKept s t m :=
  ⟨h.otherState m ne, flag_of_ctrl (h.reg _ (by decide)) m, h.otherPanel m ne⟩

theorem LayerKept.trans {s t u : State} {l : Layer} (h : LayerKept s t l) (k : LayerKept t u l) : LayerKept s u l :=
  ⟨k.state.trans h.state, k.flag.trans h.flag, k.panel.trans h.panel⟩

/-- The `ON` bit of one layer is cleared. -/
theorem layerKept_clearOn (s : State) {l m : Layer} (ne : m ≠ l) : LayerKept s (s.putB (panelOnField l) false) m :=
  ⟨panelState_of_reg (reg_putB_ne _ _ (by rw [addr_panelOnField]; decide)) m, flag_putB_panelOn_ne s false ne, by cases m <;> rfl⟩

/-- The orderly power-off of a layer up to the discharge that follows at once where the generator is off. -/
def poweredOff (s : State) (l : Layer) : State :=
  let t := s.putB (panelOnField l) false
  (t.setPanel l { t.panel l with heldOn := false, blackLeft := 0 }).setPanelState l 4

theorem poweringOff_panelOffOne (s : State) (l : Layer) :
    PoweringOff s (s.panelOffOne l) l ∧ ∀ m, m ≠ l → LayerKept s (s.panelOffOne l) m := by
  have cleared := flag_putB_panelOn s l false
  have off := setsPanel_setPanelState (s.putB (panelOnField l) false) l
    { (s.putB (panelOnField l) false).panel l with heldOn := false, blackLeft := 0 } (st := 4) (by decide)
  have others (m : Layer) (hm : m ≠ l) := (layerKept_clearOn s hm).trans (off.kept hm)
  change SetsPanel _ (poweredOff s l) _ _ _ at off
  change ∀ m, m ≠ l → LayerKept s (poweredOff s l) m at others
  have run : (poweredOff s l).run (layerTg l) = s.run (layerTg l) := off.run _
  have flag := (flag_of_ctrl (off.reg _ (by decide)) l).trans cleared
  have occ : (poweredOff s l).occ = s.occ := off.occ
  have split : s.panelOffOne l = if (s.run (layerTg l)).on then poweredOff s l else (poweredOff s l).panelDischarge l := by
    rw [← run]
    rfl
  rw [split]
  split
  · next on => exact ⟨⟨by rw [off.state, if_pos on], flag, by rw [off.panel], occ⟩, others⟩
  · next stopped =>
    have dis := setsPanel_setPanelState (poweredOff s l) l
      { (poweredOff s l).panel l with gates := .discharge, blackLeft := 0, black := false, released := [] } (st := 5) (by decide)
    exact ⟨⟨by rw [if_neg stopped]; exact dis.state, (flag_of_ctrl (dis.reg _ (by decide)) l).trans flag,
      by rw [State.panelDischarge, dis.panel, off.panel], dis.occ.trans occ⟩, fun m hm => (others m hm).trans (dis.kept hm)⟩

end Sys2Proof.TgLaws
end

section
/-! The obligation about the panel's commands and the gate pads (R183 to R186, R388). -/

namespace Sys2Proof.TgLaws

open Sys2Proof Sys2Proof.Machine
open Sys2Proof.Laws hiding taken
open Sys2Proof.LinkLaws (bitAt_setBit_true)

/-! ### PANEL_ON and PANEL_OFF -/

theorem tg_accepted (s : State) (ag : Agent) : (accepted s ag).tg = s.tg := by
  unfold accepted
  split
  · rfl
  · exact State.portAccept_tg _ _

theorem reg_accepted_panel (s : State) (ag : Agent) : (accepted s ag).reg R.TG_PANEL_CTRL = s.reg R.TG_PANEL_CTRL
    ∧ (accepted s ag).reg R.TG_PANEL_STATUS = s.reg R.TG_PANEL_STATUS :=
  ⟨reg_accepted (isPortReg_engine (by decide)) ag, reg_accepted (isPortReg_engine (by decide)) ag⟩

/-- A fresh write of `ON` = 1 to a layer that is OFF. -/
theorem panelBit_starts {s : State} {l : Layer} (state : s.panelState l = 0) (off : s.flag (panelOnField l) = false) :
    PoweringOn (ctrlSet s l true) (s.panelBit l true) l := by
  have at0 : (ctrlSet s l true).panelState l = 0 := (panelState_ctrlSet s l l true).trans state
  rw [panelBit_on off, State.panelOnWrite, at0]
  exact poweringOn_panelStart _ l

/-- The rear layer goes down with the front where it has power (R186). -/
theorem poweringOff_panelDown (s : State) (l : Layer) : PoweringOff s (s.panelDown l) l := by
  obtain ⟨one, -⟩ := poweringOff_panelOffOne s l
  unfold State.panelDown
  dsimp only
  split
  · next rear =>
    obtain ⟨rfl, -, -⟩ := rear
    obtain ⟨two, kept⟩ := poweringOff_panelOffOne (s.panelOffOne .front) .rear
    have front := kept .front (by decide)
    exact ⟨front.state.trans one.state, front.flag.trans one.flag, by rw [front.panel]; exact one.held, two.occ.trans one.occ⟩
  · exact one

theorem panelBit_stops {s : State} {l : Layer} (state : s.panelState l = 3) (on : s.flag (panelOnField l) = true) :
    PoweringOff (ctrlSet s l false) (s.panelBit l false) l := by
  have at3 : (ctrlSet s l false).panelState l = 3 := (panelState_ctrlSet s l l false).trans state
  rw [panelBit_off on, State.panelOffWrite, at3]
  exact poweringOff_panelDown _ l

section
variable {s : State} {ag : Agent} {l : Layer} (can : CanWrite s ag R.TG_PANEL_CTRL)
include can

theorem panelOn_off (state : s.panelState l = 0) (off : s.flag (panelOnField l) = false) :
    ∃ u, Ends (.panelOn ag l) s u ∧ u.panelState l = 1 ∧ u.flag (panelOnField l) = true ∧ u.panel l = {} ∧ (∀ i, i < 16 → u.pad l i = {}) := by
  obtain ⟨ctrl, status⟩ := reg_accepted_panel s ag
  have started := panelBit_starts ((panelState_of_reg status l).trans state) ((flag_of_ctrl ctrl l).trans off)
  exact ⟨_, ends_asWrite_quiet can (eff := fun s => s.panelBit l true) (started.occ.trans (accepted_occ s ag)) (ends_panelOn ag l s rfl),
    started.state, started.flag.trans (flag_ctrlSet _ l), started.panel, started.pads⟩

theorem panelOff_on (state : s.panelState l = 3) (on : s.flag (panelOnField l) = true) :
    ∃ u, Ends (.panelOff ag l) s u ∧ u.flag (panelOnField l) = false ∧ (u.panel l).heldOn = false
      ∧ u.panelState l = (if (s.run (layerTg l)).on then 4 else 5) := by
  obtain ⟨ctrl, status⟩ := reg_accepted_panel s ag
  have stopped := panelBit_stops ((panelState_of_reg status l).trans state) ((flag_of_ctrl ctrl l).trans on)
  have run : (ctrlSet (accepted s ag) l false).run (layerTg l) = s.run (layerTg l) := by
    rw [ctrlSet, State.run, State.setReg_tg, tg_accepted, State.run]
  exact ⟨_, ends_asWrite_quiet can (eff := fun s => s.panelBit l false) (stopped.occ.trans (accepted_occ s ag)) (ends_panelOff ag l s rfl),
    stopped.flag, stopped.held, run ▸ stopped.state⟩

end

/-! ### The delays and the release of enables -/

/-- The last enable of a layer that discharges is released, `ON` not being held (Table 7.6, step 5). -/
theorem panelReleased_off {s : State} {l : Layer} (state : s.panelState l = 5) (held : (s.panel l).heldOn = false) :
    s.panelReleased l = (s.setPanel l { s.panel l with gates := .park, protectDone := true, heldOn := false }).setPanelState l 0 := by
  unfold State.panelReleased
  simp only [held, panelState_congr (regs_setPanel s l _) l, state, if_true, Bool.false_eq_true, if_false]

/-- One enable of a layer is released. -/
def enableReleased (s : State) (l : Layer) (k : Nat) : State :=
  let t : State := { s with tg := { s.tg with enables := mset false s.tg.enables k false } }
  t.setPanel l { t.panel l with released := k :: (t.panel l).released.erase k }

theorem panelRelease_last {s : State} {l : Layer} {k : Nat} (state : s.panelState l = 5) (mem : k ∈ s.panelEnables l)
    (others : ∀ i, i ∈ s.panelEnables l → i ≠ k → i ∈ (s.panel l).released) : s.panelRelease l (some k) = (enableReleased s l k).panelReleased l := by
  have due : ¬ (!(s.panelState l == 5 || (s.panelState l == 6 && !(s.panel l).protectDone))) = true := by simp [state]
  have own : ¬ (!(s.panelEnables l).contains k) = true := by simpa using mem
  have panel : (enableReleased s l k).panel l = { s.panel l with released := k :: (s.panel l).released.erase k } := by
    rw [enableReleased, panel_setPanel_self]
    cases l <;> rfl
  have all : ((enableReleased s l k).panelEnables l).all ((enableReleased s l k).panel l).released.contains = true := by
    rw [panel, List.all_eq_true]
    intro i hi
    rw [List.contains_iff_mem, List.mem_cons]
    by_cases e : i = k
    · exact .inl e
    · exact .inr ((List.mem_erase_of_ne e).2 (others i hi e))
  exact (if_neg due).trans ((if_neg own).trans (if_pos all))

theorem panelEnableRelease_last {s : State} {l : Layer} {k : Nat} (hk : k < 4) (state : s.panelState l = 5) (held : (s.panel l).heldOn = false)
    (mem : k ∈ s.panelEnables l) (others : ∀ i, i ∈ s.panelEnables l → i ≠ k → i ∈ (s.panel l).released) :
    ∃ u, Ends (.panelEnableRelease l (some k)) s u ∧ u.panelState l = 0 ∧ (u.panel l).gates = .park ∧ mget false u.tg.enables k = false := by
  have ends : Ends (.panelEnableRelease l (some k)) s ((begun s).panelRelease l (some k)) :=
    ends_panelEnableRelease l (some k) s (by simpa [Instr.wellFormed] using hk)
  rw [panelRelease_last (s := begun s) state mem others] at ends
  have kept : ((enableReleased (begun s) l k).panel l).heldOn = false := by cases l <;> exact held
  rw [panelReleased_off (s := enableReleased (begun s) l k) state kept] at ends
  have set := setsPanel_setPanelState (enableReleased (begun s) l k) l
    { (enableReleased (begun s) l k).panel l with gates := .park, protectDone := true, heldOn := false } (st := 0) (by decide)
  refine ⟨_, ends, set.state, by rw [set.panel], ?_⟩
  rw [set.enables, enableReleased, enables_setPanel]
  exact mget_mset_self false s.tg.enables k false

theorem panelRelease_on {s : State} {l : Layer} (k : Nat) (state : s.panelState l = 3) : s.panelRelease l (some k) = s :=
  if_pos (by simp [state])

/-- The layer that an enable belongs to. -/
def enableLayer (s : State) (k : Nat) : Layer := if s.flag (F.TG_PANEL_EN_CFG_LAYER k) then .rear else .front

theorem onDelay_powered {s : State} {k : Nat} (lo : 1 ≤ s.panelState (enableLayer s k)) (hi : s.panelState (enableLayer s k) ≤ 3) :
    s.onDelay k = { s with tg := { s.tg with enables := mset false s.tg.enables k true } } :=
  if_pos (by simpa using ⟨lo, hi⟩)

theorem onDelay_off {s : State} {k : Nat} (off : s.panelState (enableLayer s k) = 0) : s.onDelay k = s := by
  have lo : ¬ 1 ≤ s.panelState (enableLayer s k) := by omega
  exact if_neg fun h => lo (of_decide_eq_true (Bool.and_eq_true_iff.1 h).1)

theorem onDelayElapsed_cases (s : State) {k : Nat} (hk : k < 4) :
    (1 ≤ s.panelState (enableLayer s k) → s.panelState (enableLayer s k) ≤ 3 →
      ∃ u, Ends (.onDelayElapsed k) s u ∧ mget false u.tg.enables k = true ∧ u = { begun s with tg := { s.tg with enables := u.tg.enables } })
    ∧ (s.panelState (enableLayer s k) = 0 → Ends (.onDelayElapsed k) s (begun s)) := by
  have ends : Ends (.onDelayElapsed k) s ((begun s).onDelay k) := ends_onDelayElapsed k s (by simpa [Instr.wellFormed] using hk)
  refine ⟨fun lo hi => ?_, fun off => ?_⟩
  · rw [onDelay_powered (s := begun s) lo hi] at ends
    exact ⟨_, ends, mget_mset_self false s.tg.enables k true, rfl⟩
  · rwa [onDelay_off (s := begun s) off] at ends

theorem gateDelayElapsed_cases (s : State) (l : Layer) :
    (s.panelState l = 1 → ∃ u, Ends (.gateDelayElapsed l) s u ∧ (u.panel l).gateDelayDone = true ∧ u.regs = s.regs)
    ∧ (s.panelState l ≠ 1 → Ends (.gateDelayElapsed l) s (begun s)) := by
  have ends : Ends (.gateDelayElapsed l) s ((begun s).gateDelay l) := ends_gateDelayElapsed l s rfl
  refine ⟨fun starting => ?_, fun other => ?_⟩
  · rw [show (begun s).gateDelay l = _ from if_pos starting] at ends
    exact ⟨_, ends, by rw [panel_setPanel_self], rfl⟩
  · rwa [show (begun s).gateDelay l = begun s from if_neg other] at ends

/-! ### The gate pads' edges (R183, R184) -/

/-- An advance of the time changes the time only. -/
theorem advanceTo_frame (s : State) (t : Nat) : s.advanceTo t = { s with now := max s.now t, house := (s.advanceTo t).house } := by
  unfold State.advanceTo
  split
  · next le => rw [Nat.max_eq_left le]
  · next gt => rw [Nat.max_eq_right (by omega)]

@[simp] theorem advanceTo_now (s : State) (t : Nat) : (s.advanceTo t).now = max s.now t := by rw [advanceTo_frame]
@[simp] theorem advanceTo_regs (s : State) (t : Nat) : (s.advanceTo t).regs = s.regs := by rw [advanceTo_frame]
@[simp] theorem advanceTo_tg (s : State) (t : Nat) : (s.advanceTo t).tg = s.tg := by rw [advanceTo_frame]

theorem edge_ends {s : State} {n sig t : Nat} {l : Layer} {stop : Bool} {p : GatePad}
    (ends : Ends (.gatePulseEdge n sig stop) s (((begun s).advanceTo t).setPad l sig p)) :
    ∃ u, Ends (.gatePulseEdge n sig stop) s u ∧ (u.pad l sig).pulse = p.pulse ∧ (u.pad l sig).hiZ = p.hiZ ∧ u.now = max s.now t ∧ u.regs = s.regs :=
  ⟨_, ends, by rw [pad_setPad_self], by rw [pad_setPad_self], advanceTo_now _ t, advanceTo_regs _ t⟩

section
variable {s : State} {l : Layer} {sig : Nat} (on : (s.run (layerTg l)).on = true) (pattern : (s.panel l).gates = .pattern)
include on pattern

theorem gateEdge_start (line : s.gateLine (layerTg l) sig (s.run (layerTg l)).line = true) (width : 16 ≤ s.gateWidth (layerTg l) sig) :
    s.gateEdge (layerTg l) sig false =
      (s.advanceTo ((s.run (layerTg l)).tick (s.get (F.TG_GATE_EDGE_START (layerTg l) sig)))).setPad l sig { s.pad l sig with pulse := true } := by
  have layer : (if layerTg l = 0 then Layer.front else .rear) = l := by cases l <;> rfl
  simp [State.gateEdge, layer, on, pattern, line, width]

theorem gateEdge_stop (pulse : (s.pad l sig).pulse = true) :
    s.gateEdge (layerTg l) sig true =
      (s.advanceTo ((s.run (layerTg l)).tick (s.get (F.TG_GATE_EDGE_STOP (layerTg l) sig)))).setPad l sig { s.pad l sig with pulse := false } := by
  have layer : (if layerTg l = 0 then Layer.front else .rear) = l := by cases l <;> rfl
  simp [State.gateEdge, layer, on, pattern, pulse]

theorem gatePulseEdge_cases (hs : sig < 16) :
    (s.gateLine (layerTg l) sig (s.run (layerTg l)).line = true → 16 ≤ s.gateWidth (layerTg l) sig →
      ∃ u, Ends (.gatePulseEdge (layerTg l) sig false) s u ∧ (u.pad l sig).pulse = true ∧ (u.pad l sig).hiZ = (s.pad l sig).hiZ
        ∧ u.now = max s.now ((s.run (layerTg l)).tick (s.get (F.TG_GATE_EDGE_START (layerTg l) sig))) ∧ u.regs = s.regs)
    ∧ ((s.pad l sig).pulse = true →
      ∃ u, Ends (.gatePulseEdge (layerTg l) sig true) s u ∧ (u.pad l sig).pulse = false ∧ (u.pad l sig).hiZ = (s.pad l sig).hiZ
        ∧ u.now = max s.now ((s.run (layerTg l)).tick (s.get (F.TG_GATE_EDGE_STOP (layerTg l) sig))) ∧ u.regs = s.regs) := by
  have ends (stop : Bool) : Ends (.gatePulseEdge (layerTg l) sig stop) s ((begun s).gateEdge (layerTg l) sig stop) :=
    ends_gatePulseEdge (layerTg l) sig stop s (by cases l <;> simpa [Instr.wellFormed, layerTg] using hs)
  refine ⟨fun line width => ?_, fun pulse => ?_⟩
  · have starts := ends false
    rw [gateEdge_start (s := begun s) on pattern line width] at starts
    exact edge_ends starts
  · have stops := ends true
    rw [gateEdge_stop (s := begun s) on pattern pulse] at stops
    exact edge_ends stops

end

/-! ### GATE_SHORT (R185, R388) -/

/-- From s to t the protection of a layer has started. -/
structure Protecting (s t : State) (l : Layer) : Prop where
  state : t.panelState l = 6
  flag : t.flag (panelOnField l) = false
  gates : (t.panel l).gates = .discharge

/-- From s to t protection leaves the pads, the record of shorts and the events. -/
structure PadsKept (s t : State) : Prop where
  pad : ∀ m i, t.pad m i = s.pad m i
  short : t.reg R.TG_GATE_SHORT = s.reg R.TG_GATE_SHORT
  occ : t.occ = s.occ

theorem PadsKept.trans {s t u : State} (h : PadsKept s t) (k : PadsKept t u) : PadsKept s u :=
  ⟨fun m i => (k.pad m i).trans (h.pad m i), k.short.trans h.short, k.occ.trans h.occ⟩

theorem protecting_protectOne (s : State) (l : Layer) :
    Protecting s (s.protectOne l) l ∧ PadsKept s (s.protectOne l) ∧ ∀ m, m ≠ l → LayerKept s (s.protectOne l) m := by
  have cleared := flag_putB_panelOn s l false
  have others (m : Layer) (hm : m ≠ l) := layerKept_clearOn s hm
  have short : (s.putB (panelOnField l) false).reg R.TG_GATE_SHORT = s.reg R.TG_GATE_SHORT :=
    reg_putB_ne _ _ (by rw [addr_panelOnField]; decide)
  have pads (m : Layer) (i : Nat) : (s.putB (panelOnField l) false).pad m i = s.pad m i := rfl
  have occ : (s.putB (panelOnField l) false).occ = s.occ := rfl
  unfold State.protectOne
  dsimp only
  generalize s.putB (panelOnField l) false = t at cleared others short pads occ ⊢
  have set := setsPanel_setPanelState t l
    { t.panel l with heldOn := false, blackLeft := 0, black := false, gates := .discharge, released := [], protectDone := false } (st := 6) (by decide)
  generalize State.setPanelState _ l 6 = u at set ⊢
  have dark := darkStep_backlightOff (W := fun _ => False) u
  have darkReg (a : Nat) := dark.reg a id
  exact ⟨⟨(panelState_of_reg (darkReg _) l).trans set.state, (flag_of_ctrl ((darkReg _).trans (set.reg _ (by decide))) l).trans cleared,
      by rw [dark.panel, set.panel]⟩,
    ⟨fun m i => ((dark.pad m i).trans (set.pad m i)).trans (pads m i), ((darkReg _).trans (set.reg _ (by decide))).trans short,
      (dark.occ.trans set.occ).trans occ⟩,
    fun m hm => (others m hm).trans ((set.kept hm).trans
      ⟨panelState_of_reg (darkReg _) m, flag_of_ctrl (darkReg _) m, dark.panel m⟩)⟩

theorem protecting_protect (s : State) (l : Layer) : Protecting s (s.protect l) l ∧ PadsKept s (s.protect l) := by
  obtain ⟨one, pads, -⟩ := protecting_protectOne s l
  unfold State.protect State.protectRear
  dsimp only
  split
  · next front =>
    subst front
    split
    · obtain ⟨-, rearPads, kept⟩ := protecting_protectOne (s.protectOne .front) .rear
      have front := kept .front (by decide)
      exact ⟨⟨front.state.trans one.state, front.flag.trans one.flag, by rw [front.panel]; exact one.gates⟩, pads.trans rearPads⟩
    · exact ⟨one, pads⟩
  · exact ⟨one, pads⟩

/-- A short is recorded and reported, and its pad is at high impedance. -/
def shortNoted (s : State) (l : Layer) (sig : Nat) : State :=
  ((s.put (panelShortField l) (setBit (s.get (panelShortField l)) sig true)).setPad l sig { s.pad l sig with hiZ := true, pulse := false }).raise
    (if l = .front then 14 else 15) 4

theorem gateShorted_eq (s : State) (l : Layer) (sig : Nat) :
    s.gateShorted l sig = if (shortNoted s l sig).panelState l = 6 then shortNoted s l sig else (shortNoted s l sig).protect l := rfl

theorem panelState_shortNoted (s : State) (l m : Layer) (sig : Nat) : (shortNoted s l sig).panelState m = s.panelState m :=
  panelState_of_reg (reg_put_ne s _ (by rw [addr_panelShortField]; decide)) m

/-- The bits above those of a field do not show in it. -/
theorem bitAt_mod {v i n : Nat} (h : i < n) : bitAt (v % 2 ^ n) i = bitAt v i := by
  have e : v % 2 ^ n / 2 ^ i % 2 = v / 2 ^ i % 2 := by
    obtain ⟨k, rfl⟩ : ∃ k, n = i + (k + 1) := ⟨n - i - 1, by omega⟩
    rw [Nat.pow_add, Nat.mod_mul_right_div_self, Nat.pow_succ, Nat.mod_mul_left_mod]
  rw [bitAt, bitAt, e]

theorem short_shortNoted (s : State) (l : Layer) {sig : Nat} (h : sig < 16) : bitAt ((shortNoted s l sig).get (panelShortField l)) sig = true := by
  have e : (shortNoted s l sig).get (panelShortField l) = setBit (s.get (panelShortField l)) sig true % 2 ^ 16 := by
    have put := get_put_self s (panelShortField l) (setBit (s.get (panelShortField l)) sig true) (by cases l <;> decide) (by cases l <;> decide)
    have wide : (panelShortField l).hi + 1 - (panelShortField l).lo = 16 := by cases l <;> rfl
    rw [wide] at put
    exact put
  rw [e, bitAt_mod h]
  exact bitAt_setBit_true _ _

/-- After the report protection runs, if it ran not yet (R185). -/
theorem gateShorted_spec (s : State) (l : Layer) (sig : Nat) : PadsKept (shortNoted s l sig) (s.gateShorted l sig)
    ∧ (s.gateShorted l sig).panelState l = 6 ∧ (s.panelState l ≠ 6 → Protecting (shortNoted s l sig) (s.gateShorted l sig) l) := by
  rw [gateShorted_eq, panelState_shortNoted]
  split
  · next runs => exact ⟨⟨fun _ _ => rfl, rfl, rfl⟩, (panelState_shortNoted s l l sig).trans runs, fun h => absurd runs h⟩
  · obtain ⟨starts, pads⟩ := protecting_protect (shortNoted s l sig) l
    exact ⟨pads, starts.state, fun _ => starts⟩

theorem gateShort_driven {s : State} {l : Layer} {sig : Nat} (hs : sig < 16) (driven : (s.padLevel l sig).isSome = true) :
    ∃ u, Ends (.gateShort l sig) s u ∧ u.pad l sig = { s.pad l sig with hiZ := true, pulse := false }
      ∧ bitAt (u.get (panelShortField l)) sig = true ∧ u.panelState l = 6 ∧ ⟨if l = .front then 14 else 15, 4⟩ ∈ u.occ
      ∧ (s.panelState l ≠ 6 → u.flag (panelOnField l) = false ∧ (u.panel l).gates = .discharge) ∧ ∀ p, p < 3 → u.seqRuns p = [] := by
  have ends : Ends (.gateShort l sig) s ((begun s).gateShort l sig) := ends_gateShort l sig s (by simpa [Instr.wellFormed] using hs)
  have level : ¬ ((begun s).padLevel l sig).isNone = true := by
    rw [show (begun s).padLevel l sig = s.padLevel l sig from rfl, Option.isNone_iff_eq_none]
    exact Option.isSome_iff_ne_none.1 driven
  rw [State.gateShort, if_neg level] at ends
  obtain ⟨pads, protects, starts⟩ := gateShorted_spec (begun s) l sig
  have bit := short_shortNoted (begun s) l hs
  have pad : (shortNoted (begun s) l sig).pad l sig = { s.pad l sig with hiZ := true, pulse := false } := pad_setPad_self _ l sig _
  have told : (⟨if l = .front then 14 else 15, 4⟩ : Occ) ∈ (shortNoted (begun s) l sig).occ := by simp [shortNoted, State.raise]
  have runs (p : Nat) (hp : p < 3) := seqRuns_preempt (((begun s).gateShorted l sig).calGateShort l) hp
  generalize (begun s).gateShorted l sig = t at ends pads protects starts runs
  have rest := (engineStep_calGateShort t l).trans ((engineStep_preempt (t.calGateShort l)).mono offTg_of_offSync)
  have panel (m : Layer) : ((t.calGateShort l).preempt).panel m = t.panel m := by cases m <;> simp only [State.panel, rest.tg]
  refine ⟨_, ends, ?_, ?_, (panelState_of_reg (rest.reg _ (by decide)) l).trans protects, rest.mem_occ (pads.occ ▸ told),
    fun h => ⟨(flag_of_ctrl (rest.reg _ (by decide)) l).trans (starts h).flag, by rw [panel]; exact (starts h).gates⟩, runs⟩
  · rw [State.pad, rest.tg]
    exact (pads.pad l sig).trans pad
  · rwa [rest.get (by rw [addr_panelShortField]; decide), State.get, addr_panelShortField, pads.short, ← addr_panelShortField l]

theorem gateShort_undriven {s : State} {l : Layer} {sig : Nat} (hs : sig < 16) (level : s.padLevel l sig = none) :
    Ends (.gateShort l sig) s (begun s) := by
  have ends : Ends (.gateShort l sig) s ((begun s).gateShort l sig) := ends_gateShort l sig s (by simpa [Instr.wellFormed] using hs)
  have none : ((begun s).padLevel l sig).isNone = true := Option.isNone_iff_eq_none.2 level
  rwa [State.gateShort, if_pos none] at ends

/-! ### The obligation -/

/-- Settles O44: each command has the one effect of its table that its clause is about. -/
theorem panelCommands : Obligations.PanelCommands := by
  intro s ag l k sig hs hk n
  have release : s.panelState l = 3 → Ends (.panelEnableRelease l (some k)) s (begun s) := fun on => by
    have ends : Ends (.panelEnableRelease l (some k)) s ((begun s).panelRelease l (some k)) :=
      ends_panelEnableRelease l (some k) s (by simpa [Instr.wellFormed] using hk)
    rwa [panelRelease_on (s := begun s) k on] at ends
  obtain ⟨delayDone, delayNot⟩ := gateDelayElapsed_cases s l
  exact ⟨fun can => ⟨panelOn_off can, panelOff_on can⟩, onDelayElapsed_cases s hk, delayDone, delayNot, panelEnableRelease_last hk, release,
    fun on pattern => gatePulseEdge_cases on pattern hs, gateShort_driven hs, gateShort_undriven hs⟩

end Sys2Proof.TgLaws
end

section
/-! What is wrong with O43. LINE_START of TG2 also lets the backlight's scan follow the line (`State.bleLine`), and with TG2 off, where the
generator's frame has no planned lines, every line counts as one past them, so that the scan goes dark. A scan that still names a row is
then changed, though nothing is to happen. -/

namespace Sys2Proof.TgLaws

open Sys2Proof Sys2Proof.Machine
open Sys2Proof.Laws hiding taken

/-- The backlight is as the effect of the command left it. -/
theorem finish_ble (s u : State) : (finish s u).ble = u.ble := by
  rw [show finish s u = _ from sameBut_finish s u]

/-- The backlight that a command leaves is that of any effect that it ends with. -/
theorem ble_eq_of_ends {c : Instr} {s u v : State} (hu : Ends c s u) (hv : Ends c s v) : u.ble = v.ble := by
  have e : finish s u = finish s v := by
    rw [Ends] at hu hv
    injection hu.symm.trans hv
  rw [← finish_ble s u, e, finish_ble]

/-- LINE_START of a generator that is off begins no line. -/
theorem lineStart_off {s : State} {n : Nat} (off : (s.run n).on = false) : s.lineStart n = s := if_pos (by simp [off])

/-- With TG2 off, LINE_START of it still lets the backlight's scan follow. -/
theorem ends_lineStart_stopped {s : State} (off : (s.run 2).on = false) : Ends (.lineStart 2) s (begun s).bleLine := by
  have ends := ends_lineStart 2 s rfl
  dsimp only at ends
  rwa [lineStart_off (s := begun s) off, if_neg (by simp), if_pos rfl] at ends

/-- After reset, but the backlight's scan names row 0. -/
def scanLeft : State := { State.reset with ble := { State.reset.ble with scan := [0] } }

/-- Refutes O43: with TG2 off and row 0 in the backlight's scan, LINE_START of TG2 takes the row out of the scan. A stop of TG2 leaves the
scan empty, so that no run is known to reach such a state; the obligation speaks of every state. -/
theorem not_linesAndStops : ¬ Obligations.LinesAndStops := by
  intro h
  obtain ⟨-, off, -⟩ := h scanLeft 2 (by decide)
  have stopped : (scanLeft.run 2).on = false := by decide +kernel
  obtain ⟨nothing, -, -⟩ := off stopped
  have same := congrArg BleState.scan (ble_eq_of_ends nothing (ends_lineStart_stopped stopped))
  have before : (begun scanLeft).ble.scan = [0] := rfl
  have after : (begun scanLeft).bleLine.ble.scan = [] := by decide +kernel
  rw [before, after] at same
  exact absurd same (by decide)

end Sys2Proof.TgLaws
end

section
/-! The generators' own operations at a frame boundary (R173 to R182): which of them keep the frames in progress, and how a frame begins. -/

namespace Sys2Proof.TgLaws

open Sys2Proof Sys2Proof.Machine
open Sys2Proof.Laws hiding taken

/-! ### Steps of the generators -/

/-- From s to t the generators work: of the state only registers, among them none outside W, generators and tallies change, and the frames in
progress stay. -/
structure GenStep (W : Nat → Prop) (s t : State) : Prop where
  frame : t = { s with regs := t.regs, tg := t.tg, tal := t.tal }
  reg : ∀ a, ¬ W a → t.reg a = s.reg a
  run : ∀ n, SameFrame (s.run n) (t.run n)

section
variable {W : Nat → Prop} {s t u : State}

namespace GenStep

theorem refl (s : State) : GenStep W s s := ⟨rfl, fun _ _ => rfl, fun _ => .refl _⟩

theorem trans (h : GenStep W s t) (k : GenStep W t u) : GenStep W s u where
  frame := by rw [k.frame, h.frame]
  reg a ha := (k.reg a ha).trans (h.reg a ha)
  run n := (h.run n).trans (k.run n)

theorem ite {c : Prop} [Decidable c] (h : GenStep W s t) (k : GenStep W s u) : GenStep W s (if c then t else u) := by
  split
  · exact h
  · exact k

theorem of_each {α : Type} {f : State → α → State} {l : List α} (step : ∀ s, ∀ x ∈ l, GenStep W s (f s x)) : ∀ s : State, GenStep W s (s.each l f) := by
  induction l with
  | nil => exact fun s => refl s
  | cons x l ih => exact fun s => (step s x (by simp)).trans (ih (fun s y hy => step s y (by simp [hy])) _)

theorem frameStep (h : GenStep W s t) : FrameStep W s t := ⟨h.reg, h.run, by rw [h.frame]⟩

theorem shadow (h : GenStep W s t) : t.shadow = s.shadow := by rw [h.frame]
theorem tblShadow (h : GenStep W s t) : t.tblShadow = s.tblShadow := by rw [h.frame]

/-- A change of pads. -/
theorem of_pads (s : State) (p : SMap GatePad) : GenStep W s { s with tg := { s.tg with pads := p } } := ⟨rfl, fun _ _ => rfl, fun _ => .refl _⟩

section
variable (h : GenStep W s t)
include h

theorem each {α : Type} {f : State → α → State} {l : List α} (step : ∀ s, ∀ x ∈ l, GenStep W s (f s x)) : GenStep W s (t.each l f) :=
  h.trans (of_each step t)

theorem setReg {a : Nat} (v : Nat) (mem : W a) : GenStep W s (t.setReg a v) :=
  h.trans ⟨rfl, fun _ hb => reg_setReg_ne t v fun e => hb (e ▸ mem), fun _ => .refl _⟩

theorem put {f : FRef} (v : Nat) (mem : W f.addr) : GenStep W s (t.put f v) := h.setReg _ mem

theorem setRun {n : Nat} {r : TgRun} (same : SameFrame (t.run n) r) : GenStep W s (t.setRun n r) := by
  refine h.trans ⟨rfl, fun _ _ => rfl, fun m => ?_⟩
  by_cases e : m = n
  · subst e
    rwa [run_setRun_self]
  · rw [run_setRun_ne _ _ e]
    exact .refl _

end

end GenStep

end

/-- The registers of a generator that a frame boundary changes besides its number. -/
theorem passingSync_gen {n : Nat} (h : n < 4) : PassingSync (R.TG_STATUS n) ∧ PassingSync (R.TG_PHASE_ERR n) ∧ PassingSync (R.TG_CNT_STEP n)
    ∧ PassingSync (R.TG_CNT_SUPPRESS n) := by
  simp only [PassingSync, Passing, R.TG_STATUS, R.TG_PHASE_ERR, R.TG_CNT_STEP, R.TG_CNT_SUPPRESS, R.TG_CFG, R.TG_FRAME_NO, R.TG_CNT_RELOCK,
    R.BLE_STATUS]
  refine ⟨⟨fun m hm => ?_, ?_⟩, ⟨fun m hm => ?_, ?_⟩, ⟨fun m hm => ?_, ?_⟩, ⟨fun m hm => ?_, ?_⟩⟩ <;> omega

/-! ### Lock states and the measurement (R178, Table 7.2) -/

section
variable (s : State) {n : Nat} (hn : n < 4)

theorem genStep_followStates : GenStep PassingSync s s.followStates := by
  refine GenStep.of_each (fun s m mem => .ite ?_ (.refl s)) s
  have hm : m < 4 := by
    simp only [List.mem_append, List.mem_cons, List.not_mem_nil, or_false] at mem
    omega
  exact (GenStep.refl s).put _ (passingSync_gen hm).1

/-- A generator's run with what only its lock is about changed. -/
theorem genStep_withRun {W : Nat → Prop} (m : Nat) {r : TgRun} (same : SameFrame (s.run m) r) : GenStep W s (s.setRun m r) := (GenStep.refl s).setRun same

include hn

theorem genStep_setLock (st : Nat) : GenStep PassingSync s (s.setLock n st) :=
  ((GenStep.refl s).put _ (passingSync_gen hn).1).trans (genStep_followStates _)

theorem genStep_tgAcquire : GenStep PassingSync s (s.tgAcquire n) :=
  (genStep_withRun s n (by exact ⟨rfl, rfl, rfl, rfl⟩)).trans (genStep_setLock _ hn 2)

theorem genStep_tgJudge (e : Int) : GenStep PassingSync s (s.tgJudge n e) := by
  unfold State.tgJudge
  refine .ite (.ite (.refl s) (.ite (genStep_tgAcquire s hn) ?_)) (.ite (genStep_tgAcquire s hn) (genStep_setLock s hn 3))
  exact .ite ((genStep_withRun s n (by exact ⟨rfl, rfl, rfl, rfl⟩)).trans (genStep_setLock _ hn 3)) (genStep_withRun s n (by exact ⟨rfl, rfl, rfl, rfl⟩))

theorem genStep_tgMeasure (inst : Nat) : GenStep PassingSync s (s.tgMeasure n inst).1 := by
  unfold State.tgMeasure
  split
  · exact (GenStep.refl s).setReg _ (passingSync_gen hn).2.1
  · split
    · exact .refl s
    · exact (((GenStep.refl s).setReg _ (passingSync_gen hn).2.1).setRun (by exact ⟨rfl, rfl, rfl, rfl⟩)).trans (genStep_tgJudge _ hn _)

omit hn in
theorem genStep_tgServoStep {W : Nat → Prop} (e : Option Int) : GenStep W s (s.tgServoStep n e) := by
  unfold State.tgServoStep
  split
  · exact .ite (.refl s) (genStep_withRun s n (by exact ⟨rfl, rfl, rfl, rfl⟩))
  · exact .refl s

theorem genStep_tgRelock (inst : Nat) : GenStep PassingSync s (s.tgRelock n inst) := by
  have fresh : GenStep PassingSync s (s.setReg (R.TG_PHASE_ERR n) noPhase) := (GenStep.refl s).setReg _ (passingSync_gen hn).2.1
  unfold State.tgRelock
  dsimp only
  refine (fresh.setRun (n := n) (r := { (s.setReg (R.TG_PHASE_ERR n) noPhase).run n with
    integ := 0, inWindow := 0, lockAt := inst, refAt := none, edges := [], fresh := false, want := false, may := false, targets := [] })
    ⟨rfl, rfl, rfl, rfl⟩).trans ?_
  generalize State.setRun _ n _ = t
  split
  · exact genStep_setLock t hn 1
  · refine .trans ?_ (genStep_followStates _)
    refine GenStep.put (f := F.TG_STATUS_LOCK_STATE n) (.ite (genStep_withRun t n ?_) (.refl t)) _ (passingSync_gen hn).1
    exact ⟨rfl, rfl, rfl, rfl⟩
  · exact genStep_tgAcquire t hn

theorem genStep_tgTake (inst : Nat) : GenStep PassingSync s (s.tgTake n inst) := by
  have taken : GenStep PassingSync s (s.setRun n { s.run n with cfg := s.reg (R.TG_CFG n), lock := s.reg (R.TG_LOCK n) }) :=
    genStep_withRun s n (by exact ⟨rfl, rfl, rfl, rfl⟩)
  unfold State.tgTake
  exact .ite taken (taken.trans (genStep_tgRelock _ hn inst))

end

/-! ### Pulses, jumps and the step level (R179, R181) -/

section
variable {W : Nat → Prop} (s : State)

theorem genStep_setPad (l : Layer) (g : Nat) (p : GatePad) : GenStep W s (s.setPad l g p) := .of_pads s _

theorem genStep_endPulses (n : Nat) : GenStep W s (s.endPulses n) :=
  .ite ((GenStep.refl s).each fun s g _ => genStep_setPad s .front g _)
    (.ite ((GenStep.refl s).each fun s g _ => genStep_setPad s .rear g _) (.refl s))

theorem genStep_endLine (n : Nat) : GenStep W s (s.endLine n) :=
  .ite (.refl s) ((GenStep.refl s).each fun s g _ => genStep_setPad s _ g _)

/-- A jump up to its count. -/
def jumpNoted (s : State) (n inst : Nat) : State :=
  let t := (s.endPulses n).setReg (R.TG_PHASE_ERR n) 0
  t.setRun n { t.run n with
    integ := 0, inWindow := 0, want := false, may := false, edges := (t.run n).edges.filter fun x => (inst : Int) < t.edgeTarget n x
    fresh := false }

theorem tgJump_eq (n inst : Nat) : s.tgJump n inst = (jumpNoted s n inst).count (R.TG_CNT_RELOCK n) := rfl

theorem genStep_jumpNoted {n : Nat} (hn : n < 4) (inst : Nat) : GenStep PassingSync s (jumpNoted s n inst) :=
  ((genStep_endPulses s n).setReg _ (passingSync_gen hn).2.1).setRun (by exact ⟨rfl, rfl, rfl, rfl⟩)

theorem genStep_tgStep : GenStep PassingSync s s.tgStep := by
  have level (r : TgRun) (v : Nat) (same : SameFrame (s.run 0) r) : GenStep PassingSync s ((s.setRun 0 r).put (F.TG_STATUS_STEP 0) v) :=
    (genStep_withRun s 0 same).put _ (passingSync_gen (by decide)).1
  unfold State.tgStep
  exact .ite (level _ 0 (by exact ⟨rfl, rfl, rfl, rfl⟩)) (.ite (level _ _ (by exact ⟨rfl, rfl, rfl, rfl⟩)) (genStep_withRun s 0 (by exact ⟨rfl, rfl, rfl, rfl⟩)))

theorem genStep_leadFollowers (n oldEnd inst : Nat) : GenStep W s (s.leadFollowers n oldEnd inst) :=
  (GenStep.refl s).each fun s f _ => genStep_withRun s f (by exact ⟨rfl, rfl, rfl, rfl⟩)

end

/-! ### A frame begins (R173, R466) -/

/-- Generator n is at the start of line 0 of a frame that began at an instant. -/
structure AtStart (r : TgRun) (inst : Nat) : Prop where
  on : r.on = true
  line : r.line = 0
  frameStart : r.frameStart = inst
  lineStart : r.lineStart = inst

theorem AtStart.same {r q : TgRun} {inst : Nat} (h : AtStart r inst) (k : SameFrame r q) : AtStart q inst :=
  ⟨k.on.trans h.on, k.line.trans h.line, k.frameStart.trans h.frameStart, k.lineStart.trans h.lineStart⟩

/-- The frame that begins is counted where it is a stepped one. -/
theorem reg_countStep (s : State) {n : Nat} (b : Bool) {a : Nat} (h : ¬ PassingSync a) (hn : n < 4) :
    (s.countIf b (R.TG_CNT_STEP n)).reg a = s.reg a :=
  reg_countIf_ne s b fun e => h (e ▸ (passingSync_gen hn).2.2.1)

theorem run_countIf (s : State) (b : Bool) (a n : Nat) : (s.countIf b a).run n = s.run n := by rw [State.run, State.run, State.countIf_tg]

/-- From s to t a frame of generator n has begun at an instant; the registers that a boundary keeps stay, and the time. -/
structure Opens (s t : State) (n inst : Nat) : Prop where
  start : AtStart (t.run n) inst
  reg : ∀ a, ¬ PassingSync a → t.reg a = s.reg a
  now : t.now = s.now

/-- The run of a frame that begins is set, told to the followers and counted. -/
def frameOpened (s : State) (n : Nat) (r : TgRun) (stepped : Bool) (oldEnd inst : Nat) : State :=
  let t := s.setRun n r
  ((t.setRun n { t.run n with told := (t.run n).plannedEnd }).countIf stepped (R.TG_CNT_STEP n)).leadFollowers n oldEnd inst

theorem opens_frameOpened (s : State) {n : Nat} (hn : n < 4) {r : TgRun} (stepped : Bool) (oldEnd : Nat) {inst : Nat} (start : AtStart r inst) :
    Opens s (frameOpened s n r stepped oldEnd inst) n inst := by
  have told : AtStart (((s.setRun n r).setRun n { (s.setRun n r).run n with told := ((s.setRun n r).run n).plannedEnd }).run n) inst := by
    rw [run_setRun_self, run_setRun_self]
    exact ⟨start.on, start.line, start.frameStart, start.lineStart⟩
  unfold frameOpened
  dsimp only
  have regs (a : Nat) : ((s.setRun n r).setRun n { (s.setRun n r).run n with told := ((s.setRun n r).run n).plannedEnd }).reg a = s.reg a := rfl
  have now : ((s.setRun n r).setRun n { (s.setRun n r).run n with told := ((s.setRun n r).run n).plannedEnd }).now = s.now := rfl
  generalize State.setRun (s.setRun n r) n _ = t at told regs now ⊢
  have lead : GenStep PassingSync (t.countIf stepped (R.TG_CNT_STEP n)) _ := genStep_leadFollowers _ n oldEnd inst
  refine ⟨AtStart.same ?_ (lead.run n), fun a ha => (lead.reg a ha).trans ((reg_countStep t stepped ha hn).trans (regs a)), ?_⟩
  · rw [run_countIf]
    exact told
  · rw [lead.frameStep.now, State.countIf_now, now]

/-- A frame of generator n begins (R173). -/
theorem opens_tgFrame (s : State) {n : Nat} (hn : n < 4) (inst : Nat) : Opens s (s.tgFrame n inst) n inst := by
  obtain ⟨level, r, stepped, e, start⟩ : ∃ level r stepped,
      s.tgFrame n inst = frameOpened (s.put (F.TG_STATUS_STEP n) level) n r stepped (s.run n).told inst ∧ AtStart r inst :=
    ⟨_, _, _, rfl, ⟨rfl, rfl, rfl, rfl⟩⟩
  have shown : GenStep PassingSync s (s.put (F.TG_STATUS_STEP n) level) := (GenStep.refl s).put _ (passingSync_gen hn).1
  have opened := opens_frameOpened (s.put (F.TG_STATUS_STEP n) level) hn stepped (s.run n).told start
  rw [e]
  exact ⟨opened.start, fun a ha => (opened.reg a ha).trans (shown.reg a ha), opened.now⟩

theorem engineStep_gateSuppress (s : State) {n : Nat} (hn : n < 4) : EngineStep PassingSync s (s.gateSuppress n) :=
  .ite (.refl _) ((EngineStep.refl s).count _ (passingSync_gen hn).2.2.2)

/-- What the beginning of a line does in its generator (R175, R184). -/
theorem engineStep_tgLine (s : State) {n : Nat} (hn : n < 4) : EngineStep PassingSync s (s.tgLine n) :=
  (((EngineStep.refl s).raiseIf _ (112 + 4 * n) 0).raiseIf _ (113 + 4 * n) 0).trans (engineStep_gateSuppress _ hn)

end Sys2Proof.TgLaws
end

section
/-! What commits do to the generators: those of the other engines nothing (R13, R14, R40). -/

namespace Sys2Proof.TgLaws

open Sys2Proof Sys2Proof.Machine
open Sys2Proof.Laws hiding taken

/-! ### Shadows -/

section
variable {W : Nat → Prop} (s : State)

theorem engineStep_withShadow (m : SMap Word) : EngineStep W s { s with shadow := m } := .of_same rfl rfl rfl rfl

theorem engineStep_applyRegs {keep : Nat → Bool} (h : ∀ a, keep a = true → W a) : EngineStep W s (s.applyRegs keep) := by
  refine (engineStep_withShadow s _).each fun s x mem => (EngineStep.refl s).setReg _ (h x.1 ?_)
  exact (List.mem_filter.1 mem).2

theorem engineStep_applyTbl (e : Nat) : EngineStep W s (s.applyTbl e) := .of_same rfl rfl rfl rfl

theorem engineStep_dropRegs (keep : Nat → Bool) : EngineStep W s (s.dropRegs keep) := engineStep_withShadow s _

/-- The registers of another engine's block. -/
theorem offTg_of_inEngine {e : Nat} (h : e ≠ 7) (a : Nat) (mem : inEngine e a = true) : OffTg a := by
  have block : a / 0x4000 = e := by simpa [inEngine] using mem
  unfold OffTg
  omega

theorem engineStep_applyBlock {e : Nat} (h : e ≠ 7) : EngineStep OffTg s ((s.applyRegs (inEngine e)).applyTbl e) :=
  (engineStep_applyRegs s (offTg_of_inEngine h)).trans (engineStep_applyTbl _ e)

/-! ### Words of the folds (R269, R270) -/

theorem offTg_fold (nn : Nat) : OffTg (R.FST_FOLD_STATUS nn) := by
  simp only [OffTg, R.FST_FOLD_STATUS]
  omega

theorem engineStep_noteCorrected (nn : Nat) : EngineStep OffTg s (s.noteCorrected nn) :=
  ((((EngineStep.refl s).count 1 (by decide)).tally _ _).put _ (offTg_fold nn)).raise _ _

theorem engineStep_noteUncorrectable (addr cls : Nat) : EngineStep OffTg s (s.noteUncorrectable addr cls) :=
  (((((EngineStep.refl s).setReg _ (by decide)).count 1 (by decide)).tally _ _).put _ (offTg_fold (foldOf addr))).raise _ _

theorem engineStep_noteEcc (addr : Nat) (e : Ecc) (cls : Nat) : EngineStep OffTg s (s.noteEcc addr e cls) := by
  cases e with
  | good => exact .refl s
  | single => exact engineStep_noteCorrected s _
  | double => exact engineStep_noteUncorrectable s addr cls

theorem engineStep_checkWords (lo hi : Nat) (ecc : EccMap) (cls : Nat) : EngineStep OffTg s (s.checkWords lo hi ecc cls).2 :=
  (EngineStep.refl s).each fun s e _ => engineStep_noteEcc s _ e.2 cls

theorem engineStep_missCount {own nn : Nat} : EngineStep OffTg s (s.missCount (s.ownerMiss own nn)) := by
  have counts : ∀ c, c = 1 ∨ c = R.FST_CNT_OFF_ACCESS ∨ c = R.FST_CNT_FOREIGN ∨ c = 0 → EngineStep OffTg s (s.missCount c) := by
    rintro c (rfl | rfl | rfl | rfl)
    · exact .refl s
    · exact (EngineStep.refl s).count (a := R.FST_CNT_OFF_ACCESS) 1 (by decide)
    · exact (EngineStep.refl s).count (a := R.FST_CNT_FOREIGN) 1 (by decide)
    · exact .refl s
  refine counts _ ?_
  unfold State.ownerMiss
  split_ifs <;> simp

theorem engineStep_ownerRead (own addr n : Nat) (ecc : EccMap) (cls : Nat) : EngineStep OffTg s (s.ownerRead own addr n ecc cls).2 := by
  unfold State.ownerRead State.readFolds
  split
  · exact .refl s
  · refine EngineStep.foldl Prod.snd (fun r nn _ => ?_) (true, s)
    dsimp only
    split
    · exact engineStep_missCount r.2
    · exact engineStep_checkWords r.2 _ _ ecc cls

theorem engineStep_useFree : EngineStep W s s.useFree := .of_same rfl rfl rfl rfl

/-! ### The front engines' commits -/

theorem engineStep_feCommit : EngineStep OffTg s s.feCommit :=
  ((engineStep_applyBlock s (by decide)).raiseIf _ 80 0).put _ (by decide)

theorem engineStep_splShowLa : EngineStep OffSync s s.splShowLa := by
  unfold State.splShowLa
  extract_lets l
  exact ((EngineStep.refl s).put _ (by decide)).put _ (by decide)

theorem engineStep_splLookahead : EngineStep OffSync s s.splLookahead := (engineStep_splShowLa s).raiseIf _ 86 0

theorem engineStep_withSpl (x : SplState) : EngineStep W s { s with spl := x } := .of_same rfl rfl rfl rfl

theorem engineStep_splCheck (rejected : Bool) : EngineStep OffSync s (s.splCheck rejected) := by
  unfold State.splCheck
  extract_lets p g ok src noted
  have hNoted : EngineStep OffSync s noted := engineStep_withSpl s _
  exact ((hNoted.putB _ (by decide)).raiseIf _ 87 3).trans (engineStep_splLookahead _)

theorem engineStep_splCommit (raster : Bool) : EngineStep OffTg s (s.splCommit raster) := by
  unfold State.splCommit
  extract_lets touched p bad tables applied counted dropped
  have hApplied : EngineStep OffTg s applied :=
    ((engineStep_applyRegs s fun a h => offTg_of_inEngine (by decide) a (Bool.and_eq_true_iff.1 h).1).trans (engineStep_applyTbl _ 3)).raiseIf _ 83 0
  have hCounted : EngineStep OffTg s counted := .ite (hApplied.put _ (by decide)) hApplied
  have hDropped : EngineStep OffTg s dropped := .ite (((hCounted.trans (engineStep_dropRegs _ _)).putB _ (by decide)).raise 87 0) hCounted
  exact .ite (hDropped.trans ((engineStep_splCheck _ bad).mono offTg_of_offSync)) hDropped

theorem pcmReadDir_snd (p : Snap) :
    (s.pcmReadDir p).2 = if !p.pcmUsed then s else (s.useFree.ownerRead 4 p.pcmBase 1040 s.freeEcc 3).2 := by
  have after (r : Bool × State) :
      (if !p.pcmUsed then (true, s) else (r.1 && pcmDirectoryOk s.fst.mem p, r.2)).2 = if !p.pcmUsed then s else r.2 := apply_ite Prod.snd _ _ _
  exact after _

theorem engineStep_pcmReadDir (p : Snap) : EngineStep OffTg s (s.pcmReadDir p).2 := by
  rw [pcmReadDir_snd]
  exact .ite (.refl s) ((engineStep_useFree s).trans (engineStep_ownerRead s.useFree 4 p.pcmBase 1040 s.freeEcc 3))

theorem engineStep_pcmCommit : EngineStep OffTg s s.pcmCommit := by
  unfold State.pcmCommit
  refine .ite (.refl s) ?_
  extract_lets p
  split
  next _ dir read e =>
  have hRead : EngineStep OffTg s read := by
    have h := engineStep_pcmReadDir s p
    rwa [e] at h
  extract_lets why masked applied shown set list
  have hShown : EngineStep OffTg s shown :=
    ((((hRead.trans (engineStep_applyBlock read (by decide))).putB _ (by decide)).put _ (by decide))).raise 96 0
  have hSet : EngineStep OffTg s set := hShown.put _ (by decide)
  have hList : EngineStep OffTg s list := .ite (hSet.putB _ (by decide)) hSet
  exact .ite (((hRead.putB _ (by decide)).put _ (by decide)).raise 97 0) (.ite (hList.trans ((engineStep_splLookahead _).mono offTg_of_offSync)) hList)

theorem engineStep_odrNeeds : EngineStep OffSync s s.odrNeeds := ((EngineStep.refl s).put _ (by decide)).put _ (by decide)

theorem engineStep_withOdr (x : OdrState) : EngineStep W s { s with odr := x } := .of_same rfl rfl rfl rfl

theorem engineStep_odrCommit : EngineStep OffTg s s.odrCommit := by
  unfold State.odrCommit
  refine .ite (.refl s) ?_
  extract_lets p why old tables fresh applied shown told
  have hTold : EngineStep OffTg s told := (((engineStep_applyBlock s (by decide)).putB _ (by decide)).put _ (by decide)).raiseIf _ 104 0
  exact .ite ((((EngineStep.refl s).putB _ (by decide)).put _ (by decide)).raise 105 0)
    ((hTold.trans (engineStep_withOdr _ _)).trans ((engineStep_odrNeeds _).mono offTg_of_offSync))

theorem engineStep_dthCommit : EngineStep OffTg s s.dthCommit := (engineStep_applyBlock s (by decide)).raiseIf _ 110 0

/-! ### The driver link's and the buffer's commits -/

theorem engineStep_pllRate (p : Nat) : EngineStep OffTg s (s.pllRate p) := by
  have dropped : EngineStep OffTg s (s.pllDrop p) := by
    refine ((EngineStep.refl s).setReg _ (by decide)).each fun s l _ => .ite (.refl s) ?_
    exact (((EngineStep.refl s).put _ (offTg_lane l).1).put _ (offTg_lane l).1).trans (engineStep_setLane _ l _)
  exact dropped.each fun s l _ => (EngineStep.refl s).setReg _ (offTg_lane l).2.1

theorem engineStep_portCommit (nn old new : Nat) : EngineStep OffTg s (s.portCommit nn old new) := by
  unfold State.portCommit
  extract_lets src polled
  have hPolled : EngineStep OffTg s polled := by
    change EngineStep OffTg s (match mfind s.adl.polls (nn / 7) with | some p => _ | none => s)
    split
    · exact .ite (engineStep_withAdl s _) (.refl s)
    · exact .refl s
  exact .ite hPolled (.ite (hPolled.trans (engineStep_withAdl _ _)) (hPolled.trans (engineStep_portApply _ nn old new)))

theorem engineStep_adlCommit : EngineStep OffTg s s.adlCommit := by
  unfold State.adlCommit
  refine .ite (.refl s) ?_
  extract_lets p why was ports applied shown rated
  have hShown : EngineStep OffTg s shown := ((engineStep_applyRegs s (offTg_of_inEngine (by decide))).putB _ (by decide)).put _ (by decide)
  have hRated : EngineStep OffTg s rated := hShown.each fun s k _ => engineStep_pllRate s (4 + k)
  exact .ite ((((engineStep_dropRegs s _).putB _ (by decide)).put _ (by decide)).raise 49 0)
    (hRated.each fun s nn _ => engineStep_portCommit s nn _ _)

theorem engineStep_srfCommit : EngineStep OffTg s s.srfCommit := by
  unfold State.srfCommit
  refine .ite (.refl s) (.ite ?_ ?_)
  · exact (((engineStep_dropRegs s _).putB _ (by decide)).put _ (by decide)).raise 232 0
  · exact ((engineStep_applyRegs s (offTg_of_inEngine (by decide))).putB _ (by decide)).put _ (by decide)

theorem engineStep_noteLayout : EngineStep OffSync s s.noteLayout := by
  unfold State.noteLayout
  exact .ite (.refl s) (((EngineStep.refl s).putB _ (by decide)).raiseIf _ 233 3)

theorem engineStep_srfAfterCommit : EngineStep OffSync s s.srfAfterCommit := by
  have need : EngineStep OffSync s (s.put F.SRF_STATUS_SRC_NEED s.snapshot.srcNeed) := (EngineStep.refl s).put _ (by decide)
  unfold State.srfAfterCommit
  exact .ite need (need.trans (engineStep_noteLayout _))

theorem engineStep_pcmMaskCheck : EngineStep OffSync s s.pcmMaskCheck := ((EngineStep.refl s).raiseIf _ 102 0).putB _ (by decide)

/-! ### The backlight's commit -/

theorem engineStep_chainCommit (was now' : Bool) {c : Nat} : EngineStep OffTg s (s.chainCommit was now' c) := by
  have chain : OffTg (R.BLE_CHAIN_STATUS c) := by
    simp only [OffTg, R.BLE_CHAIN_STATUS]
    omega
  exact .ite (.refl s) (.ite ((engineStep_withBle s _).put _ chain) ((engineStep_withBle s _).put _ chain))

theorem offTg_loop (k : Nat) : OffTg (R.BLE_LOOP_STATUS k) := by
  simp only [OffTg, R.BLE_LOOP_STATUS]
  omega

theorem engineStep_loopClear (k : Nat) : EngineStep OffTg s (s.loopClear k) :=
  ((engineStep_withBle s _).put _ (offTg_loop k)).put _ (offTg_loop k)

theorem engineStep_vledStart : EngineStep OffTg s s.vledStart :=
  ((EngineStep.refl s).put _ (by decide)).trans (.of_same rfl rfl rfl rfl)

theorem frameStep_bleCommitted (was : State) : FrameStep OffTg s (s.bleCommitted was) := by
  unfold State.bleCommitted
  extract_lets en lit src lights chains loops
  have hLights : FrameStep OffTg s lights := by
    refine .ite ?_ (.ite (.of_engine (engineStep_bleDark s)) (.refl s))
    have hLit : FrameStep OffTg s lit := (FrameStep.refl s).setReg 4096 (by decide)
    exact hLit.trans (.of_same rfl rfl rfl)
  have hChains : FrameStep OffTg s chains := hLights.engine ((EngineStep.refl _).each fun s c _ => engineStep_chainCommit s _ _)
  have hLoops : FrameStep OffTg s loops := by
    refine hChains.engine ((EngineStep.refl _).each fun s k _ => ?_)
    extract_lets
    exact .ite (engineStep_loopClear s k) (.ite ((engineStep_withBle s _).setReg _ (offTg_loop k)) (.refl s))
  exact .ite (hLoops.engine (engineStep_vledStart _)) hLoops

theorem frameStep_bleCommit : FrameStep OffTg s s.bleCommit := by
  unfold State.bleCommit
  refine .ite (.refl s) ?_
  extract_lets p why was tables applied shown
  have hShown : EngineStep OffTg s shown := ((engineStep_applyBlock s (by decide)).putB _ (by decide)).put _ (by decide)
  exact .ite (.of_engine ((((EngineStep.refl s).putB _ (by decide)).put _ (by decide)).raise 209 0))
    ((FrameStep.of_engine (hShown.raiseIf _ 208 0)).trans (frameStep_bleCommitted _ was))

/-- The commit of the engines that work in frames keeps the frames in progress and the generators' registers (R14). -/
theorem frameStep_commitEngines (raster : Bool) : FrameStep OffTg s (s.commitEngines raster) := by
  unfold State.commitEngines
  extract_lets old any front needs back new gaps key masked
  have hFront : EngineStep OffTg s front :=
    ((((engineStep_feCommit s).trans (engineStep_splCommit _ raster)).trans (engineStep_pcmCommit _)).trans (engineStep_odrCommit _)).trans
      (engineStep_dthCommit _)
  have hNeeds : EngineStep OffTg s needs := .ite (hFront.trans ((engineStep_odrNeeds _).mono offTg_of_offSync)) hFront
  have hBack : FrameStep OffTg s back :=
    (FrameStep.of_engine (((hNeeds.trans (engineStep_adlCommit _)).trans (engineStep_calScan _)).trans (engineStep_srfCommit _))).trans
      (frameStep_bleCommit _)
  have hGaps : FrameStep OffTg s gaps := hBack.engine ((EngineStep.refl _).putB _ (by decide))
  have hMasked : FrameStep OffTg s masked := .ite (hGaps.engine ((engineStep_pcmMaskCheck _).mono offTg_of_offSync)) hGaps
  exact .ite (hMasked.engine ((engineStep_srfAfterCommit _).mono offTg_of_offSync)) hMasked

end

end Sys2Proof.TgLaws
end

section
/-! The commit at a generator's boundary where none waits (R13, R173): registers stay, but for the notes that every commit renews. -/

namespace Sys2Proof.TgLaws

open Sys2Proof Sys2Proof.Machine
open Sys2Proof.Laws hiding taken

/-- No commit waits. -/
def Quiet (s : State) : Prop := s.shadow = [] ∧ s.tblShadow = []

/-- The shadows stay as they are. -/
def ShadowsKept (s t : State) : Prop := t.shadow = s.shadow ∧ t.tblShadow = s.tblShadow

theorem Quiet.of_kept {s t : State} (h : Quiet s) (k : ShadowsKept s t) : Quiet t := ⟨k.1.trans h.1, k.2.trans h.2⟩

theorem shadowsKept_each {α : Type} {f : State → α → State} {l : List α} (step : ∀ s x, ShadowsKept s (f s x)) :
    ∀ s : State, ShadowsKept s (s.each l f) := by
  induction l with
  | nil => exact fun s => ⟨rfl, rfl⟩
  | cons x l ih => exact fun s => ⟨(ih (f s x)).1.trans (step s x).1, (ih (f s x)).2.trans (step s x).2⟩

theorem shadowsKept_makeDue (s : State) (u trigger : Nat) : ShadowsKept s (s.makeDue u trigger) := by
  unfold State.makeDue
  split
  · exact ⟨rfl, rfl⟩
  · exact ⟨rfl, rfl⟩

theorem shadowsKept_calRescan (s : State) : ShadowsKept s s.calRescan := by
  refine shadowsKept_each (fun s x => ?_) s
  split
  · exact shadowsKept_makeDue s _ _
  · exact ⟨rfl, rfl⟩

theorem shadowsKept_calScan (s : State) : ShadowsKept s s.calScan := by
  obtain ⟨regs, tbl⟩ := shadowsKept_calRescan s
  obtain ⟨regs', tbl'⟩ := shadowsKept_each (l := allUnits.filter _) (fun s u => shadowsKept_makeDue s u 0) s.calRescan
  exact ⟨regs'.trans regs, tbl'.trans tbl⟩

/-! ### Each commit where none waits -/

section
variable {s : State} (h : Quiet s)
include h

theorem applyRegs_of_quiet (keep : Nat → Bool) : s.applyRegs keep = s := by
  obtain ⟨regs, -⟩ := h
  rw [State.applyRegs, State.waitingRegs, regs]
  change { s with shadow := [] } = s
  rw [← regs]

theorem applyTbl_of_quiet (e : Nat) : s.applyTbl e = s := by
  obtain ⟨-, tbl⟩ := h
  rw [State.applyTbl, State.waitingTbl, tbl]
  change { s with tblShadow := [] } = s
  rw [← tbl]

theorem waitingTbl_of_quiet (e : Nat) : s.waitingTbl e = [] := by rw [State.waitingTbl, h.2, List.filter_nil]

theorem anyWaiting_of_quiet (e : Nat) : s.anyWaiting e = false := by
  rw [State.anyWaiting, waitingTbl_of_quiet h, State.waitingRegs, h.1, List.filter_nil]
  rfl

theorem regW_of_quiet (a : Nat) : s.regW a = s.reg a := by rw [State.regW, h.1]; rfl

theorem feCommit_of_quiet : s.feCommit = s.put F.FE_STATUS_ACTIVE_SET (s.get F.FE_CFG_SET) := by
  unfold State.feCommit
  simp [applyRegs_of_quiet h, applyTbl_of_quiet h, waitingTbl_of_quiet h, State.raiseIf]

theorem splCommit_of_quiet (raster : Bool) : s.splCommit raster = if raster then s.splCheck false else s := by
  have untouched : (splGeomRegs.any fun a => s.regW a != s.reg a) = false := by simp [regW_of_quiet h]
  unfold State.splCommit
  simp [untouched, applyRegs_of_quiet h, applyTbl_of_quiet h, waitingTbl_of_quiet h, State.raiseIf]

theorem pcmCommit_of_quiet : s.pcmCommit = s := by simp [State.pcmCommit, anyWaiting_of_quiet h]

theorem odrCommit_of_quiet : s.odrCommit = s := by simp [State.odrCommit, anyWaiting_of_quiet h]

theorem dthCommit_of_quiet : s.dthCommit = s := by
  unfold State.dthCommit
  simp [applyRegs_of_quiet h, applyTbl_of_quiet h, waitingTbl_of_quiet h, State.raiseIf]

theorem adlCommit_of_quiet : s.adlCommit = s := by simp [State.adlCommit, anyWaiting_of_quiet h]

theorem srfCommit_of_quiet : s.srfCommit = s := by simp [State.srfCommit, State.waitingRegs, h.1]

theorem bleCommit_of_quiet : s.bleCommit = s := by simp [State.bleCommit, anyWaiting_of_quiet h]

theorem quiet_splCheck (rejected : Bool) : Quiet (s.splCheck rejected) := by
  refine h.of_kept ?_
  unfold State.splCheck State.splLookahead State.splShowLa
  simp [ShadowsKept]

/-- The front engines' part of a commit. -/
theorem frontCommit_of_quiet (raster : Bool) :
    Quiet (((s.feCommit.splCommit raster).pcmCommit).odrCommit).dthCommit
      ∧ EngineStep OffSync s (((s.feCommit.splCommit raster).pcmCommit).odrCommit).dthCommit := by
  have quiet : Quiet (s.put F.FE_STATUS_ACTIVE_SET (s.get F.FE_CFG_SET)) := h
  have fe : EngineStep OffSync s (s.put F.FE_STATUS_ACTIVE_SET (s.get F.FE_CFG_SET)) := (EngineStep.refl s).put _ (by decide)
  have spl : Quiet (s.feCommit.splCommit raster) ∧ EngineStep OffSync s (s.feCommit.splCommit raster) := by
    rw [feCommit_of_quiet h, splCommit_of_quiet quiet]
    split
    · exact ⟨quiet_splCheck quiet _, fe.trans (engineStep_splCheck _ _)⟩
    · exact ⟨quiet, fe⟩
  rw [pcmCommit_of_quiet spl.1, odrCommit_of_quiet spl.1, dthCommit_of_quiet spl.1]
  exact spl

theorem quiet_odrNeeds : Quiet s.odrNeeds := by
  refine h.of_kept ?_
  unfold State.odrNeeds
  simp [ShadowsKept]

theorem odrNeeds_of_quiet (raster : Bool) :
    Quiet (if raster then s.odrNeeds else s) ∧ EngineStep OffSync s (if raster then s.odrNeeds else s) := by
  split
  · exact ⟨quiet_odrNeeds h, engineStep_odrNeeds s⟩
  · exact ⟨h, .refl s⟩

/-- The part of the link, of calibration, of the buffers and of the backlight. -/
theorem backCommit_of_quiet : EngineStep OffSync s (s.adlCommit.calScan.srfCommit).bleCommit := by
  have scanned := h.of_kept (shadowsKept_calScan s)
  rw [adlCommit_of_quiet h, srfCommit_of_quiet scanned, bleCommit_of_quiet scanned]
  exact engineStep_calScan s

theorem engineStep_commitEngines_of_quiet (raster : Bool) : EngineStep OffSync s (s.commitEngines raster) := by
  obtain ⟨frontQuiet, frontStep⟩ := frontCommit_of_quiet h raster
  obtain ⟨needsQuiet, needsStep⟩ := odrNeeds_of_quiet frontQuiet raster
  unfold State.commitEngines
  extract_lets old any front needs back new gaps key masked
  have hBack : EngineStep OffSync s back := (frontStep.trans needsStep).trans (backCommit_of_quiet needsQuiet)
  have hGaps : EngineStep OffSync s gaps := hBack.putB _ (by decide)
  have hMasked : EngineStep OffSync s masked := .ite (hGaps.trans (engineStep_pcmMaskCheck _)) hGaps
  exact .ite (hMasked.trans (engineStep_srfAfterCommit _)) hMasked

theorem within_of_quiet (mine : Nat → Bool) (f : State → State) : s.within mine f = f s := by
  have same : ({ s with shadow := [], tblShadow := [] } : State) = s := by
    obtain ⟨regs, tbl⟩ := h
    cases s
    subst regs tbl
    rfl
  obtain ⟨regs, tbl⟩ := h
  unfold State.within
  simp only [regs, tbl, List.filter_nil, List.foldl_nil, same]

theorem tgCommitRegs_of_quiet (n : Nat) (rejected : List Nat) :
    (s.tgCommitRegs n rejected).1 = s.pairsCommit n s.snapshot (s.pairsWaiting n) := by
  have none : s.tgFiveWaits n = false := by simp [State.tgFiveWaits, h.1, mfind]
  unfold State.tgCommitRegs
  simp [none, applyRegs_of_quiet h]

end

theorem frameStep_pairsCommit {W : Nat → Prop} (s : State) (n : Nat) (old : Snap) (written : List Nat) : FrameStep W s (s.pairsCommit n old written) := by
  unfold State.pairsCommit
  extract_lets kept cleared lost src noted
  have hNoted : FrameStep W s noted := .of_same rfl rfl rfl
  exact hNoted.setRun (by exact ⟨rfl, rfl, rfl, rfl⟩)

/-- A boundary's commit with nothing waiting keeps the frames in progress (R13, R173). -/
theorem frameStep_boundaryCommit {s : State} (h : Quiet s) (n : Nat) : FrameStep OffSync s (s.boundaryCommit n) := by
  unfold State.boundaryCommit
  dsimp only
  rw [within_of_quiet h]
  have quiet : Quiet (s.tgCommitRegs n s.tgRejected).1 := by
    rw [tgCommitRegs_of_quiet h]
    exact h
  have paired : FrameStep OffSync s (s.tgCommitRegs n s.tgRejected).1 := by
    rw [tgCommitRegs_of_quiet h]
    exact frameStep_pairsCommit s n _ _
  exact paired.engine (engineStep_commitEngines_of_quiet quiet _)

end Sys2Proof.TgLaws
end

section
/-! What the front generator's boundary begins with (R71, R173, R179, R242, R269): the other engines' work at the end of a frame. -/

namespace Sys2Proof.TgLaws

open Sys2Proof Sys2Proof.Machine
open Sys2Proof.Laws hiding taken
open Sys2Proof.LinkLaws (BackFrame backFrame_backAll backFrame_backSend backFrame_sendCredit)

section
variable {W : Nat → Prop} (s : State)

/-! ### Concealment (R71, R269) -/

theorem engineStep_ownerSegment (own n b k addr limit : Nat) (ecc : EccMap) (cls : Nat) :
    EngineStep OffTg s (s.ownerSegment own n b k addr limit ecc cls).2 := by
  unfold State.ownerSegment
  generalize memSegment s.fst.mem n b k addr limit = g
  dsimp only
  have read := engineStep_ownerRead s own g.1 g.2.1 ecc cls
  generalize s.ownerRead own g.1 g.2.1 ecc cls = r at read ⊢
  exact read

/-- The columns of the front buffer read in turn, by any read that is a step. -/
theorem engineStep_readCols {read : State → Nat → Option (List (List Nat)) × State} (h : ∀ t i, EngineStep W t (read t i).2) (bx : Nat)
    (xs : List Nat) :
    EngineStep W s (xs.foldl (fun (r : SMap (List (List Nat)) × State) i =>
      match read r.2 i with
      | (some c, s) => (mput r.1 (bx + i) c, s)
      | (none, s) => (r.1, s)) ([], s)).2 := by
  refine EngineStep.foldl Prod.snd (fun r i _ => ?_) ([], s)
  have kept := h r.2 i
  generalize read r.2 i = q at kept ⊢
  obtain ⟨_ | c, t⟩ := q
  · exact kept
  · exact kept

theorem engineStep_frontLine (ecc : EccMap) (y x0 x1 : Nat) : EngineStep OffTg s (s.frontLine ecc y x0 x1).2 := by
  have reads (l : BufLayout) (t : State) (i : Nat) : EngineStep OffTg t (t.readSlot s.frontBuf l i ecc 3).2 := engineStep_ownerSegment t _ _ _ _ _ _ ecc 3
  rw [State.frontLine]
  generalize State.readSlot = read, List.range = numbers at reads ⊢
  cases s.layoutOf s.frontBuf with
  | none => exact .refl s
  | some l =>
    simp only []
    rw [apply_ite Prod.snd]
    refine .ite (.refl s) ?_
    generalize numbers _ = xs
    exact engineStep_readCols s (fun t i => reads l t (y / 4 * l.cols + x0 / 64 + i)) (x0 / 64) xs

theorem engineStep_concealCols (ecc : EccMap) (y x0 x1 : Nat) : EngineStep OffTg s (s.concealCols ecc y x0 x1) := by
  unfold State.concealCols State.putCols
  exact (engineStep_frontLine s ecc y x0 x1).trans (engineStep_withPil _ _)

theorem engineStep_concealLine (ecc : EccMap) (f : RxFrame) (x0 x1 : Nat) : EngineStep OffTg s (s.concealLine ecc f x0 x1).1 := by
  unfold State.concealLine
  split
  · exact .refl s
  · exact ((engineStep_concealCols s ecc _ x0 x1).countIf _ (by decide)).raiseIf _ _ _

theorem engineStep_concealLines (ecc : EccMap) (n : Nat) : ∀ (s : State) (f : RxFrame), EngineStep OffTg s (s.concealLines ecc f n).1 := by
  induction n with
  | zero => exact fun s f => .refl s
  | succ n ih => exact fun s f => (engineStep_concealLine s ecc f f.col f.w).trans (ih _ _)

theorem engineStep_concealTo (ecc : EccMap) (f : RxFrame) (line col : Nat) : EngineStep OffTg s (s.concealTo ecc f line col).1 :=
  (engineStep_concealLines ecc (line - f.line) s f).trans (engineStep_concealLine _ ecc _ _ col)

theorem engineStep_concealDegraded : EngineStep OffTg s s.concealDegraded := by
  unfold State.concealDegraded
  refine .ite (.refl s) (.ite ?_ (.ite (.refl s) (((EngineStep.refl s).count _ (by decide)).raise 70 3)))
  split
  · exact .refl s
  · next f _ => exact ((engineStep_useFree s).trans (engineStep_concealTo s.useFree s.freeEcc f f.h 0)).trans (engineStep_withPil _ _)

/-! ### Dead zones and dead columns -/

theorem engineStep_zoneDead (z c : Nat) : EngineStep OffTg s (s.zoneDead z c) := by
  unfold State.zoneDead
  extract_lets a w spl tables shown
  have hTables : EngineStep OffTg s tables := .of_same rfl rfl rfl rfl
  exact (((hTables.put _ (by decide)).put _ (by decide)).put _ (by decide)).raise 88 3

theorem engineStep_splBoundary : EngineStep OffTg s s.splBoundary :=
  .ite (.refl s) ((engineStep_withSpl s _).each fun s d _ => engineStep_zoneDead s d.1 d.2)

theorem engineStep_tblBoth (a : Nat) (w : Word) : EngineStep W s (s.tblBoth a w) := .of_same rfl rfl rfl rfl

theorem engineStep_autoColumn (layer : Layer) (colour index : Nat) : EngineStep OffTg s (s.autoColumn layer colour index) := by
  unfold State.autoColumn
  extract_lets rear sh same slot
  clear_value slot
  cases slot with
  | none => exact ((EngineStep.refl s).putB _ (by decide)).raise 99 3
  | some i =>
    obtain ⟨w0, w1⟩ : Word × Word := autoWords rear colour index (s.get F.PCM_AUTO_SHARE)
    dsimp only
    exact (((((((((engineStep_tblBoth s _ w0).trans (engineStep_tblBoth _ _ w1)).count 1 (by decide)).putB _ (by decide)).putB _
      (by decide)).put _ (by decide)).put _ (by decide)).put _ (by decide)).raise 98 3)

theorem engineStep_withPcm (x : PcmState) : EngineStep W s { s with pcm := x } := .of_same rfl rfl rfl rfl

theorem engineStep_pcmAuto : EngineStep OffTg s s.pcmAuto :=
  .ite (engineStep_withPcm s _) ((engineStep_withPcm s _).each fun s d _ => engineStep_autoColumn s d.1 d.2.1 d.2.2)

/-! ### Self-refresh and region updates (R242, R246, R247) -/

theorem engineStep_withSrf (x : SrfState) : EngineStep W s { s with srf := x } := .of_same rfl rfl rfl rfl

theorem engineStep_srfEnd : EngineStep OffTg s s.srfEnd :=
  (((engineStep_withSrf s _).putB _ (by decide)).raise 225 0).trans ((engineStep_noteLayout _).mono offTg_of_offSync)

theorem engineStep_giveCredit (slot : Nat) : EngineStep W s (s.giveCredit slot) := (engineStep_withPil s _).trans (.of_back (backFrame_sendCredit _ slot))

theorem engineStep_reportOutcome (r : RegionOutcome) : EngineStep W s (s.reportOutcome r) := by
  unfold State.reportOutcome
  split
  · exact .of_back (backFrame_backAll s 5 _)
  · exact (engineStep_withSrf s _).raise _ 0

theorem engineStep_flushOutcomes : EngineStep W s s.flushOutcomes := by
  refine EngineStep.foldl Prod.fst (fun r u _ => ?_) (s, [])
  dsimp only
  split
  · exact .refl _
  · split
    · exact .refl _
    · exact (engineStep_withSrf r.1 _).trans (engineStep_reportOutcome _ _)

theorem offTg_regionStatus (slot : Nat) : OffTg (R.SRF_RS_STATUS slot) := by
  simp only [OffTg, R.SRF_RS_STATUS]
  omega

theorem engineStep_finishUpdate (u : RegionUpd) (outcome : Nat) : EngineStep OffTg s (s.finishUpdate u outcome) := by
  unfold State.finishUpdate
  extract_lets told srf noted credited
  have hTold : EngineStep OffTg s told := ((EngineStep.refl s).put _ (offTg_regionStatus u.slot)).countIf _ (by decide)
  have hNoted : EngineStep OffTg s noted := hTold.trans (engineStep_withSrf _ _)
  have hCredited : EngineStep OffTg s credited := .ite ((hNoted.trans (engineStep_withSrf _ _)).trans (engineStep_giveCredit _ u.slot)) hNoted
  exact hCredited.trans (engineStep_flushOutcomes _)

theorem engineStep_srfShown : EngineStep OffTg s s.srfShown := (engineStep_withSrf s _).each fun s u _ => engineStep_finishUpdate s u 0

theorem engineStep_srfKick : EngineStep W s s.srfKick := by
  rw [srfKick_frame]
  exact engineStep_withSrf s _

theorem engineStep_srfEntry : EngineStep OffTg s s.srfEntry := by
  unfold State.srfEntry
  extract_lets drop srf pil dropped
  have hDropped : EngineStep OffTg s dropped := .of_same rfl rfl rfl rfl
  exact (((hDropped.putB _ (by decide)).count 1 (by decide)).raise 224 0).trans (engineStep_srfKick _)

/-- The note that the frame shown stays the same. -/
theorem frameStep_putSame (b : Bool) : FrameStep W s (s.setRun 0 { s.run 0 with same := b }) := (FrameStep.refl s).setRun ⟨rfl, rfl, rfl, rfl⟩

/-- The states on the way are variables, for the kernel is not to unfold the engines' steps. -/
theorem frameStep_refreshBoundary (placed : Bool) : FrameStep OffTg s (s.refreshBoundary placed).1 := by
  have ended : FrameStep OffTg s (s.srfEnd.setRun 0 { s.srfEnd.run 0 with same := false }) :=
    (FrameStep.of_engine (engineStep_srfEnd s)).trans (frameStep_putSame _ _)
  unfold State.refreshBoundary
  dsimp only at ended ⊢
  generalize s.srfEnd.setRun 0 _ = t at ended ⊢
  generalize (s.selfRefresh && s.srf.exiting && (placed || s.srf.exitDue)) = ends
  have left : FrameStep OffTg s (if ends then t else s) := .ite ended (.refl s)
  generalize (if ends = true then t else s) = u at left ⊢
  have shown := left.engine (engineStep_srfShown u)
  generalize u.srfShown = v at shown ⊢
  have entered : FrameStep OffTg s (if !v.selfRefresh && v.causes != 0 then v.srfEntry else v) := .ite (shown.engine (engineStep_srfEntry v)) shown
  generalize (if (!v.selfRefresh && v.causes != 0) = true then v.srfEntry else v) = w at entered ⊢
  exact .ite (entered.trans (frameStep_putSame w w.srf.readHeld)) entered

/-! ### A synchronised start (R179) -/

theorem engineStep_odrSyncReset : EngineStep OffTg s s.odrSyncReset := by
  unfold State.odrSyncReset
  extract_lets counted raised dth
  have hCounted : EngineStep OffTg s counted := (engineStep_withOdr s _).count 1 (by decide)
  exact ((hCounted.raise 106 0).count 1 (by decide)).trans (.of_same rfl rfl rfl rfl)

theorem engineStep_splSyncReset : EngineStep OffTg s s.splSyncReset := ((engineStep_withSpl s _).count 1 (by decide)).raise 84 0

theorem engineStep_bleSyncReset : EngineStep OffTg s s.bleSyncReset :=
  .ite (.refl s) ((EngineStep.refl s).each fun s k _ => ((engineStep_loopClear s k).count 1 (by decide)).raise 216 0)

theorem engineStep_syncAll : EngineStep OffTg s s.syncAll :=
  (((EngineStep.ite ((engineStep_splSyncReset s).trans (engineStep_odrSyncReset _)) (engineStep_withSpl s _)).trans
    (engineStep_bleSyncReset _))).trans (engineStep_withPil _ _)

/-! ### The boundary's own steps -/

theorem sameBut_boundaryTally : SameBut s s.boundaryTally := by
  unfold State.boundaryTally
  extract_lets no period asked
  have hAsked : SameBut s asked := by
    unfold asked
    split
    · exact sameBut_talRequest s 1
    · exact .refl s
  exact hAsked.trans (sameBut_talCut _ _ _)

theorem frameStep_tg0Before (e : FrameEdge) (placed : Bool) : FrameStep Passing s (s.tg0Before e placed) := by
  unfold State.tg0Before
  extract_lets video shown noted
  have hShown : FrameStep Passing s shown := by
    refine .ite (.refl s) ((FrameStep.of_engine ((engineStep_concealDegraded s).mono passing_of_offTg)).trans ?_)
    exact (genStep_tgStep _).frameStep.mono passing_of_passingSync
  have hNoted : EngineStep OffTg shown noted :=
    (((engineStep_noteLayout shown).mono offTg_of_offSync).trans (engineStep_pcmAuto _)).trans (engineStep_splBoundary _)
  have refreshed := frameStep_refreshBoundary noted placed
  generalize noted.refreshBoundary placed = r at refreshed ⊢
  obtain ⟨kept, ends⟩ := r
  dsimp only at refreshed ⊢
  have synced : EngineStep OffTg kept (if e.jump || kept.spl.syncPending || ends then kept.syncAll else kept) :=
    .ite (engineStep_syncAll kept) (.refl kept)
  refine hShown.trans (FrameStep.mono passing_of_offTg ?_)
  exact ((FrameStep.of_engine hNoted).trans refreshed).engine ((synced.put _ (by decide)).trans (engineStep_withPil _ _))

end

end Sys2Proof.TgLaws
end

section
/-! The rest of a frame's boundary: calibration, the engines of the front layer, the layers' own work and the backlight's
(R173, R185, R211). -/

namespace Sys2Proof.TgLaws

open Sys2Proof Sys2Proof.Machine
open Sys2Proof.Laws hiding taken

section
variable {W : Nat → Prop} (s : State)

/-! ### Calibration -/

theorem engineStep_handBands : EngineStep OffTg s s.handBands := by
  unfold State.handBands
  extract_lets c₀ untaken back c₁ freed taken c₂ covered c₃ tested
  have hUntaken : EngineStep OffTg s untaken := engineStep_setCal s _
  have hBack : EngineStep OffTg s back := by
    change EngineStep OffTg s (match s.cal.takeBack with | none => s | some h => _)
    split
    · exact .refl s
    · next h _ =>
      extract_lets parked
      have hParked : EngineStep OffTg s parked := .ite (hUntaken.trans (engineStep_setRole _ 16 1 0)) hUntaken
      exact .ite hParked (hParked.trans (engineStep_setRole _ h 0 h))
  have hFreed : EngineStep OffTg s freed := hBack.trans (engineStep_setCal _ _)
  have hTaken : EngineStep OffTg s taken := by
    change EngineStep OffTg s (match back.cal.takeover with | none => back | some h => _)
    split
    · exact hBack
    · next h _ =>
      extract_lets handed
      have hHanded : EngineStep OffTg s handed := (hFreed.trans (engineStep_setRole _ 16 4 h)).trans (engineStep_logAdd _ 556 1)
      exact .ite hFreed (.ite (hHanded.trans (engineStep_setCal _ _)) hHanded)
  have hCovered : EngineStep OffTg s covered :=
    (hTaken.trans (engineStep_setCal _ _)).each fun s x _ => .ite ((engineStep_setRole s _ 4 _).trans (engineStep_logAdd _ 556 1)) (.refl s)
  have hTested : EngineStep OffTg s tested := hCovered.trans (engineStep_setCal _ _)
  split
  · exact hCovered
  · next b _ => exact .ite hTested ((hTested.trans (engineStep_setRole _ b.slice 6 b.home)).trans (engineStep_setCal _ _))

theorem engineStep_putRun (r : CalRun) : EngineStep W s (s.putRun r) := engineStep_setCal s _

theorem engineStep_portAdvance (r : CalRun) : EngineStep OffTg s (s.portAdvance r) := by
  unfold State.portAdvance
  extract_lets a b resumed saved trimmed
  have hResumed : EngineStep OffTg s resumed := (engineStep_laneResume s a).trans (engineStep_laneResume _ b)
  have hTrimmed : EngineStep OffTg s trimmed := hResumed.trans (engineStep_applyTrims _ _ _)
  exact .ite ((hResumed.trans (engineStep_portTrims _ r)).trans (engineStep_calDone _ r))
    (.ite ((hTrimmed.trans (engineStep_setFallow _ b true)).trans (engineStep_putRun _ _)) (hTrimmed.trans (engineStep_calDone _ r)))

theorem engineStep_setRot (k : Nat) (r : PilRot) : EngineStep W s (s.setRot k r) := engineStep_withPil s _

/-- A calibration run at a boundary: a slice's, the spare's, a lane's or a port's. -/
theorem engineStep_calAdvance (r : CalRun) : EngineStep OffTg s (s.calAdvance r) := by
  unfold State.calAdvance
  extract_lets u l trimmed k rot turned
  split
  · split
    · exact .ite ((engineStep_setRole s _ _ _).trans (engineStep_putRun _ _)) (.refl s)
    · exact (((engineStep_setRole s _ _ _).trans (engineStep_setRole _ _ _ _)).trans (engineStep_logAdd _ 556 1)).trans (engineStep_putRun _ _)
    · exact ((engineStep_applyTrims s _ _).trans (engineStep_setRole _ _ _ _)).trans (engineStep_putRun _ _)
    · exact ((engineStep_setRole s _ _ _).trans (engineStep_setRole _ _ _ _)).trans (engineStep_calDone _ r)
    · exact .refl s
  split
  · split
    · exact (engineStep_setRole s _ _ _).trans (engineStep_putRun _ _)
    · exact ((engineStep_applyTrims s _ _).trans (engineStep_setRole _ _ _ _)).trans (engineStep_calDone _ r)
    · exact .refl s
  split
  · by_cases port : 0x40 ≤ u
    · rw [if_pos port]
      exact engineStep_portAdvance s r
    · rw [if_neg port]
      have hTrimmed : EngineStep OffTg s trimmed := (engineStep_applyTrims s _ _).trans (engineStep_laneRelock _ (by omega))
      refine .ite ((hTrimmed.trans (engineStep_setFallow _ l false)).trans (engineStep_calDone _ r)) ?_
      exact ((hTrimmed.trans (engineStep_setRot _ k _)).put _ (offTg_flock (by omega))).trans (engineStep_putRun _ _)
  · exact .refl s

theorem engineStep_grazeNext : EngineStep OffTg s s.grazeNext := by
  unfold State.grazeNext
  refine .ite (.refl s) (.ite (engineStep_setRole s 16 1 0) ?_)
  split
  · exact (engineStep_setRole s 16 2 _).trans (engineStep_setCal _ _)
  · exact engineStep_setRole s 16 1 0

theorem engineStep_sliceTally (k c : Nat) : EngineStep W s (s.sliceTally k c) := (EngineStep.refl s).tally _ _

theorem engineStep_calBoundary : EngineStep OffTg s s.calBoundary := by
  unfold State.calBoundary
  extract_lets handed advanced next spare shown cleared
  have hAdvanced : EngineStep OffTg s advanced := (engineStep_handBands s).each fun s r _ => engineStep_calAdvance s r
  have hNext : EngineStep OffTg s next := (hAdvanced.trans (engineStep_grazeNext _)).trans (engineStep_calRescan _)
  have hShown : EngineStep OffTg s shown := (hNext.put _ (by decide)).put _ (by decide)
  exact (hShown.trans (engineStep_setCal _ _)).each fun s k _ => .ite (engineStep_sliceTally s k 3) (.ite (engineStep_sliceTally s k 4) (.refl s))

/-! ### The front layer's engines -/

theorem engineStep_pcmBoundary (p : Snap) : EngineStep W s (s.pcmBoundary p) := by
  unfold State.pcmBoundary
  exact .ite (.refl s) (engineStep_withPcm s _)

theorem engineStep_odrFrame (ahead : Bool) : EngineStep W s (s.odrFrame ahead) := .ite (.refl s) (engineStep_withOdr s _)

theorem engineStep_odrBoundary (p : Snap) : EngineStep OffTg s (s.odrBoundary p) := by
  unfold State.odrBoundary
  refine .ite (.refl s) ?_
  extract_lets heat f r odr stepped front rear
  have hStepped : EngineStep OffTg s stepped := engineStep_withOdr s _
  have hFront : EngineStep OffTg s front := hStepped.trans ((engineStep_slowLayer _ false).mono offTg_of_offSync)
  have hRear : EngineStep OffTg s rear := .ite hFront (hFront.trans ((engineStep_slowLayer _ true).mono offTg_of_offSync))
  exact (hRear.put _ (by decide)).put _ (by decide)

theorem engineStep_dthBoundary (p : Snap) : EngineStep OffTg s (s.dthBoundary p) := by
  unfold State.dthBoundary
  refine .ite (.refl s) ?_
  extract_lets ff zero phased odr dth stepped
  have hPhased : EngineStep OffTg s phased := (EngineStep.refl s).put _ (by decide)
  have hStepped : EngineStep OffTg s stepped := hPhased.trans (.of_same rfl rfl rfl rfl)
  exact hStepped.trans ((engineStep_slowCount _).mono offTg_of_offSync)

theorem engineStep_withFe (x : FeState) : EngineStep W s { s with fe := x } := .of_same rfl rfl rfl rfl

theorem engineStep_tg0After : EngineStep OffTg s s.tg0After := by
  unfold State.tg0After
  extract_lets p ahead q moved sliced stepped
  have hMoved : EngineStep OffTg s moved := engineStep_calBoundary s
  have hSliced : EngineStep OffTg s sliced := .ite (hMoved.trans (engineStep_sliceLine _)) hMoved
  have hStepped : EngineStep OffTg s stepped :=
    ((hSliced.trans (engineStep_pcmBoundary _ p)).trans (engineStep_odrFrame _ ahead)).trans
      ((engineStep_odrBoundary _ q).trans (engineStep_dthBoundary _ q))
  exact (hStepped.trans (engineStep_withFe _ _)).trans (engineStep_adlLineStart _)

end

end Sys2Proof.TgLaws
end

section
/-! The layers' own boundaries, and the backlight's (R119, R185, R211, R440). -/

namespace Sys2Proof.TgLaws

open Sys2Proof Sys2Proof.Machine
open Sys2Proof.Laws hiding taken

section
variable {W : Nat → Prop} (s : State)

/-! ### The panel at a boundary (R185) -/

theorem frameStep_setPanel (l : Layer) (p : PanelSeq) : FrameStep W s (s.setPanel l p) := by
  cases l
  · exact .of_same rfl rfl rfl
  · exact .of_same rfl rfl rfl

theorem frameStep_putPanel (l : Layer) (p : PanelSeq) (st : Nat) : FrameStep OffGen s ((s.setPanel l p).setPanelState l st) := by
  refine (frameStep_setPanel s l p).trans ((darkStep_putPanelField _ l st).frame.mono fun a e => ?_)
  subst e
  exact .inr (by decide)

theorem frameStep_panelDischarge (l : Layer) : FrameStep OffGen s (s.panelDischarge l) := frameStep_putPanel s l _ 5

theorem frameStep_panelBoundary (l : Layer) : FrameStep OffGen s (s.panelBoundary l) := by
  unfold State.panelBoundary
  extract_lets p n
  split
  · exact .ite (.refl s) (.ite (frameStep_putPanel s l _ 3) (frameStep_putPanel s l _ 2))
  · exact .ite (frameStep_putPanel s l _ 3) (frameStep_setPanel s l _)
  · exact .ite (.ite (frameStep_panelDischarge s l) (frameStep_setPanel s l _))
      (.ite (frameStep_panelDischarge s l) (frameStep_setPanel s l _))
  · exact .refl s

/-! ### The layers' boundaries -/

theorem engineStep_calThaw : EngineStep W s s.calThaw := engineStep_calFreeze (engineStep_setCal s _)

theorem engineStep_reachRun : EngineStep OffSync s s.reachRun := by
  have noted : EngineStep OffSync s { s with cfg := { s.cfg with lightStep := 0 } } := .of_same rfl rfl rfl rfl
  exact (noted.put _ (by decide)).raise 16 0

theorem frameStep_within {f : State → State} (mine : Nat → Bool) (h : ∀ t, FrameStep W t (f t)) : FrameStep W s (s.within mine f) := by
  refine FrameStep.trans (t := { s with shadow := s.shadow.filter fun x => mine x.1, tblShadow := s.tblShadow.filter fun x => mine x.1 })
    (.of_same rfl rfl rfl) ((h _).trans ?_)
  exact .of_same rfl rfl rfl

theorem frameStep_firstLight : FrameStep OffTg s s.firstLight := by
  unfold State.firstLight
  refine .ite (.refl s) (.ite (.of_engine ((engineStep_reachRun s).mono offTg_of_offSync)) ?_)
  extract_lets asked cfg
  have hAsked : FrameStep OffTg s asked := .of_engine (engineStep_withShadow s _)
  refine .ite (hAsked.trans (.of_same rfl rfl rfl)) ?_
  exact (hAsked.trans (frameStep_within asked _ fun t => frameStep_commitEngines t false)).engine ((engineStep_reachRun _).mono offTg_of_offSync)

theorem frameStep_panelThaw (l : Layer) (n : Nat) : FrameStep OffGen s ((s.panelBoundary l).calThaw.adlBoundary n) :=
  ((frameStep_panelBoundary s l).engine (engineStep_calThaw _)).engine ((engineStep_adlBoundary _ n).mono offGen_of_offTg)

theorem frameStep_rearBoundary : FrameStep OffGen s (s.layerBoundary 1) := by
  unfold State.layerBoundary
  rw [if_neg (by decide), if_pos rfl]
  extract_lets slow counted thawed
  have hSlow : EngineStep OffSync s slow := engineStep_slowLayer s true
  have hCounted : EngineStep OffSync s counted := .ite (hSlow.trans (engineStep_slowCount _)) hSlow
  have hThawed : FrameStep OffGen s thawed :=
    (FrameStep.of_engine (hCounted.mono fun a h => offGen_of_offTg a (offTg_of_offSync a h))).trans (frameStep_panelThaw _ .rear 1)
  exact (hThawed.sameBut (sameBut_talCopy _ 3 _ false)).sameBut (sameBut_talPublish _)

theorem frameStep_layerBoundary (n : Nat) : FrameStep OffGen s (s.layerBoundary n) := by
  obtain rfl | rfl | ⟨front, rear⟩ : n = 0 ∨ n = 1 ∨ n ≠ 0 ∧ n ≠ 1 := by omega
  · exact (frameStep_panelThaw s .front 0).trans ((frameStep_firstLight _).mono offGen_of_offTg)
  · exact frameStep_rearBoundary s
  · rw [State.layerBoundary, if_neg front, if_neg rear]
    exact .of_engine ((EngineStep.refl s).raise _ 0)

theorem layerBoundary_backlight : s.layerBoundary 2 = s.raise 122 0 := rfl

/-! ### The backlight's boundary (R119, R211) -/

/-- From s to t the backlight takes its boundary: the frames in progress and the note of `BL_SYNC_IN` stay. -/
structure LightStep (s t : State) : Prop extends FrameStep OffTg s t where
  syncIn : t.flag F.BLE_STATUS_SYNC_IN_OK = s.flag F.BLE_STATUS_SYNC_IN_OK

theorem flag_congr_reg {s t : State} {f : FRef} (h : t.reg f.addr = s.reg f.addr) : t.flag f = s.flag f := by rw [State.flag, State.flag, State.get, State.get, h]

theorem LightStep.of_sync {s t : State} (h : FrameStep OffSync s t) : LightStep s t :=
  ⟨h.mono offTg_of_offSync, flag_congr_reg (h.reg _ fun k => k.2 rfl)⟩

theorem LightStep.trans {s t u : State} (h : LightStep s t) (k : LightStep t u) : LightStep s u :=
  ⟨h.toFrameStep.trans k.toFrameStep, k.syncIn.trans h.syncIn⟩

theorem LightStep.ite {s t u : State} {c : Prop} [Decidable c] (h : LightStep s t) (k : LightStep s u) : LightStep s (if c then t else u) := by
  split
  · exact h
  · exact k

theorem flag_put_disjoint (f g : FRef) (v : Nat) (h : f.lo ≤ f.hi) (hg : g.lo ≤ g.hi) (hh : g.hi < 32) (apart : f.hi < g.lo ∨ g.hi < f.lo) :
    (s.put f v).flag g = s.flag g := congrArg (· != 0) (get_put_disjoint s f g v h hg hh apart)

theorem lightStep_swapRegs : LightStep s (swapRegs s) := by
  have frame : FrameStep OffTg s (swapRegs s) :=
    .of_engine ((((EngineStep.refl s).put _ (by decide)).count 1 (by decide)).putB _ (by decide))
  refine ⟨frame, ?_⟩
  have bank := flag_put_disjoint s F.BLE_STATUS_BANK F.BLE_STATUS_SYNC_IN_OK (1 - s.bleBank) (by decide) (by decide) (by decide) (by decide)
  have counted : ((s.put F.BLE_STATUS_BANK (1 - s.bleBank)).count R.BLE_CNT_SWAP).flag F.BLE_STATUS_SYNC_IN_OK
      = (s.put F.BLE_STATUS_BANK (1 - s.bleBank)).flag F.BLE_STATUS_SYNC_IN_OK := flag_congr_reg (reg_count_ne _ 1 (by decide))
  exact (flag_put_disjoint _ F.BLE_STATUS_SWAP_PENDING F.BLE_STATUS_SYNC_IN_OK _ (by decide) (by decide) (by decide) (by decide)).trans
    (counted.trans bank)

theorem lightStep_bankSwap : LightStep s s.bankSwap := by
  have turned : FrameStep OffSync (swapRegs s) (banksTurned (swapRegs s)) := .of_same rfl rfl rfl
  rw [bankSwap_eq]
  refine (lightStep_swapRegs s).trans (.of_sync (FrameStep.sameBut (turned.each fun t c _ => ?_) (sameBut_talSwap _ _)))
  exact .of_engine ((engineStep_withBle t _).trans (engineStep_makeReady _ c _))

theorem engineStep_rampStep : EngineStep OffSync s s.rampStep := ((EngineStep.refl s).setReg _ (by decide)).raiseIf _ 213 0

theorem lightStep_bleLatchInputs (swapped : Bool) : LightStep s (s.bleLatchInputs swapped) := by
  unfold State.bleLatchInputs
  extract_lets ramped ages old new ble latched
  have hLatched : EngineStep OffSync s latched := (engineStep_rampStep s).trans (engineStep_withBle _ _)
  exact .of_sync (.of_engine (.ite (hLatched.trans (engineStep_allReady _)) hLatched))

theorem lightStep_bleSync (restart : Bool) : LightStep s (s.bleSync restart) := by
  unfold State.bleSync
  have latched := lightStep_bleLatchInputs s false
  have swapped := (lightStep_bankSwap s).trans (lightStep_bleLatchInputs s.bankSwap true)
  refine .ite (.of_sync (.refl s)) (.ite (.ite swapped latched) (.ite latched (.ite swapped ?_)))
  have counted : EngineStep OffSync s _ := ((engineStep_withSpl s { s.spl with swap := { s.spl.swap with deferred := true } }).raise 90 0).count
    (a := R.SPL_CNT_BL_SWAP) 1 (by decide)
  exact (LightStep.of_sync (.of_engine counted)).trans (lightStep_bleLatchInputs _ false)

theorem lightStep_bleBoundary (e : FrameEdge) : LightStep s (s.bleBoundary e) := by
  unfold State.bleBoundary
  extract_lets ok sync synced
  have hSynced : LightStep s synced := .ite (lightStep_bleSync s e.restart) (.of_sync (.refl s))
  exact .ite (hSynced.trans (.of_sync (.of_engine (engineStep_reachRun _)))) hSynced

end

end Sys2Proof.TgLaws
end

section
/-! A generator's frame boundary (R173, R179, R180, R211), and O42. -/

namespace Sys2Proof.TgLaws

open Sys2Proof Sys2Proof.Machine
open Sys2Proof.Laws hiding taken

/-- The registers that generator n's boundary may change before the backlight takes its part. -/
def BoundaryRegs (n a : Nat) : Prop := Passing a ∧ (n = 2 → a ≠ R.BLE_STATUS)

theorem boundaryRegs_of_passingSync {n : Nat} (a : Nat) (h : PassingSync a) : BoundaryRegs n a := ⟨h.1, fun _ => h.2⟩

theorem boundaryRegs_of_passing {n : Nat} (other : n ≠ 2) (a : Nat) (h : Passing a) : BoundaryRegs n a := ⟨h, fun e => absurd e other⟩

theorem boundaryRegs_of_offSync {n : Nat} (a : Nat) (h : OffSync a) : BoundaryRegs n a := boundaryRegs_of_passingSync a (passingSync_of_offSync a h)

section
variable {n : Nat} (hn : n < 4)
include hn

theorem not_passing_frameNo : ¬ Passing (R.TG_FRAME_NO n) := fun h => (h n hn).2.1 rfl

theorem not_passing_relock : ¬ Passing (R.TG_CNT_RELOCK n) := fun h => (h n hn).2.2 rfl

theorem not_passing_cfg : ¬ Passing (R.TG_CFG n) := fun h => (h n hn).1 rfl

end

theorem FrameStep.dite {W : Nat → Prop} {s t u : State} {c : Prop} [Decidable c] (h : c → FrameStep W s t) (k : ¬ c → FrameStep W s u) :
    FrameStep W s (if c then t else u) := by
  split
  · next hc => exact h hc
  · next hc => exact k hc

/-! ### The beginning of a frame -/

/-- From s to u a frame of generator n has begun at an instant, and been counted. -/
structure FrameBegins (s u : State) (n inst : Nat) : Prop where
  start : AtStart (u.run n) inst
  number : u.reg (R.TG_FRAME_NO n) = (s.reg (R.TG_FRAME_NO n) + 1) % 2 ^ 32
  relocks : u.reg (R.TG_CNT_RELOCK n) = s.reg (R.TG_CNT_RELOCK n)
  syncIn : n = 2 → u.flag F.BLE_STATUS_SYNC_IN_OK = s.flag F.BLE_STATUS_SYNC_IN_OK

/-- The engines' work before the generator's frame opens. -/
theorem frameStep_ending (s : State) {n : Nat} (inst : Nat) (e : FrameEdge) (placed : Bool) :
    FrameStep (BoundaryRegs n) s (if n = 2 ∧ !e.fresh then (if n = 0 then s.tg0Before e placed else s).bleFrameEnd inst e.early
      else if n = 0 then s.tg0Before e placed else s) := by
  have front : FrameStep (BoundaryRegs n) s (if n = 0 then s.tg0Before e placed else s) :=
    .dite (fun zero => (frameStep_tg0Before s e placed).mono (boundaryRegs_of_passing (by omega))) fun _ => .refl s
  exact .ite (front.engine ((engineStep_bleFrameEnd _ inst e.early).mono boundaryRegs_of_offSync)) front

/-- Their work after it has opened, up to the backlight's. -/
theorem frameStep_opened (s : State) {n : Nat} : FrameStep (BoundaryRegs n) s ((if n = 0 then s.tg0After else s).layerBoundary n) := by
  have front : FrameStep (BoundaryRegs n) s (if n = 0 then s.tg0After else s) :=
    .dite (fun zero => .of_engine ((engineStep_tg0After s).mono fun a h => boundaryRegs_of_passing (by omega) a (passing_of_offTg a h)))
      fun _ => .refl s
  refine front.trans ?_
  by_cases light : n = 2
  · subst light
    rw [layerBoundary_backlight]
    exact .of_engine ((EngineStep.refl _).raise 122 0)
  · exact (frameStep_layerBoundary _ n).mono fun a h => boundaryRegs_of_passing light a (passing_of_offGen a h)

/-- The backlight's part, and the waits of the sequences (R390). -/
theorem lightStep_closing (s : State) (n : Nat) (e : FrameEdge) : LightStep s ((if n = 2 then s.bleBoundary e else s).waitBoundary n) :=
  (LightStep.ite (lightStep_bleBoundary s e) (.of_sync (.refl s))).trans (.of_sync (.of_engine (engineStep_waitBoundary _ n)))

theorem frameBegins_beginFrame (s : State) {n : Nat} (hn : n < 4) (inst : Nat) (e : FrameEdge) (placed : Bool) :
    FrameBegins s (s.beginFrame n inst e placed) n inst := by
  unfold State.beginFrame
  extract_lets tallied numbered counted before ended opened after layered lit
  have hTallied : FrameStep (BoundaryRegs n) s tallied := .ite (.of_sameBut (sameBut_boundaryTally s)) (.refl s)
  have hEnded : FrameStep (BoundaryRegs n) counted ended := frameStep_ending counted inst e placed
  have opens := opens_tgFrame ended hn inst
  have line := engineStep_tgLine (ended.tgFrame n inst) hn
  have hLayered : FrameStep (BoundaryRegs n) opened layered := frameStep_opened opened
  have hClosed : LightStep layered (lit.waitBoundary n) := lightStep_closing layered n e
  have kept {a : Nat} (h : ¬ BoundaryRegs n a) : layered.reg a = counted.reg a := by
    have hs : ¬ PassingSync a := fun k => h (boundaryRegs_of_passingSync a k)
    exact (hLayered.reg a h).trans ((line.reg a hs).trans ((opens.reg a hs).trans (hEnded.reg a h)))
  have keptOfPassing {a : Nat} (h : ¬ Passing a) : (lit.waitBoundary n).reg a = counted.reg a :=
    (hClosed.reg a fun k => h (passing_of_offTg a k)).trans (kept fun k => h k.1)
  constructor
  · have start : AtStart (opened.run n) inst := by
      rw [line.run n]
      exact opens.start
    exact (start.same (hLayered.run n)).same (hClosed.run n)
  · rw [keptOfPassing (not_passing_frameNo hn)]
    change numbered.reg (R.TG_FRAME_NO n) = _
    unfold numbered
    rw [reg_setReg_self, hTallied.reg _ fun k => not_passing_frameNo hn k.1, Nat.mod_mod]
  · rw [keptOfPassing (not_passing_relock hn)]
    change numbered.reg (R.TG_CNT_RELOCK n) = _
    unfold numbered
    rw [reg_setReg_ne _ _ (by simp [R.TG_CNT_RELOCK, R.TG_FRAME_NO]), hTallied.reg _ fun k => not_passing_relock hn k.1]
  · intro light
    have status : ¬ BoundaryRegs n R.BLE_STATUS := fun k => k.2 light rfl
    refine hClosed.syncIn.trans (flag_congr_reg ((kept status).trans ?_))
    change numbered.reg R.BLE_STATUS = _
    unfold numbered
    rw [reg_setReg_ne _ _ (by subst light; decide), hTallied.reg _ status]
    rfl

/-! ### The boundary -/

/-- What a generator notes of a boundary's instant: a jump's relock, or the phase that it measures. -/
def instantNoted (s : State) (n inst : Nat) (jump : Bool) : State × Option Int := if jump then (s.tgJump n inst, none) else s.tgMeasure n inst

/-- From s to t only registers that a boundary may change have changed, and a jump is counted as a relock. -/
structure Noted (s t : State) (n : Nat) (jump : Bool) : Prop where
  reg : ∀ a, ¬ PassingSync a → a ≠ R.TG_CNT_RELOCK n → t.reg a = s.reg a
  relocks : t.reg (R.TG_CNT_RELOCK n) = if jump then min 0xFFFFFFFF (s.reg (R.TG_CNT_RELOCK n) + 1) else s.reg (R.TG_CNT_RELOCK n)

theorem noted_instantNoted (s : State) {n : Nat} (hn : n < 4) (inst : Nat) (jump : Bool) :
    Noted s (instantNoted s n inst jump).1 n jump ∧ ShadowsKept s (instantNoted s n inst jump).1 := by
  have relock : ¬ PassingSync (R.TG_CNT_RELOCK n) := fun h => not_passing_relock hn h.1
  cases jump with
  | true =>
    have step := genStep_jumpNoted s hn inst
    change Noted s (s.tgJump n inst) n true ∧ ShadowsKept s (s.tgJump n inst)
    rw [tgJump_eq]
    refine ⟨⟨fun a h other => (reg_count_ne _ 1 other).trans (step.reg a h), ?_⟩, by simp [step.shadow], by simp [step.tblShadow]⟩
    rw [reg_count_self, step.reg _ relock, if_pos rfl]
  | false =>
    have step := genStep_tgMeasure s hn inst
    exact ⟨⟨fun a h _ => step.reg a h, step.reg _ relock⟩, step.shadow, step.tblShadow⟩

/-- The state after a boundary's commit. -/
def boundaryCommitted (s : State) (n inst : Nat) (jump : Bool) : State := (instantNoted (s.advanceTo inst) n inst jump).1.boundaryCommit n

theorem noted_boundaryCommitted {s : State} {n : Nat} (hn : n < 4) (quiet : Quiet s) (inst : Nat) (jump : Bool) :
    Noted s (boundaryCommitted s n inst jump) n jump := by
  have timed : Quiet (s.advanceTo inst) := quiet.of_kept (by rw [advanceTo_frame]; exact ⟨rfl, rfl⟩)
  have regs (a : Nat) : (s.advanceTo inst).reg a = s.reg a := reg_congr (advanceTo_regs s inst) a
  obtain ⟨noted, kept⟩ := noted_instantNoted (s.advanceTo inst) hn inst jump
  have commit {a : Nat} (h : ¬ PassingSync a) := (frameStep_boundaryCommit (timed.of_kept kept) n).reg a fun k => h (passingSync_of_offSync a k)
  refine ⟨fun a h other => (commit h).trans ((noted.reg a h other).trans (regs a)), ?_⟩
  rw [← regs]
  exact (commit fun h => not_passing_relock hn h.1).trans noted.relocks

/-- The beginning of a frame after a boundary's commit. -/
theorem boundary_eq {s : State} {n inst : Nat} {e : FrameEdge} (going : (s.run n).stopPending = false)
    (enabled : s.flag (F.TG_CFG_EN n) = true) (still : (boundaryCommitted s n inst e.jump).flag (F.TG_CFG_EN n) = true) :
    ∃ err placed, s.boundary n inst e = (((boundaryCommitted s n inst e.jump).tgTake n inst).tgServoStep n err).beginFrame n inst e placed := by
  refine ⟨(instantNoted (s.advanceTo inst) n inst e.jump).2, n == 0 && (s.advanceTo inst).placedFor inst, ?_⟩
  have run : (s.advanceTo inst).run n = s.run n := by rw [State.run, State.run, advanceTo_tg]
  have flag : (s.advanceTo inst).flag (F.TG_CFG_EN n) = s.flag (F.TG_CFG_EN n) := flag_congr_reg (reg_congr (advanceTo_regs s inst) _)
  unfold State.boundary
  unfold boundaryCommitted at still ⊢
  generalize s.advanceTo inst = a at run flag still ⊢
  rw [if_neg (by rw [run, going]; exact Bool.false_ne_true)]
  exact if_pos (by rw [flag, enabled, Bool.true_and]; exact still)

/-- A boundary of an enabled generator that is not to stop, with no commit waiting, begins a frame (R173). -/
theorem boundary_begins {s : State} {n : Nat} (hn : n < 4) (quiet : Quiet s) (enabled : s.flag (F.TG_CFG_EN n) = true)
    (going : (s.run n).stopPending = false) (inst : Nat) (e : FrameEdge) :
    FrameBegun s (s.boundary n inst e) n inst
      ∧ (s.boundary n inst e).reg (R.TG_CNT_RELOCK n)
        = (if e.jump then min 0xFFFFFFFF (s.reg (R.TG_CNT_RELOCK n) + 1) else s.reg (R.TG_CNT_RELOCK n))
      ∧ (n = 2 → (s.boundary n inst e).flag F.BLE_STATUS_SYNC_IN_OK = s.flag F.BLE_STATUS_SYNC_IN_OK) := by
  have noted := noted_boundaryCommitted hn quiet inst e.jump
  have cfg : (F.TG_CFG_EN n).addr ≠ R.TG_CNT_RELOCK n := by simp [F.TG_CFG_EN, R.TG_CFG, R.TG_CNT_RELOCK]
  have still := (flag_congr_reg (noted.reg _ (fun h => not_passing_cfg hn h.1) cfg)).trans enabled
  obtain ⟨err, placed, eq⟩ := boundary_eq going enabled still
  rw [eq]
  generalize boundaryCommitted s n inst e.jump = c at noted ⊢
  have taken : GenStep PassingSync c ((c.tgTake n inst).tgServoStep n err) := (genStep_tgTake c hn inst).trans (genStep_tgServoStep _ err)
  have begins := frameBegins_beginFrame ((c.tgTake n inst).tgServoStep n err) hn inst e placed
  obtain ⟨on, line, frameStart, lineStart⟩ := begins.start
  have number : ¬ PassingSync (R.TG_FRAME_NO n) := fun h => not_passing_frameNo hn h.1
  refine ⟨⟨?_, on, line, frameStart, lineStart⟩, ?_, fun light => ?_⟩
  · rw [begins.number, taken.reg _ number, noted.reg _ number (by simp [R.TG_FRAME_NO, R.TG_CNT_RELOCK])]
  · rw [begins.relocks, taken.reg _ fun h => not_passing_relock hn h.1, noted.relocks]
  · subst light
    have status : ¬ PassingSync R.BLE_STATUS := fun h => h.2 rfl
    exact (begins.syncIn rfl).trans (flag_congr_reg ((taken.reg _ status).trans (noted.reg _ status (by decide))))

/-! ### The commands -/

theorem runs_endLine (s : State) (n : Nat) : (s.endLine n).tg.runs = s.tg.runs := by
  have each (l : Layer) (gs : List Nat) : ∀ s : State, (s.each gs fun s g => s.setPad l g { s.pad l g with pulse := false }).tg.runs = s.tg.runs := by
    induction gs with
    | nil => exact fun s => rfl
    | cons g gs ih => exact fun s => ih _
  unfold State.endLine
  split
  · rfl
  · exact each _ _ s

/-- A restart up to its boundary: the targets reached are dropped, and the line's pulses end (R180). -/
def restartNoted (s : State) (n t : Nat) : State :=
  (s.setRun n { s.run n with targets := (s.run n).targets.filter fun x => t < x.2 }).endLine n

theorem restartAt_eq (s : State) (n t : Nat) :
    s.restartAt n t = (restartNoted s n t).boundary n t { restart := true, early := decide (t < (s.run n).plannedEnd) } := rfl

theorem genStep_restartNoted (s : State) (n t : Nat) : GenStep (fun _ => False) s (restartNoted s n t) :=
  (genStep_withRun s n (by exact ⟨rfl, rfl, rfl, rfl⟩)).trans (genStep_endLine _ n)

theorem stopPending_restartNoted (s : State) (n t : Nat) : ((restartNoted s n t).run n).stopPending = (s.run n).stopPending := by
  have run : (restartNoted s n t).run n = { s.run n with targets := (s.run n).targets.filter fun x => t < x.2 } := by
    rw [restartNoted, State.run, runs_endLine]
    exact run_setRun_self s n _
  rw [run]

/-- An accepted `BL_SYNC_IN` up to its boundary (R211). -/
def syncNoted (s : State) : State := ({ s with ble := { s.ble with syncLast := some s.now } }).putB F.BLE_STATUS_SYNC_IN_OK true

theorem blSyncIn_eq {s : State} (source : s.get F.BLE_SYNC_SRC = 1) (on : (s.run 2).on = true) (powered : s.domOn 32 = true)
    (first : s.ble.syncLast = none) :
    s.blSyncIn = (syncNoted s).boundary 2 s.now { restart := true, syncIn := true, early := decide (s.now < (s.run 2).plannedEnd) } := by
  rw [State.blSyncIn, if_neg (by simp [source, on, powered]), if_neg (by simp [first])]
  rfl

/-- A frame that begins after registers and frames in progress have been kept. -/
theorem frameBegun_of_reg {s t u : State} {n inst : Nat} (h : FrameBegun t u n inst) (kept : t.reg (R.TG_FRAME_NO n) = s.reg (R.TG_FRAME_NO n)) :
    FrameBegun s u n inst := by
  obtain ⟨number, start⟩ := h
  exact ⟨number.trans (by rw [kept]), start⟩

section
variable {s : State} {n : Nat} (hn : n < 4)
include hn

theorem tgFrameBoundary_ends : Ends (.tgFrameBoundary n) s (if !(s.run n).on || decide ((s.run n).line + 1 < (s.run n).planned) || s.stretches n ||
    (s.run n).stopPending then begun s else (begun s).boundary n ((s.run n).lineStart + (s.run n).period) {}) :=
  ends_tgFrameBoundary n s (decide_eq_true hn)

theorem tgFrameBoundary_off (off : (s.run n).on = false) : Ends (.tgFrameBoundary n) s (begun s) := by
  have ends := tgFrameBoundary_ends (s := s) hn
  rwa [if_pos (by rw [off]; rfl)] at ends

theorem jump_none (none : s.jumpTarget n = none) : Ends (.jump n) s (begun s) := by
  have ends := ends_jump n s (decide_eq_true hn)
  dsimp only at ends
  rwa [show (begun s).jumpTarget n = .none from none] at ends

theorem followerRestart_none (none : s.restartTarget n = none) : Ends (.followerRestart n) s (begun s) := by
  have ends := ends_followerRestart n s (decide_eq_true hn)
  dsimp only at ends
  rwa [show (begun s).restartTarget n = .none from none] at ends

section
variable (quiet : Quiet s) (enabled : s.flag (F.TG_CFG_EN n) = true) (going : (s.run n).stopPending = false)
include quiet enabled going

theorem tgFrameBoundary_due (on : (s.run n).on = true) (due : (s.run n).planned ≤ (s.run n).line + 1) (fits : s.stretches n = false) :
    ∃ u, Ends (.tgFrameBoundary n) s u ∧ FrameBegun s u n ((s.run n).lineStart + (s.run n).period) := by
  have ends := tgFrameBoundary_ends (s := s) hn
  rw [if_neg (by simp [on, fits, going]; omega)] at ends
  exact ⟨_, ends, (boundary_begins (s := begun s) hn quiet enabled going _ _).1⟩

theorem jump_due {t : Nat} (target : s.jumpTarget n = some t) :
    ∃ u, Ends (.jump n) s u ∧ FrameBegun s u n t ∧ u.reg (R.TG_CNT_RELOCK n) = min 0xFFFFFFFF (s.reg (R.TG_CNT_RELOCK n) + 1) := by
  have ends := ends_jump n s (decide_eq_true hn)
  dsimp only at ends
  rw [show (begun s).jumpTarget n = some t from target] at ends
  obtain ⟨begins, relocks, -⟩ := boundary_begins (s := begun s) hn quiet enabled going t { jump := true, early := decide (t < (s.run n).plannedEnd) }
  exact ⟨_, ends, begins, relocks⟩

theorem followerRestart_due {t : Nat} (target : s.restartTarget n = some t) : ∃ u, Ends (.followerRestart n) s u ∧ FrameBegun s u n t := by
  have ends := ends_followerRestart n s (decide_eq_true hn)
  dsimp only at ends
  rw [show (begun s).restartTarget n = some t from target] at ends
  dsimp only at ends
  rw [restartAt_eq] at ends
  have noted := genStep_restartNoted (begun s) n t
  have regs (a : Nat) : (restartNoted (begun s) n t).reg a = s.reg a := noted.reg a id
  obtain ⟨begins, -, -⟩ := boundary_begins hn (quiet.of_kept ⟨noted.shadow, noted.tblShadow⟩) ((flag_congr_reg (regs _)).trans enabled)
    ((stopPending_restartNoted (begun s) n t).trans going) t { restart := true, early := decide (t < (s.run n).plannedEnd) }
  exact ⟨_, ends, frameBegun_of_reg begins (regs _)⟩

theorem blSyncIn_due (two : n = 2) (source : s.get F.BLE_SYNC_SRC = 1) (on : (s.run 2).on = true) (powered : s.domOn 32 = true)
    (first : s.ble.syncLast = none) :
    ∃ u, Ends .blSyncIn s u ∧ FrameBegun s u 2 s.now ∧ u.flag F.BLE_STATUS_SYNC_IN_OK = true := by
  subst two
  have ends := ends_blSyncIn s rfl
  rw [blSyncIn_eq (s := begun s) source on powered first] at ends
  have regs {a : Nat} (h : a ≠ R.BLE_STATUS) : (syncNoted (begun s)).reg a = s.reg a := reg_put_ne _ _ h
  have seen : (syncNoted (begun s)).flag F.BLE_STATUS_SYNC_IN_OK = true := flag_putB_self _ _ true (by decide) (by decide)
  obtain ⟨begins, -, syncIn⟩ := boundary_begins (s := syncNoted (begun s)) (n := 2) (by decide) quiet
    ((flag_congr_reg (regs (by decide))).trans enabled) going s.now { restart := true, syncIn := true, early := decide (s.now < (s.run 2).plannedEnd) }
  exact ⟨_, ends, frameBegun_of_reg begins (regs (by decide)), (syncIn rfl).trans seen⟩

end

end

theorem blSyncIn_otherwise {s : State} (other : s.get F.BLE_SYNC_SRC ≠ 1) : Ends .blSyncIn s (begun s) := by
  have ends := ends_blSyncIn s rfl
  rwa [State.blSyncIn, if_pos (.inl other)] at ends

/-- Settles O42: each of the four commands comes to the boundary of its generator, which begins a frame. -/
theorem framesBegin : Obligations.FramesBegin := by
  intro s n t hn
  refine ⟨fun shadow tblShadow enabled going => ?_, tgFrameBoundary_off hn, jump_none hn, followerRestart_none hn, blSyncIn_otherwise⟩
  have quiet : Quiet s := ⟨shadow, tblShadow⟩
  exact ⟨tgFrameBoundary_due hn quiet enabled going, jump_due hn quiet enabled going, followerRestart_due hn quiet enabled going,
    blSyncIn_due hn quiet enabled going⟩

end Sys2Proof.TgLaws
end
